-- ==== Sys2Proof/Word.lean ====
section
/-! DEFINITION. The byte type and the sparse table that every other file stands on. -/

namespace Sys2Proof

/-- One byte as the manual's tables count them (R6: byte 0 is the least significant). -/
abbrev Byte := BitVec 8

/-- A sparse table: entries for the indices that differ from the unit's reset record, in strictly
rising index. Ports, channels, groups, sources, cells and words are held so (R13 gives their ranges). -/
abbrev Tab (α : Type) := List (Nat × α)

end Sys2Proof
end

