-- ==== Sys2Proof/Machine/Records.lean ====
section
/-! DEFINITION. The records of the decision plane, the data path and the control plane that State holds,
one per unit of the manual: the schedule image, commands, time, ports, channels, groups and their attributes.
A field's default value is its value at reset. -/

namespace Sys2Proof.Machine

/-! ### Schedule images (chapter 3) -/

/-- One LCAL record (R61): the 320 slot entries of R62 as 32-bit numbers. -/
structure LcalRec where
  port : Nat
  dir : Nat
  step : Nat
  n : Nat
  m : Nat
  entries : List Nat
  deriving DecidableEq, Repr

/-- One XCAL entry (R64). -/
structure XcalEnt where
  gs : Nat
  dir : Nat
  role : Nat
  ch : Nat
  up : Nat
  down : Nat
  deriving DecidableEq, Repr

/-- A placement table (R66). -/
structure PTable where
  table : Nat
  ch : Nat
  cmCount : Nat
  p : Nat
  cmBase : Nat
  bitmaps : List Byte
  deriving DecidableEq, Repr

/-- A channel descriptor with its placement tables (R65). PTAB offsets are not kept: R78 leaves them out
of the comparison. -/
structure Desc where
  ch : Nat
  kind : Nat
  cp : Nat
  clientType : Nat
  mapping : Nat
  oduType : Nat
  tsCount : Nat
  flexRate : Nat
  loTpn : Nat
  lanes : Nat
  clientTab : Option PTable
  serverTab : PTable
  deriving DecidableEq, Repr

/-- A member of a Spread group record (R67). -/
structure SgMember where
  port : Nat
  farOk : Bool
  weight : Nat
  deriving DecidableEq, Repr

/-- A Spread group record (R67). -/
structure SgRec where
  sg : Nat
  ch : Nat
  sfhGen : Nat
  stripeLen : Nat
  members : List SgMember
  seq : List Nat
  deriving DecidableEq, Repr

/-- A response table of PRT or CAT (R68, R69). -/
structure RespTable where
  id : Nat
  inBits : Nat
  words : List Nat
  deriving DecidableEq, Repr

/-- A protection group record (R68). -/
structure PgRec where
  pg : Nat
  tableId : Nat
  arch : Nat
  ch : Nat
  wPort : Nat
  pPort : Nat
  guard : Nat
  deriving DecidableEq, Repr

/-- A CAT binding record (R69). -/
structure CatBind where
  obj : Nat
  layer : Nat
  tableId : Nat
  deriving DecidableEq, Repr

/-- One ladder step (R70): M and the channels preempted. -/
structure LadrStep where
  m : Nat
  preempt : List Nat
  deriving DecidableEq, Repr

/-- A LADR record (R70). -/
structure LadrRec where
  port : Nat
  steps : List LadrStep
  deriving DecidableEq, Repr

/-- A schedule image as a bank holds it (R57 to R70, R74). -/
structure Image where
  gen : Nat
  baseGen : Nat
  imgCrc : Nat
  lpMask : Nat
  chMask : List Nat
  txFp : List Nat
  feFp : List Nat
  lcal : List LcalRec
  xcal : List XcalEnt
  ptab : List Desc
  sgmap : List SgRec
  prt : List RespTable
  pgs : List PgRec
  cat : List RespTable
  binds : List CatBind
  ladr : List LadrRec
  deriving DecidableEq, Repr

/-- State of a schedule load (R85): the command's parameters while the loader reads. -/
structure LoadJob where
  /-- Acceptance order of its command. -/
  order : Nat
  source : Nat
  store : Nat
  length : Nat
  address : Nat
  /-- The twin followed at acceptance: its shadow bank must take the image too. -/
  twin : Bool
  /-- The response, once the own shadow bank holds the image and the twin's copy is under way; TOKSEQ of the frame that
  carried the copy last. -/
  copy : Option (List Byte) := none
  sent : Option Nat := none
  deriving DecidableEq, Repr

/-- The waiting schedule swap (R75, R87). -/
structure SwapJob where
  /-- Acceptance order of its command; none for the startup image and on a standby. -/
  order : Option Nat
  expectGen : Nat
  target : Nat
  /-- 0 waiting, 1 armed (Beat 252), 2 committed (Beat 254). -/
  phase : Nat := 0
  deriving DecidableEq, Repr

/-! ### Commands (chapters 12 and 13) -/

/-- A command slot as the sequencer holds it (R335, R336): the payload is the PAYLOAD_LEN bytes that
carry parameters, after the clamp. -/
structure Cmd where
  mb : Nat
  opcode : Nat
  cls : Nat
  timed : Bool
  seq : Nat
  tag : Nat
  object : Nat
  applyAt : Nat
  payload : List Byte
  /-- The 256 bytes as the host wrote them (R268). -/
  slot : List Byte
  deriving DecidableEq, Repr

/-- An accepted command that has not taken its effect (R45 to R49), or runs on (a load, a stage, a switch of
power domains, a Sinter write). -/
structure Waiting where
  cmd : Cmd
  /-- The core that took it; `none` once a hub unit carries it on. -/
  core : Option Nat
  /-- The resolved target MFN of a command that applies at Beat 0 of an MF. -/
  target : Option Nat
  /-- The first Beat (FC) at which an untimed command may take effect (R45). -/
  effectFc : Nat
  /-- Order of acceptance (R49). -/
  order : Nat
  /-- MIRROR_ID once mirrored, with the standby's acknowledgement (R268). -/
  mirror : Option Nat
  acked : Bool
  /-- A mirrored command that the standby holds: the active device answers it (R268). -/
  fromTwin : Bool
  /-- Carried on by a hub unit: another row ends it (a load, a stage, a handover, a switch of domains, ...). -/
  job : Bool
  /-- It waits for its target MF as a timed command (R49, R53). -/
  listed : Bool := false
  deriving DecidableEq, Repr

/-- A response (R337). -/
structure Rsp where
  opcode : Nat
  runFlags : Nat
  status : Nat
  seq : Nat
  tag : Nat
  mailbox : Nat
  object : Nat
  doneFc : Nat
  target : Nat
  payload : List Byte
  deriving DecidableEq, Repr

/-- A grant entry (R325, R359). -/
structure Grant where
  type : Nat
  first : Nat
  last : Nat
  deriving DecidableEq, Repr

/-! ### Events (chapter 16) -/

/-- An event as it arises (R398, R402). -/
structure Event where
  fc : Nat
  code : Nat
  sev : Nat
  obj : Nat
  data : List Byte
  fromTwin : Bool := false
  deriving DecidableEq, Repr

/-- A staged entry or a ring record (R398). -/
structure Record where
  fc : Nat
  code : Nat
  sev : Nat
  flags : Nat
  obj : Nat
  data : List Byte
  deriving DecidableEq, Repr

/-- A counted entry: an overflow entry of a code (R403) or a coalescing entry (R404). -/
structure Counted where
  code : Nat
  obj : Nat
  count : Nat
  firstFc : Nat
  lastFc : Nat
  sev : Nat
  deriving DecidableEq, Repr

/-! ### Line time (chapter 2) -/

/-- States of the anchor timing unit (R37), coded as in R51. -/
inductive AnchorMode where
  | free | acquire | slew | locked | holdover
  deriving DecidableEq, Repr

/-- PPS states (R43, R51). -/
inductive PpsMode where
  | disabled | acquiring | valid | lost
  deriving DecidableEq, Repr

/-- The anchor timing unit and its attributes (R36 to R40, R50). -/
structure Anchor where
  source : Nat := 0
  failover : Bool := true
  lossMf : Nat := 2
  offset : Int := 0
  mode : AnchorMode := .acquire
  /-- 0 EXTERNAL, 1 FREE, 2 TWIN, 3 none (R51). -/
  inUse : Nat := 0
  phaseErr : Int := 0
  /-- Consecutive consistent boundaries; whether one has been seen; whether this MF had one. -/
  consistent : Nat := 0
  seen : Bool := false
  gotThisMf : Bool := false
  missedMf : Nat := 0
  holdoverMf : Nat := 0
  /-- Consecutive consistent boundaries that were off phase while LOCKED. -/
  offPhase : Nat := 0
  /-- FC of the Beat in which the shifted reference boundary falls that a step makes Beat 0 (R38). -/
  stepAt : Option Nat := none
  deriving DecidableEq, Repr

/-- PPS acceptance (R43, R52) and the PM second (R44). -/
structure Pps where
  mode : Nat := 0
  lossN : Nat := 3
  windowMf : Nat := 10
  state : PpsMode := .disabled
  lastFc : Nat := 0
  lastByte : Nat := 0
  accepted : Nat := 0
  missed : Nat := 0
  /-- Beats since the last accepted edge. -/
  since : Nat := 0
  /-- An accepted edge waits for the MF boundary that ends the PM second. -/
  edgeWaits : Bool := false
  pmsMfn : Nat := 0
  /-- MF that the PM second in progress has lasted. -/
  pmsAge : Nat := 0
  pmSeconds : Nat := 1
  /-- Mirrored with the twin (record kind 0x0B). -/
  irregular : Bool := false
  deriving DecidableEq, Repr

/-- Arrival offset of a line port (R42, R51). -/
structure Arrival where
  valid : Bool := false
  beats : Nat := 0
  bytes : Nat := 0
  delta : Int := 0
  measFc : Nat := 0
  deriving DecidableEq, Repr

/-! ### Line ports (chapter 4) -/

/-- Attributes of a line port (R115, R118, R120), at the reset values given there. -/
structure LpAttr where
  lccMode : Nat := 2
  sgfecThr : Nat := 16
  flexoGid : Nat := 0
  gidCheck : Bool := false
  accept : Nat := 1
  pin : Nat := 1
  floor : Nat := 7
  settleMf : Nat := 16
  timMode : Nat := 0
  force : Nat := 0
  txTti : List Byte := []
  expSapi : List Byte := []
  expDapi : List Byte := []
  deriving DecidableEq, Repr

/-- Taps and polarity of a SerDes lane (R117, R171). -/
structure LaneAttr where
  txPre : Nat := 4
  txPost : Nat := 0
  txMain : Nat := 48
  polarity : Nat := 0
  rxEq : Nat := 0
  squelch : Bool := false
  deriving DecidableEq, Repr

/-- A TX step change (R107, R110). -/
structure StepChange where
  step : Nat
  /-- Earliest MFN at which its announcement may start. -/
  start : Nat
  fromFarEnd : Bool
  reqSeq : Nat
  deriving DecidableEq, Repr

/-- A running announcement (R110). -/
structure Announce where
  step : Nat
  /-- MFN of the first announced MF. -/
  start : Nat
  seq : Nat
  deriving DecidableEq, Repr

/-- Ladder and LCC state of a line port (R103 to R112), mirrored as record kind 0x0C. -/
structure Ladder where
  txStep : Nat := 0
  rxStep : Nat := 0
  announce : Option Announce := none
  pendingChange : Option StepChange := none
  waitingChange : Option StepChange := none
  /-- MFN of the last TX step application and of the last RX step change. -/
  lastTxMfn : Option Nat := none
  lastRxMfn : Option Nat := none
  annSeq : Nat := 0
  /-- The request this port sends: outstanding, REQ_STEP, REQ_SEQ, FC of its start. -/
  reqOut : Bool := false
  reqStep : Nat := 0
  reqSeq : Nat := 0
  reqStart : Nat := 0
  /-- REQ_SEQ of the last request accepted from the far end. -/
  lastReqSeq : Option Nat := none
  /-- FC of the Beat that took the last commanded TX change, and the step that would have stood without it (R110). -/
  cmdTaken : Option (Nat × Nat) := none
  /-- The RX step announced and the received MF after which it applies. -/
  rxAnn : Option (Nat × Nat) := none
  /-- Received MF that have begun since the port started receiving, those lost on the way counted too; FC at which the
  last one began; and the availability match run of R112. -/
  rxMfCount : Nat := 0
  rxMfFc : Nat := 0
  matchStep : Nat := 0
  matchRun : Nat := 0
  pinRun : Nat := 0
  lccBadRun : Nat := 0
  lccGoodRun : Nat := 0
  dLccf : Bool := false
  fallenBack : Bool := false
  /-- The ladder token of this Beat missed the port's data path (R21). -/
  tokenMissed : Bool := false
  /-- Sends the LCC again from the next MF boundary (R105). -/
  resumeNext : Bool := false
  lastValid : Bool := false
  deriving DecidableEq, Repr

/-- What a receiver knows of the FlexO instance at one lane position (R94, R95): overhead of the last frame whose CRC-16
was correct, arrival of its multiframe in byte positions, and runs of frames with a correct and with an errored or absent
marker. -/
structure FlexoPos where
  pid : Nat := 0
  gid : Nat := 0
  map : Nat := 0
  avail : Nat := 0
  start : Nat := 0
  good : Nat := 0
  bad : Nat := 0
  deriving DecidableEq, Repr

/-- What a receiver knows of one OTUC instance (R95, R99): runs of frames with a correct and with an errored FAS, the MFAS
of the last frame with its runs of expected and unexpected values, and the run of frames with the ODUCn-AIS pattern. -/
structure OtucPos where
  fasGood : Nat := 0
  fasBad : Nat := 0
  mfas : Nat := 0
  mfGood : Nat := 0
  mfBad : Nat := 0
  ais : Nat := 0
  /-- BIP-8 computed over the OPUC of the last frame and of the one before it; errors of the last frame, for BEI, and its IAE
  (R98). -/
  bip : Nat × Nat := (0, 0)
  errors : Nat := 0
  iae : Bool := false
  deriving DecidableEq, Repr

/-- FlexO overhead that the framer puts in every frame of one instance (R98). -/
structure FlexoOh where
  gid : Nat
  pid : Nat
  map : Nat
  avail : Nat
  deriving DecidableEq, Repr

/-- One line port (R95 to R116). -/
structure LinePort where
  enabled : Bool := false
  attr : LpAttr := {}
  /-- Bit k: lane in use k UP; bit q: the FlexO instance at lane position q (lane q / 2) in that state; bit i: OTUC
  instance i + 1 in that state. -/
  lanesUp : Nat := 0
  flexoVerify : Nat := 0
  flexoLock : Nat := 0
  groupAligned : Bool := false
  inFrame : Nat := 0
  inMf : Nat := 0
  mfAligned : Bool := false
  /-- Has held multiframe alignment since it was enabled. -/
  hadMf : Bool := false
  firstLost : Nat := 0
  /-- Consecutive Beats with signal and CDR lock, by lane; FlexO instances by lane position; OTUC instances. -/
  laneRun : Tab Nat := []
  flexo : Tab FlexoPos := []
  otuc : Tab OtucPos := []
  /-- Consecutive FlexO multiframes with a GID mismatch (R95). -/
  gidBad : Nat := 0
  /-- LPx_FAULT_N was low at the last sample; Beats for which the clearing condition of each indication has held. -/
  fault : Bool := false
  clearRun : Tab Nat := []
  /-- Instances that each of the eight lanes sends, 0 for a squelched lane (R92); FlexO overhead sent. -/
  laneTx : List Nat := []
  flexoTx : List FlexoOh := []
  /-- SG_LOS by pin, SG_LOS by lane, SG_FAS, SG_AIS, SG_FEC. -/
  sgPin : Bool := false
  sgLane : Bool := false
  sgFas : Bool := false
  sgAis : Bool := false
  sgFec : Bool := false
  /-- Uncorrectable codewords of each of the last 8 Beats, latest first. -/
  fecWindow : List Nat := []
  fecBelow : Nat := 0
  arrival : Arrival := {}
  ladder : Ladder := {}
  /-- Bank in use on the RX side (R81): the shadow bank when true. -/
  rxShadow : Bool := false
  /-- Slots that the last received multiplex structure identifier marks unavailable (R112). -/
  rxAvail : Option (List Nat) := none
  calMismatch : Bool := false
  unknownMark : Nat := 0
  rxMark : Nat := 0
  fpMismatch : Bool := false
  rxTxFp : Nat := 0
  rxWords : List Nat := []
  tti : List Byte := []
  ttiLatest : List Byte := []
  ttiFc : Nat := 0
  /-- The SM TTI multiframe in progress, and how many in a row have been identical (R98). -/
  ttiPart : List Byte := []
  ttiRun : Nat := 0
  tim : Bool := false
  /-- CRC register of the LCC message being sent (R101). -/
  lccCrc : Nat := 0xFFFF
  /-- TX_TTI as latched at the last 64-frame boundary (R120). -/
  sendTti : List Byte := []
  iaeLeft : Nat := 0
  stepAck : Bool := false
  /-- Uncorrectable codewords of the MF in progress and of the MF before it (R101, FE_UCW). -/
  ucwMf : Nat := 0
  ucwLast : Nat := 0
  /-- Test loopback in force (R446). -/
  loop : Nat := 0
  deriving DecidableEq, Repr

/-! ### ODU overhead (chapter 5) -/

/-- Attributes of one level of one flow (R136, R137). -/
structure LevelAttr where
  timMode : Nat := 0
  txTti : List Byte := []
  expSapi : List Byte := []
  expDapi : List Byte := []
  mode : Nat := 0
  clearAtSink : Bool := false
  deriving DecidableEq, Repr

/-- What a sink or monitor of one level holds (R126 to R128). -/
structure LevelState where
  accepted : List Byte := []
  acceptFc : Nat := 0
  /-- The last received 64-byte multiframe and how many in a row have been identical (R127). -/
  latest : List Byte := []
  ttiRun : Nat := 0
  hasTti : Bool := false
  tim : Bool := false
  bdi : Bool := false
  biae : Bool := false
  stat010 : Bool := false
  ltc : Bool := false
  pendingBei : Nat := 0
  /-- BEI carried in the last back-flow frame. -/
  sentBei : Nat := 0
  /-- Frames of STAT 010 still to be sent by a SOURCE level (R128). -/
  iaeFrames : Nat := 0
  /-- Violations with the Beat (FC) that checked them, too new for a back-flow frame (R126). -/
  fresh : List (Nat × Nat) := []
  /-- The TTI that a source sends in the multiframe in progress. -/
  sendTti : List Byte := []
  deriving DecidableEq, Repr

/-- Delay measurement of one level (R132). -/
structure Delay where
  mode : Nat := 0
  measuring : Bool := false
  count : Nat := 0
  result : Nat := 0
  /-- The DM bit held in the TX flow, last received, and last sent; the RX flow has carried the bit held. -/
  txBit : Bool := false
  rxBit : Bool := false
  sentBit : Bool := false
  matched : Bool := false
  deriving DecidableEq, Repr

/-- The last complete frame and multiframes of one flow (R135). -/
structure Capture where
  oh : List Byte := []
  opu : List Byte := []
  frameFc : Nat := 0
  mfas : Nat := 0
  frameValid : Bool := false
  ftfl : List Byte := []
  ftflFc : Nat := 0
  ftflMfas : Nat := 0
  ftflValid : Bool := false
  psi : List Byte := []
  psiFc : Nat := 0
  psiMfas : Nat := 0
  psiValid : Bool := false
  /-- Last complete TTI multiframe of each level. -/
  tti : Tab (List Byte) := []
  ttiFc : Nat := 0
  ttiMfas : Nat := 0
  /-- Multiframes in progress. -/
  ttiPart : Tab (List Byte) := []
  ftflPart : List Byte := []
  psiPart : List Byte := []
  /-- PT and MSI of the last PSI multiframe, how many multiframes in a row have carried each, and the last OMFI (R131,
  R210). -/
  pt : Nat := 0
  ptRun : Nat := 0
  msi : List Byte := []
  msiRun : Nat := 0
  omfi : Nat := 0
  deriving DecidableEq, Repr

/-- Overhead of one channel or one line port's ODUCn (R122 to R138). Attributes and levels are keyed by flow × 8 + level,
plus 16 for each ODUC instance above 1; delay measurements by level, captures by flow × 32 + instance. -/
structure OduState where
  attrs : Tab LevelAttr := []
  levels : Tab LevelState := []
  delay : Tab Delay := []
  captures : Tab Capture := []
  backCh : Nat := 0xFFFF
  rawExp : Option (List Byte) := none
  rawRes : Option (List Byte) := none
  rawAps : Tab (List Byte) := []
  rawFtfl : Tab (List Byte) := []
  /-- FTFL halves that the multiframe in progress carries. -/
  ftflNow : Tab (List Byte) := []
  /-- Mode in force of each level of a flow: a set mode takes effect with the next frame that begins (R137). -/
  inForce : Tab Nat := []
  deriving DecidableEq, Repr

/-! ### Channel engines (chapter 6) -/

/-- A decided stage: its FIFO and its rate tracker (R156 to R163), record kind 0x01. -/
structure Tracker where
  run : Bool := false
  lo : Nat := 0
  hi : Nat := 0
  /-- WORD in units; Cm_nom in units of 2^-24; the period in Beats, as a fraction. -/
  word : Nat := 1
  cmNom : Nat := 0
  period : Nat := 1
  pden : Nat := 1
  /-- FC from which its periods are counted, and FC of its first period (R152, R158). -/
  origin : Nat := 0
  first : Nat := 0
  /-- Nominal input in units per Beat, as a fraction; B of R163 in units of 2^-24. -/
  inNum : Nat := 0
  inDen : Nat := 1
  blocks : Nat := 0
  /-- FC of the Beat in which the tracker last ran. -/
  ranFc : Option Nat := none
  p : Nat := 1
  cap : Nat := 0
  target : Nat := 0
  integ : Int := 0
  acc : Int := 0
  last : Int := 0
  clamped : Bool := false
  sampled : Int := 0
  fill : Nat := 0
  /-- Units that issued tokens will still take out of the FIFO (R156). -/
  owed : Nat := 0
  /-- Units withheld from the next draws by an alignment (R273). -/
  withhold : Nat := 0
  /-- Cm of the token issued last, which governs the period after the next (R156). -/
  nextCm : Nat := 0
  nowCm : Nat := 0
  /-- ΣCnD of the token that issued nextCm (R160). -/
  sigma : Nat := 0
  refilling : Bool := false
  discarding : Bool := false
  slips : Nat := 0
  clamps : Nat := 0
  carry : Int := 0
  /-- Fractional accumulator of B_b (R163). -/
  blockAcc : Nat := 0
  /-- Units in, units placed and units discarded in the MF in progress, and the fill at its start (R162). -/
  mfIn : Nat := 0
  mfOut : Nat := 0
  mfDiscard : Nat := 0
  mfFill : Nat := 0
  slipMf : Bool := false
  clampMf : Bool := false
  slipLast : Bool := false
  clampLast : Bool := false
  deriving DecidableEq, Repr

/-- A CH_MAINT signal in one flow (R170). -/
structure Maint where
  signal : Nat := 0
  /-- MFN at whose Beat 0 it is released; `none`: until released. -/
  expiry : Option Nat := none
  deriving DecidableEq, Repr

/-- One channel engine (R141 to R169). -/
structure Channel where
  run : Bool := false
  startFc : Nat := 0
  ramp : Bool := false
  rampRun : Nat := 0
  rampBad : Bool := false
  maintTx : Maint := {}
  maintRx : Maint := {}
  /-- Maintenance signals that the CAT puts in the flows (R216): 0 none, 1 AIS, 2 LCK, 3 OCI. -/
  catTx : Nat := 0
  catRx : Nat := 0
  txServer : Tracker := {}
  txClient : Tracker := {}
  rxDecided : Tracker := {}
  /-- Last accepted counts of the received stages: server demapping, client demapping, client demultiplexing. -/
  rcvServer : Option Nat := none
  rcvClient : Option Nat := none
  rcvDemux : Option Nat := none
  blockLock : Bool := false
  boffGood : Nat := 0
  boffBad : Nat := 0
  /-- BOFF predicted for the next frame; 512 before any (R150). -/
  boffNext : Nat := 512
  /-- The client-side MSI gives its ODU another number of slots than it takes (R147). -/
  msim : Bool := false
  poisonTxMf : Bool := false
  poisonRxMf : Bool := false
  /-- Stuff accumulators of slot accounting, keyed by port × 2 + direction (R386). -/
  stuff : Tab Nat := []
  resizeMf : Bool := false
  deriving DecidableEq, Repr

/-- One client port, named after its first lane (R146, R147, R171). -/
structure ClientPort where
  enabled : Bool := false
  fec : Nat := 0
  /-- Client-side OTU in frame and in multiframe alignment (KIND 1). -/
  inFrame : Bool := false
  inMf : Bool := false
  /-- Has held multiframe alignment since it came to exist. -/
  hadFrame : Bool := false
  loop : Nat := 0
  /-- Signal toward the client (R216): 0 client, 1 RF, 2 LF, 3 REPLACE, 4 SQUELCH. -/
  output : Nat := 0
  otuBdi : Bool := false
  deriving DecidableEq, Repr

/-! ### The Caldera, Spread groups and deskew (chapter 7) -/

/-- Group states (R188), coded as in R202. -/
inductive SgMode where
  | forming | up | realign | down
  deriving DecidableEq, Repr

/-- A member of a Spread group at the receiver (R183 to R187, R202). -/
structure Member where
  mState : Nat := 0
  reason : Nat := 0
  tier : Nat := 0
  alloc : Nat := 0
  skew : Nat := 0
  lead : Nat := 0
  markerValid : Bool := false
  sfhOk : Bool := true
  sfhBadRun : Nat := 0
  /-- Next SFH sequence number expected; none before the first checked. -/
  sfhNext : Option Nat := none
  /-- SEQ extension (R184) and the records (t, x) of the last 72 MF, latest first. -/
  seqHigh : Nat := 0
  seqLast : Nat := 0
  history : List (Nat × Nat) := []
  measSkew : Nat := 0
  /-- Arrival in the latest set, in byte positions since FC 0. -/
  arrT : Nat := 0
  deriving DecidableEq, Repr

/-- A Spread group (R188, R202). -/
structure Spread where
  mode : SgMode := .forming
  rxGen : Nat := 0
  nearSkew : Nat := 0
  upFc : Nat := 0
  realigns : Nat := 0
  dSgskw : Bool := false
  members : List Member := []
  /-- FC of the latest valid measurement; whether the last complete set agreed with the one before. -/
  setFc : Nat := 0
  lastSet : List Nat := []
  /-- A valid measurement waits for the end of the Beat to place members (R192). -/
  placeDue : Bool := false
  /-- The record of the generation that the receive side keeps after a swap, until the new one comes (R190). -/
  kept : Option SgRec := none
  deriving DecidableEq, Repr

/-- A far stream admitted to the far tier (R192, R204). -/
structure FarStream where
  owner : Nat
  index : Nat
  ready : Bool
  slots : Nat
  alloc : Nat
  deriving DecidableEq, Repr

/-- Aligned placement of a protection group (R195 to R197). -/
structure Aligned where
  /-- (signature, arrival) of the last 880 periods of each path, latest first. -/
  wSigs : List (Nat × Nat) := []
  pSigs : List (Nat × Nat) := []
  /-- 0 none, 1 unique, 2 ambiguous; Δ signed: arrival of the protection path less that of the working path. -/
  matched : Nat := 0
  delta : Int := 0
  setFc : Nat := 0
  wTier : Nat := 0
  pTier : Nat := 0
  wAlloc : Nat := 0
  pAlloc : Nat := 0
  wDelay : Nat := 0
  pDelay : Nat := 0
  aligned : Bool := false
  filledFc : Nat := 0
  noMatchMf : Nat := 0
  placed : Bool := false
  ordinary : Bool := false
  /-- A valid match waits for the end of the Beat to place the paths, or to restore GUARD (R192, R196, R197). -/
  due : Bool := false
  /-- VOID cells delivered for added delay and for late far reads (R197, R201). -/
  voids : Nat := 0
  deriving DecidableEq, Repr

/-- An arbiter requester (R198, R199). -/
structure Requester where
  deadline : Nat
  burst : Nat
  cutoffs : Nat := 0
  cutoffsLast : Nat := 0
  /-- Barred from both resources for the rest of the Beat. -/
  barred : Bool := false
  deriving DecidableEq, Repr

/-! ### Defects and PM (chapter 8) -/

/-- One layer of one object (R207 to R217, R223 to R225), record kind 0x02. -/
structure Layer where
  /-- Defect inputs set by their integrators. -/
  inputs : Nat := 0
  /-- Input bits as they stand, reported by events 0x0701 and 0x0702, and as sampled at the end of the last Beat (R212). -/
  reported : Nat := 0
  sample : Nat := 0
  /-- Runs of each integrated input (R210): Beats, frames or multiframes in a row with its condition, and without it. -/
  runs : Tab (Nat × Nat) := []
  /-- Vector and output of the last completed evaluation. -/
  vector : Nat := 0
  output : Nat := 0
  mask : Nat := 0
  degm : Nat := 7
  degthr : Nat := 100
  /-- Values that apply from the next PM second. -/
  degmNext : Nat := 7
  degthrNext : Nat := 100
  deriving DecidableEq, Repr

/-- Counts of one direction: BBE, ES, SES, UAS (R219 to R221). -/
structure PmCounts where
  bbe : Nat := 0
  es : Nat := 0
  ses : Nat := 0
  uas : Nat := 0
  deriving DecidableEq, Repr

/-- One bin (R221, R226). -/
structure PmBin where
  holds : Bool := false
  suspect : Bool := false
  closed : Bool := false
  startPms : Nat := 1
  seconds : Nat := 0
  near : PmCounts := {}
  far : PmCounts := {}
  /-- Parameters that have crossed their threshold in this bin (bit PARAM). -/
  crossed : Nat := 0
  deriving DecidableEq, Repr

/-- One PM second of one entity before it settles (R219, R220). -/
structure PmSecond where
  pms : Nat := 1
  blocks : Nat := 0
  nearErr : Nat := 0
  farErr : Nat := 0
  nearDefect : Bool := false
  farDefect : Bool := false
  irregular : Bool := false
  deriving DecidableEq, Repr

/-- A PM entity (R219 to R222), record kinds 0x03 and 0x04. -/
structure PmEntity where
  run : Bool := false
  cur : PmSecond := {}
  last : PmSecond := {}
  /-- Complete seconds not yet settled, latest first, at most ten. -/
  pending : List PmSecond := []
  nearUnavail : Bool := false
  farUnavail : Bool := false
  m15 : PmBin := {}
  /-- Bins whose boundary has passed and whose last seconds have not settled, latest first. -/
  m15Closing : List PmBin := []
  m15Hist : List PmBin := []
  h24 : PmBin := {}
  h24Closing : List PmBin := []
  h24Hist : List PmBin := []
  /-- Thresholds keyed by BINTYPE × 8 + PARAM. -/
  thresholds : Tab Nat := []
  uasBidir : Bool := true
  uasNext : Bool := true
  badRun : Nat := 0
  goodRun : Nat := 0
  deriving DecidableEq, Repr

/-! ### Protection (chapter 9) -/

/-- One path of a group (R231 to R233). -/
structure PgPath where
  actual : Nat := 0
  presented : Nat := 0
  /-- Beats left in the running hold-off; `none` when none runs. -/
  holdoff : Option Nat := none
  holdoffDue : Bool := false
  /-- Path monitor: in frame, has gained frame since it started, Beats since it started, defects. -/
  inFrame : Bool := false
  gained : Bool := false
  monBeats : Nat := 0
  monDefects : Nat := 0
  monDeg : Bool := false
  /-- SF and SD of its path monitor as sampled at the end of the last Beat. -/
  sf : Bool := false
  sd : Bool := false
  deriving DecidableEq, Repr

/-- A protection group (R233 to R254), record kind 0x05. -/
structure PgState where
  run : Bool := false
  state : Nat := 0
  select : Bool := false
  w : PgPath := {}
  p : PgPath := {}
  held : Nat := 0
  presentClear : Bool := false
  /-- LOCAL, REMOTE_REQ and REMOTE_R as sampled at the end of the last Beat. -/
  smpLocal : Nat := 0
  smpReq : Nat := 0
  smpR : Nat := 0
  remoteReq : Nat := 0
  remoteR : Nat := 0
  rxAps : List Byte := []
  txAps : List Byte := []
  word : Nat := 0
  wtrLeft : Option Nat := none
  wtrDone : Bool := false
  holdoffSet : Nat := 0
  wtrSet : Nat := 5
  tcmLevel : Nat := 1
  switches : Nat := 0
  switchFc : Nat := 0
  fopPm : Bool := false
  fopNr : Bool := false
  /-- Beats for which the requested signals have differed (R253). -/
  nrRun : Nat := 0
  align : Aligned := {}
  deriving DecidableEq, Repr

end Sys2Proof.Machine
end

