-- ==== Sys2Proof/Machine/Records3.lean ====
section
/-! DEFINITION. What stands on the data path between two Beats: cells, 66b blocks, flows of ODU frames in progress, and the
FIFOs of the channel engines (chapters 5 to 7). A field's default value is its value at reset. -/

namespace Sys2Proof.Machine

open Sys2Proof

/-- A byte on the data path; bit 8 is its poison tag (R167). -/
abbrev DByte := BitVec 9

/-- A cell (R175): the 16 bytes of one block of one slot, and its tag; an empty position carries no cell. -/
structure XCell where
  bytes : List Byte
  poison : Bool := false
  void : Bool := false
  pstart : Bool := false
  deriving DecidableEq, Repr

/-- A 66b block: a control block, and its 64 payload bits, first octet in bits 7 to 0 (IEEE 802.3). -/
structure Block66 where
  ctrl : Bool
  data : BitVec 64
  poison : Bool := false
  deriving DecidableEq, Repr

/-- What a die-link position carries (R175): a cell, or the control message that brings a slot's received justification
control (a count, and whether its CRC checks) ahead of the PSTART cell it governs. -/
inductive LinkItem where
  | cell (c : XCell)
  | jc (value : Nat) (ok : Bool)
  deriving DecidableEq, Repr

/-- The overhead that a frame in progress carries in place of what comes with it, fixed as the frame begins: the 42 bytes of
rows 2 to 4, and the delay-measurement bits of the PM&TCM byte (R123, R124). -/
structure Patch where
  oh : List (Option Byte) := []
  dmMask : Nat := 0
  dmVal : Nat := 0
  deriving DecidableEq, Repr

/-- One flow of a channel as its bytes pass (R122, R123). A received flow is framed by its FAS. -/
structure OduFlow where
  framed : Bool := false
  badFas : Nat := 0
  /-- The last bytes, too few to be framed. -/
  hold : List DByte := []
  /-- Next byte of the frame in progress, and its MFAS. -/
  pos : Nat := 0
  mfas : Nat := 255
  /-- Overhead of the frame in progress as it came and as it was sent: rows 2 to 4, columns 1 to 14; columns 15 and 16. -/
  oh : List Byte := []
  opu : List Byte := []
  sentOh : List Byte := []
  sentOpu : List Byte := []
  /-- A poisoned byte stands among the OPU overhead of the frame in progress (R167). -/
  opuBad : Bool := false
  patch : Patch := {}
  /-- BIP-8 over the OPU of the frame in progress, of the last frame and of the one before it: as it came, and as sent
  (R126). -/
  bipNow : Nat × Nat := (0, 0)
  bipIn : Nat × Nat := (0, 0)
  bipOut : Nat × Nat := (0, 0)
  deriving DecidableEq, Repr

/-- The data path of one channel engine between two Beats. -/
structure ChanPath where
  /-- TX client stage: what waits in its FIFO as 66b blocks, or as bytes; replacement units fed; the last block of
  the adapted stream (0 other, 1 idle, 2 terminate); adapted blocks not yet coded; coded bits not yet placed, and the
  number placed. -/
  txBlocks : List Block66 := []
  txBytes : List DByte := []
  fed : Nat := 0
  txLast : Nat := 0
  quad : List Block66 := []
  bits : List (Bool × Bool) := []
  bitsOut : Nat := 0
  /-- OPU overhead, by rows, of the frame that a KIND 0 engine originates, and the count that governs it. -/
  opu : List Byte := []
  txCm : Nat := 0
  tx : OduFlow := {}
  /-- TX server stage: its FIFO; bytes of the ODU taken, modulo a frame; stripe units dealt in the striping cycle; per
  member its queue of data bytes and the index of the next fragment byte (R178 to R182). -/
  srv : List DByte := []
  packAt : Nat := 0
  unit : Nat := 0
  queues : List (List DByte) := []
  frag : List Nat := []
  /-- Marker positions of the MF in progress, one per member (R182). -/
  marks : List Nat := []
  /-- Pieces of words not yet sent, and cells received and not yet in a word, by line slot. -/
  txQ : Tab (List LinkItem) := []
  rxQ : Tab (List LinkItem) := []
  /-- RX server demapping: index of the next word of the period and the count that governs it (R155); the message that
  waits to be taken. -/
  rxWord : Nat := 0
  rxCm : Option Nat := none
  jc : Tab (Nat × Bool) := []
  /-- Destriping: per member the fragment bytes released and not yet checked, and the index of the next one; its data bytes;
  stripe units taken in the cycle; frame byte that comes next; whether a whole cycle has been found. -/
  rxFrag : List (List DByte) := []
  rxPos : List Nat := []
  rxData : List (List DByte) := []
  rxUnit : Nat := 0
  rxAt : Nat := 0
  joined : Bool := false
  rx : OduFlow := {}
  /-- RX client stage: count that governs the frame in progress; coded bits, adapted blocks of its FIFO, or bytes of the
  demapped client; the word of a client-side OTU that comes next. -/
  clientCm : Option Nat := none
  boffAt : Nat := 0
  rxBits : List (Bool × Bool) := []
  rxBlocks : List Block66 := []
  rxBytes : List DByte := []
  rxLast : Nat := 0
  /-- Client-side demultiplexing and multiplexing: count that governs the period in progress. -/
  demuxCm : Option Nat := none
  muxCm : Nat := 0
  deriving DecidableEq, Repr

/-- A word in a deskew buffer (R186): its number among the data words seen (none for a word of stuff), what each slot
carries of it, and its arrival in byte positions since FC 0. -/
structure HeldWord where
  num : Option Nat
  items : List (Nat × List LinkItem)
  arrived : Nat
  deriving DecidableEq, Repr

/-- One deskew stream (R186, R191, R195). -/
structure DeskewBuf where
  /-- What its slots have received and no word yet holds, with arrivals. -/
  cells : Tab (List (LinkItem × Nat)) := []
  /-- Words held, oldest first; what the Beat in progress has released, by slot. -/
  held : List HeldWord := []
  out : Tab (List LinkItem) := []
  /-- Index of the next word of the period, the count that governs it, the count received for the next period. -/
  word : Nat := 0
  cm : Option Nat := none
  cmNext : Option Nat := none
  /-- Data words seen; as many had been seen when the Beat-0 frame of the MF in progress began; fragment number of data
  word 0, once a marker has told it. -/
  count : Nat := 0
  mark : Nat := 0
  base : Option Int := none
  /-- Signature of the period in progress and arrival of its PSTART cell; those of the last whole period (R195). -/
  crc : Nat := 0
  start : Nat := 0
  sig : Option (Nat × Nat) := none
  /-- Cells received and cells released or discarded, per slot, for the books (R194). -/
  cellsIn : Nat := 0
  cellsOut : Nat := 0
  deriving DecidableEq, Repr

/-- One path monitor (R231): words of its channel as the path's slots bring them (`rxQ`, `rxWord`, `rxCm` and `jc` as an
engine's); bytes of the ODU from the head of the frame in progress on, or being hunted; FAS of that frame taken; in frame by the
counts of good and errored FAS in a row. -/
structure PathMon where
  words : ChanPath := {}
  buf : List DByte := []
  framed : Bool := false
  seen : Bool := false
  lock : Bool := false
  good : Nat := 0
  bad : Nat := 0
  mfas : Nat := 0
  /-- BIP-8 over the OPU of the last frame and of the one before it. -/
  bip : Nat × Nat := (0, 0)
  /-- Frames in a row in which a defect's condition held, and did not hold, by its input of the TCM layer (R210). -/
  runs : Tab (Nat × Nat) := []
  ttiPart : List Byte := []
  ttiLatest : List Byte := []
  ttiRun : Nat := 0
  tti : List Byte := []
  /-- Last APS/PCC bytes at the group's level, and how often in a row they came (R236). -/
  aps : List Byte := []
  apsRun : Nat := 0
  /-- Frames and errored frames of the PM second, a defect in it, and bad or good seconds in a row (R219). -/
  blocks : Nat := 0
  errored : Nat := 0
  defect : Bool := false
  badRun : Nat := 0
  goodRun : Nat := 0
  deriving DecidableEq, Repr

/-- Client-side overhead of a KIND 1 port (R147): SM and HO PM bytes, and the TPN of each client-side slot that its MSI
carries. -/
structure ClientOh where
  sm : List Byte := []
  pm : List Byte := []
  msi : List Nat := []
  deriving DecidableEq, Repr

/-- What a client port handed to its PCS, PMA or OTU FEC in the last Beat (R216, R271); for a KIND 1 port, per channel the
index of the first word of its client-side slots, and the words. -/
structure ClientTx where
  blocks : List Block66 := []
  bytes : List Byte := []
  odus : Tab (Nat × List Byte) := []
  oh : ClientOh := {}
  deriving DecidableEq, Repr

/-- A frame of one OTUC instance as it was handed to FlexO adaptation in the last Beat (R98, R271), and the BIP-8 over the
OPUC of the last frame and of the one before it. -/
structure LineTx where
  bytes : List Byte := []
  bip : Nat × Nat := (0, 0)
  deriving DecidableEq, Repr

/-- A frame of a PM entity that completed in the Beat: violations and BEI of one instance (R219). -/
structure PmFrame where
  obj : Nat
  layer : Nat
  mfas : Nat
  inst : Nat
  near : Nat
  far : Nat
  deriving DecidableEq, Repr

/-- The data path outside the engines: what the die links carried in the last Beat by slice × 1280 + position, in order
(R174), rising and descending; deskew streams by owner object × 16 + index; path monitors by group × 2 + path; outputs of the last Beat by line port × 16 +
instance and by client port; digests of the MF as they stand (R271); frames of PM entities that the Beat completed. -/
structure Path where
  chans : Tab ChanPath := []
  up : Tab (List LinkItem) := []
  down : Tab (List LinkItem) := []
  deskew : Tab DeskewBuf := []
  mons : Tab PathMon := []
  lines : Tab LineTx := []
  clients : Tab ClientTx := []
  lpCrc : Tab Nat := []
  cpCrc : Tab Nat := []
  pmNow : List PmFrame := []
  deriving DecidableEq, Repr

end Sys2Proof.Machine
end

