-- ==== Sys2Proof/Machine/Records2.lean ====
section
/-! DEFINITION. The records of the pair, the Fumarole ports, the host attachment, Sinter, counters, Geyser,
the log, power, firmware, test and service units. A field's default value is its value at reset. -/

namespace Sys2Proof.Machine

/-! ### The twin and the Galulo link (chapter 10) -/

/-- Roles (R260). -/
inductive Role where
  | alone | waiting | joining | standby | active
  deriving DecidableEq, Repr

/-- Code of a role (R260). -/
def Role.code : Role → Nat
  | .alone => 0 | .waiting => 1 | .joining => 2 | .standby => 3 | .active => 4

/-- Role of a code (R260). -/
def Role.ofCode : Nat → Option Role
  | 0 => some .alone | 1 => some .waiting | 2 => some .joining | 3 => some .standby | 4 => some .active
  | _ => none

/-- The HEAD section of a Galulo frame (R265). -/
structure GHead where
  role : Nat := 0
  fc : Nat := 0
  tokSeq : Nat := 0
  echoSeq : Nat := 0
  echoHold : Nat := 0
  health : Nat := 0
  pairIndex : Nat := 0
  ownLp : Nat := 0
  xferOp : Nat := 0
  ownCp : Nat := 0
  swapOp : Nat := 0
  joinPhase : Nat := 0
  cmdAck : Nat := 0
  swapGen : Nat := 0
  swapCrc : Nat := 0
  xferMfn : Nat := 0
  xferLp : Nat := 0
  divLp : Nat := 0
  xstby : Nat := 0
  xferCp : Nat := 0
  deriving DecidableEq, Repr

/-- A decision token (R266): the 64-bit word of its layout. -/
structure Token where
  stamp : Nat
  word : Nat
  deriving DecidableEq, Repr

/-- The DIGEST section (R271); the lists are indexed by line port and by client lane. -/
structure Digests where
  mfn : Nat
  lpValid : Nat
  cpValid : Nat
  lp : List Nat
  cp : List Nat
  deriving DecidableEq, Repr

/-- A mirrored-command entry (R268). -/
structure MirrorEntry where
  mb : Nat
  seq : Nat
  target : Nat
  id : Nat
  slot : List Byte
  deriving DecidableEq, Repr

/-- What the evaluations that Beats 254 and 255 make for objects that start at a committed swap leave for it (R212, R218,
R249): their layers and protection groups as evaluated, and their tokens for Beat 0, with whether they were received. -/
structure Ahead where
  layers : Tab Layer := []
  pgs : Tab PgState := []
  due : List (Token × Bool) := []
  deriving DecidableEq, Repr

/-- A Fumarole source's binding (R294, R308). -/
structure Binding where
  port : Nat
  prio : Nat
  fcs : Nat
  deriving DecidableEq, Repr

/-- Attributes of a Fumarole port (R307). -/
structure FumAttr where
  mode : Nat := 0
  divider : Nat := 10
  cutThrough : Nat := 256
  fillLevel : Nat := 0
  deriving DecidableEq, Repr

/-- Commanded attributes of one object, as record kind 0x06 carries them (R269). -/
inductive AttrRec where
  | anchor (a : Anchor)
  | pps (mode lossN windowMf : Nat)
  | linePort (p : Nat) (enabled : Bool) (a : LpAttr)
  | lane (l : Nat) (a : LaneAttr)
  | odu (obj : Nat) (o : OduState)
  | client (k : Nat) (c : ClientPort)
  | maint (ch : Nat) (tx rx : Maint)
  | layer (obj layer mask degm degthr : Nat)
  | group (pg holdoff wtr tcm : Nat)
  | fumPort (p : Nat) (a : FumAttr)
  | fumBind (src : Nat) (b : Option Binding)
  | grants (mb : Nat) (g : List Grant)
  | arbiter (r deadline burst : Nat)
  | discrepancy (discMf xstbyN : Nat)
  deriving DecidableEq, Repr

/-- A state-copy record (R269), one constructor per KIND. -/
inductive GBody where
  | tracker (ch stage : Nat) (t : Tracker)
  | defect (obj layer : Nat) (l : Layer)
  /-- With the BEI that the layer has still to send, per instance. -/
  | pm (obj layer : Nat) (e : PmEntity) (bei : Tab Nat)
  | pmHistory (obj layer : Nat) (m15 h24 : List PmBin)
  | group (pg : Nat) (s : PgState)
  | attr (a : AttrRec)
  | fumQueue (p : Nat) (expFill impFill itemsOut sent : Nat)
  | sinter (w v : Nat)
  /-- The shadow bank; both banks when `both` holds. -/
  | image (both : Bool) (active shadow : Option Image)
  | timed (l : List Waiting)
  | time (p : Pps)
  | ladder (p : Nat) (l : Ladder)
  | deskew (sg : Nat) (s : Spread)
  | aligned (pg : Nat) (a : Aligned)
  deriving DecidableEq, Repr

/-- A whole state-copy record: snapshot MFN and body. -/
structure GRec where
  snapMfn : Nat
  body : GBody
  deriving DecidableEq, Repr

/-- What a Galulo frame says (R264). -/
structure GFrame where
  head : GHead
  tokens : List Token
  digests : Option Digests
  cmds : List MirrorEntry
  recs : List GRec
  /-- PAIR_DISCREPANCY_SET values sent to the twin (R286). -/
  disc : Option (Nat × Nat)
  /-- MIRROR_IDs of mirrored commands that a SYS_CANCEL has withdrawn (R268). -/
  cancels : List Nat := []
  /-- What XFER_OP REQUEST asks for beside its masks, for which HEAD has no field: [0] SCOPE = ALL, [1] FORCE,
  [2] the ports come to the sender. -/
  scope : Nat := 0
  /-- Byte position within the Beat at which the head arrived. -/
  pos : Nat := 0
  /-- CMD_CREDIT and STATE_CREDIT: entries and records taken since the last frame (DEDUCED, log 88). -/
  credits : Nat × Nat := (0, 0)
  deriving DecidableEq, Repr

/-- A Galulo frame on the wire (R264): the bytes of its HEAD, DIGEST and CMD sections, the words of its TOKENS section, its credit
fields, and whether FRAME_CRC agrees. The bodies of its state-copy records have no layout in the manual: they stand as data, and
with them what GFrame carries beside the sections (DEDUCED, log 88). -/
structure GWire where
  head : List Byte
  tokens : List Nat := []
  digest : List Byte := []
  cmds : List (List Byte) := []
  recs : List GRec := []
  tail : List Byte := []
  crcOk : Bool := true
  disc : Option (Nat × Nat) := none
  cancels : List Nat := []
  scope : Nat := 0
  pos : Nat := 0
  deriving DecidableEq, Repr

/-! ### Fumarole ports and check-value units (chapter 11) -/

/-- An item of an export queue or a frame of an import queue. `whole` is false while a cut-through frame still
arrives; `bad` marks one whose FCS failed or that was aborted after it became eligible. -/
structure Item where
  src : Nat
  prio : Nat
  order : Nat
  bytes : List Byte
  whole : Bool
  bad : Bool := false
  /-- Byte positions of poisoned words (R299). -/
  poison : List Nat := []
  deriving DecidableEq, Repr

/-- The receiving side of a channel (R291 to R293): in HDLC mode a flag has opened a frame, an escape stands before the next
byte, the content and FCS bytes of the frame in progress and how many of them have reached staging; what is complete and not
yet checked and staged, with whether it was aborted. In transparent mode `bytes` are those of the Beat. -/
structure LineRxHdlc where
  opened : Bool := false
  esc : Bool := false
  bytes : List Byte := []
  fed : Nat := 0
  done : List (List Byte × Bool) := []
  deriving DecidableEq, Repr

/-- One Fumarole port (R289 to R312). -/
structure FumPort where
  attr : FumAttr := {}
  /-- DIVIDER and MODE in force on FPp_TXD, changed at an item boundary (R307). -/
  txMode : Nat := 0
  txDivider : Nat := 10
  /-- Eligible items not yet chosen, in order of eligibility, and items arriving that are not yet eligible. -/
  staged : List Item := []
  arriving : List Item := []
  /-- The bank the arbiter fills, the bank the output side reads, and the bytes that have left on FPp_TXD of its first item's port
  frame; what ends a frame that was cut short; the bytes on FPp_TXD of the last Beat, each with FPp_FS on its first bit. -/
  fillBank : List Item := []
  readBank : List Item := []
  sent : Nat := 0
  tail : List Byte := []
  txd : List (Byte × Bool) := []
  /-- FPp_RXD in HDLC mode (R292). -/
  rx : LineRxHdlc := {}
  expFill : Nat := 0
  /-- Import frames staged per source, in order. -/
  imports : List Item := []
  impFill : Nat := 0
  itemsOut : Nat := 0
  discards : Nat := 0
  aborts : Nat := 0
  nextOrder : Nat := 0
  deriving DecidableEq, Repr

/-- One management channel source (R288, R294, R301, R310). -/
structure FumSource where
  rx : LineRxHdlc := {}
  bind : Option Binding := none
  unbinding : Bool := false
  /-- The rest of a line frame that was aborted on the port is discarded (R296). -/
  dropRest : Bool := false
  /-- Bytes of its first import frame that have entered the line channel. -/
  lineSent : Nat := 0
  framesOut : Nat := 0
  framesIn : Nat := 0
  badFcs : Nat := 0
  deriving DecidableEq, Repr

/-- One check-value unit (R303 to R306): selected context, live value and CFG, saved contexts. -/
structure CrcUnit where
  ctxSel : Nat := 0
  value : Nat := 0xFFFF_FFFF
  reflect : Bool := true
  xorOut : Bool := true
  /-- Contexts as (value, reflect, xorOut). -/
  ctxs : Tab (Nat × Bool × Bool) := []
  denied : Bool := false
  deriving DecidableEq, Repr

/-! ### The twin, continued: snapshots and the pair -/

/-- Snapshot of the mirrored state at the end of Beat 255 of an MF (R269). -/
structure Snap where
  mfn : Nat
  chans : Tab Channel
  layers : Tab Layer
  pms : Tab PmEntity
  pgs : Tab PgState
  ports : Tab LinePort
  lanes : Tab LaneAttr
  odu : Tab OduState
  clients : Tab ClientPort
  sgs : Tab Spread
  fumPorts : Tab FumPort
  fumSources : Tab FumSource
  grants : Tab (List Grant)
  /-- Deadline offset and MAX_BURST of each requester that a command has set, DISC_MF and XSTBY_N. -/
  arbiter : Tab (Nat × Nat)
  disc : Nat × Nat
  anchor : Anchor
  pps : Pps
  timed : List Waiting
  deriving DecidableEq, Repr

/-- Agreement of one port's digests (R272, R273). -/
structure PortAgree where
  badRun : Nat := 0
  /-- DISC_MF as it stood when the run began (R286). -/
  disc : Nat := 4
  goodRun : Nat := 0
  /-- 0 none, 1 resync waits for its copy cycle, 2 aligned or needs no alignment. -/
  resync : Nat := 0
  resyncStart : Nat := 0
  /-- MFN at which the data path is aligned. -/
  alignAt : Option Nat := none
  diverged : Bool := false
  deriving DecidableEq, Repr

/-- A handover in progress (R280). -/
structure Handover where
  issuer : Bool
  /-- Seen from the device: ports come to it (take) or leave it. -/
  take : Bool
  all : Bool
  force : Bool
  target : Nat
  lp : Nat
  cp : Nat
  /-- 0 no answer, 2 ACCEPT, 3 REFUSE. -/
  answer : Nat := 0
  /-- Started by XSTBY or by Dormant entry: no command waits for it. -/
  byXstby : Bool := false
  byDormant : Bool := false
  deriving DecidableEq, Repr

/-- The pair (R260 to R287). -/
structure Pair where
  role : Role := .alone
  paired : Bool := false
  index : Nat := 0
  flags : Nat := 7
  waitMf : Nat := 1024
  discMf : Nat := 4
  xstbyN : Nat := 64
  ownLp : Nat := 0xFF
  ownCp : Nat := 0xFFFF_FFFF_FFFF_FFFF
  /-- Balls: SEL_LP0 to SEL_LP7, PAIR_ALIVE_OUT, and the OWN bits of the SELBUS frame of this Beat. -/
  selLp : Nat := 0
  aliveOut : Bool := true
  selbusHeld : Bool := false
  selbus : List Bool := []
  aliveIn : Bool := false
  aliveFault : Bool := false
  /-- Fatal hub fault pending (R258); watchdog expired. -/
  hubFault : Bool := false
  wdExpired : Bool := false
  waitStart : Nat := 0
  /-- MFN of the last frame in which the twin was ACTIVE, counted for R262. -/
  twinActiveMfn : Nat := 0
  /-- Galulo link: 0 down, 1 training, 2 up. -/
  link : Nat := 0
  lanes : Nat := 0
  rxHead : Option GHead := none
  /-- FC and byte position at which the last valid frame's head arrived, and the sender's FC in that Beat. -/
  rxFc : Nat := 0
  rxPos : Nat := 0
  twinFc : Nat := 0
  /-- Beat boundaries since the last valid frame; valid frames in a row. -/
  noFrame : Nat := 0
  goodFrames : Nat := 0
  oneWay : Nat := 0
  rxTokens : List Token := []
  txFrame : Option GWire := none
  /-- Command entries and records taken since the last frame was sent. -/
  credits : Nat × Nat := (0, 0)
  /-- Lanes with FEC lock and aligned lane markers in the last Beat, and Beats in a row in which all four had them (R263). -/
  laneOk : Nat := 0
  linkRun : Nat := 0
  lastEchoSeq : Nat := 0
  /-- Mirrored commands sent and not acknowledged; next MIRROR_ID; last MIRROR_ID accepted (CMD_ACK). -/
  unacked : List MirrorEntry := []
  mirrorId : Nat := 0
  cmdAck : Nat := 0
  /-- No mirrored command has been taken since the join began: the next one is the first. -/
  cmdFresh : Bool := true
  discTx : Option (Nat × Nat) := none
  cancelTx : List Nat := []
  snaps : List Snap := []
  /-- Records received and not yet applied. -/
  corrections : List GRec := []
  twinWords : List (Nat × Nat) := []
  txRecs : List GRec := []
  /-- Own digests of the last MF and the twin's. -/
  ownDigests : Option Digests := none
  twinDigests : Option Digests := none
  comparedMfn : Option Nat := none
  agree : Tab PortAgree := []
  /-- Own fill less the active's, from one snapshot (R273), keyed by channel × 4 + stage. -/
  fills : Tab Int := []
  joinPhase : Nat := 0
  joinFull : Bool := false
  joinStart : Nat := 0
  joinRetry : Option Nat := none
  /-- MFN of the FC adoption: named by the ACTIVE device, read by the joiner (R274). -/
  joinAdopt : Option Nat := none
  /-- FC has been adopted; the active's banks have come, or match already before IMAGE (FULL clear); a whole copy cycle
  has been adopted by value. -/
  adopted : Bool := false
  banksCame : Bool := false
  copied : Bool := false
  checkRun : Nat := 0
  handover : Option Handover := none
  /-- Role that a handover with SCOPE = ALL gives from the next Beat (R280). -/
  roleNext : Option Role := none
  /-- Answer this device gives to a REQUEST, repeated until the target. -/
  xferAnswer : Nat := 0
  /-- The SWAP_OP the device sends. -/
  swapOp : Nat := 0
  swapGen : Nat := 0
  swapCrc : Nat := 0
  xstby : Bool := false
  xstbyRun : Nat := 0
  /-- XSTBY_N as it stood when the run began (R286). -/
  xstbyLimit : Nat := 64
  xstbyFault : Bool := false
  xstbyShort : Nat := 0
  sliceHealth : Nat := 0xF
  mismatchMf : Nat := 0
  tokenMismatch : Nat := 0
  tokenOwn : Nat := 0
  correctionsN : Nat := 0
  takeoverFc : Nat := 0
  deriving DecidableEq, Repr

/-! ### Host attachment (chapter 12) -/

/-- One mailbox (R316 to R320, R325). -/
structure Mailbox where
  cmdProd : Nat := 0
  announced : Nat := 0
  cmdAck : Nat := 0
  rspProd : Nat := 0
  rspCons : Nat := 0
  irqEn : Bool := false
  grants : List Grant := []
  /-- Unread responses, oldest first: SEQ, OPCODE, TARGET (R324). -/
  unread : List (Nat × Nat × Nat) := []
  deriving DecidableEq, Repr

/-- One host window (R326, R360). -/
structure Window where
  base : Nat := 0
  enabled : Bool := false
  readOnly : Bool := false
  deriving DecidableEq, Repr

/-- One late-write-fault record (R330). -/
structure Lwf where
  addr : Nat
  master : Nat
  id : Nat
  win : Nat
  cause : Nat
  fc : Nat
  deriving DecidableEq, Repr

/-- The host interface and the sequencer (R313 to R334). -/
structure HostIf where
  mbs : Tab Mailbox := []
  /-- Acknowledged commands not yet dequeued, in order of acknowledgement. -/
  queue : List Cmd := []
  /-- Dequeued commands without a response. -/
  waiting : List Waiting := []
  nextOrder : Nat := 0
  wins : Tab Window := []
  lwf : List Lwf := []
  lwfLost : Nat := 0
  lwfTotal : Nat := 0
  hwinFault : Nat := 0
  decodeErrors : Nat := 0
  alarmFatal : Bool := false
  alarmPair : Bool := false
  fcHi : Nat := 0
  /-- MSI-X table entries (128 bits), pending bits, vectors sent in this Beat. -/
  msix : Tab Nat := []
  pba : Nat := 0
  sentThisBeat : Nat := 0
  linkUp : Bool := true
  linkWidth : Nat := 4
  linkSpeed : Nat := 4
  busMaster : Bool := false
  /-- Subsystem vendor ID and subsystem ID of configuration space (R313, R365, word 3). -/
  subsystem : Nat := 0
  sinterWe : Nat := 0
  /-- Data the last host read returned, and the last register read (R316, R326). -/
  readData : List Byte := []
  /-- Destinations that have missed a token in this MF (R21): channel engines, then 256 + die. -/
  missSeen : List Nat := []
  /-- Response slots to be written into BAR1: offset and bytes. -/
  out : List (Nat × List Byte) := []
  deriving DecidableEq, Repr

/-! ### Sinter (chapter 14) -/

/-- Where a commit came from: the words of R363 and R368, and the command that waits for it. -/
structure Commit where
  /-- Register word 0 to 4095, or 4096 + black-box word. -/
  word : Nat
  /-- 0 whole word, 1 low half, 2 high half. -/
  width : Nat
  value : Nat
  /-- Acceptance order of a SINTER_WRITE that waits for this commit. -/
  waiter : Option Nat := none
  deriving DecidableEq, Repr

/-- One cell of the array: value, wear, WORN, failed, and the spare that took its place. -/
structure Cell where
  value : Nat := 0xFFFF_FFFF_FFFF_FFFF
  wear : Nat := 0
  worn : Bool := false
  failed : Bool := false
  spare : Option Nat := none
  deriving DecidableEq, Repr

/-- Sinter (R362 to R378). Cells: register words 0 to 4095, black-box words 4096 to 6143, spares 6144 to 6399. -/
structure Sinter where
  cells : Tab Cell := []
  /-- The commit queue, oldest first. -/
  queue : List Commit := []
  /-- The second commit port (R368). -/
  second : List Commit := []
  spares : Nat := 0
  /-- Held BAR0 writes waiting for room (R367). -/
  held : List Commit := []
  deriving DecidableEq, Repr

/-! ### Counters and Geyser (chapter 15) -/

/-- A bus-matrix filter (R383, R394). -/
structure Filter where
  masters : Nat := 0
  priv : Nat := 0
  classes : Nat := 0
  base : Nat := 0
  limit : Nat := 0
  deriving DecidableEq, Repr

/-- A snapshot that waits to be written (R390, R391). -/
structure Dump where
  seq : Nat
  fc : Nat
  mask : Nat
  gen : Nat
  d : Nat
  chainSeq : Nat
  cells : Tab Nat
  deriving DecidableEq, Repr

/-- Geyser and the counter cells (R379 to R397). -/
structure Counters where
  cells : Tab Nat := []
  /-- Pairs whose chain differs from the default of R382. -/
  flipped : List Nat := []
  filters : Tab Filter := []
  chainSeq : Nat := 0
  enabled : Bool := false
  bankMask : Nat := 0x7F
  interval : Nat := 3360
  /-- The posted ring: BASE, SLOT_BYTES, SLOTS (0: none), FIRST_SEQ. -/
  base : Nat := 0
  slotBytes : Nat := 0
  slots : Nat := 0
  firstSeq : Nat := 0
  dumpSeq : Nat := 0
  missed : Nat := 0
  /-- Snapshots taken and not yet written to the host, oldest first. -/
  staged : List Dump := []
  /-- The last dump written to host memory: its header fields and address. -/
  lastDump : Option (Nat × List Byte) := none
  /-- The snapshot that the end of Beat 255 latched, until it is numbered and staged (R389). -/
  latched : Option Dump := none
  /-- Category sums per lit port and direction of the MF in progress, keyed by port × 2 + direction, with ΣM. -/
  slotSum : Tab (Nat × Nat) := []
  deriving DecidableEq, Repr

/-! ### Tephra (chapter 16) -/

/-- The event log (R398 to R412). -/
structure Tephra where
  /-- Events that arose and are not yet staged. -/
  arising : List Event := []
  staging : List Record := []
  overflow : List Counted := []
  coalesce : List Counted := []
  /-- Coalescing keys whose first occurrence of this MF is recorded, with how many were staged (R228). -/
  seen : List (Nat × Nat × Nat) := []
  /-- MFN the coalescing entries belong to, and entries of the closed MF still to be staged. -/
  due : List Counted := []
  /-- The ring: (slot, RECORD_SEQ, record), newest last; slot the writer uses next. -/
  ring : List (Nat × Nat × Record) := []
  slot : Nat := 0
  seq : Nat := 0
  /-- 0 main ring, 1 spare region, 2 stopped. -/
  region : Nat := 0
  badSlots : List Nat := []
  overflows : Nat := 0
  bbSkipped : Nat := 0
  badReads : Nat := 0
  bucket : Nat := 512
  irqMin : Tab Nat := []
  bbMin : Tab Nat := []
  /-- Black-box record the writer writes next. -/
  bbNext : Nat := 0
  deriving DecidableEq, Repr

/-! ### Power, boot and firmware (chapter 17) -/

/-- State of a power domain (R431), coded as in R437. -/
inductive DomState where
  | off | rising | ready | falling
  deriving DecidableEq, Repr

/-- One power domain (R431, R437). -/
structure Domain where
  state : DomState := .ready
  /-- MFN at which it entered RISING. -/
  risingMfn : Nat := 0
  waitsRising : Bool := false
  switches : Nat := 0
  lastFc : Nat := 0
  deriving DecidableEq, Repr

/-- Power mode of the device: rails down, sequencing up, boot ROM and start, running, dormant, sequencing down. -/
inductive PowerMode where
  | unpowered | upSeq | booting | running | downSeq | dormant | faultWait
  deriving DecidableEq, Repr

/-- A firmware image as a flash bank or a region holds it (R422, R423): the header fields, the length of
the bytes present, and the outcome of the checks that need the body's bytes. -/
structure FwImage where
  magicOk : Bool
  devType : Nat
  ifMajor : Nat
  version : Nat
  svn : Nat
  bodyLen : Nat
  /-- Bytes of header and body present in the bank or read. -/
  present : Nat
  bodyCrcOk : Bool
  keyOk : Bool
  sigOk : Bool
  digest : Nat
  deriving DecidableEq, Repr

/-- A firmware stage in progress (R424). -/
structure Stage where
  order : Nat
  source : Nat
  dest : Nat
  length : Nat
  address : Nat
  deriving DecidableEq, Repr

/-- A firmware activation that waits or pauses (R425, R427). -/
structure Activation where
  /-- Acceptance order of its command; none for the restoration after a failed trial. -/
  order : Option Nat
  target : Nat
  trial : Bool
  trialMf : Nat
  /-- It restores the old image (R426, R427), for this cause. -/
  restore : Option Nat
  /-- FW_VERSION that ran before. -/
  oldVersion : Nat
  pauseFc : Option Nat := none
  deriving DecidableEq, Repr

/-- Power, boot and firmware (R413 to R441). -/
structure Power where
  mode : PowerMode := .booting
  /-- Up order the sequence stands at; enables that are high (bit i: PWR_ENi); rails within limits. -/
  order : Nat := 8
  enables : Nat := 0xFF
  rails : Nat := 0x7F
  /-- Latched up order of a rail fault not yet recorded; 0 none. -/
  faultOrder : Nat := 0
  domains : Tab Domain := []
  /-- Domains that entered RISING in this MF. -/
  risingMfn : Nat := 0
  risingCount : Nat := 0
  fwState : Nat := 0
  coresUp : Nat := 0
  running : Option FwImage := none
  preload : Option FwImage := none
  bankA : Option FwImage := none
  bankB : Option FwImage := none
  fwSource : Nat := 0
  stage : Option Stage := none
  activation : Option Activation := none
  /-- A running trial: MFN the pause ended, TRIAL_MF, watchdog trips, bank before. -/
  trial : Option (Nat × Nat × Nat × Nat) := none
  refA : Bool := true
  refB : Bool := true
  refBSel : Bool := false
  /-- Dormant entry: entry MFN, trigger (0 command, 1 pin), acceptance order of the command; FORCE. -/
  dormant : Option (Nat × Nat × Option Nat) := none
  dormantForce : Bool := false
  /-- A wake request waits for the end of the entry; the device wakes after it. -/
  wakeWaits : Bool := false
  /-- What woke the device: 0 WAKE_N, 1 RESET_N; none when it did not wake. -/
  wakeBy : Option Nat := none
  /-- PWR_DOMAIN_SET commands in progress: order, first domain, number. -/
  domJobs : List (Nat × Nat × Nat) := []
  /-- AUTO_OFF applies at Beat 0 of this MFN. -/
  autoOffAt : Option Nat := none
  deriving DecidableEq, Repr

/-! ### Test, field lock and service ports (chapter 18) -/

/-- A PRBS generator and checker (R442 to R444). -/
structure Prbs where
  pattern : Nat := 0
  mode : Nat := 0
  injectLeft : Nat := 0
  inject : Nat := 0
  inSync : Bool := false
  losses : Nat := 0
  bits : Nat := 0
  errors : Nat := 0
  syncFc : Nat := 0
  /-- Shift registers of generator and checker; an error to inject; bits in a row that have matched; the errors among the last
  64 bits in sync, and that they were too many. -/
  gen : Nat := 0
  chk : Nat := 0
  flip : Bool := false
  run : Nat := 0
  window : Nat := 0
  lost : Bool := false
  deriving DecidableEq, Repr

/-- The field lock's volatile state (R450 to R454); its persistent words are in Sinter. -/
structure Lock where
  nonce : Option Nat := none
  nonceMfn : Nat := 0
  session : Option Nat := none
  backoffEnd : Option Nat := none
  deriving DecidableEq, Repr

/-- JTAG instructions (R448). -/
inductive JtagInstr where
  | bypass | idcode | samplePreload | extest | clamp | highz | extestPulse | extestTrain | privateCode (code : Nat)
  deriving DecidableEq, Repr

/-- A peripheral I²C controller (R457 to R459). -/
structure Pmb where
  speed : Nat := 1
  addr : Nat := 0
  read : Bool := false
  len : Nat := 0
  busy : Bool := false
  done : Bool := false
  nack : Bool := false
  arbFail : Bool := false
  collide : Bool := false
  losses : Nat := 0
  retries : Nat := 0
  /-- Lost arbitration: waiting for STOP and its interval. -/
  lost : Bool := false
  data : Tab Byte := []
  deriving DecidableEq, Repr

/-- Test and service state of the device (chapter 18). -/
structure Service where
  prbs : Tab Prbs := []
  laneLoop : Tab Nat := []
  lock : Lock := {}
  jtag : JtagInstr := .idcode
  uartFraming : Nat := 0
  uartClosed : Nat := 0
  /-- Last character handed to the console. -/
  uartRx : Option Byte := none
  pmb0 : Pmb := {}
  pmb1 : Pmb := {}
  deriving DecidableEq, Repr

end Sys2Proof.Machine
end

