-- ==== Sys2Proof/Machine/Inputs.lean ====
section
/-! DEFINITION. What arrives from outside with a command: signals of lines and clients, bytes of transfers, pins,
and the measurements of a Beat. The manual gives these no word; the model carries them as plain operands. -/

namespace Sys2Proof.Machine

/-- FlexO FEC counts of one instance in a Beat (R97). -/
structure FecCount where
  port : Nat
  inst : Nat
  symbols : Nat
  codewords : Nat
  uncorrectable : Nat
  deriving DecidableEq, Repr

/-- One FlexO frame that ends in a Beat, at a lane position of a port (R94, R95, R98): its alignment marker stood correct
at its expected position (in HUNT: a candidate was found), its CRC-16 was correct, its overhead, and the arrival of the
first frame of its FlexO multiframe in byte positions of Line Time. -/
structure FlexoRx where
  pos : Nat
  marker : Bool
  crcOk : Bool
  mfas : Nat
  gid : Nat
  pid : Nat
  map : Nat
  avail : Nat
  start : Nat
  deriving DecidableEq, Repr

/-- What stands at the balls of one line port in a Beat (R95, R99): lanes with signal and CDR lock, LPx_FAULT_N low, and
the FlexO frames that end. -/
structure LineRx where
  port : Nat
  good : Nat
  fault : Bool := false
  flexo : List FlexoRx := []
  deriving DecidableEq, Repr

/-- One frame of a flow. From a line: an OTUC frame of instance `inst` of a port (flow 1) that has ended; inside, a frame of
a channel's flow. `fas`: its FAS is correct; `sm`: columns 8 to 14 of row 1; `oh`: columns 1 to 14 of rows 2 to 4; `opu`:
columns 15 and 16 of rows 1 to 4; `payload`: columns 17 to 3,824 of rows 1 to 4, an empty list standing for zeros; `poison`:
16-byte words of the payload that are poisoned; `start`: arrival of its first byte, in byte positions since FC 0 (R123 to
R132, R135, R167, R184). -/
structure OhFrame where
  obj : Nat
  flow : Nat
  inst : Nat
  mfas : Nat
  oh : List Byte
  opu : List Byte
  fas : Bool := true
  sm : List Byte := []
  payload : List Byte := []
  poison : List Nat := []
  start : Nat := 0
  deriving DecidableEq, Repr

/-- What a client-side OTU brings in a Beat for the ODU whose slots its MSI marks with a TPN (R147): the number of those
slots, the index in its GMP period of the first payload word, the words' bytes, and a justification-control message that has
come with them (a count, and whether its CRC checks). -/
structure ClientWords where
  tpn : Nat
  slots : Nat
  first : Nat
  bytes : List Byte
  jc : Option (Nat × Bool) := none
  deriving DecidableEq, Repr

/-- What a client port receives in a Beat, named after its first lane: 66b blocks of an Ethernet client (R146), bytes of a
CBR client; for a KIND 1 port, the words of each ODU that its OTU carries, byte 3 of SM of each of its frames that ended, and
whether a multiframe ended (R147, R210). -/
structure ClientRx where
  cp : Nat
  blocks : List Block66 := []
  bytes : List Byte := []
  odus : List ClientWords := []
  sm : List Byte := []
  mfEnd : Bool := false
  deriving DecidableEq, Repr

/-- Blocks of one PM entity that completed in a Beat, errored blocks near and far end (R219), and the BIP-8 violations
and BEI counts behind them (R126, R381). -/
structure PmBlocks where
  obj : Nat
  layer : Nat
  blocks : Nat
  nearErr : Nat
  farErr : Nat
  near : Nat
  far : Nat
  deriving DecidableEq, Repr

/-- A decision token that missed its destination at the start of its Beat (R21): die 0 to 3 slices, 4 hub; TYPE and
index as `Token.key` numbers them. -/
structure MissedToken where
  die : Nat
  key : Nat
  /-- Channel the engine serves; 0xFFFF when the destination is no channel engine. -/
  ch : Nat
  deriving DecidableEq, Repr

/-- Test pattern bits and errors at a checker in a Beat (R444). -/
structure PrbsBits where
  obj : Nat
  bits : Nat
  errors : Nat
  deriving DecidableEq, Repr

/-- All that the Beat which ends brought, and the tokens missing for the Beat that begins (BEAT_BOUNDARY). -/
structure BeatInput where
  stepPins : Nat := 0
  /-- The four Galulo lanes (R263): FEC lock, and the last lane marker. -/
  galulo : List (Bool × List Byte) := []
  /-- Line ports without an entry have no signal on any lane. -/
  lines : List LineRx := []
  fec : List FecCount := []
  overhead : List OhFrame := []
  clients : List ClientRx := []
  blocks : List PmBlocks := []
  /-- Poisoned words received: (channel, direction, words). -/
  poison : List (Nat × Nat × Nat) := []
  /-- Far streams of aligned groups of which one word has come back uncorrectable (R193): owner object, index. -/
  farPoison : List (Nat × Nat) := []
  missed : List MissedToken := []
  prbs : List PrbsBits := []
  /-- Deskew streams whose buffer occupancy does not match its cells (R194): owner object, index, difference. -/
  books : List (Nat × Nat × Nat) := []
  /-- GMP stages whose units do not balance over the MF (R162): channel, stage, difference. -/
  gmp : List (Nat × Nat × Nat) := []
  /-- Port and direction whose slot categories fail the category law by hardware fault (R387), with difference. -/
  slotFault : List (Nat × Nat × Nat) := []
  /-- Fumarole credit imbalance of a slice beyond the words that 2 Beats carry (R302, R388): (slice, words). -/
  credits : List (Nat × Nat) := []
  /-- Bytes that FPp_CLK clocked out of a port's serialiser in the Beat: (port, bytes). -/
  fumSent : List (Nat × Nat) := []
  /-- Words of a port's export queue that fail parity: (port, byte position of the word in the first item read). -/
  fumPoison : List (Nat × Nat) := []
  /-- Poisoned words of import staging (R299): (port, source, byte position in its first frame). -/
  impPoison : List (Nat × Nat × Nat) := []
  /-- Bytes received on FPp_RXD of a port in HDLC mode (R292). -/
  fumRx : List (Nat × List Byte) := []
  /-- Cell ticks that no other operand carries: (cell, count). -/
  cells : List (Nat × Nat) := []
  /-- Uncorrectable error in a hub memory that the data or decision plane reads, or loss of the hub clock (R258). -/
  hubFault : Bool := false
  deriving DecidableEq, Repr

/-- Where a TTI is accepted (R98, R127): the section of a line port or a level of a flow. -/
inductive TtiSite where
  | sm (port : Nat)
  | level (obj flow lvl : Nat)
  deriving DecidableEq, Repr

/-- A host write outside the rows of their own (R11, R316, R317). -/
inductive RegWrite where
  | bar0 (off width value : Nat)
  | bar1 (off : Nat) (bytes : List Byte)
  /-- Bus Master Enable of configuration space (R314). -/
  | busMaster (on : Bool)
  deriving DecidableEq, Repr

/-- A host access through BAR2 (R326). -/
inductive WinAccess where
  | read (len : Nat)
  | write (bytes : List Byte)
  deriving DecidableEq, Repr

/-- Who uses host memory (R314). -/
inductive DmaUser where
  | load | geyser | stage
  deriving DecidableEq, Repr

/-- What an external programmer put into the SPI flash before boot (R418): firmware banks and startup slots. -/
structure FlashInput where
  bankA : Option FwImage
  bankB : Option FwImage
  slotA : Option (List Byte)
  slotB : Option (List Byte)
  deriving DecidableEq, Repr

/-- Received SFHs of one member at the release of a word (R187): the sequence number, and whether marker and CRC
were correct. -/
structure Sfh where
  present : Bool
  ok : Bool
  seq : Nat
  /-- The GEN of a block that carries START with a GEN other than the one in force (R190). -/
  start : Option Nat
  deriving DecidableEq, Repr

/-- An arbiter request (R199): requester, Line Time of its issue in byte positions, hub cycles it will hold. As granted, with
the maximum burst in force at the grant (R200). -/
structure ArbRequest where
  requester : Nat
  issue : Nat
  cycles : Nat
  burst : Nat := 0
  deriving DecidableEq, Repr

end Sys2Proof.Machine
end

