-- ==== Sys2Proof/Syntax.lean ====
section
/-! DEFINITION. The commands of the block: one constructor per row of the table of operations and events.
A row of the command interface names the Quetha core that dequeues it (R322); a row that something outside
brings about carries what arrives with it. -/

namespace Sys2Proof

open Sys2Proof.Machine

/-- The operations and events of the part. -/
inductive Instr where
  /-- BEAT_BOUNDARY (R34). -/
  | beatBoundary (i : BeatInput)
  /-- COALESCED_SUMMARY_STAGED (R404). -/
  | coalescedSummaryStaged
  /-- ANCHOR_REFERENCE_BOUNDARY (R37). -/
  | anchorReferenceBoundary (source pos : Nat)
  /-- ANCHOR_REFERENCE_LOST (R40). -/
  | anchorReferenceLost
  /-- PPS_EDGE (R43). -/
  | ppsEdge (rising : Bool) (pos : Nat)
  /-- PPS_LOST (R43). -/
  | ppsLost
  /-- PM_SECOND_BOUNDARY (R44). -/
  | pmSecondBoundary
  /-- UNTIMED_COMMAND_EFFECT (R45). -/
  | untimedCommandEffect
  /-- TIMED_COMMAND_APPLY (R48). -/
  | timedCommandApply
  /-- DOORBELL (R319). -/
  | doorbell (mb : Nat)
  /-- RSP_CONS_WRITE (R318). -/
  | rspConsWrite (mb value : Nat)
  /-- ANNOUNCED_COMMAND_ACKNOWLEDGED (R319). -/
  | announcedCommandAcknowledged (mb : Nat)
  /-- CORE_WATCHDOG_EXPIRY (R416). -/
  | coreWatchdogExpiry (core : Nat)
  /-- ALL_CORES_HALTED (R416). -/
  | allCoresHalted
  /-- SYS_IDENTIFY (R355). -/
  | sysIdentify (core : Nat)
  /-- SYS_STATUS (R356). -/
  | sysStatus (core : Nat)
  /-- SYS_CANCEL (R357). -/
  | sysCancel (core : Nat)
  /-- SYS_ECHO (R358). -/
  | sysEcho (core : Nat)
  /-- SYS_MBX_GRANT (R359). -/
  | sysMbxGrant (core : Nat)
  /-- SYS_WINDOW_SET (R360). -/
  | sysWindowSet (core : Nat)
  /-- FW_STAGE (R424). -/
  | fwStage (core : Nat)
  /-- FW_STAGE_COMPLETE (R424). -/
  | fwStageComplete (image : Option FwImage)
  /-- FW_ACTIVATE (R425). -/
  | fwActivate (core : Nat)
  /-- FW_ROLLBACK (R427). -/
  | fwRollback (core : Nat)
  /-- FW_PAUSE_BEGIN (R425). -/
  | fwPauseBegin
  /-- FW_PAUSE_END (R425). -/
  | fwPauseEnd
  /-- FW_TRIAL_SUCCESS (R426). -/
  | fwTrialSuccess
  /-- FW_TRIAL_FAILURE (R426). -/
  | fwTrialFailure (cause : Nat)
  /-- TIME_ANCHOR_SET (R50). -/
  | timeAnchorSet (core : Nat)
  /-- TIME_READ (R51). -/
  | timeRead (core : Nat)
  /-- TIME_PPS_SET (R52). -/
  | timePpsSet (core : Nat)
  /-- TIME_PENDING (R53). -/
  | timePending (core : Nat)
  /-- SCHED_LOAD (R85). -/
  | schedLoad (core : Nat)
  /-- SCHED_STORE_DONE (R85). -/
  | schedStoreDone (ok : Bool)
  /-- SCHED_VERIFY (R86). -/
  | schedVerify (core : Nat) (read : Option (List Byte))
  /-- SCHED_SWAP (R87). -/
  | schedSwap (core : Nat)
  /-- SCHED_STATUS (R88). -/
  | schedStatus (core : Nat)
  /-- SCHED_DISCARD (R89). -/
  | schedDiscard (core : Nat)
  /-- SWAP_ARM (R75). -/
  | swapArm
  /-- SWAP_COMMIT_DECISION (R76). -/
  | swapCommitDecision (acks : Nat) (twinAck : Bool)
  /-- SWAP_EFFECT (R75). -/
  | swapEffect (latched : Nat)
  /-- STANDBY_COMMIT_MISSING (R76). -/
  | standbyCommitMissing
  /-- LP_ENABLE (R115). -/
  | lpEnable (core : Nat)
  /-- LP_STATUS (R116). -/
  | lpStatus (core : Nat)
  /-- LP_LANE_SET (R117). -/
  | lpLaneSet (core : Nat)
  /-- LP_LADDER_POLICY (R118). -/
  | lpLadderPolicy (core : Nat)
  /-- LP_LADDER_STEP (R119). -/
  | lpLadderStep (core : Nat)
  /-- LP_OTU_OH_SET (R120). -/
  | lpOtuOhSet (core : Nat)
  /-- LANE_UP (R95). -/
  | laneUp (lane : Nat)
  /-- LANE_DOWN (R95). -/
  | laneDown (lane : Nat)
  /-- FLEXO_FRAME_STATE_CHANGE (R95). -/
  | flexoFrameStateChange (port inst state : Nat)
  /-- FLEXO_GROUP_STATE_CHANGE (R95). -/
  | flexoGroupStateChange (port : Nat) (aligned : Bool)
  /-- OTUC_FRAME_STATE_CHANGE (R95). -/
  | otucFrameStateChange (port inst : Nat) (inFrame : Bool)
  /-- OTUC_MULTIFRAME_STATE_CHANGE (R95). -/
  | otucMultiframeStateChange (port inst : Nat) (inMf : Bool)
  /-- PORT_MULTIFRAME_ALIGNED (R96). -/
  | portMultiframeAligned (port : Nat)
  /-- PORT_MULTIFRAME_LOST (R96). -/
  | portMultiframeLost (port : Nat)
  /-- SG_INDICATION_ASSERTED (R99). -/
  | sgIndicationAsserted (port which : Nat)
  /-- SG_INDICATION_CLEARED (R99). -/
  | sgIndicationCleared (port which : Nat)
  /-- TTI_ACCEPTED (R98). -/
  | ttiAccepted (site : TtiSite) (tti : List Byte)
  /-- RX_MF_START (R42). -/
  | rxMfStart (port pos : Nat) (unavailable : List Nat)
  /-- RX_GENERATION_MARK (R81). -/
  | rxGenerationMark (port mark : Nat)
  /-- LCC_REQ_RECEIVED (R103). -/
  | lccReqReceived (port word inverse : Nat)
  /-- LCC_ANN_RECEIVED (R103). -/
  | lccAnnReceived (port word inverse : Nat)
  /-- LCC_MESSAGE_RECEIVED (R104). -/
  | lccMessageReceived (port : Nat) (words : List Nat)
  /-- LCC_FALLBACK (R105). -/
  | lccFallback (port : Nat)
  /-- RX_STEP_APPLY (R112). -/
  | rxStepApply (port : Nat)
  /-- RX_STEP_RESYNC (R112). -/
  | rxStepResync (port : Nat)
  /-- STEP_PIN_QUALIFIED (R108). -/
  | stepPinQualified (port : Nat)
  /-- LADDER_REQUEST_TIMEOUT (R109). -/
  | ladderRequestTimeout (port : Nat)
  /-- LADDER_ANNOUNCE_START (R110). -/
  | ladderAnnounceStart (port : Nat)
  /-- LADDER_STEP_APPLY (R110). -/
  | ladderStepApply (port : Nat)
  /-- ODU_TTI_SET (R136). -/
  | oduTtiSet (core : Nat)
  /-- ODU_TCM_SET (R137). -/
  | oduTcmSet (core : Nat)
  /-- ODU_OH_WRITE (R138). -/
  | oduOhWrite (core : Nat)
  /-- ODU_OH_READ (R139). -/
  | oduOhRead (core : Nat)
  /-- DM_MEASURE_DONE (R132). -/
  | dmMeasureDone (obj level : Nat)
  /-- CH_STATUS (R169). -/
  | chStatus (core : Nat)
  /-- CH_MAINT (R170). -/
  | chMaint (core : Nat)
  /-- CH_MAINT_EXPIRY (R170). -/
  | chMaintExpiry (ch flow : Nat)
  /-- CP_CONFIG (R171). -/
  | cpConfig (core : Nat)
  /-- CH_RATE_READ (R172). -/
  | chRateRead (core : Nat)
  /-- RATE_TRACKER_PERIOD (R157). -/
  | rateTrackerPeriod (ch stage : Nat)
  /-- RECEIVED_COUNT (R155). -/
  | receivedCount (ch stage value : Nat) (crcOk : Bool)
  /-- RAMP_STATE_END (R166). -/
  | rampStateEnd (ch : Nat)
  /-- BLOCK_LOCK_GAINED (R150). -/
  | blockLockGained (ch : Nat)
  /-- BLOCK_LOCK_LOST (R150). -/
  | blockLockLost (ch : Nat)
  /-- SG_STATUS (R202). -/
  | sgStatus (core : Nat)
  /-- SKEW_READ (R203). -/
  | skewRead (core : Nat)
  /-- FAR_BUDGET_READ (R204). -/
  | farBudgetRead (core : Nat)
  /-- ARB_DEADLINE_SET (R205). -/
  | arbDeadlineSet (core : Nat)
  /-- DIE_LINK_DOWN (R177). -/
  | dieLinkDown (slice : Nat)
  /-- SLICE_FAILURE_DECLARED (R275). -/
  | sliceFailureDeclared (slice : Nat) (report : Bool)
  /-- DESKEW_RELEASE (R186): the number of data words released; members of which the far tier returns the first of them
  uncorrectable (R193). -/
  | deskewRelease (sg words : Nat) (poisoned : List Nat)
  /-- SG_UP (R188). -/
  | sgUp (sg : Nat)
  /-- FAR_DESKEW_UNAVAILABLE (R193). -/
  | farDeskewUnavailable (cause : Nat)
  /-- ALIGNED_SIGNATURE_PERIOD (R195). -/
  | alignedSignaturePeriod (pg wSig pSig wArrival pArrival : Nat)
  /-- ALIGNED_MATCH_TIMEOUT (R196). -/
  | alignedMatchTimeout (pg : Nat)
  /-- ARBITER_GRANT (R199). -/
  | arbiterGrant (resource : Nat) (requests : List ArbRequest)
  /-- ARB_CUTOFF (R199). -/
  | arbCutoff (requester : Nat)
  /-- FAR_READ_DEADLINE_MISS (R201). -/
  | farReadDeadlineMiss (owner index cells : Nat)
  /-- DEF_READ (R223). -/
  | defRead (core : Nat)
  /-- DEF_MASK (R224). -/
  | defMask (core : Nat)
  /-- DEF_DEG_SET (R225). -/
  | defDegSet (core : Nat)
  /-- PM_READ (R226). -/
  | pmRead (core : Nat)
  /-- PM_BIN_SET (R227). -/
  | pmBinSet (core : Nat)
  /-- DEFECT_RAISED (R210). -/
  | defectRaised (obj layer defect : Nat)
  /-- DEFECT_CLEARED (R210). -/
  | defectCleared (obj layer defect : Nat)
  /-- CONSEQUENT_ACTION_EVALUATION (R212). -/
  | consequentActionEvaluation
  /-- HOLDOFF_EXPIRY (R233). -/
  | holdoffExpiry (pg path : Nat)
  /-- WTR_EXPIRY (R239). -/
  | wtrExpiry (pg : Nat)
  /-- APS_ACCEPTED (R236). -/
  | apsAccepted (pg : Nat) (aps : List Byte)
  /-- PATH_MONITOR_FRAME_CHANGE (R231). -/
  | pathMonitorFrameChange (pg path : Nat) (inFrame : Bool)
  /-- DFOP_NR_TIMEOUT (R253). -/
  | dfopNrTimeout (pg : Nat)
  /-- PG_COMMAND (R252). -/
  | pgCommand (core : Nat)
  /-- PG_STATUS (R253). -/
  | pgStatus (core : Nat)
  /-- PG_TIMERS (R254). -/
  | pgTimers (core : Nat)
  /-- GALULO_FRAME_RECEIVED (R264). -/
  | galuloFrameReceived (frame : GWire)
  /-- STATE_CORRECTION_APPLY (R269). -/
  | stateCorrectionApply
  /-- SINTER_TWIN_COMMIT (R270). -/
  | sinterTwinCommit
  /-- MIRROR_ACK_TIMEOUT (R268). -/
  | mirrorAckTimeout
  /-- DIGEST_COMPARE (R272). -/
  | digestCompare
  /-- RESYNC_ALIGN (R273). -/
  | resyncAlign (port : Nat)
  /-- RESYNC_TIMEOUT (R273). -/
  | resyncTimeout (port : Nat)
  /-- GALULO_LINK_UP (R263). -/
  | galuloLinkUp
  /-- GALULO_LINK_DOWN (R277). -/
  | galuloLinkDown (lanes : Nat)
  /-- GALULO_FRAME_TIMEOUT (R275). -/
  | galuloFrameTimeout
  /-- PAIR_ALIVE_IN_LOW (R258). -/
  | pairAliveInLow
  /-- KEEPALIVE_WATCHDOG_EXPIRY (R258). -/
  | keepaliveWatchdogExpiry
  /-- FAILURE_TAKEOVER (R275). -/
  | failureTakeover
  /-- XSTBY_SAMPLE (R279). -/
  | xstbySample (a b : Bool)
  /-- XSTBY_DISCREPANCY (R279). -/
  | xstbyDiscrepancy
  /-- WAIT_TIMEOUT_ACTIVE (R262). -/
  | waitTimeoutActive
  /-- FC_ADOPTION (R35). -/
  | fcAdoption
  /-- JOIN_PHASE_COMPLETE (R274). -/
  | joinPhaseComplete
  /-- JOIN_PHASE_TIMEOUT (R274). -/
  | joinPhaseTimeout
  /-- JOIN_RETRY (R274). -/
  | joinRetry
  /-- HANDOVER_EFFECT (R280). -/
  | handoverEffect
  /-- HANDOVER_NO_ANSWER (R280). -/
  | handoverNoAnswer
  /-- PAIR_SET (R282). -/
  | pairSet (core : Nat)
  /-- PAIR_JOIN (R283). -/
  | pairJoin (core : Nat)
  /-- PAIR_STATUS (R284). -/
  | pairStatus (core : Nat)
  /-- PAIR_TAKEOVER (R285). -/
  | pairTakeover (core : Nat)
  /-- PAIR_YIELD (R285). -/
  | pairYield (core : Nat)
  /-- PAIR_DISCREPANCY_SET (R286). -/
  | pairDiscrepancySet (core : Nat)
  /-- FUM_PORT_SET (R307). -/
  | fumPortSet (core : Nat)
  /-- FUM_BIND (R308). -/
  | fumBind (core : Nat)
  /-- FUM_UNBIND (R309). -/
  | fumUnbind (core : Nat)
  /-- FUM_UNBIND_COMPLETE (R301). -/
  | fumUnbindComplete (src : Nat)
  /-- FUM_STATUS (R310). -/
  | fumStatus (core : Nat)
  /-- FUM_PEEK (R311). -/
  | fumPeek (core : Nat)
  /-- GCC_LINE_FRAME_RECEIVED (R291). -/
  | gccLineFrameReceived (src : Nat) (bytes : List Byte) (aborted : Bool)
  /-- FUM_PORT_FRAME_RECEIVED (R292). -/
  | fumPortFrameReceived (port : Nat) (bytes : List Byte) (aborted : Bool)
  /-- FUM_ITEM_BOUNDARY (R295). -/
  | fumItemBoundary (port : Nat)
  /-- FUM_BANK_EXCHANGE (R295). -/
  | fumBankExchange (port : Nat)
  /-- FUM_UNDERRUN (R296). -/
  | fumUnderrun (port : Nat)
  /-- FUM_IMPORT_FRAME_SENT (R300). -/
  | fumImportFrameSent (src : Nat)
  /-- CRC_CTX_SEL_WRITE (R305). -/
  | crcCtxSelWrite (unit value : Nat)
  /-- CRC_CFG_WRITE (R306). -/
  | crcCfgWrite (unit value : Nat)
  /-- CRC_DATA_B_WRITE (R304). -/
  | crcDataBWrite (unit value : Nat)
  /-- CRC_DATA_H_WRITE (R304). -/
  | crcDataHWrite (unit value : Nat)
  /-- CRC_DATA_W_WRITE (R304). -/
  | crcDataWWrite (unit value : Nat)
  /-- CRC_VALUE_WRITE (R305). -/
  | crcValueWrite (unit value : Nat)
  /-- FC_LO_READ (R316). -/
  | fcLoRead
  /-- LWF_LOST_READ (R316). -/
  | lwfLostRead
  /-- LWF_POP (R316). -/
  | lwfPop (value : Nat)
  /-- REGISTER_WRITE (R11). -/
  | registerWrite (w : RegWrite)
  /-- HOST_WINDOW_ACCESS (R326). -/
  | hostWindowAccess (off : Nat) (a : WinAccess)
  /-- LATE_WRITE_FAULT (R330). -/
  | lateWriteFault (master id addr win cause : Nat)
  /-- DMA_TRANSFER_FAILED (R314). -/
  | dmaTransferFailed (user : DmaUser)
  /-- PERST_N_ASSERTED (R315). -/
  | perstNAsserted
  /-- PCIE_LINK_CHANGE (R315). -/
  | pcieLinkChange (up hot : Bool) (width speed : Nat)
  /-- PCIE_FLR (R315). -/
  | pcieFlr
  /-- SINTER_READ (R375). -/
  | sinterRead (core : Nat)
  /-- SINTER_WRITE (R376). -/
  | sinterWrite (core : Nat)
  /-- SINTER_WEAR (R377). -/
  | sinterWear (core : Nat)
  /-- SINTER_BAR0_WRITE (R366). -/
  | sinterBar0Write (off width value : Nat)
  /-- SINTER_COMMIT (R367). -/
  | sinterCommit (second ok : Bool)
  /-- CNT_READ (R392). -/
  | cntRead (core : Nat)
  /-- CNT_CHAIN_SET (R393). -/
  | cntChainSet (core : Nat)
  /-- CNT_FILTER_SET (R394). -/
  | cntFilterSet (core : Nat)
  /-- GEYSER_SET (R395). -/
  | geyserSet (core : Nat)
  /-- GEYSER_POST (R396). -/
  | geyserPost (core : Nat)
  /-- GEYSER_SNAPSHOT (R389). -/
  | geyserSnapshot
  /-- GEYSER_DUMP_WRITTEN (R391). -/
  | geyserDumpWritten
  /-- EVT_READ (R409). -/
  | evtRead (core : Nat)
  /-- EVT_MASK (R410). -/
  | evtMask (core : Nat)
  /-- EVT_BLACKBOX_READ (R411). -/
  | evtBlackboxRead (core : Nat)
  /-- EVENT_STAGED (R402). -/
  | eventStaged
  /-- TEPHRA_RECORD_WRITE (R402). -/
  | tephraRecordWrite
  /-- OVERFLOW_SUMMARY_STAGED (R403). -/
  | overflowSummaryStaged
  /-- LOG_MEMORY_FAULT (R406). -/
  | logMemoryFault (slot : Nat) (onWrite : Bool)
  /-- PWR_DOMAIN_SET (R436). -/
  | pwrDomainSet (core : Nat)
  /-- PWR_STATUS (R437). -/
  | pwrStatus (core : Nat)
  /-- PWR_DORMANT (R438). -/
  | pwrDormant (core : Nat)
  /-- DOMAIN_RISING_START (R431). -/
  | domainRisingStart (domain : Nat)
  /-- DOMAIN_READY (R431). -/
  | domainReady (domain : Nat)
  /-- VAON_APPLIED (R414). -/
  | vaonApplied
  /-- RAIL_REACHED (R414). -/
  | railReached (ok : Bool)
  /-- RAIL_FAULT (R415). -/
  | railFault (order : Nat)
  /-- RAIL_FAULT_RESTART (R415). -/
  | railFaultRestart
  /-- RESET_N (R416). -/
  | resetN
  /-- BOOT (R419). -/
  | boot (flash : Option FlashInput)
  /-- REFCLK_BAD (R429). -/
  | refclkBad (b : Bool)
  /-- REFCLK_GOOD (R429). -/
  | refclkGood (b : Bool)
  /-- DORM_REQ (R433). -/
  | dormReq (wakeLow : Bool)
  /-- DORMANT_ENTRY (R433). -/
  | dormantEntry
  /-- WAKE (R435). -/
  | wake
  /-- PRBS_SET (R460). -/
  | prbsSet (core : Nat)
  /-- PRBS_READ (R461). -/
  | prbsRead (core : Nat)
  /-- PRBS_SYNC_CHANGE (R444). -/
  | prbsSyncChange (obj : Nat) (sync : Bool)
  /-- LOOP_SET (R462). -/
  | loopSet (core : Nat)
  /-- LOCK_CHALLENGE (R463). -/
  | lockChallenge (core : Nat)
  /-- LOCK_RESPOND (R463). -/
  | lockRespond (core : Nat)
  /-- LOCK_PASSWORD (R464). -/
  | lockPassword (core : Nat)
  /-- LOCK_CLOSE (R464). -/
  | lockClose (core : Nat)
  /-- LOCK_PASSWORD_SET (R465). -/
  | lockPasswordSet (core : Nat)
  /-- VENDOR_DIAGNOSTIC (R353). -/
  | vendorDiagnostic (core : Nat)
  /-- NONCE_EXPIRY (R452). -/
  | nonceExpiry
  /-- LOCK_BACKOFF_END (R453). -/
  | lockBackoffEnd
  /-- LOCK_SESSION_EXPIRY (R454). -/
  | lockSessionExpiry
  /-- JTAG_INSTRUCTION (R448). -/
  | jtagInstruction (i : JtagInstr)
  /-- UART_CHARACTER_RECEIVED (R455). -/
  | uartCharacterReceived (byte : Byte) (stop : Bool)
  /-- UART_COUNTER_READ (R459). -/
  | uartCounterRead
  /-- PMB_START (R457). -/
  | pmbStart (unit : Nat)
  /-- PMB_ARBITRATION_LOST (R458). -/
  | pmbArbitrationLost (unit : Nat)
  /-- PMB_RETRY (R458). -/
  | pmbRetry (unit : Nat)
  /-- PMB_TRANSACTION_DONE (R457). -/
  | pmbTransactionDone (unit : Nat) (nack : Bool) (data : List Byte)
  /-- SCHED_LOAD_COMPLETE (R85). -/
  | schedLoadComplete (read : Option (List Byte))
  /-- DOMAIN_OFF (R431). -/
  | domainOff (domain : Nat)
  /-- DIE_LINK_UP (R177). -/
  | dieLinkUp (slice : Nat)
  /-- POWER_REMOVED (R369). -/
  | powerRemoved (committed : Bool)
  /-- PAIR_ALIVE_IN_HIGH (R258). -/
  | pairAliveInHigh
  /-- FUM_TRANSPARENT_BYTE_RECEIVED (R293). -/
  | fumTransparentByteReceived (port : Nat) (byte : Byte)
  /-- CLIENT_LANE_DOWN (R147). -/
  | clientLaneDown (lane : Nat)
  /-- CLIENT_LANE_UP (R147). -/
  | clientLaneUp (lane : Nat)
  /-- CLIENT_OTU_FRAME_STATE_CHANGE (R147). -/
  | clientOtuFrameStateChange (lane : Nat) (inFrame inMf : Bool)
  deriving DecidableEq, Repr

end Sys2Proof
end

