-- ==== Sys2Proof/Decode.lean ====
section
/-! DEFINITION. The words of the table: no row of the table of operations and events gives bits, so no word spells
a command. -/

namespace Sys2Proof

/-- The command that a word spells by the table's bits; the table gives no row any bits. -/
def decodeTableWord (_nbits _w : Nat) : Option Instr := none

end Sys2Proof
end

