-- ==== Sys2Proof/Config.lean ====
section
/-! DEFINITION. What one part fixes and the manual does not number: constants with no body, so that every
statement holds whatever they are. -/

namespace Sys2Proof.Config

open Sys2Proof Sys2Proof.Machine

/-- Values the hub's random source gives (nonce of R452, salt of R465), by draw. -/
opaque freeValue : Nat → BitVec 128

/-- Fused identifier, unique per device (UNIT_ID, R355). -/
opaque unitId : BitVec 64

/-- UNIT_ID of the twin: no field of a Galulo frame carries it (R365, word 66). -/
opaque twinUnitId : BitVec 64

/-- Internal hub SRAM address at which the BAR1 rings stand (R317, R328 give no base). -/
opaque bar1Base : BitVec 23

/-- Offset of the near-deskew SRAM in a slice's range of internal addresses (R328 gives none). -/
opaque nearBase : BitVec 27

/-- HMAC-SHA-256 under the device-unique fused key (R451, R452), as a number of 256 bits. -/
opaque hmac : List Byte → BitVec 256

/-- What a read of internal address `a` returns where the manual lays out no contents (slice registers and
near-deskew SRAM, hub registers it does not list, the vendor range). -/
opaque slicePeek : Nat → Nat → Byte

/-- Transmit latency of each line port in ns (TX_LAT; R111 bounds it, the part fixes it). -/
opaque txLat : Nat → BitVec 16

/-- What a flash slot holds after a store into it failed: from the bytes before and those that were to be stored. -/
opaque failedStore : List Byte → List Byte → List Byte

/-- Payload type that G.709 assigns to the mapping of a client type (R131). -/
opaque payloadType : Nat → BitVec 8

/-- The six justification-control bytes of a count and its ΣCnD, as G.709 codes them (R124). -/
opaque jcBytes : Nat → Nat → List Byte

/-- The count that six justification-control bytes carry, and whether their CRC checks (R155). -/
opaque jcRead : List Byte → Nat × Bool

/-- Byte of the replacement signal of a client type, by its place in the stream (R158, R170: as G.709 gives). -/
opaque replacement : Nat → Nat → Byte

/-- The sixteen 66b blocks of one 1,027-bit block of a transcoded 40GBASE-R client, as IEEE 802.3 codes them (R146). -/
opaque blocks1027 : List Bool → List Block66

/-- One 1,027-bit block of sixteen 66b blocks of a 40GBASE-R client, as IEEE 802.3 codes it (R144). -/
opaque bits1027 : List Block66 → List Bool

end Sys2Proof.Config
end

