-- ==== Sys2Proof/Machine/Bits.lean ====
section
/-! DEFINITION. Byte order, bit fields, clamping, saturation, sparse tables and the check-value
computations (R4 to R6, R58, R104, R303, R343, R344): the helpers every meaning uses. -/

namespace Sys2Proof.Machine

/-! ### Sparse tables -/

/-- The entry at index `k`, or `d` where the table lists none. -/
def Tab.get {α : Type} (d : α) : Tab α → Nat → α
  | [], _ => d
  | (j, a) :: t, k => if j = k then a else Tab.get d t k

/-- Put `a` at index `k`, keeping the indices rising. -/
def Tab.set {α : Type} : Tab α → Nat → α → Tab α
  | [], k, a => [(k, a)]
  | (j, b) :: t, k, a =>
    if j = k then (k, a) :: t
    else if k < j then (k, a) :: (j, b) :: t
    else (j, b) :: Tab.set t k a

/-- Apply `f` to the entry at index `k`, taking `d` where none is listed. -/
def Tab.modify {α : Type} (d : α) (t : Tab α) (k : Nat) (f : α → α) : Tab α :=
  Tab.set t k (f (Tab.get d t k))

/-- Take the entry at index `k` out of the table. -/
def Tab.drop {α : Type} : Tab α → Nat → Tab α
  | [], _ => []
  | (j, a) :: t, k => if j = k then t else (j, a) :: Tab.drop t k

/-! ### Bytes and bit fields -/

/-- The bytes of `v`, least significant first, in `n` bytes (R6). -/
def leBytes : Nat → Nat → List Byte
  | 0, _ => []
  | n + 1, v => BitVec.ofNat 8 v :: leBytes n (v / 256)

/-- The number that bytes spell, least significant first (R6). -/
def leNat : List Byte → Nat
  | [] => 0
  | b :: t => b.toNat + 256 * leNat t

/-- The bytes of `v`, most significant first (R6, for fields on the line). -/
def beBytes (n v : Nat) : List Byte := (leBytes n v).reverse

/-- The number that bytes spell, most significant first. -/
def beNat (l : List Byte) : Nat := leNat l.reverse

/-- Byte `i` of a list; a byte beyond its end reads as 0x00 (R346, short payload). -/
def byteAt (l : List Byte) (i : Nat) : Byte := l.getD i 0

/-- Field of `n` bytes at offset `i`, little-endian, missing bytes read as 0x00 (R346). -/
def fieldAt (l : List Byte) : Nat → Nat → Nat
  | _, 0 => 0
  | i, n + 1 => (byteAt l i).toNat + 256 * fieldAt l (i + 1) n

/-- The `n` bytes from offset `i`, missing bytes read as 0x00. -/
def sliceAt (l : List Byte) : Nat → Nat → List Byte
  | _, 0 => []
  | i, n + 1 => byteAt l i :: sliceAt l (i + 1) n

/-- A list of bytes cut or filled with 0x00 to `n` bytes. -/
def padTo (n : Nat) (l : List Byte) : List Byte := sliceAt l 0 n

/-- `n` bytes of 0x00. -/
def zeros (n : Nat) : List Byte := List.replicate n 0

/-- Bits [hi:lo] of a number (R5). -/
def bits (v hi lo : Nat) : Nat := (v / 2 ^ lo) % 2 ^ (hi + 1 - lo)

/-- Bit `i` of a number. -/
def bit (v i : Nat) : Bool := v / 2 ^ i % 2 == 1

/-- 1 for true, 0 for false. -/
def b2n (b : Bool) : Nat := if b then 1 else 0

/-- Bit `i` of `v` made equal to `b`. -/
def setBit (v i : Nat) (b : Bool) : Nat :=
  if bit v i == b then v else if b then v + 2 ^ i else v - 2 ^ i

/-- The number whose bit `i` is the `i`-th truth value. -/
def bitsOf : List Bool → Nat
  | [] => 0
  | b :: t => b2n b + 2 * bitsOf t

/-- Bits that stand in both numbers, over the low `w` bits. -/
def andBits (w a b : Nat) : Nat := bitsOf ((List.range w).map fun i => bit a i && bit b i)

/-- Bits that stand in either number, over the low `w` bits. -/
def orBits (w a b : Nat) : Nat := bitsOf ((List.range w).map fun i => bit a i || bit b i)

/-- Number of one bits among the low `w` bits. -/
def popCount (w a : Nat) : Nat := ((List.range w).filter fun i => bit a i).length

/-- A signed value read from `n` bytes of two's complement. -/
def signed (n v : Nat) : Int :=
  if v < 2 ^ (8 * n - 1) then (v : Int) else (v : Int) - 2 ^ (8 * n)

/-- The `n`-byte two's complement of a signed value. -/
def unsigned (n : Nat) (v : Int) : Nat := (v % (2 ^ (8 * n) : Int)).toNat

/-- Clamp to a range (R343). -/
def clamp (lo hi v : Nat) : Nat := if v < lo then lo else if hi < v then hi else v

/-- Clamp a signed value (R343). -/
def clampI (lo hi v : Int) : Int := if v < lo then lo else if hi < v then hi else v

/-- Fallback code `n` for an enumeration whose codes run 0 to `top` (R344). -/
def fallback (top n v : Nat) : Nat := if v ≤ top then v else n

/-- A count that stays at its greatest value. -/
def satAdd (top v k : Nat) : Nat := min top (v + k)

/-- 0xFFFF_FFFF, where most status counts saturate. -/
def max32 : Nat := 0xFFFF_FFFF

/-! ### Check values -/

/-- Bits of a byte, most significant first. -/
def byteBitsMsb (b : Byte) : List Bool := (List.range 8).map fun i => b.getLsbD (7 - i)

/-- Bits of a byte, least significant first. -/
def byteBitsLsb (b : Byte) : List Bool := (List.range 8).map fun i => b.getLsbD i

/-- One bit fed to a CRC register of width `w` held most significant bit first. -/
def crcStep (w : Nat) (poly : BitVec w) (r : BitVec w) (d : Bool) : BitVec w :=
  if (r.msb ^^ d) then (r <<< 1) ^^^ poly else r <<< 1

/-- One bit fed to a reflected CRC register: the polynomial is given bit-reversed. -/
def crcStepR (w : Nat) (rpoly : BitVec w) (r : BitVec w) (d : Bool) : BitVec w :=
  if (r.getLsbD 0 ^^ d) then (r >>> 1) ^^^ rpoly else r >>> 1

/-- Bytes fed in order, each most significant bit first, with no reflection. -/
def crcFeed (w : Nat) (poly : BitVec w) (r : BitVec w) (l : List Byte) : BitVec w :=
  l.foldl (fun r b => (byteBitsMsb b).foldl (crcStep w poly) r) r

/-- Bytes fed in order, each least significant bit first, the register held reflected (R304). -/
def crcFeedR (w : Nat) (rpoly : BitVec w) (r : BitVec w) (l : List Byte) : BitVec w :=
  l.foldl (fun r b => (byteBitsLsb b).foldl (crcStepR w rpoly) r) r

/-- CRC-32C with the parameters of R58. -/
def crc32c (l : List Byte) : Nat :=
  ((crcFeedR 32 0x82F6_3B78#32 0xFFFF_FFFF#32 l) ^^^ 0xFFFF_FFFF#32).toNat

/-- LCC_CRC (R104): polynomial 0x1021, initial value 0xFFFF, no reflection, no final XOR. -/
def crcLcc (l : List Byte) : Nat := (crcFeed 16 0x1021#16 0xFFFF#16 l).toNat

/-- CRC-8 of R149, R180 and R259: polynomial 0x07, initial value 0x00. -/
def crc8 (l : List Byte) : Nat := (crcFeed 8 0x07#8 0x00#8 l).toNat

/-- CRC-8 over a string of bits in transmission order (SELBUS, R259). -/
def crc8Bits (l : List Bool) : Nat := (l.foldl (crcStep 8 0x07#8) 0x00#8).toNat

/-! ### Lists -/

/-- Replace the element at position `i`. -/
def setAt {α : Type} : List α → Nat → α → List α
  | [], _, _ => []
  | _ :: t, 0, a => a :: t
  | x :: t, n + 1, a => x :: setAt t n a

/-- The last `n` elements. -/
def lastN {α : Type} (n : Nat) (l : List α) : List α := l.drop (l.length - n)

/-- The sum of a list. -/
def sum (l : List Nat) : Nat := l.foldr (· + ·) 0

/-- Whether a list is strictly rising in a key. -/
def risingBy {α : Type} (f : α → Nat) : List α → Bool
  | [] => true
  | [_] => true
  | a :: b :: t => f a < f b && risingBy f (b :: t)

/-- Whether no value stands twice in a list. -/
def noRepeat : List Nat → Bool
  | [] => true
  | a :: t => !t.contains a && noRepeat t

/-- Insert by a key, after the elements of an equal key: a stable order. -/
def insertBy {α : Type} (f : α → Nat) (a : α) : List α → List α
  | [] => [a]
  | b :: t => if f a < f b then a :: b :: t else b :: insertBy f a t

/-- A stable sort by a key. -/
def sortBy {α : Type} (f : α → Nat) (l : List α) : List α := l.foldl (fun acc a => insertBy f a acc) []

end Sys2Proof.Machine
end

