-- ==== Sys2Proof/Machine/State.lean ====
section
/-! DEFINITION. The state of the block: everything the manual gives the device, the addressed memories, and the
queue of commands that wait. A default value is the value after reset. -/

namespace Sys2Proof.Machine

open Sys2Proof

/-- Byte memory: addresses strictly rising, no entry 0x00, which is what an unlisted address reads as. -/
abbrev Memory := List Host.Cell

/-- The schedule banks, loader and swap (chapter 3). -/
structure Sched where
  active : Option Image := none
  shadow : Option Image := none
  /-- Slices that a swap has left on other banks than the hub's: their active and their shadow bank (R76). -/
  stale : Tab (Option Image × Option Image) := []
  /-- The SCHED_LOAD in progress, and the swap that waits. -/
  load : Option LoadJob := none
  swap : Option SwapJob := none
  lastSwapFc : Nat := 0
  /-- GEN and IMAGE_CRC known to stand in the twin's shadow bank (V38). -/
  twinShadow : Option (Nat × Nat) := none
  /-- Flash stores, in order: slot and image bytes; the first is being written. The last one failed. -/
  stores : List (Nat × List Byte) := []
  storeFailed : Bool := false
  slotA : Option (List Byte) := none
  slotB : Option (List Byte) := none
  deriving DecidableEq, Repr

/-- Die links, far deskew and the arbiter (chapter 7). -/
structure Caldera where
  dieUp : Nat := 0xF
  /-- The HBM controller has declared the stack failed, or its error rate persists (R193). -/
  hbmFailed : Bool := false
  streams : List FarStream := []
  reqs : Tab Requester := []
  /-- Holder of resource 0 and 1: requester, deadline. -/
  holder0 : Option ArbRequest := none
  holder1 : Option ArbRequest := none
  /-- Uncorrectable words of the HBM stack in the MF in progress; MF in a row with more than one (R193). -/
  hbmWords : Nat := 0
  hbmRun : Nat := 0
  deriving DecidableEq, Repr

/-- PM origin (R227) and the second's bookkeeping. -/
structure PmDevice where
  origin : Nat := 0
  originNext : Nat := 0
  deriving DecidableEq, Repr

/-- The device. Tables are keyed by the index of R13 or R338; layers and PM entities by object ID × 256 + layer. -/
structure Dev where
  fc : Nat := 0
  anchor : Anchor := {}
  pps : Pps := {}
  sched : Sched := {}
  ports : Tab LinePort := []
  lanes : Tab LaneAttr := []
  clientLanesUp : Nat := 0
  odu : Tab OduState := []
  chans : Tab Channel := []
  clients : Tab ClientPort := []
  cald : Caldera := {}
  groups : Tab Spread := []
  layers : Tab Layer := []
  pms : Tab PmEntity := []
  pmDev : PmDevice := {}
  pgs : Tab PgState := []
  /-- Decision tokens of the device itself, with the Beat they are stamped for. -/
  tokens : List Token := []
  /-- BDI_MASK and ACTIONS in force per chain (R266), keyed by chain × 256 + index. -/
  acts : Tab Nat := []
  /-- FC of the Beat in which the evaluators last ran; what they hold for the objects that a committed swap starts. -/
  evalFc : Option Nat := none
  ahead : Option Ahead := none
  pair : Pair := {}
  fumPorts : Tab FumPort := []
  fumSources : Tab FumSource := []
  crc16 : CrcUnit := {}
  crc32 : CrcUnit := {}
  crc32c : CrcUnit := {}
  host : HostIf := {}
  sinter : Sinter := {}
  cnt : Counters := {}
  log : Tephra := {}
  pwr : Power := {}
  svc : Service := {}
  path : Path := {}
  /-- Draws made from the random source: the model's own field (Config.freeValue). -/
  free : Nat := 0
  deriving DecidableEq, Repr

/-- The whole state: the device, hub SRAM and HBM by internal address, the BAR1 rings, and the commands that wait,
first in first out. -/
structure State where
  dev : Dev := {}
  mem : Memory := []
  bar1 : Memory := []
  pending : List Instr := []
  deriving DecidableEq, Repr

/-- The machine right after reset. -/
def State.reset : State := {}

/-- Why the machine stops. -/
inductive Fault where
  /-- An access names an offset beyond the end of its BAR (R316, R317), which does not exist. Raised by
  REGISTER_WRITE, SINTER_BAR0_WRITE and HOST_WINDOW_ACCESS. Safe: nothing changes. -/
  | outsideBar
  deriving DecidableEq, Repr

/-- Why a command has no meaning. -/
inductive Refusal where
  /-- The arm of `exec` has no meaning yet. Safe. -/
  | notModelled (mnemonic : String)
  /-- A vendor diagnostic runs (0x0F20 to 0x0F2F): R351 does not describe it. Raised by VENDOR_DIAGNOSTIC. Safe. -/
  | vendorDiagnostic
  /-- A Zilpex-private JTAG instruction, which R448 does not describe. Raised by JTAG_INSTRUCTION. Safe. -/
  | privateJtag
  deriving DecidableEq, Repr

end Sys2Proof.Machine
end

