-- ==== Sys2Proof/Machine/Ops.lean ====
section
/-! DEFINITION. The named operations over memory, time, counters, events and responses that the meanings share. -/

namespace Sys2Proof.Machine

open Sys2Proof

/-! ### Memory -/

/-- The byte at an address; an unlisted address reads 0x00. -/
def Memory.read (m : Memory) (a : Nat) : Byte := Tab.get 0 m a

/-- Put a byte at an address, keeping the canonical form: 0x00 takes the entry out. -/
def Memory.write : Memory → Nat → Byte → Memory
  | [], a, b => if b = 0 then [] else [(a, b)]
  | (j, c) :: t, a, b =>
    if j = a then (if b = 0 then t else (a, b) :: t)
    else if a < j then (if b = 0 then (j, c) :: t else (a, b) :: (j, c) :: t)
    else (j, c) :: Memory.write t a b

/-- Put bytes at consecutive addresses. -/
def Memory.writeBytes : Memory → Nat → List Byte → Memory
  | m, _, [] => m
  | m, a, b :: t => Memory.writeBytes (Memory.write m a b) (a + 1) t

/-- Read `n` bytes from consecutive addresses. -/
def Memory.readBytes (m : Memory) : Nat → Nat → List Byte
  | _, 0 => []
  | a, n + 1 => Memory.read m a :: Memory.readBytes m (a + 1) n

/-- Write blocks, in order. -/
def Memory.puts (m : Memory) (l : List (Nat × List Byte)) : Memory :=
  l.foldl (fun m p => Memory.writeBytes m p.1 p.2) m

/-- Entries strictly above a bound, rising, none 0x00. -/
def Memory.wfFrom : Nat → Memory → Bool
  | _, [] => true
  | lo, (a, b) :: t => lo ≤ a && b != 0 && Memory.wfFrom (a + 1) t

/-- The canonical form of a memory. -/
def Memory.wf (m : Memory) : Bool := Memory.wfFrom 0 m

/-! ### Line Time (R34) -/

/-- Multiframe number. -/
def Dev.mfn (d : Dev) : Nat := d.fc / 256

/-- Beat within the multiframe. -/
def Dev.beat (d : Dev) : Nat := d.fc % 256

/-- FC of Beat 0 of a multiframe. -/
def fcOf (mfn : Nat) : Nat := mfn * 256

/-! ### Objects (R338) -/

/-- Object ID of a type and index. -/
def objId (type index : Nat) : Nat := type * 0x100_0000 + index

/-- Type of an object ID. -/
def objType (o : Nat) : Nat := o / 0x100_0000

/-- Index of an object ID. -/
def objIndex (o : Nat) : Nat := o % 0x100_0000

def objChannel (c : Nat) : Nat := objId 0x01 c
def objPort (p : Nat) : Nat := objId 0x02 p
def objClient (k : Nat) : Nat := objId 0x03 k
def objSpread (g : Nat) : Nat := objId 0x05 g
def objGroup (g : Nat) : Nat := objId 0x06 g
def objFum (p : Nat) : Nat := objId 0x07 p
def objSource (s : Nat) : Nat := objId 0x08 s
def objMailbox (n : Nat) : Nat := objId 0x09 n
def objDomain (k : Nat) : Nat := objId 0x0A k
def objWord (w : Nat) : Nat := objId 0x0B w
def objLane (l : Nat) : Nat := objId 0x0C l
def objDie (k : Nat) : Nat := objId 0x0D k

/-! ### Look-ups -/

def Dev.port (d : Dev) (p : Nat) : LinePort := Tab.get {} d.ports p
def Dev.chan (d : Dev) (c : Nat) : Channel := Tab.get {} d.chans c
def Dev.client (d : Dev) (k : Nat) : ClientPort := Tab.get {} d.clients k
def Dev.lane (d : Dev) (l : Nat) : LaneAttr := Tab.get {} d.lanes l
def Dev.group (d : Dev) (g : Nat) : Spread := Tab.get {} d.groups g
def Dev.pg (d : Dev) (g : Nat) : PgState := Tab.get {} d.pgs g
def Dev.oduOf (d : Dev) (o : Nat) : OduState := Tab.get {} d.odu o
def Dev.fum (d : Dev) (p : Nat) : FumPort := Tab.get {} d.fumPorts p
def Dev.source (d : Dev) (s : Nat) : FumSource := Tab.get {} d.fumSources s
def Dev.mb (d : Dev) (n : Nat) : Mailbox := Tab.get {} d.host.mbs n
def Dev.domain (d : Dev) (k : Nat) : Domain := Tab.get {} d.pwr.domains k

def Dev.setPort (d : Dev) (p : Nat) (x : LinePort) : Dev := { d with ports := Tab.set d.ports p x }
def Dev.setChan (d : Dev) (c : Nat) (x : Channel) : Dev := { d with chans := Tab.set d.chans c x }
def Dev.setClient (d : Dev) (k : Nat) (x : ClientPort) : Dev := { d with clients := Tab.set d.clients k x }
def Dev.setLane (d : Dev) (l : Nat) (x : LaneAttr) : Dev := { d with lanes := Tab.set d.lanes l x }
def Dev.setGroup (d : Dev) (g : Nat) (x : Spread) : Dev := { d with groups := Tab.set d.groups g x }
def Dev.setPg (d : Dev) (g : Nat) (x : PgState) : Dev := { d with pgs := Tab.set d.pgs g x }
def Dev.setOdu (d : Dev) (o : Nat) (x : OduState) : Dev := { d with odu := Tab.set d.odu o x }
def Dev.setFum (d : Dev) (p : Nat) (x : FumPort) : Dev := { d with fumPorts := Tab.set d.fumPorts p x }
def Dev.setSource (d : Dev) (s : Nat) (x : FumSource) : Dev := { d with fumSources := Tab.set d.fumSources s x }
def Dev.setMb (d : Dev) (n : Nat) (x : Mailbox) : Dev := { d with host := { d.host with mbs := Tab.set d.host.mbs n x } }
def Dev.setDomain (d : Dev) (k : Nat) (x : Domain) : Dev :=
  { d with pwr := { d.pwr with domains := Tab.set d.pwr.domains k x } }

/-! ### Power domains (R339, R431) -/

def domChannel (c : Nat) : Nat := c
def domPort (p : Nat) : Nat := 256 + p
def domClientQuad (q : Nat) : Nat := 264 + q
def domLineQuad (q : Nat) : Nat := 280 + q
def domNear (s : Nat) : Nat := 296 + s
def domFabric (s : Nat) : Nat := 300 + s
def domCore (n : Nat) : Nat := 304 + n
def domCaldera : Nat := 308
def domFar : Nat := 309
def domHbm : Nat := 310
def domGalulo : Nat := 311
def domPcie : Nat := 312
def domFum (p : Nat) : Nat := 313 + p
def domGeyser : Nat := 321
def domPrt : Nat := 322
def domTest : Nat := 323

/-- A domain counts as on only when READY (R431). -/
def Dev.domOn (d : Dev) (k : Nat) : Bool := (d.domain k).state == .ready

/-- A slice works: not failed, its fabric powered (R28, R30). -/
def Dev.sliceOn (d : Dev) (s : Nat) : Bool := bit d.pair.sliceHealth s && d.domOn (domFabric s)

/-- The quads and the slice of `n` client lanes from lane `k` on work (R28, R30). -/
def Dev.clientPowered (d : Dev) (k n : Nat) : Bool :=
  d.sliceOn (k / 16) && (List.range n).all fun j => d.domOn (domClientQuad ((k + j) / 4))

/-- The Caldera works: powered, and no fault in the hub (R28, R29). -/
def Dev.calderaOn (d : Dev) : Bool := d.domOn domCaldera && !d.pair.hubFault

/-- A channel's engine is powered, on a slice that works (R28, R30). -/
def Dev.enginePowered (d : Dev) (ch : Nat) : Bool := d.domOn (domChannel ch) && d.sliceOn (ch / 64)

/-- Whether a domain is RISING or READY. -/
def Dev.domRises (d : Dev) (k : Nat) : Bool := (d.domain k).state == .ready || (d.domain k).state == .rising

/-! ### Roles (R260) -/

/-- ACTIVE or ALONE: the device accepts state-changing commands. -/
def Dev.inCharge (d : Dev) : Bool := d.pair.role == .active || d.pair.role == .alone

/-- The twin's role, as its last valid frame says. -/
def Dev.twinRole (d : Dev) : Option Role := d.pair.rxHead.bind fun h => Role.ofCode h.role

/-- The twin follows: STANDBY, or JOINING at or after phase STATE, while the link is up (R268). -/
def Dev.twinFollows (d : Dev) : Bool :=
  d.pair.link == 2 && (d.twinRole == some .standby ||
    (d.twinRole == some .joining && (match d.pair.rxHead with | some h => 4 ≤ h.joinPhase | none => false)))

/-! ### Counter cells (R381, R382) -/

/-- Whether the pair of cell `c` is chained after reset (R382). -/
def chainedAtReset (c : Nat) : Bool :=
  let p := c - c % 2
  if p < 0x2000 then p % 32 == 24 || p % 32 == 26
  else if p < 0x2800 then (p - 0x2000) % 256 < 128 || (p - 0x2000) % 256 == 144
  else if p < 0x3000 then (p - 0x2800) % 32 < 4
  else if p < 0x4100 then true
  else if p < 0x4180 then true
  else if p < 0x53C0 then p == 0x5382
  else p < 0x5400 && (p - 0x53C0) % 16 == 0

/-- Whether the pair of cell `c` is chained now. -/
def Counters.chained (n : Counters) (c : Nat) : Bool := chainedAtReset c != n.flipped.contains (c / 2)

/-- Cell `c` counts `k` events of its own (R382): a chained lower cell carries, a chained upper cell loses them. -/
def Counters.tick (n : Counters) (c k : Nat) : Counters :=
  if n.chained c then
    if c % 2 = 1 then n
    else
      let v := Tab.get 0 n.cells c + 2 ^ 32 * Tab.get 0 n.cells (c + 1) + k
      { n with cells := Tab.set (Tab.set n.cells c (v % 2 ^ 32)) (c + 1) (v / 2 ^ 32 % 2 ^ 32) }
  else { n with cells := Tab.set n.cells c ((Tab.get 0 n.cells c + k) % 2 ^ 32) }

/-- Cell `c` counts `k` events; a count of nothing changes nothing. -/
def Dev.tick (d : Dev) (c k : Nat) : Dev := if k = 0 then d else { d with cnt := d.cnt.tick c k }

/-! ### Interrupts (R331, R332) -/

/-- MSI-X table entry of a vector: masked after reset, as PCIe gives it. -/
def HostIf.entry (h : HostIf) (v : Nat) : Nat := Tab.get (2 ^ 96) h.msix v

/-- Raise an MSI-X vector: at most one message per Beat; a masked vector sets its pending bit (R331). -/
def HostIf.vector (h : HostIf) (v : Nat) : HostIf :=
  if !h.linkUp then h
  else if bit (h.entry v) 96 then { h with pba := setBit h.pba v true }
  else { h with sentThisBeat := setBit h.sentThisBeat v true }

def Dev.vector (d : Dev) (v : Nat) : Dev := { d with host := d.host.vector v }

/-! ### Events (R398 to R404) -/

/-- Severity of an event code that has one severity; codes whose severity depends on the outcome give it when they
are raised. -/
def sevOf (code : Nat) : Nat :=
  if [0x0102, 0x010A, 0x0204, 0x0206, 0x0208, 0x0209, 0x0302, 0x030A, 0x030B, 0x0504, 0x0505, 0x0602, 0x0604, 0x0609,
      0x060B, 0x0706, 0x0804, 0x0805, 0x0902, 0x0904, 0x0906, 0x0908, 0x0909, 0x090B, 0x090C, 0x0B04, 0x0B05, 0x0C03,
      0x0012, 0x0013, 0x0E05, 0x0F04, 0x1002, 0x1006, 0x1007].contains code then 2
  else if [0x020A, 0x0506, 0x060A, 0x0C02, 0x0E02, 0x1102, 0x1103].contains code then 3
  else if [0x0002, 0x0003, 0x0004, 0x0010, 0x0101, 0x0107, 0x0108, 0x0201, 0x0203, 0x0205, 0x0207, 0x0301, 0x0304,
      0x0305, 0x0308, 0x0401, 0x0402, 0x0404, 0x0501, 0x0502, 0x0508, 0x0509, 0x0601, 0x0605, 0x0702, 0x0704, 0x0802,
      0x0803, 0x0806, 0x0903, 0x0905, 0x090D, 0x0A04, 0x0A05, 0x0C04, 0x0E01, 0x0E04, 0x0E06, 0x0F01,
      0x1101].contains code then 0
  else 1

/-- Event codes whose home chapter marks them coalesced per MF (R404). -/
def coalesces (code : Nat) : Bool :=
  [0x0001, 0x0108, 0x0503, 0x0504, 0x0507, 0x0608, 0x0609, 0x060B, 0x0701, 0x0702, 0x090E, 0x0A01, 0x0A02, 0x0A03,
   0x0A06, 0x0B01, 0x0B04, 0x0B06, 0x0C01, 0x0F01, 0x1001, 0x1003, 0x1104].contains code

/-- MSI-X vector of an event (R400, R255, R287, R332). -/
def vectorOf (code sev : Nat) : Nat :=
  if sev = 3 then 12
  else if code / 256 = 0x09 && 2 ≤ sev then 10
  else if code = 0x0801 || code = 0x0804 then 11
  else 8

/-- An event arises: it signals at once and goes to the staging queue (R400, R402). -/
def Dev.raiseAs (d : Dev) (code sev obj : Nat) (data : List Byte) (fromTwin : Bool) : Dev :=
  let v := vectorOf code sev
  let h := d.host
  let h := if v = 12 then { h with alarmFatal := true } else if v = 10 then { h with alarmPair := true } else h
  let h := if sev = 3 || Tab.get 2 d.log.irqMin (code / 256) ≤ sev then h.vector v else h
  { d with
    host := h
    log := { d.log with
      arising := d.log.arising ++
        [{ fc := d.fc, code := code, sev := sev, obj := obj, data := padTo 12 data, fromTwin := fromTwin }] } }

/-- An event of one severity arises from this device. -/
def Dev.raise (d : Dev) (code obj : Nat) (data : List Byte) : Dev := d.raiseAs code (sevOf code) obj data false

/-- Run a part of an effect whose input came over Galulo: its events carry FROM_TWIN (R398). -/
def Dev.asTwin (d : Dev) (f : Dev → Dev) : Dev :=
  let n := d.log.arising.length
  let e := f d
  { e with log := { e.log with
    arising := e.log.arising.take n ++ (e.log.arising.drop n).map fun x => { x with fromTwin := true } } }

/-! ### Late writes and decode errors (R329, R330) -/

/-- A decode error of a master (R329). -/
def Dev.decodeError (d : Dev) (master addr : Nat) : Dev :=
  let d := { d with host := { d.host with decodeErrors := satAdd max32 d.host.decodeErrors 1 } }
  (d.tick (0x4180 + master) 1).raise 0x1001 0 (leBytes 1 master ++ leBytes 5 addr)

/-! ### Running a command on the device -/

/-- The device is powered and out of reset. -/
def Dev.powered (d : Dev) : Bool := d.pwr.mode == .running || d.pwr.mode == .booting

/-- Order of events that arise in one hub cycle: CODE, then OBJECT, then DATA (R402). -/
def Event.key (e : Event) : Nat := (e.code * 2 ^ 32 + e.obj) * 2 ^ 96 + beNat e.data

/-- After a command: its events in the order of R402, its responses handed over. -/
def Dev.calm (d : Dev) (n : Nat) : Dev :=
  { d with
    host := { d.host with out := [] }
    log := { d.log with arising := d.log.arising.take n ++ sortBy Event.key (d.log.arising.drop n) } }

/-- The state after a command whose effect on the device is `d`: response slots are written into BAR1 (R321). -/
def State.settle (s : State) (d : Dev) : State :=
  { s with dev := d.calm s.dev.log.arising.length, bar1 := s.bar1.puts d.host.out }

/-- Run an effect whatever the power mode. -/
def State.always (s : State) (f : Dev → Dev) : Host.Outcome State Fault Refusal := .next (s.settle (f s.dev))

/-- Modes in which the rails of the hub are down or not yet up. -/
def PowerMode.dark (m : PowerMode) : Bool := m == .unpowered || m == .upSeq || m == .dormant || m == .faultWait

/-- Run an effect on the rails: hub SRAM, HBM and the rings lose their contents with their supply (R413). -/
def State.supply (s : State) (f : Dev → Dev) : Host.Outcome State Fault Refusal :=
  let t := s.settle (f s.dev)
  .next (if t.dev.pwr.mode.dark then { t with mem := [], bar1 := [] } else t)

/-- The state after a command whose events are logged in the order in which it raises them. -/
def State.settleInOrder (s : State) (d : Dev) : State :=
  { s with dev := { d with host := { d.host with out := [] } }, bar1 := s.bar1.puts d.host.out }

/-- Run an effect whose events are logged in the order in which it raises them (BOOT, R405). -/
def State.inOrder (s : State) (c : Dev → Bool) (f : Dev → Dev) : Host.Outcome State Fault Refusal :=
  .next (if c s.dev then s.settleInOrder (f s.dev) else s)

/-- Run an effect while the device is powered; otherwise nothing changes. -/
def State.run (s : State) (f : Dev → Dev) : Host.Outcome State Fault Refusal :=
  s.always fun d => if d.powered then f d else d

/-- Run an effect that needs a condition: its moment (R34 to R49). Where the moment has not come, nothing changes. -/
def State.runIf (s : State) (c : Dev → Bool) (f : Dev → Dev) : Host.Outcome State Fault Refusal :=
  s.run fun d => if c d then f d else d

/-- Run an effect that also reads and writes the memories. -/
def State.runMem (s : State) (f : State → State) : Host.Outcome State Fault Refusal :=
  if s.dev.powered then
    let t := f s
    .next { t with
      dev := t.dev.calm s.dev.log.arising.length
      bar1 := t.bar1.puts t.dev.host.out
      pending := s.pending }
  else .next s

end Sys2Proof.Machine
end

