-- ==== Sys2Proof/Machine/Operands.lean ====
section
/-! DEFINITION. The operand forms of the command interface: slots and headers, the opcode directory, object IDs
and what makes an object exist (R335 to R340, R346, R351). -/

namespace Sys2Proof.Machine

open Sys2Proof

/-! ### Slots (R335, R336) -/

/-- Opcodes that run in BULK whatever class they carry (R322). -/
def forcedBulk : List Nat := [0x0201, 0x0202, 0x0010, 0x0011, 0x0012, 0x0E03, 0x0C05]

/-- A command as its slot of 256 bytes spells it, acknowledged in mailbox `mb`. -/
def Cmd.ofSlot (mb : Nat) (slot : List Byte) : Cmd :=
  let op := fieldAt slot 0 2
  let prio := fieldAt slot 2 1
  let len := clamp 0 224 (fieldAt slot 4 2)
  { mb, opcode := op, cls := if forcedBulk.contains op then 3 else prio % 4, timed := bit prio 2
    seq := fieldAt slot 6 2, tag := fieldAt slot 8 2, object := fieldAt slot 12 4, applyAt := fieldAt slot 16 4
    payload := sliceAt slot 32 len, slot := padTo 256 slot }

/-- Parameter field of `n` bytes at payload offset `i`, missing bytes 0x00 (R346). -/
def Cmd.field (c : Cmd) (i n : Nat) : Nat := fieldAt c.payload i n

/-- Index the command's object names. -/
def Cmd.index (c : Cmd) : Nat := objIndex c.object

/-- A command built from a Sinter default word: the named setter with that block (R365). -/
def Cmd.ofWord (opcode object value : Nat) : Cmd :=
  { mb := 0, opcode, cls := 2, timed := false, seq := 0, tag := 0, object, applyAt := 0
    payload := leBytes 8 value, slot := [] }

/-- Bytes of a response slot (R337). -/
def Rsp.bytes (r : Rsp) : List Byte :=
  leBytes 2 r.opcode ++ leBytes 1 r.runFlags ++ leBytes 1 r.status ++ leBytes 2 r.payload.length ++ leBytes 2 r.seq ++
    leBytes 2 r.tag ++ leBytes 1 r.mailbox ++ leBytes 1 0 ++ leBytes 4 r.object ++ leBytes 8 r.doneFc ++
    leBytes 4 r.target ++ leBytes 4 0 ++ r.payload

/-! ### Status codes (R341) -/

def stOk : Nat := 0x00
def stNoObject : Nat := 0x01
def stDenied : Nat := 0x02
def stLocked : Nat := 0x03
def stBusy : Nat := 0x04
def stCancelled : Nat := 0x05
def stTooLate : Nat := 0x06
def stIntegrity : Nat := 0x07
def stNoResource : Nat := 0x08
def stBadOpcode : Nat := 0x09
def stWriteFault : Nat := 0x0A
def stStandby : Nat := 0x0B
def stConstraint : Nat := 0x0C

/-- What a check of a command says: `none` passes, otherwise status and response payload. -/
abbrev Check := Option (Nat × List Byte)

/-- A refusal with no response payload. -/
def refuse (st : Nat) : Check := some (st, [])

/-- The first refusal of a list of checks. -/
def firstRefusal : List Check → Check
  | [] => none
  | some r :: _ => some r
  | none :: t => firstRefusal t

/-- Refuse with `st` when `b` holds. -/
def refuseIf (b : Bool) (st : Nat) : Check := if b then refuse st else none

/-! ### The opcode directory (R351) -/

/-- Access column. -/
inductive Access where
  | privileged | granted | openTo | ownMailbox
  deriving DecidableEq, Repr

/-- Kind column: mirrored, by its home chapter, local, no change. -/
inductive Kind where
  | m | x | l | n
  deriving DecidableEq, Repr

/-- A row of the directory. -/
structure OpRow where
  op : Nat
  types : List Nat
  access : Access
  kind : Kind
  timed : Bool
  anyRole : Bool
  setter : Bool
  deriving DecidableEq, Repr

/-- The directory of R351, first part. -/
def directoryA : List OpRow :=
  [⟨0x0001, [0x00], .openTo, .n, false, true, false⟩, ⟨0x0002, [0x00], .openTo, .n, false, true, false⟩,
   ⟨0x0003, [0x09], .ownMailbox, .n, false, true, false⟩, ⟨0x0004, [0x00], .openTo, .n, false, true, false⟩,
   ⟨0x0005, [0x09], .privileged, .m, true, false, true⟩, ⟨0x0006, [0x00], .privileged, .l, false, false, true⟩,
   ⟨0x0010, [0x00], .privileged, .l, false, false, false⟩, ⟨0x0011, [0x00], .privileged, .l, true, false, false⟩,
   ⟨0x0012, [0x00], .privileged, .l, true, false, false⟩,
   ⟨0x0101, [0x00], .granted, .m, true, false, true⟩, ⟨0x0102, [0x00, 0x02], .openTo, .n, false, true, false⟩,
   ⟨0x0103, [0x00], .granted, .m, true, false, true⟩, ⟨0x0104, [0x00, 0x09], .ownMailbox, .n, false, true, false⟩,
   ⟨0x0201, [0x00], .privileged, .x, false, false, false⟩, ⟨0x0202, [0x00], .privileged, .n, false, false, false⟩,
   ⟨0x0203, [0x00], .privileged, .x, true, false, false⟩, ⟨0x0204, [0x00], .openTo, .n, false, true, false⟩,
   ⟨0x0205, [0x00], .privileged, .m, true, false, false⟩,
   ⟨0x0301, [0x02], .granted, .m, true, false, true⟩, ⟨0x0302, [0x02], .granted, .n, false, true, false⟩,
   ⟨0x0303, [0x0C], .granted, .m, true, false, true⟩, ⟨0x0304, [0x02], .granted, .m, true, false, true⟩,
   ⟨0x0305, [0x02], .granted, .m, true, false, false⟩, ⟨0x0306, [0x02], .granted, .m, true, false, true⟩,
   ⟨0x0401, [0x01, 0x02], .granted, .m, true, false, true⟩, ⟨0x0402, [0x01, 0x02], .granted, .m, true, false, true⟩,
   ⟨0x0403, [0x01, 0x02], .granted, .m, true, false, true⟩, ⟨0x0404, [0x01, 0x02], .granted, .n, false, true, false⟩,
   ⟨0x0501, [0x01], .granted, .n, false, true, false⟩, ⟨0x0502, [0x01], .granted, .m, true, false, true⟩,
   ⟨0x0503, [0x03], .granted, .m, true, false, true⟩, ⟨0x0504, [0x01], .granted, .n, false, true, false⟩,
   ⟨0x0601, [0x05], .granted, .n, false, true, false⟩, ⟨0x0602, [0x05, 0x06], .granted, .n, false, true, false⟩,
   ⟨0x0603, [0x00], .granted, .n, false, true, false⟩, ⟨0x0604, [0x00], .granted, .x, false, false, true⟩]

/-- The directory of R351, second part. -/
def directoryB : List OpRow :=
  [⟨0x0701, [0x01, 0x02, 0x03, 0x05], .granted, .n, false, true, false⟩,
   ⟨0x0702, [0x01, 0x02, 0x03, 0x05], .granted, .m, true, false, true⟩,
   ⟨0x0703, [0x01, 0x02, 0x03, 0x05], .granted, .m, true, false, true⟩,
   ⟨0x0704, [0x01, 0x02, 0x03], .granted, .n, false, true, false⟩,
   ⟨0x0705, [0x00, 0x01, 0x02, 0x03], .granted, .m, true, false, true⟩,
   ⟨0x0801, [0x06], .granted, .m, true, false, false⟩, ⟨0x0802, [0x06], .granted, .n, false, true, false⟩,
   ⟨0x0803, [0x06], .granted, .m, true, false, true⟩,
   ⟨0x0901, [0x00], .privileged, .l, false, true, true⟩, ⟨0x0902, [0x00], .privileged, .l, false, true, false⟩,
   ⟨0x0903, [0x00], .privileged, .n, false, true, false⟩, ⟨0x0904, [0x00], .privileged, .l, true, true, false⟩,
   ⟨0x0905, [0x00], .privileged, .l, true, true, false⟩, ⟨0x0906, [0x00], .privileged, .x, false, true, true⟩,
   ⟨0x0A01, [0x07], .granted, .m, true, false, true⟩, ⟨0x0A02, [0x08], .granted, .m, true, false, true⟩,
   ⟨0x0A03, [0x08], .granted, .m, true, false, false⟩, ⟨0x0A04, [0x07, 0x08], .granted, .n, false, true, false⟩,
   ⟨0x0A05, [0x07], .privileged, .n, false, true, false⟩,
   ⟨0x0B01, [0x0B], .privileged, .n, false, true, false⟩, ⟨0x0B02, [0x0B], .privileged, .l, false, false, false⟩,
   ⟨0x0B03, [0x0B], .privileged, .n, false, true, false⟩,
   ⟨0x0C01, [0x0E], .privileged, .n, false, true, false⟩, ⟨0x0C02, [0x0E], .privileged, .l, true, false, true⟩,
   ⟨0x0C03, [0x0E], .privileged, .l, true, false, true⟩, ⟨0x0C04, [0x00], .privileged, .l, true, false, true⟩,
   ⟨0x0C05, [0x00], .privileged, .l, false, false, false⟩,
   ⟨0x0D01, [0x00], .granted, .n, false, true, false⟩, ⟨0x0D02, [0x00], .granted, .l, true, false, true⟩,
   ⟨0x0D03, [0x00], .privileged, .n, false, true, false⟩,
   ⟨0x0E01, [0x0A], .privileged, .l, true, false, true⟩, ⟨0x0E02, [0x00, 0x0A], .privileged, .n, false, true, false⟩,
   ⟨0x0E03, [0x00], .privileged, .l, false, false, false⟩,
   ⟨0x0F01, [0x01, 0x07, 0x0C, 0x0D], .privileged, .l, true, false, true⟩,
   ⟨0x0F02, [0x01, 0x07, 0x0C, 0x0D], .privileged, .n, false, true, false⟩,
   ⟨0x0F03, [0x02, 0x03, 0x0C], .privileged, .l, true, false, true⟩]

/-- The lock commands and the vendor diagnostics (R351). -/
def directoryC : List OpRow :=
  ([0x0F10, 0x0F11, 0x0F12, 0x0F13, 0x0F14] ++ (List.range 16).map (0x0F20 + ·)).map
    fun op => ⟨op, [0x00], .privileged, .l, false, false, false⟩

/-- The directory row of an opcode; `none` when it is undefined. -/
def opRow (op : Nat) : Option OpRow := (directoryA ++ directoryB ++ directoryC).find? fun r => r.op == op

/-! ### What exists (R338, R340) -/

/-- Number of indices of an object type; 0 for an undefined type. -/
def indexCount : Nat → Nat
  | 0x00 => 1 | 0x01 => 256 | 0x02 => 8 | 0x03 => 64 | 0x04 => 2560 | 0x05 => 32 | 0x06 => 128 | 0x07 => 8
  | 0x08 => 520 | 0x09 => 8 | 0x0A => 324 | 0x0B => 4096 | 0x0C => 128 | 0x0D => 6 | 0x0E => 24576 | _ => 0

/-- Descriptor of a channel in an image. -/
def Image.desc (i : Image) (c : Nat) : Option Desc := i.ptab.find? fun x => x.ch == c

/-- Descriptor of the channel of a client port. A channel of KIND 2 has no client port. -/
def Image.clientDesc (i : Image) (k : Nat) : Option Desc := i.ptab.find? fun x => x.kind != 2 && x.cp == k

/-- Whether a line port is lit in an image. -/
def Image.lit (i : Image) (p : Nat) : Bool := bit i.lpMask p

/-- The Spread group record of an image. -/
def Image.sgRec (i : Image) (g : Nat) : Option SgRec := i.sgmap.find? fun x => x.sg == g

/-- The protection group record of an image. -/
def Image.pgRec (i : Image) (g : Nat) : Option PgRec := i.pgs.find? fun x => x.pg == g

/-- Channel whose ODU carries a management channel source FS008 to FS519 (R288). -/
def sourceChannel (s : Nat) : Nat := (s - 8) / 2

/-- Whether a management channel source exists in an image (R288). -/
def Image.hasSource (i : Image) (s : Nat) : Bool := if s < 8 then i.lit s else (i.desc (sourceChannel s)).isSome

/-- Whether an object exists in an image (R340). -/
def Image.has (i : Image) (o : Nat) : Bool :=
  match objType o with
  | 0x01 => (i.desc (objIndex o)).isSome
  | 0x02 => i.lit (objIndex o)
  | 0x03 => (i.clientDesc (objIndex o)).isSome
  | 0x05 => (i.sgRec (objIndex o)).isSome
  | 0x06 => (i.pgRec (objIndex o)).isSome
  | 0x08 => i.hasSource (objIndex o)
  | _ => true

/-- Order n of a lit port: N of its LCAL records. -/
def Image.portN (i : Image) (p : Nat) : Nat :=
  match i.lcal.find? fun r => r.port == p && r.step == 0 with | some r => r.n | none => 0

/-- Line ports whose slots carry a channel. -/
def Image.channelPorts (i : Image) (c : Nat) : List Nat :=
  (List.range 8).filter fun p => i.xcal.any fun e => e.ch == c && e.gs / 320 == p

/-- Object types that exist only as the active image makes them (R340). -/
def imageMade (t : Nat) : Bool := [0x01, 0x02, 0x03, 0x05, 0x06, 0x08].contains t

/-- Whether an object exists now. -/
def Dev.objExists (d : Dev) (o : Nat) : Bool :=
  objIndex o < indexCount (objType o) &&
    (!imageMade (objType o) || (match d.sched.active with | some i => i.has o | none => false))

/-- Descriptor of a channel in the active image. -/
def Dev.desc (d : Dev) (c : Nat) : Option Desc := d.sched.active.bind fun i => i.desc c

/-- Banks of a slice: active and shadow (R74, R76). -/
def Sched.banks (s : Sched) (k : Nat) : Option Image × Option Image := Tab.get (s.active, s.shadow) s.stale k

/-- Every die's shadow bank is filled, or emptied (R74). -/
def Sched.setShadow (s : Sched) (i : Option Image) : Sched :=
  { s with shadow := i, stale := s.stale.map fun e => (e.1, (e.2.1, i)) }

/-- The image that a slice executes. -/
def Dev.bank (d : Dev) (s : Nat) : Option Image := (d.sched.banks s).1

/-- Descriptor that a channel engine executes. -/
def Dev.engine (d : Dev) (c : Nat) : Option Desc := (d.bank (c / 64)).bind fun i => i.desc c

/-- Descriptors of every engine. -/
def Dev.engines (d : Dev) : List Desc :=
  [0, 1, 2, 3].flatMap fun s => match d.bank s with | some i => i.ptab.filter (·.ch / 64 == s) | none => []

/-- Whether a line port is lit in the image that its slice executes. -/
def Dev.lit (d : Dev) (p : Nat) : Bool := match d.bank (p / 2) with | some i => i.lit p | none => false

/-- GEN of the active bank; 0 when empty (R88). -/
def Dev.activeGen (d : Dev) : Nat := match d.sched.active with | some i => i.gen | none => 0

/-- GEN of the shadow bank; 0 when empty. -/
def Dev.shadowGen (d : Dev) : Nat := match d.sched.shadow with | some i => i.gen | none => 0

/-! ### Grants (R325) -/

/-- Whether a grant table covers an object. -/
def coveredBy (g : List Grant) (o : Nat) : Bool :=
  g.any fun e => e.type == objType o && e.first ≤ objIndex o && objIndex o ≤ e.last

end Sys2Proof.Machine
end

