-- ==== Sys2Proof/Machine/Rates.lean ====
section
/-! DEFINITION. Bit rates of ODUs and of the line slots (R143, and the G.709 rates the manual refers to):
numbers in kb/s as fractions. -/

namespace Sys2Proof.Machine

/-- A rate in kb/s as numerator and denominator. -/
abbrev Rate := Nat × Nat

/-- Rate of an OTUC instance: 239/226 × 99,532,800 kb/s (G.709; PRESUMED, log 30). -/
def rateOtuc : Rate := (239 * 99_532_800, 226)

/-- Rate of an ODU of a type (R143); ODUflex runs at FLEX_RATE. PRESUMED from G.709, log 30. -/
def oduRate (type flex : Nat) : Rate :=
  match type with
  | 0x00 => (1_244_160, 1)
  | 0x01 => (239 * 2_488_320, 238)
  | 0x02 => (239 * 9_953_280, 237)
  | 0x03 => (239 * 10_312_500, 237)
  | 0x04 => (239 * 39_813_120, 236)
  | 0x05 => (239 * 99_532_800, 227)
  | _ => (flex, 1)

/-- Frames of an ODU per 2^8 Beats, in units of 1/512 frame rounded down: an ODU frame has the bits of an OTUC frame. -/
def bytesPer256Beats (bytesPerFrame type flex : Nat) : Nat :=
  let r := oduRate type flex
  bytesPerFrame * 256 * r.1 * rateOtuc.2 / (r.2 * rateOtuc.1)

end Sys2Proof.Machine
end

