-- ==== Sys2Proof/Machine/ImageCheck.lean ====
section
/-! DEFINITION. Reading a schedule image and the validity rules V1 to V33 (R57 to R72, R144, R145): every rule gives
the image offsets at which it fails, and the lowest is reported. -/

namespace Sys2Proof.Machine

open Sys2Proof

/-- Bytes of an image as read. -/
abbrev Raw := Array Byte

def Raw.u8 (b : Raw) (o : Nat) : Nat := (b.getD o 0).toNat
def Raw.u16 (b : Raw) (o : Nat) : Nat := b.u8 o + 256 * b.u8 (o + 1)
def Raw.u32 (b : Raw) (o : Nat) : Nat := b.u16 o + 65_536 * b.u16 (o + 2)

/-- Bytes from `o`, `n` of them; bytes beyond the end read 0x00. -/
def Raw.slice (b : Raw) (o n : Nat) : List Byte := (List.range n).map fun i => b.getD (o + i) 0

/-- Offsets of the bytes from `o`, `n` of them, that are not 0x00. -/
def Raw.nonzero (b : Raw) (o n : Nat) : List Nat :=
  (List.range n).filterMap fun i => if b.u8 (o + i) = 0 then none else some (o + i)

/-- Offsets at which bytes differ from those given. -/
def Raw.differ (b : Raw) (o : Nat) (l : List Nat) : List Nat :=
  l.zipIdx.filterMap fun p => if b.u8 (o + p.2) = p.1 then none else some (o + p.2)

/-- An offset where a condition fails. -/
def at? (bad : Bool) (o : Nat) : List Nat := if bad then [o] else []

/-- The lowest of a list of offsets. -/
def lowest : List Nat → Option Nat
  | [] => none
  | a :: t => match lowest t with | none => some a | some b => some (min a b)

/-! ### Header and directory (R59, R60) -/

/-- Section k of the directory, 0 LCAL to 6 LADR: OFFSET, LENGTH and CRC. -/
def Raw.secOff (b : Raw) (k : Nat) : Nat := b.u32 (132 + 16 * k)
def Raw.secLen (b : Raw) (k : Nat) : Nat := b.u32 (136 + 16 * k)
def Raw.secCrc (b : Raw) (k : Nat) : Nat := b.u32 (140 + 16 * k)

/-- TAG bytes of the sections (R60). -/
def tagOf : Nat → List Nat
  | 0 => [0x4C, 0x43, 0x41, 0x4C] | 1 => [0x58, 0x43, 0x41, 0x4C] | 2 => [0x50, 0x54, 0x41, 0x42]
  | 3 => [0x53, 0x47, 0x4D, 0x50] | 4 => [0x50, 0x52, 0x54, 0x20] | 5 => [0x43, 0x41, 0x54, 0x20]
  | _ => [0x4C, 0x41, 0x44, 0x52]

/-- A section is present. -/
def Raw.has (b : Raw) (k : Nat) : Bool := b.secLen k != 0

/-- A channel exists: its bit of CH_MASK. -/
def Raw.chBit (b : Raw) (c : Nat) : Bool := c < 256 && bit (b.u8 (24 + c / 8)) (c % 8)

/-- A port is lit. -/
def Raw.litBit (b : Raw) (p : Nat) : Bool := bit (b.u8 20) p

/-! ### Items of the sections, each with its offset -/

/-- LCAL records (R61). -/
def Raw.lcal (b : Raw) : List (Nat × LcalRec) :=
  if !b.has 0 then [] else
  let s := b.secOff 0
  (List.range (b.u16 s)).map fun k =>
    let o := s + 8 + 1288 * k
    (o, { port := b.u8 o, dir := b.u8 (o + 1), step := b.u8 (o + 2), n := b.u8 (o + 3), m := b.u16 (o + 4)
          entries := (List.range 320).map fun i => b.u32 (o + 8 + 4 * i) })

/-- XCAL entries (R64). -/
def Raw.xcal (b : Raw) : List (Nat × XcalEnt) :=
  if !b.has 1 then [] else
  let s := b.secOff 1
  (List.range (b.u32 s)).map fun k =>
    let o := s + 8 + 8 * k
    let g := b.u16 o
    (o, { gs := g % 4096, dir := g / 4096 % 2, role := g / 8192, ch := b.u8 (o + 2), up := b.u16 (o + 4)
          down := b.u16 (o + 6) })

/-- Bytes of one bitmap of a placement table. -/
def bitmapLen (p : Nat) : Nat := (p + 63) / 64 * 8

/-- A placement table at an offset of the image (R66). -/
def Raw.ptable (b : Raw) (o : Nat) : PTable :=
  let n := b.u16 (o + 2)
  let p := b.u32 (o + 4)
  { table := b.u8 o, ch := b.u8 (o + 1), cmCount := n, p := p, cmBase := b.u32 (o + 8)
    bitmaps := b.slice (o + 16) (n * bitmapLen p) }

/-- Whether a placement table's head, and the whole table, lie inside PTAB. -/
def Raw.ptableFits (b : Raw) (rel : Nat) : Bool :=
  rel + 16 ≤ b.secLen 2 &&
    rel + 16 + b.u16 (b.secOff 2 + rel + 2) * bitmapLen (b.u32 (b.secOff 2 + rel + 4)) ≤ b.secLen 2

/-- Channel descriptors (R65); tables that do not fit read empty. -/
def Raw.descs (b : Raw) : List (Nat × Desc) :=
  if !b.has 2 then [] else
  let s := b.secOff 2
  (List.range (b.u16 s)).map fun k =>
    let o := s + 8 + 32 * k
    let tab := fun (rel : Nat) => if b.ptableFits rel then b.ptable (s + rel) else
      { table := 0, ch := 0, cmCount := 0, p := 0, cmBase := 0, bitmaps := [] }
    (o, { ch := b.u8 o, kind := b.u8 (o + 1), cp := b.u8 (o + 2), clientType := b.u8 (o + 3), mapping := b.u8 (o + 4)
          oduType := b.u8 (o + 5), tsCount := b.u16 (o + 6), flexRate := b.u32 (o + 8), loTpn := b.u16 (o + 12)
          lanes := b.u8 (o + 14), clientTab := if b.u32 (o + 16) = 0 then none else some (tab (b.u32 (o + 16)))
          serverTab := tab (b.u32 (o + 20)) })

/-- Length of a Spread group record: 72 + STRIPE_LEN, rounded up to a multiple of 8 (R67). -/
def sgLen (stripe : Nat) : Nat := (72 + stripe + 7) / 8 * 8

/-- Offsets of the Spread group records. -/
def Raw.sgOffsets (b : Raw) : Nat → Nat → List Nat
  | 0, _ => []
  | n + 1, o => o :: Raw.sgOffsets b n (o + sgLen (b.u16 (o + 4)))

/-- Spread group records (R67). -/
def Raw.sgs (b : Raw) : List (Nat × SgRec) :=
  if !b.has 3 then [] else
  let s := b.secOff 3
  (b.sgOffsets (b.u8 s) (s + 8)).map fun o =>
    (o, { sg := b.u8 o, ch := b.u8 (o + 1), sfhGen := b.u8 (o + 3), stripeLen := b.u16 (o + 4)
          members := (List.range (min 8 (b.u8 (o + 2)))).map fun k =>
            { port := b.u8 (o + 8 + 8 * k), farOk := bit (b.u8 (o + 9 + 8 * k)) 0, weight := b.u16 (o + 10 + 8 * k) }
          seq := (List.range (b.u16 (o + 4))).map fun i => b.u8 (o + 72 + i) })

/-- Offsets of response tables that follow one another. -/
def Raw.tableOffsets (b : Raw) : Nat → Nat → List Nat
  | 0, _ => []
  | n + 1, o => o :: Raw.tableOffsets b n (o + 8 + 4 * 2 ^ b.u8 (o + 1))

/-- Offset after response tables. -/
def Raw.tablesEnd (b : Raw) : Nat → Nat → Nat
  | 0, o => o
  | n + 1, o => Raw.tablesEnd b n (o + 8 + 4 * 2 ^ b.u8 (o + 1))

/-- One response table (R68). -/
def Raw.table (b : Raw) (o : Nat) : RespTable :=
  { id := b.u8 o, inBits := b.u8 (o + 1)
    words := (List.range (2 ^ min 16 (b.u8 (o + 1)))).map fun i => b.u32 (o + 8 + 4 * i) }

/-- Response tables of PRT (section 4) or CAT (section 5). -/
def Raw.tables (b : Raw) (k : Nat) : List (Nat × RespTable) :=
  if !b.has k then [] else (b.tableOffsets (b.u8 (b.secOff k)) (b.secOff k + 8)).map fun o => (o, b.table o)

/-- Protection group records (R68). -/
def Raw.pgs (b : Raw) : List (Nat × PgRec) :=
  if !b.has 4 then [] else
  let s := b.secOff 4
  let e := b.tablesEnd (b.u8 s) (s + 8)
  (List.range (b.u8 (s + 1))).map fun k =>
    let o := e + 16 * k
    (o, { pg := b.u8 o, tableId := b.u8 (o + 1), arch := b.u8 (o + 2), ch := b.u8 (o + 3), wPort := b.u8 (o + 4)
          pPort := b.u8 (o + 5), guard := b.u16 (o + 6) })

/-- CAT binding records (R69). -/
def Raw.binds (b : Raw) : List (Nat × CatBind) :=
  if !b.has 5 then [] else
  let s := b.secOff 5
  let e := b.tablesEnd (b.u8 s) (s + 8)
  (List.range (b.u16 (s + 2))).map fun k =>
    let o := e + 8 * k
    (o, { obj := b.u32 o, layer := b.u8 (o + 4), tableId := b.u8 (o + 5) })

/-- Offsets of the LADR records. -/
def Raw.ladrOffsets (b : Raw) : Nat → Nat → List Nat
  | 0, _ => []
  | n + 1, o => o :: Raw.ladrOffsets b n (o + 8 + 40 * b.u8 (o + 1))

/-- LADR records (R70). -/
def Raw.ladr (b : Raw) : List (Nat × LadrRec) :=
  if !b.has 6 then [] else
  let s := b.secOff 6
  (b.ladrOffsets (b.u8 s) (s + 8)).map fun o =>
    (o, { port := b.u8 o
          steps := (List.range (b.u8 (o + 1))).map fun k =>
            let q := o + 8 + 40 * k
            { m := b.u16 (q + 2)
              preempt := (List.range 256).filter fun c => bit (b.u8 (q + 8 + c / 8)) (c % 8) } })

/-! ### Slot entries (R62) -/

def entKind (e : Nat) : Nat := e / 2 ^ 30
def entOrd (e : Nat) : Nat := e / 2 ^ 21 % 512
def entTpn (e : Nat) : Nat := e / 256 % 4096
def entCh (e : Nat) : Nat := e % 256

/-- CHANNEL entries of a record: index, entry. -/
def LcalRec.chans (r : LcalRec) : List (Nat × Nat) :=
  r.entries.zipIdx.filterMap fun p => if entKind p.1 = 3 then some (p.2, p.1) else none

/-- Step-0 CHANNEL entries of a channel on a port and direction. -/
def countOn (l : List (Nat × LcalRec)) (c p dir : Nat) : Nat :=
  sum (l.map fun r => if r.2.step = 0 && r.2.port = p && r.2.dir = dir
    then (r.2.chans.filter fun e => entCh e.2 == c).length else 0)

/-! ### V1 to V9 -/

/-- V1 to V8 (R72). -/
def Raw.ruleV1 (b : Raw) : List Nat :=
  at? (b.u32 16 != b.size || b.size % 8 != 0 || b.size < 264 || 33_554_432 < b.size) 16
def Raw.ruleV2 (b : Raw) : List Nat := b.differ 0 [0x42, 0x58, 0x53, 0x49]
def Raw.ruleV3 (b : Raw) : List Nat := at? (crc32c (b.slice 0 240) != b.u32 240) 240
def Raw.imageCrc (b : Raw) : Nat := crc32c (b.slice 0 (b.size - 4))
def Raw.ruleV4 (b : Raw) : List Nat := at? (b.imageCrc != b.u32 (b.size - 4)) (b.size - 4)
/-- V5: the CRC of every present section. A section that runs past the image's end has no bytes to check here and fails V9
instead (DESIGN CHOICE, log 86). -/
def Raw.ruleV5 (b : Raw) : List Nat :=
  (List.range 7).flatMap fun k =>
    at? (b.has k && b.secOff k + b.secLen k ≤ b.size && crc32c (b.slice (b.secOff k) (b.secLen k)) != b.secCrc k)
      (140 + 16 * k)
def Raw.ruleV6 (b : Raw) : List Nat := at? (b.u16 4 != 1) 4
def Raw.ruleV7 (b : Raw) : List Nat := at? (b.u16 6 != 0x0256) 6
def Raw.ruleV8 (b : Raw) : List Nat := at? (b.u32 8 == 0) 8

/-- Directory part of V9. Of two sections that overlap, the OFFSET field of the later directory entry is reported (DESIGN
CHOICE, log 86). -/
def Raw.ruleV9dir (b : Raw) : List Nat :=
  (List.range 7).flatMap fun k =>
    let o := b.secOff k
    let n := b.secLen k
    let overlap := (List.range k).any fun j => b.has j && o < b.secOff j + b.secLen j && b.secOff j < o + n
    let required := k < 2 || (k == 2 && !(b.nonzero 24 32).isEmpty)
    b.differ (128 + 16 * k) (tagOf k) ++
      (if n = 0 then at? (o != 0 || required) (132 + 16 * k) ++ at? (b.secCrc k != 0) (140 + 16 * k)
       else at? (o % 64 != 0 || o < 256 || b.size - 4 < o + n || overlap) (132 + 16 * k) ++
         at? (n % 8 != 0) (136 + 16 * k))

/-- Response tables that do not fit before `e`: the offset of the first IN_BITS, or of the count `cnt`, at fault. -/
def Raw.tablesFit (b : Raw) (cnt e : Nat) : Nat → Nat → List Nat
  | 0, _ => []
  | n + 1, o =>
    if e < o + 8 then [cnt]
    else if e < o + 8 + 4 * 2 ^ b.u8 (o + 1) then [o + 1]
    else Raw.tablesFit b cnt e n (o + 8 + 4 * 2 ^ b.u8 (o + 1))

/-- Spread records that do not fit. -/
def Raw.sgsFit (b : Raw) (cnt e : Nat) : Nat → Nat → List Nat
  | 0, _ => []
  | n + 1, o =>
    if e < o + 72 then [cnt]
    else if e < o + sgLen (b.u16 (o + 4)) then [o + 4]
    else Raw.sgsFit b cnt e n (o + sgLen (b.u16 (o + 4)))

/-- LADR records that do not fit. -/
def Raw.ladrFit (b : Raw) (cnt e : Nat) : Nat → Nat → List Nat
  | 0, _ => []
  | n + 1, o =>
    if e < o + 8 then [cnt]
    else if e < o + 8 + 40 * b.u8 (o + 1) then [o + 1]
    else Raw.ladrFit b cnt e n (o + 8 + 40 * b.u8 (o + 1))

/-- Count part of V9: every count and length leaves its items within the section. -/
def Raw.ruleV9cnt (b : Raw) : List Nat :=
  let sec := fun (k : Nat) (f : Nat → Nat → List Nat) =>
    if b.has k then f (b.secOff k) (b.secOff k + b.secLen k) else []
  sec 0 (fun s e => at? (e < s + 8 + 1288 * b.u16 s) s) ++
    sec 1 (fun s e => at? (e < s + 8 + 8 * b.u32 s) s) ++
    sec 2 (fun s e => at? (e < s + 8 + 32 * b.u16 s) s) ++
    sec 3 (fun s e => b.sgsFit s e (b.u8 s) (s + 8)) ++
    sec 4 (fun s e =>
      let t := b.tablesFit s e (b.u8 s) (s + 8)
      if t.isEmpty then at? (e < b.tablesEnd (b.u8 s) (s + 8) + 16 * b.u8 (s + 1)) (s + 1) else t) ++
    sec 5 (fun s e =>
      let t := b.tablesFit s e (b.u8 s) (s + 8)
      if t.isEmpty then at? (e < b.tablesEnd (b.u8 s) (s + 8) + 8 * b.u16 (s + 2)) (s + 2) else t) ++
    sec 6 fun s e => b.ladrFit s e (b.u8 s) (s + 8)

/-! ### V10: reserved fields and padding -/

/-- Reserved bits of one slot entry: the byte that has one set. -/
def Raw.entryReserved (b : Raw) (o : Nat) : List Nat :=
  let e := b.u32 o
  if entKind e = 3 then at? (bit e 20) (o + 2)
  else b.nonzero o 3 ++ at? (b.u8 (o + 3) % 64 != 0) (o + 3)

/-- Regions of the image that hold fields: first byte and the byte after the last. Every other byte before the trailer is
padding, which V10 holds to 0, inside a section too (DEDUCED, log 86). -/
def Raw.regions (b : Raw) : List (Nat × Nat) :=
  let sec := fun (k : Nat) (f : Nat → List (Nat × Nat)) => if b.has k then f (b.secOff k) else []
  let tabs := (b.descs.flatMap fun p => [b.u32 (p.1 + 16), b.u32 (p.1 + 20)]).filterMap fun rel =>
    if rel != 0 && rel + 16 ≤ b.secLen 2 then
      let o := b.secOff 2 + rel
      some (o, min (b.secOff 2 + b.secLen 2) (o + 16 + b.u16 (o + 2) * bitmapLen (b.u32 (o + 4))))
    else none
  [(0, 256)] ++
    sec 0 (fun s => [(s, s + 8 + 1288 * b.u16 s)]) ++ sec 1 (fun s => [(s, s + 8 + 8 * b.u32 s)]) ++
    sec 2 (fun s => [(s, s + 8 + 32 * b.u16 s)]) ++ tabs ++
    sec 3 (fun s => (s, s + 8) :: b.sgs.map fun p => (p.1, p.1 + 72 + p.2.stripeLen)) ++
    sec 4 (fun s => [(s, b.tablesEnd (b.u8 s) (s + 8) + 16 * b.u8 (s + 1))]) ++
    sec 5 (fun s => [(s, b.tablesEnd (b.u8 s) (s + 8) + 8 * b.u16 (s + 2))]) ++
    sec 6 (fun s => (s, s + 8) :: b.ladr.map fun p => (p.1, p.1 + 8 + 40 * p.2.steps.length)) ++
    [(b.size - 4, b.size)]

/-- Gaps between regions sorted by their first byte. -/
def gaps : Nat → List (Nat × Nat) → List (Nat × Nat)
  | _, [] => []
  | pos, (s, e) :: t => (if pos < s then [(pos, s)] else []) ++ gaps (max pos e) t

/-- V10: reserved fields, reserved bits, unused member slots and padding are 0. Output words of CAT and PRT have
reserved bits, [31:11] in CAT (R214) and [4] in PRT (R237). -/
def Raw.ruleV10 (b : Raw) : List Nat :=
  let sec := fun (k : Nat) (f : Nat → List Nat) => if b.has k then f (b.secOff k) else []
  let words := fun (t : Nat × RespTable) (mask : Nat) =>
    b.nonzero (t.1 + 2) 6 ++ (List.range t.2.words.length).flatMap fun i =>
      let o := t.1 + 8 + 4 * i
      (List.range 4).flatMap fun j => at? (andBits 8 (b.u8 (o + j)) (mask / 256 ^ j % 256) != 0) (o + j)
  let tabs := b.descs.flatMap fun p =>
    [b.u32 (p.1 + 16), b.u32 (p.1 + 20)].flatMap fun rel =>
      if rel != 0 && rel + 16 ≤ b.secLen 2 then b.nonzero (b.secOff 2 + rel + 12) 4 else []
  b.nonzero 23 1 ++ b.nonzero 56 8 ++ b.nonzero 244 12 ++
    sec 0 (fun s => b.nonzero (s + 2) 6 ++ b.lcal.flatMap fun r =>
      b.nonzero (r.1 + 6) 2 ++ (List.range 320).flatMap fun i => b.entryReserved (r.1 + 8 + 4 * i)) ++
    sec 1 (fun s => b.nonzero (s + 4) 4 ++ b.xcal.flatMap fun x => b.nonzero (x.1 + 3) 1) ++
    sec 2 (fun s => b.nonzero (s + 2) 6 ++ b.descs.flatMap fun x => b.nonzero (x.1 + 15) 1 ++ b.nonzero (x.1 + 24) 8) ++
    tabs ++
    sec 3 (fun s => b.nonzero (s + 1) 7 ++ b.sgs.flatMap fun g =>
      b.nonzero (g.1 + 6) 2 ++ (List.range 8).flatMap fun k =>
        let o := g.1 + 8 + 8 * k
        if k < b.u8 (g.1 + 2) then at? (1 < b.u8 (o + 1)) (o + 1) ++ b.nonzero (o + 4) 4 else b.nonzero o 8) ++
    sec 4 (fun s => b.nonzero (s + 2) 6 ++ ((b.tables 4).flatMap fun t => words t 0x10) ++
      b.pgs.flatMap fun g => b.nonzero (g.1 + 8) 8) ++
    sec 5 (fun s => b.nonzero (s + 1) 1 ++ b.nonzero (s + 4) 4 ++ ((b.tables 5).flatMap fun t => words t 0xFFFF_F800) ++
      b.binds.flatMap fun g => b.nonzero (g.1 + 6) 2) ++
    sec 6 (fun s => b.nonzero (s + 1) 7 ++ b.ladr.flatMap fun r =>
      b.nonzero (r.1 + 2) 6 ++ (List.range r.2.steps.length).flatMap fun k =>
        let q := r.1 + 8 + 40 * k
        b.nonzero (q + 1) 1 ++ b.nonzero (q + 4) 4) ++
    (gaps 0 (sortBy (fun r => r.1) b.regions)).flatMap fun g => b.nonzero g.1 (g.2 - g.1)

end Sys2Proof.Machine
end

