-- ==== Sys2Proof/Machine/ImageRules.lean ====
section
/-! DEFINITION. The content rules V11 to V33 of a schedule image, the report of R71 and R85, and the image a bank
holds after a load (R72, R144, R145, R147). -/

namespace Sys2Proof.Machine

open Sys2Proof

/-- An image read once: its bytes and the items of its sections with their offsets. -/
structure Parsed where
  raw : Raw
  lcal : List (Nat × LcalRec)
  xcal : List (Nat × XcalEnt)
  descs : List (Nat × Desc)
  sgs : List (Nat × SgRec)
  prt : List (Nat × RespTable)
  pgs : List (Nat × PgRec)
  cat : List (Nat × RespTable)
  binds : List (Nat × CatBind)
  ladr : List (Nat × LadrRec)

/-- Read every section. -/
def Raw.parse (b : Raw) : Parsed :=
  { raw := b, lcal := b.lcal, xcal := b.xcal, descs := b.descs, sgs := b.sgs, prt := b.tables 4, pgs := b.pgs
    cat := b.tables 5, binds := b.binds, ladr := b.ladr }

/-- The offset at which a missing item of key `k` would begin: the first item of a greater key, or the end (R71). -/
def wouldBegin {α : Type} (key : α → Nat) (e k : Nat) : List (Nat × α) → Nat
  | [] => e
  | (o, a) :: t => if k < key a then o else wouldBegin key e k t

/-- Offsets of items whose key is not greater than the key before. -/
def unsorted {α : Type} (key : α → Nat) : List (Nat × α) → List Nat
  | (_, a) :: (o, b) :: t => at? (key b ≤ key a) o ++ unsorted key ((o, b) :: t)
  | _ => []

/-- Offsets of items whose key an earlier item has. -/
def repeated {α : Type} (key : α → Nat) : List Nat → List (Nat × α) → List Nat
  | _, [] => []
  | seen, (o, a) :: t => at? (seen.contains (key a)) o ++ repeated key (key a :: seen) t

/-! ### LCAL -/

/-- Sort key of an LCAL record. -/
def lcalKey (r : LcalRec) : Nat := (r.port * 256 + r.dir) * 256 + r.step

/-- V11 (R72). -/
def Parsed.ruleV11 (x : Parsed) : List Nat :=
  let s := x.raw.secOff 0
  let e := s + 8 + 1288 * x.lcal.length
  at? (x.lcal.length = 0 || 128 < x.lcal.length) s ++ unsorted lcalKey x.lcal ++
    (x.lcal.flatMap fun r => at? (7 < r.2.port) r.1 ++ at? (1 < r.2.dir) (r.1 + 1) ++ at? (7 < r.2.step) (r.1 + 2) ++
      at? (r.2.port < 8 && r.2.step = 0 && !x.raw.litBit r.2.port) r.1) ++
    (List.range 8).flatMap fun p => [0, 1].flatMap fun dir =>
      if x.raw.litBit p && !x.lcal.any fun r => r.2.port == p && r.2.dir == dir && r.2.step == 0 then
        [wouldBegin lcalKey e ((p * 256 + dir) * 256) x.lcal]
      else []

/-- Offset of entry i of a record. -/
def entOff (o i : Nat) : Nat := o + 8 + 4 * i

/-- V12 (R72). -/
def Parsed.ruleV12 (x : Parsed) : List Nat :=
  x.lcal.flatMap fun r =>
    let first := x.lcal.find? fun q => q.2.port == r.2.port
    let n := match first with | some q => q.2.n | none => r.2.n
    at? (r.2.n != n || r.2.n = 0 || 16 < r.2.n) (r.1 + 3) ++
      r.2.entries.zipIdx.flatMap fun p => at? ((entKind p.1 == 0) != (r.2.n ≤ p.2 / 20 : Bool)) (entOff r.1 p.2)

/-- V13 (R72). -/
def Parsed.ruleV13 (x : Parsed) : List Nat :=
  x.lcal.flatMap fun r =>
    at? (r.2.m != (r.2.entries.filter fun e => 2 ≤ entKind e).length || 20 * r.2.n < r.2.m || r.2.m = 0) (r.1 + 4)

/-- Entries whose channel is not in CH_MASK, whose ORD is at or above the channel's count or repeats, in one record. -/
def Parsed.recV14 (x : Parsed) (o : Nat) (cs : List (Nat × Nat)) : List Nat :=
  let count := cs.foldl (fun (a : Array Nat) p => a.modify (entCh p.2) (· + 1)) (Array.replicate 256 0)
  (cs.foldl (fun (acc : Array Nat × List Nat) p =>
    let c := entCh p.2
    let key := c * 512 + entOrd p.2
    let bad := !x.raw.chBit c || count.getD c 0 ≤ entOrd p.2 || acc.1.getD key 0 = 1
    (acc.1.set! key 1, if bad then entOff o p.1 :: acc.2 else acc.2)) (Array.replicate (256 * 512) 0, [])).2

/-- Entries whose TPN is 0, differs from the channel's on the port, or is another channel's on the port. -/
def Parsed.portV14 (x : Parsed) (p : Nat) : List Nat :=
  let es := (x.lcal.filter fun r => r.2.port == p).flatMap fun r =>
    r.2.chans.map fun q => (entOff r.1 q.1, entCh q.2, entTpn q.2)
  (es.foldl (fun (acc : (Array Nat × Array Nat) × List Nat) q =>
    let (o, c, t) := q
    let ((tpnOf, chOf), l) := acc
    let old := tpnOf.getD c 0
    let holder := chOf.getD t 0
    let bad := t = 0 || (old != 0 && old != t) || (holder != 0 && holder != c + 1)
    ((if old = 0 then tpnOf.set! c t else tpnOf, if holder = 0 then chOf.set! t (c + 1) else chOf),
      if bad then o :: l else l)) ((Array.replicate 256 0, Array.replicate 4096 0), [])).2

/-- V14 (R72). -/
def Parsed.ruleV14 (x : Parsed) : List Nat :=
  (x.lcal.flatMap fun r => x.recV14 r.1 r.2.chans) ++ (List.range 8).flatMap x.portV14

/-! ### PTAB -/

/-- V15 (R72). -/
def Parsed.ruleV15 (x : Parsed) : List Nat :=
  let e := x.raw.secOff 2 + 8 + 32 * x.descs.length
  unsorted (fun d : Desc => d.ch) x.descs ++ (x.descs.flatMap fun d => at? (!x.raw.chBit d.2.ch) d.1) ++
    (List.range 256).flatMap fun c =>
      if x.raw.chBit c && !x.descs.any fun d => d.2.ch == c then [wouldBegin (fun d : Desc => d.ch) e c x.descs] else []

/-- A row of R144: KIND, MAPPING, ODU types, lanes, TS_COUNT and FLEX_RATE; none where R145 or a range governs. The
ODUflex(IMP) rates are G.709's (PRESUMED, log 30). -/
structure ClientRow where
  kind : Nat
  mapping : Nat
  odus : List Nat
  lanes : List Nat
  ts : Option Nat
  flex : Option Nat

/-- The row of a CLIENT_TYPE (R144). -/
def clientRow (t : Nat) : Option ClientRow :=
  let any := [0, 1, 2, 3, 4, 5, 6]
  if 0x40 ≤ t && t ≤ 0x4F then some ⟨1, 4, any, [(t - 0x3F + 1) / 2], none, none⟩
  else match t with
    | 0x00 => some ⟨2, 4, any, [0], none, none⟩
    | 0x01 => some ⟨0, 2, [3], [1], some 2, some 0⟩
    | 0x02 => some ⟨0, 2, [2], [1], some 2, some 0⟩
    | 0x03 => some ⟨0, 0, [4], [4], some 8, some 0⟩
    | 0x04 => some ⟨0, 0, [5], [1, 2, 4], some 20, some 0⟩
    | 0x05 => some ⟨0, 1, [6], [1, 2, 4], none, some 207_116_597⟩
    | 0x06 => some ⟨0, 1, [6], [2, 4, 8], none, some 414_233_194⟩
    | 0x07 => some ⟨0, 3, [6], [4, 8], some 155, some 808_000_000⟩
    | 0x08 => some ⟨0, 3, [6], [8], some 306, some 1_600_000_000⟩
    | 0x20 => some ⟨1, 4, any, [4], none, none⟩
    | _ => none

/-- TS_COUNT of an ODU (R145). -/
def tsCountOf (odu flex : Nat) : Nat :=
  match odu with
  | 0 => 1 | 1 => 1 | 2 => 2 | 3 => 2 | 4 => 8 | 5 => 20
  | _ => (flex * 10_001 + 52_407_950_000 - 1) / 52_407_950_000

/-- Client-side slots of a KIND 1 channel (R147): G.709's 1.25G slots in an OPU4 (PRESUMED, log 30). -/
def clientSlots (d : Desc) : Nat :=
  if d.clientType != 0x20 then d.tsCount
  else match d.oduType with
    | 0 => 1 | 1 => 2 | 2 => 8 | 3 => 8 | 4 => 31 | 5 => 80
    | _ => (d.flexRate * 10_001 * 10_000 + 1_301_709_251 * 99_998 - 1) / (1_301_709_251 * 99_998)

/-- Slots of a client OTU: 80 in an OTU4, 20 n in an OTUCn. -/
def clientCap (t : Nat) : Nat := if t = 0x20 then 80 else 20 * (t - 0x3F)

/-- V16 of one descriptor (R144). -/
def descV16 (o : Nat) (d : Desc) : List Nat :=
  let undef := at? (2 < d.kind) (o + 1) ++ at? (clientRow d.clientType).isNone (o + 3) ++ at? (4 < d.mapping) (o + 4) ++
    at? (6 < d.oduType) (o + 5)
  if !undef.isEmpty then undef
  else match clientRow d.clientType with
    | none => []
    | some r =>
      let flexOk := match r.flex with
        | some f => d.flexRate == f
        | none => if d.oduType = 6 then 0 < d.flexRate && d.flexRate ≤ 1_600_000_000 else d.flexRate == 0
      at? (d.kind != r.kind) (o + 1) ++ at? (d.mapping != r.mapping) (o + 4) ++
        at? (!r.odus.contains d.oduType) (o + 5) ++
        at? (d.tsCount != r.ts.getD (tsCountOf d.oduType d.flexRate) || d.tsCount = 0 || 320 < d.tsCount) (o + 6) ++
        at? (!flexOk) (o + 8) ++ at? (!r.lanes.contains d.lanes) (o + 14)

/-- V16 (R72): also that the channels that share a CP fit the client OTU; the first that does not fit reports its CP. -/
def Parsed.ruleV16 (x : Parsed) : List Nat :=
  (x.descs.flatMap fun d => descV16 d.1 d.2) ++
    x.descs.flatMap fun d =>
      let total := fun (l : List (Nat × Desc)) => sum (l.map fun q => clientSlots q.2)
      let share := x.descs.filter fun q => q.2.kind == 1 && q.2.cp == d.2.cp && q.1 ≤ d.1
      at? (d.2.kind == 1 && (clientRow d.2.clientType).isSome && clientCap d.2.clientType < total share) (d.1 + 2)

/-- V17 (R72). -/
def Parsed.ruleV17 (x : Parsed) : List Nat :=
  x.descs.zipIdx.flatMap fun p =>
    let (o, d) := p.1
    if 1 < d.kind then []
    else
      let before := (x.descs.take p.2).map (·.2) |>.filter fun q => q.kind ≤ 1
      let last := d.cp + d.lanes - 1
      let whole := d.kind == 1 && d.clientType == 0x20 && d.oduType == 5
      let tpnOk := if d.kind = 0 || whole then d.loTpn == 0 else 1 ≤ d.loTpn && d.loTpn ≤ 4095
      let share := before.filter fun q => q.kind == 1 && d.kind == 1 && q.cp == d.cp
      let clash := before.any fun q =>
        !(q.kind == 1 && d.kind == 1 && q.cp == d.cp) && q.cp ≤ last && d.cp ≤ q.cp + q.lanes - 1
      at? (63 < last || d.cp / 16 != last / 16 || clash) (o + 2) ++ at? (d.ch / 64 != d.cp / 16) o ++
        at? (!tpnOk) (o + 12) ++
        share.flatMap fun q => at? (q.clientType != d.clientType) (o + 3) ++ at? (q.lanes != d.lanes) (o + 14) ++
          at? (q.loTpn == d.loTpn) (o + 12)

/-- V18 (R72). -/
def Parsed.ruleV18 (x : Parsed) : List Nat :=
  x.descs.flatMap fun d =>
    if d.2.kind = 2 then at? (d.2.cp != 0xFF) (d.1 + 2) ++ at? (d.2.lanes != 0) (d.1 + 14) ++ at? (d.2.loTpn != 0) (d.1 + 12)
    else []

/-- Step-0 entries of every channel, keyed (channel × 2 + direction) × 8 + port: how many, and the first offset. -/
def Parsed.counts (x : Parsed) : Array (Nat × Nat) :=
  (x.lcal.filter fun r => r.2.step == 0).foldl (fun a r =>
    if 7 < r.2.port || 1 < r.2.dir then a
    else r.2.chans.foldl (fun a p =>
      a.modify ((entCh p.2 * 2 + r.2.dir) * 8 + r.2.port) fun v =>
        (v.1 + 1, if v.1 = 0 then entOff r.1 p.1 else v.2)) a) (Array.replicate 4096 (0, 0))

/-- Step-0 entries of a channel on a port and direction. -/
def countAt (a : Array (Nat × Nat)) (c dir p : Nat) : Nat × Nat := a.getD ((c * 2 + dir) * 8 + p) (0, 0)

/-- V19 (R72). -/
def Parsed.ruleV19 (x : Parsed) : List Nat :=
  let a := x.counts
  x.descs.flatMap fun d => [0, 1].flatMap fun dir =>
    match x.pgs.find? fun g => g.2.ch == d.2.ch with
    | none => at? (sum ((List.range 8).map fun p => (countAt a d.2.ch dir p).1) != d.2.tsCount) (d.1 + 6)
    | some g => (List.range 8).flatMap fun p =>
      let (n, o) := countAt a d.2.ch dir p
      if p = g.2.wPort || p = g.2.pPort then at? (n != d.2.tsCount) (d.1 + 6) else at? (n != 0) o

/-- Bitmap k of a placement table has CM_BASE + k bits below P, none at or above it: the offset at fault. -/
def Raw.bitmapBad (b : Raw) (o p want : Nat) : List Nat :=
  let n := bitmapLen p
  let ones := sum ((List.range n).map fun i => popCount (min 8 (p - 8 * i)) (b.u8 (o + i)))
  let high := (List.range n).filter fun i => (List.range 8).any fun j => p ≤ 8 * i + j && bit (b.u8 (o + i)) j
  at? (ones != want) o ++ high.map (o + ·)

/-- Faults of one placement table at its offset (R66, V20). -/
def Raw.ptableBad (b : Raw) (o want ch : Nat) : List Nat :=
  let n := b.u16 (o + 2)
  let p := b.u32 (o + 4)
  let base := b.u32 (o + 8)
  let head := at? (b.u8 o != want) o ++ at? (b.u8 (o + 1) != ch) (o + 1) ++ at? (n = 0 || 32 < n) (o + 2) ++
    at? (p = 0 || 131_072 < p) (o + 4) ++ at? (p + 1 < base + n) (o + 8)
  if !head.isEmpty then head
  else (List.range n).flatMap fun k => b.bitmapBad (o + 16 + k * bitmapLen p) p (base + k)

/-- V20 (R72). -/
def Parsed.ruleV20 (x : Parsed) : List Nat :=
  let b := x.raw
  x.descs.flatMap fun d =>
    let c := b.u32 (d.1 + 16)
    let s := b.u32 (d.1 + 20)
    let tab := fun (rel f want : Nat) =>
      if b.ptableFits rel then b.ptableBad (b.secOff 2 + rel) want d.2.ch else [d.1 + f]
    at? ((c != 0) != (d.2.mapping == 0)) (d.1 + 16) ++ (if c = 0 then [] else tab c 16 0) ++
      (if s = 0 then [d.1 + 20] else tab s 20 1)

/-! ### XCAL -/

/-- Key of an XCAL entry. -/
def xcalKey (e : XcalEnt) : Nat := e.gs * 2 + e.dir

/-- The step-0 CHANNEL entries in XCAL order: key and channel. -/
def Parsed.expected (x : Parsed) : List (Nat × Nat) :=
  (List.range 8).flatMap fun p =>
    let of := fun (dir : Nat) => match x.lcal.find? fun r => r.2.port == p && r.2.dir == dir && r.2.step == 0 with
      | some r => r.2.entries
      | none => []
    let (t, r) := (of 0, of 1)
    (List.range 320).zip ((t ++ List.replicate 320 0).zip (r ++ List.replicate 320 0)) |>.flatMap fun q =>
      let one := fun (dir e : Nat) => if entKind e = 3 then [((p * 320 + q.1) * 2 + dir, entCh e)] else []
      one 0 q.2.1 ++ one 1 q.2.2

/-- Walk the entries beside those expected: the first that is extra, of another channel, or missing. -/
def matchXcal (e : Nat) : List (Nat × Nat) → List (Nat × XcalEnt) → List Nat
  | [], [] => []
  | [], (o, _) :: _ => [o]
  | _ :: _, [] => [e]
  | (k, c) :: t, (o, a) :: u =>
    if xcalKey a = k then (if a.ch = c then matchXcal e t u else [o + 2]) else [o]
termination_by structural l => l

/-- V21 (R72). -/
def Parsed.ruleV21 (x : Parsed) : List Nat :=
  matchXcal (x.raw.secOff 1 + 8 + 8 * x.xcal.length) x.expected x.xcal

/-- ORD of the LCAL entry of an XCAL entry. -/
def Parsed.ordOf (x : Parsed) (e : XcalEnt) : Nat :=
  match x.lcal.find? fun r => r.2.port == e.gs / 320 && r.2.dir == e.dir && r.2.step == 0 with
  | some r => entOrd (r.2.entries.getD (e.gs % 320) 0)
  | none => 0

/-- A cell position in use: (direction, channel, ORD, role), and whether a pair already shares it. -/
abbrev Held := Option ((Nat × Nat × Nat × Nat) × Bool)

/-- V22 (R72): positions per die link and direction; a working and protection pair shares one. -/
def Parsed.ruleV22 (x : Parsed) : List Nat :=
  (x.xcal.foldl (fun (acc : Array Held × List Nat) p =>
    let (o, e) := p
    let port := e.gs / 640
    let eng := e.ch / 64
    let me := (e.dir, e.ch, x.ordOf e, e.role)
    let use := fun (acc : Array Held × List Nat) (link slice pos f : Nat) =>
      if 1279 < pos then (acc.1, (o + f) :: acc.2)
      else
        let k := (link * 4 + slice) * 1280 + pos
        match acc.1.getD k none with
        | none => (acc.1.set! k (some (me, false)), acc.2)
        | some (q, shared) =>
          let pair := !shared && link = e.dir && q.1 = e.dir && q.2.1 = e.ch && q.2.2.1 = me.2.2.1 &&
            ((q.2.2.2 = 2 && e.role = 3) || (q.2.2.2 = 3 && e.role = 2))
          if pair then (acc.1.set! k (some (q, true)), acc.2) else (acc.1, (o + f) :: acc.2)
    let (up, down) := if e.dir = 0 then (eng, port) else (port, eng)
    use (use acc 0 up e.up 4) 1 down e.down 6) (Array.replicate (2 * 4 * 1280) none, [])).2

/-- V23 (R72). -/
def Parsed.ruleV23 (x : Parsed) : List Nat :=
  x.xcal.flatMap fun p =>
    let e := p.2
    let port := e.gs / 320
    let sg := x.sgs.any fun g => g.2.ch == e.ch && g.2.members.any fun m => m.port == port
    let w := x.pgs.any fun g => g.2.ch == e.ch && g.2.wPort == port
    let pr := x.pgs.any fun g => g.2.ch == e.ch && g.2.pPort == port
    let want := if sg then 1 else if w then 2 else if pr then 3 else 0
    at? (e.role != want) (p.1 + 1)

/-! ### SGMAP -/

/-- V24 (R72). -/
def Parsed.ruleV24 (x : Parsed) : List Nat :=
  let b := x.raw
  let a := x.counts
  let head := if b.has 3 then at? (b.u8 (b.secOff 3) != b.u8 21) (b.secOff 3) else at? (b.u8 21 != 0) 21
  head ++ repeated (fun g : SgRec => g.sg) [] x.sgs ++
    (repeated (fun g : SgRec => g.ch) [] x.sgs).map (· + 1) ++
    x.sgs.flatMap fun g =>
      let n := b.u8 (g.1 + 2)
      let odu := (x.descs.find? fun d => d.2.ch == g.2.ch).map fun d => d.2.oduType
      at? (31 < g.2.sg) g.1 ++ at? (odu != some 6 || x.pgs.any fun q => q.2.ch == g.2.ch) (g.1 + 1) ++
        at? (n < 2 || 8 < n) (g.1 + 2) ++
        g.2.members.zipIdx.flatMap fun m =>
          let o := g.1 + 8 + 8 * m.2
          at? (7 < m.1.port || !b.litBit m.1.port || (g.2.members.take m.2).any fun q => q.port == m.1.port) o ++
            at? (m.1.weight = 0 || 320 < m.1.weight || (countAt a g.2.ch 0 m.1.port).1 != m.1.weight ||
              (countAt a g.2.ch 1 m.1.port).1 != m.1.weight) (o + 2)

/-- V25 (R72). -/
def Parsed.ruleV25 (x : Parsed) : List Nat :=
  x.sgs.flatMap fun g =>
    let ws := g.2.members.map fun m => m.weight
    let n := g.2.stripeLen
    at? (n != sum ws || n < 2 || 320 < n) (g.1 + 4) ++
      g.2.seq.zipIdx.flatMap fun s =>
        at? (ws.length ≤ s.1 || ws.getD s.1 0 < ((g.2.seq.take (s.2 + 1)).filter fun q => q == s.1).length)
          (g.1 + 72 + s.2)

/-- V26 (R72). -/
def Parsed.ruleV26 (x : Parsed) : List Nat := x.sgs.flatMap fun g => at? (15 < g.2.sfhGen) (g.1 + 3)

/-! ### PRT, CAT and LADR -/

/-- Table conditions of V27 and V29. -/
def tableRules (l : List (Nat × RespTable)) : List Nat :=
  repeated (fun t : RespTable => t.id) [] l ++ l.flatMap fun t => at? (t.2.inBits = 0 || 16 < t.2.inBits) (t.1 + 1)

/-- V27 (R72). -/
def Parsed.ruleV27 (x : Parsed) : List Nat :=
  let b := x.raw
  let head := if b.has 4 then at? (b.u8 (b.secOff 4 + 1) != b.u8 22) (b.secOff 4 + 1) else at? (b.u8 22 != 0) 22
  head ++ tableRules x.prt ++ repeated (fun g : PgRec => g.pg) [] x.pgs ++
    (repeated (fun g : PgRec => g.ch) [] x.pgs).map (· + 3) ++
    x.pgs.flatMap fun g =>
      let r := g.2
      at? (127 < r.pg) g.1 ++ at? (!x.prt.any fun t => t.2.id == r.tableId) (g.1 + 1) ++
        at? (2 < r.arch % 8 || 1 < r.arch / 8 % 4 || 63 < r.arch) (g.1 + 2) ++ at? (!b.chBit r.ch) (g.1 + 3) ++
        at? (7 < r.wPort || !b.litBit r.wPort || r.wPort == r.pPort) (g.1 + 4) ++
        at? (7 < r.pPort || !b.litBit r.pPort) (g.1 + 5)

/-- V28 (R72). -/
def Parsed.ruleV28 (x : Parsed) : List Nat :=
  x.pgs.flatMap fun g =>
    at? (if bit g.2.arch 5 then g.2.guard < 16 || 4096 < g.2.guard else g.2.guard != 0) (g.1 + 6)

/-- An object a binding may name exists in the image (R69). -/
def Parsed.bindable (x : Parsed) (o : Nat) : Bool :=
  match objType o with
  | 0x01 => x.raw.chBit (objIndex o)
  | 0x02 => objIndex o < 8 && x.raw.litBit (objIndex o)
  | 0x03 => x.descs.any fun d => d.2.kind != 2 && d.2.cp == objIndex o
  | 0x05 => x.sgs.any fun g => g.2.sg == objIndex o
  | _ => false

/-- V29 (R72). -/
def Parsed.ruleV29 (x : Parsed) : List Nat :=
  tableRules x.cat ++ repeated (fun c : CatBind => c.obj * 256 + c.layer) [] x.binds ++
    x.binds.flatMap fun c =>
      at? (!x.bindable c.2.obj) c.1 ++ at? (!x.cat.any fun t => t.2.id == c.2.tableId) (c.1 + 5)

/-- V30 (R72). -/
def Parsed.ruleV30 (x : Parsed) : List Nat :=
  let b := x.raw
  repeated (fun r : LadrRec => r.port) [] x.ladr ++
    (x.ladr.flatMap fun r =>
      let n := r.2.steps.length
      at? (7 < r.2.port || !b.litBit r.2.port) r.1 ++
        at? (n = 0 || 8 < n || (List.range (n - 1)).any (fun k => [0, 1].any fun dir =>
            !x.lcal.any fun q => q.2.port == r.2.port && q.2.dir == dir && q.2.step == k + 1) ||
          x.lcal.any fun q => q.2.port == r.2.port && n ≤ q.2.step) (r.1 + 1) ++
        (List.range n).flatMap fun k => at? (b.u8 (r.1 + 8 + 40 * k) != k) (r.1 + 8 + 40 * k)) ++
    x.lcal.flatMap fun q => at? (q.2.step != 0 && !x.ladr.any fun r => r.2.port == q.2.port) q.1

/-- V31 (R72). -/
def Parsed.ruleV31 (x : Parsed) : List Nat :=
  x.ladr.flatMap fun r => r.2.steps.zipIdx.flatMap fun s =>
    let q := r.1 + 8 + 40 * s.2
    let prev := if s.2 = 0 then none else r.2.steps[s.2 - 1]?
    let mOk := (match prev with | some p => s.1.m < p.m | none => true) &&
      x.lcal.all fun l => l.2.port != r.2.port || l.2.step != s.2 || l.2.m == s.1.m
    let inPort := fun (c : Nat) => [0, 1].any fun dir => 0 < countOn x.lcal c r.2.port dir
    let role0 := fun (c : Nat) => x.xcal.all fun e => e.2.ch != c || e.2.gs / 320 != r.2.port || e.2.role == 0
    let lost := match prev with | some p => p.preempt.filter fun c => !s.1.preempt.contains c | none => []
    at? (!mOk) (q + 2) ++ (lost.map fun c => q + 8 + c / 8) ++
      s.1.preempt.flatMap fun c => at? (s.2 = 0 || !inPort c || !role0 c) (q + 8 + c / 8)

/-- V32 (R72). -/
def Parsed.ruleV32 (x : Parsed) : List Nat :=
  x.ladr.flatMap fun r => r.2.steps.zipIdx.flatMap fun s =>
    match (if s.2 = 0 then none else r.2.steps[s.2 - 1]?) with
    | none => []
    | some p =>
      let fresh := s.1.preempt.filter fun c => !p.preempt.contains c
      [0, 1].flatMap fun dir =>
        let rec? := fun (k : Nat) => x.lcal.find? fun l => l.2.port == r.2.port && l.2.dir == dir && l.2.step == k
        match rec? (s.2 - 1), rec? s.2 with
        | some a, some b => (a.2.entries.zip b.2.entries).zipIdx.flatMap fun e =>
          let (u, v) := e.1
          let want := if entKind u = 3 && fresh.contains (entCh u) then 0x4000_0000 else u
          at? (v != want) (entOff b.1 e.2)
        | _, _ => []

/-- Line fingerprint of a port and direction (R63). -/
def fingerprint (l : List LcalRec) (p dir : Nat) : Nat :=
  crc32c (((sortBy (fun r : LcalRec => r.step) (l.filter fun r => r.port == p && r.dir == dir)).flatMap fun r =>
    r.entries.flatMap fun e => leBytes 4 (e - e % 256)))

/-- V33 (R72). -/
def Parsed.ruleV33 (x : Parsed) : List Nat :=
  (List.range 8).flatMap fun p => [0, 1].flatMap fun dir =>
    let o := 64 + 32 * dir + 4 * p
    let want := if x.raw.litBit p then fingerprint (x.lcal.map (·.2)) p dir else 0
    at? (x.raw.u32 o != want) o

/-! ### The report (R71, R85) -/

/-- The outcome of checking an image: GEN, IMAGE_CRC, RULE, SECTION, OFFSET. -/
structure CheckOut where
  gen : Nat
  crc : Nat
  rule : Nat
  sect : Nat
  off : Nat
  deriving DecidableEq, Repr

/-- SECTION that holds an offset (R71). -/
def Raw.sectionOf (b : Raw) (o : Nat) : Nat :=
  if b.size ≤ o + 4 then 0xFE
  else if o < 256 then 0
  else
    ((List.range 7).foldl (fun (best : Nat × Nat) k =>
      if b.has k && b.secOff k ≤ o && best.1 < b.secOff k + 1 then (b.secOff k + 1, k + 1) else best) (0, 0)).2

/-- The rules on the bytes, V1 to V10, in order. -/
def Raw.rawRules (b : Raw) : List (Nat × (Unit → List Nat)) :=
  [(1, fun _ => b.ruleV1), (2, fun _ => b.ruleV2), (3, fun _ => b.ruleV3), (4, fun _ => b.ruleV4),
   (5, fun _ => b.ruleV5), (6, fun _ => b.ruleV6), (7, fun _ => b.ruleV7), (8, fun _ => b.ruleV8),
   (9, fun _ => b.ruleV9dir), (9, fun _ => b.ruleV9cnt), (10, fun _ => b.ruleV10)]

/-- The rules on the contents, V11 to V33, in order. -/
def Parsed.rules (x : Parsed) : List (Nat × (Unit → List Nat)) :=
  [(11, fun _ => x.ruleV11), (12, fun _ => x.ruleV12), (13, fun _ => x.ruleV13), (14, fun _ => x.ruleV14),
   (15, fun _ => x.ruleV15), (16, fun _ => x.ruleV16), (17, fun _ => x.ruleV17), (18, fun _ => x.ruleV18),
   (19, fun _ => x.ruleV19), (20, fun _ => x.ruleV20), (21, fun _ => x.ruleV21), (22, fun _ => x.ruleV22),
   (23, fun _ => x.ruleV23), (24, fun _ => x.ruleV24), (25, fun _ => x.ruleV25), (26, fun _ => x.ruleV26),
   (27, fun _ => x.ruleV27), (28, fun _ => x.ruleV28), (29, fun _ => x.ruleV29), (30, fun _ => x.ruleV30),
   (31, fun _ => x.ruleV31), (32, fun _ => x.ruleV32), (33, fun _ => x.ruleV33)]

/-- The first rule that fails, with the lowest offset at which it does (R71). -/
def firstFail : List (Nat × (Unit → List Nat)) → Option (Nat × Nat)
  | [] => none
  | (r, f) :: t => match lowest (f ()) with | some o => some (r, o) | none => firstFail t

/-- The first of V1 to V33 that fails. -/
def Raw.fails (b : Raw) : Option (Nat × Nat) :=
  match firstFail b.rawRules with
  | some f => some f
  | none => firstFail b.parse.rules

/-- Check V1 to V33 (R71, R85). -/
def Raw.check (b : Raw) : CheckOut :=
  match b.fails with
  | none => ⟨b.u32 8, b.imageCrc, 0, 0xFF, 0xFFFF_FFFF⟩
  | some (r, o) =>
    let sect := if r < 4 then 0 else b.sectionOf o
    ⟨if r ≤ 3 then 0 else b.u32 8, if r = 1 then 0 else b.imageCrc, r, sect, o⟩

/-- The image a bank holds (R74). -/
def Parsed.image (x : Parsed) : Image :=
  let b := x.raw
  { gen := b.u32 8, baseGen := b.u32 12, imgCrc := b.u32 (b.size - 4), lpMask := b.u8 20
    chMask := (List.range 256).filter b.chBit
    txFp := (List.range 8).map fun p => b.u32 (64 + 4 * p), feFp := (List.range 8).map fun p => b.u32 (96 + 4 * p)
    lcal := x.lcal.map (·.2), xcal := x.xcal.map (·.2), ptab := x.descs.map (·.2), sgmap := x.sgs.map (·.2)
    prt := x.prt.map (·.2), pgs := x.pgs.map (·.2), cat := x.cat.map (·.2), binds := x.binds.map (·.2)
    ladr := x.ladr.map (·.2) }

/-- Check and read image bytes. -/
def readImage (l : List Byte) : CheckOut × Option Image :=
  let b : Raw := l.toArray
  let c := b.check
  (c, if c.rule = 0 then some b.parse.image else none)

/-- Status of a failed rule: INTEGRITY for V1 to V5, CONSTRAINT for the others (R71). -/
def ruleStatus (r : Nat) : Nat := if r = 0 then stOk else if r ≤ 5 then stIntegrity else stConstraint

/-- Response bytes of a check (R85). -/
def CheckOut.bytes (c : CheckOut) : List Byte :=
  leBytes 4 c.gen ++ leBytes 4 c.crc ++ leBytes 1 c.rule ++ leBytes 1 c.sect ++ leBytes 2 0 ++ leBytes 4 c.off

/-- GEN of a flash slot, 0 when it fails V1 to V5 (R88). -/
def slotGen (l : Option (List Byte)) : Nat :=
  match l with
  | none => 0
  | some l =>
    let b : Raw := l.toArray
    match firstFail (b.rawRules.take 5) with | some _ => 0 | none => b.u32 8

end Sys2Proof.Machine
end

