-- ==== Sys2Proof/Machine/Flags.lean ====
section
/-! DEFINITION. The status flags and conditions that registers, responses and checks are computed from
(R316, R320, R326, R356, R449 to R450). -/

namespace Sys2Proof.Machine

open Sys2Proof

/-! ### Sinter words (R363, R367) -/

/-- Cell that serves a word: the word's own, or the spare at the end of its chain. -/
def Sinter.home (s : Sinter) : Nat → Nat → Nat
  | 0, w => w
  | n + 1, w => match (Tab.get {} s.cells w).spare with | some k => Sinter.home s n (6144 + k) | none => w

/-- Cell that serves a word; at most 256 spares can stand in a chain. -/
def Sinter.cellOf (s : Sinter) (w : Nat) : Nat := s.home 257 w

/-- Value held in persistent form. -/
def Sinter.stored (s : Sinter) (w : Nat) : Nat := (Tab.get {} s.cells (s.cellOf w)).value

/-- A value with a write of a given width put in (R366). -/
def mergeWord (old width v : Nat) : Nat :=
  if width = 1 then old / 2 ^ 32 * 2 ^ 32 + v % 2 ^ 32
  else if width = 2 then v / 2 ^ 32 % 2 ^ 32 * 2 ^ 32 + old % 2 ^ 32
  else v % 2 ^ 64

/-- Register words that are reserved (R363, R365, R449). -/
def reservedWord (w : Nat) : Bool :=
  (24 ≤ w && w < 40) || (59 ≤ w && w < 64) || (69 ≤ w && w < 128) || (136 ≤ w && w < 256) || (510 ≤ w && w < 1024)

/-- Value of the latest accepted write to a word (R367). A reserved register word reads 0 (R363). -/
def Sinter.read (s : Sinter) (w : Nat) : Nat :=
  if reservedWord w then 0
  else (s.queue ++ s.second ++ s.held).foldl (fun v c => if c.word = w then mergeWord v c.width c.value else v) (s.stored w)

/-- An unset word (R362). -/
def unset : Nat := 0xFFFF_FFFF_FFFF_FFFF

/-- A field of a profile word, or its reset value when the word is unset. -/
def Sinter.profile (s : Sinter) (w hi lo dflt : Nat) : Nat :=
  if s.read w = unset then dflt else bits (s.read w) hi lo

/-! ### Field lock (R449, R450) -/

/-- LOCK_STATE is LOCKED. -/
def Dev.lockSet (d : Dev) : Bool := bits (d.sinter.read 128) 15 0 == 0x4C4B

/-- Locked, and no session is open: the four accesses of R450 are closed. -/
def Dev.locked (d : Dev) : Bool := d.lockSet && d.svc.lock.session.isNone

/-- FIELD_LOCK of SYS_STATUS (R356). -/
def Dev.fieldLock (d : Dev) : Nat := if d.lockSet then (if d.svc.lock.session.isSome then 2 else 1) else 0

/-! ### Mailboxes (R316, R318, R320) -/

/-- Free credits of a ring. -/
def Mailbox.free (m : Mailbox) : Nat := 64 - (m.cmdProd + 2 ^ 16 - m.rspCons) % 2 ^ 16

/-- Announced commands not yet acknowledged. -/
def Mailbox.unacked (m : Mailbox) : Nat := (m.announced + 2 ^ 16 - m.cmdAck) % 2 ^ 16

/-- Commands the ring's credits let the sequencer acknowledge: up to RSP_CONS + 64 (R319). -/
def Mailbox.room (m : Mailbox) : Nat := 64 - (m.cmdAck + 2 ^ 16 - m.rspCons) % 2 ^ 16

/-! ### Firmware and pair -/

/-- The boot profile's bank and trial bits (R417). -/
def Dev.fwBank (d : Dev) : Nat := d.sinter.profile 1 0 0 0
def Dev.fwTrial (d : Dev) : Bool := d.sinter.profile 1 1 1 0 == 1
def Dev.autoOff (d : Dev) : Bool := d.sinter.profile 1 2 2 0 == 1
def Dev.refRevert (d : Dev) : Bool := d.sinter.profile 1 3 3 0 == 1
def Dev.refPreferB (d : Dev) : Bool := d.sinter.profile 1 4 4 0 == 1
def Dev.minSvn (d : Dev) : Nat := d.sinter.profile 2 15 0 0

/-- The pair's link is in a join or resync on this device or its twin (R428). -/
def Dev.joinOrResync (d : Dev) : Bool :=
  d.pair.joinPhase != 0 || d.pair.agree.any (fun p => p.2.resync != 0) ||
    (match d.pair.rxHead with | some h => d.pair.link == 2 && h.joinPhase != 0 | none => false)

/-- Protected (R260). -/
def Dev.protectedPair (d : Dev) : Bool :=
  d.pair.link == 2 &&
    ((d.pair.role == .active && d.twinRole == some .standby) || (d.pair.role == .standby && d.twinRole == some .active)) &&
    !d.pair.agree.any (fun p => p.2.diverged) &&
    (match d.pair.rxHead with | some h => h.divLp == 0 | none => false) &&
    !(if d.pair.role == .standby then d.pair.xstby else (match d.pair.rxHead with | some h => bit h.xstby 0 | none => false))

/-- FAR_STATE (R193, R204): 0 available, 1 PD_FAR or PD_HBM off, 2 HBM failed. -/
def Dev.farState (d : Dev) : Nat :=
  if !(d.domOn domFar && d.domOn domHbm) then 1 else if d.cald.hbmFailed then 2 else 0

/-- DIE_HEALTH of SYS_STATUS (R356). -/
def Dev.dieHealth (d : Dev) : Nat :=
  d.pair.sliceHealth % 16 + 16 * b2n (!d.pair.hubFault) + 32 * b2n (d.farState == 0)

/-- Timed commands that wait for their target MF (R49). -/
def Dev.timedWaiting (d : Dev) : List Waiting := d.host.waiting.filter fun w => w.listed

/-- Latch of STANDBY_ONLY (R316). -/
def Dev.standbyOnly (d : Dev) : Bool := !d.inCharge

/-- The control plane is in a pause (R425). -/
def Dev.paused (d : Dev) : Bool := match d.pwr.activation with | some a => a.pauseFc.isSome | none => false

/-- An FW_STAGE runs, or an FW_ACTIVATE or FW_ROLLBACK waits or pauses (R428). -/
def Dev.fwBusy (d : Dev) : Bool := d.pwr.stage.isSome || d.pwr.activation.isSome

end Sys2Proof.Machine
end

