-- ==== Sys2Proof/Machine/Command.lean ====
section
/-! DEFINITION. How a Quetha core takes, checks, accepts and answers a command (R319 to R325, R342, R45 to R49,
R268): the shared path of every row of the command interface. -/

namespace Sys2Proof.Machine

open Sys2Proof

/-! ### Responses (R321, R337) -/

/-- Write a response and advance RSP_PROD; raise the mailbox's vector (R321, R331) and the events of R361. -/
def Dev.respond (d : Dev) (c : Cmd) (st : Nat) (pl : List Byte) (doneFc : Nat) (target : Option Nat)
    (mirrored : Bool) : Dev :=
  let m := d.mb c.mb
  let r : Rsp :=
    { opcode := c.opcode, runFlags := c.cls + 4 * b2n target.isSome + 8 * b2n mirrored, status := st, seq := c.seq
      tag := c.tag, mailbox := c.mb, object := c.object, doneFc := doneFc, target := target.getD 0 % 2 ^ 32
      payload := pl.take 224 }
  let d := d.setMb c.mb
    { m with rspProd := (m.rspProd + 1) % 2 ^ 16, unread := m.unread ++ [(c.seq, c.opcode, r.target)] }
  let d := { d with host := { d.host with
    out := d.host.out ++ [(0x8000 * c.mb + 0x4000 + 0x100 * (m.rspProd % 64), r.bytes)] } }
  let d := if m.irqEn then d.vector c.mb else d
  if st = stBadOpcode || st = stDenied || st = stLocked then
    d.raise 0x0001 (objMailbox c.mb) (leBytes 1 c.mb ++ leBytes 2 c.opcode ++ leBytes 1 st)
  else if st = stCancelled then
    d.raise 0x0004 (objMailbox c.mb) (leBytes 1 c.mb ++ leBytes 2 c.seq ++ leBytes 2 c.opcode)
  else d

/-- Answer a command in the Beat it executes, with no target (R340). -/
def Dev.answer (d : Dev) (c : Cmd) (st : Nat) (pl : List Byte) : Dev := d.respond c st pl d.fc none false

/-! ### Dequeue (R322) -/

/-- The queued command of the highest class, the earliest acknowledged within it. -/
def bestOf : List Cmd → Option Cmd
  | [] => none
  | c :: t => match bestOf t with
    | none => some c
    | some b => if b.cls < c.cls then some b else some c

/-- Whether core `n` can take a command: it runs, its domain is on, no pause, and it executes nothing.
Before firmware runs, only the boot ROM on QC0 serves (R419). -/
def Dev.coreFree (d : Dev) (n : Nat) : Bool :=
  n < 4 && d.pwr.mode == .running && bit d.pwr.coresUp n && d.domOn (domCore n) && !d.paused &&
    (d.pwr.fwState == 2 || (d.pwr.fwState == 0 && n == 0)) &&
    !d.host.waiting.any fun w => w.core == some n

/-- The command leaves the queue. -/
def Dev.unqueue (d : Dev) (c : Cmd) : Dev := { d with host := { d.host with queue := d.host.queue.erase c } }

/-- End the leading commands whose opcode is undefined (R342, steps 1 and 2): no row of the table is theirs, so the
core that is free ends them before it takes the next. -/
def Dev.drain : Nat → Dev → Dev
  | 0, d => d
  | n + 1, d =>
    match bestOf d.host.queue with
    | none => d
    | some c =>
      if (opRow c.opcode).isSome && d.pwr.fwState = 2 then d
      else if d.pwr.fwState = 0 && c.mb = 0 && c.opcode = 0x0010 then d
      else
        let d := d.unqueue c
        let busy := d.host.queue.any (fun q => q.mb == c.mb && q.seq == c.seq) ||
          d.host.waiting.any (fun w => w.cmd.mb == c.mb && w.cmd.seq == c.seq)
        let st := if d.pwr.fwState = 0 then (if c.mb = 0 then stBadOpcode else stDenied)
          else if busy then stBusy else stBadOpcode
        Dev.drain n (d.answer c st [])

/-- Core `core` takes the sequencer's next command, if its opcode is one of `ops`. -/
def Dev.take (d : Dev) (core : Nat) (ops : List Nat) : Option (Dev × Cmd) :=
  if d.coreFree core then
    let d := d.drain d.host.queue.length
    match bestOf d.host.queue with
    | none => none
    | some c => if ops.contains c.opcode then some (d.unqueue c, c) else none
  else none

/-! ### Checks 1 to 8 (R342) -/

/-- Row whose types, access and grant govern a command: SYS_STATUS with SELECT SETTING takes its setter's (R350). -/
def Cmd.rowOf (c : Cmd) (r : OpRow) : Option OpRow :=
  if c.opcode = 0x0002 && c.field 0 1 = 1 then
    match opRow (c.field 2 2) with
    | some s => if s.setter then some { r with types := s.types, access := s.access } else none
    | none => none
  else some r

/-- Grant check of step 7. -/
def Dev.grantRefuses (d : Dev) (c : Cmd) (a : Access) : Bool :=
  c.mb != 0 && (match a with
    | .privileged => true
    | .granted => !coveredBy (d.mb c.mb).grants c.object
    | .openTo => false
    | .ownMailbox => objType c.object == 0x09 && objIndex c.object != c.mb)

/-- Extra range of an opcode's object: LP_LANE_SET takes line lanes only (R351). -/
def laneRange (c : Cmd) : Bool := c.opcode != 0x0303 || 64 ≤ c.index

/-- Steps 1 to 8 of R342, in order. -/
def Dev.precheck (d : Dev) (c : Cmd) : Check :=
  firstRefusal
    [refuseIf (d.host.queue.any (fun q => q.mb == c.mb && q.seq == c.seq) ||
        d.host.waiting.any (fun w => w.cmd.mb == c.mb && w.cmd.seq == c.seq)) stBusy,
     match opRow c.opcode with
     | none => refuse stBadOpcode
     | some r => firstRefusal
       [refuseIf (r.access == .privileged && c.mb != 0) stDenied,
        refuseIf (d.locked && (c.opcode == 0x0F14 || (0x0F20 ≤ c.opcode && c.opcode ≤ 0x0F2F))) stLocked,
        refuseIf (!r.anyRole && !d.inCharge) stStandby,
        match c.rowOf r with
        | none => none
        | some q => firstRefusal
          [refuseIf (!q.types.contains (objType c.object)) stNoObject,
           refuseIf (d.grantRefuses c q.access) stDenied,
           refuseIf (!d.objExists c.object || !laneRange c) stNoObject]]]

/-! ### Acceptance (R45 to R49, R268) -/

/-- The reference MF of R48 at the Beat of acceptance. -/
def Dev.refMfn (d : Dev) : Nat := if d.beat < 252 then d.mfn + 1 else d.mfn + 2

/-- Resolve APPLY_AT against a reference MF: the target, and whether it was defaulted (R48). -/
def resolveTarget (ref applyAt : Nat) : Nat × Bool :=
  let dist := (applyAt + 2 ^ 32 - ref % 2 ^ 32) % 2 ^ 32
  if dist < 2 ^ 31 then (ref + dist, false) else (ref, true)

/-- Untimed commands whose home chapter places their effect at an MF boundary (R45). -/
def Cmd.atMf (c : Cmd) : Bool :=
  c.opcode == 0x0203 || c.opcode == 0x0301 || c.opcode == 0x0C04 || (c.opcode == 0x0305 && c.field 0 1 != 1)

/-- Whether the device mirrors a command (R268, R354). -/
def Dev.mirrors (d : Dev) (r : OpRow) : Bool := r.kind == .m && d.pair.role == .active && d.twinFollows

/-- Put a command among those without a response. -/
def Dev.hold (d : Dev) (w : Waiting) : Dev :=
  { d with host := { d.host with waiting := d.host.waiting ++ [w], nextOrder := d.host.nextOrder + 1 } }

/-- Room for one more timed command with a target (R49). -/
def Dev.timedRoom (d : Dev) (target : Nat) : Bool :=
  d.timedWaiting.length < 256 && (d.timedWaiting.filter fun w => w.target == some target).length < 32

/-- Send a mirrored command to the twin until it is acknowledged (R268). -/
def Dev.mirrorOut (d : Dev) (c : Cmd) (target : Nat) : Dev :=
  let e : MirrorEntry := { mb := c.mb, seq := c.seq, target := target % 2 ^ 32, id := (d.pair.mirrorId + 1) % 2 ^ 16, slot := c.slot }
  { d with pair := { d.pair with unacked := d.pair.unacked ++ [e], mirrorId := e.id } }

/-- A command that passed its checks waits for its effect (R45, R47 to R49, R268). -/
def Dev.accept (d : Dev) (core : Nat) (c : Cmd) : Dev :=
  match opRow c.opcode with
  | none => d
  | some r =>
    let mir := d.mirrors r
    let timed := r.timed && c.timed
    let ref := if mir then d.mfn + 2 else d.refMfn
    let base : Waiting :=
      { cmd := c, core := some core, target := none, effectFc := if c.atMf then fcOf ref else d.fc + 3
        order := d.host.nextOrder, mirror := none, acked := false, fromTwin := false, job := false }
    if timed || mir then
      let (t, dflt) := if timed then resolveTarget ref c.applyAt else (ref, false)
      if d.timedRoom t then
        let d := d.hold { base with core := none, target := some t, effectFc := fcOf t, listed := true
                                    mirror := if mir then some ((d.pair.mirrorId + 1) % 2 ^ 16) else none }
        let d := if mir then d.mirrorOut c t else d
        if dflt then d.raise 0x0109 0 (leBytes 2 c.opcode ++ leBytes 2 c.seq ++ leBytes 4 c.applyAt) else d
      else d.answer c stNoResource []
    else d.hold base

/-- A command that a hub unit carries on: it waits as a job that another row ends. `listed`: as a timed command. -/
def Dev.acceptJob (d : Dev) (c : Cmd) (target : Option Nat) (listed : Bool) : Dev :=
  d.hold { cmd := c, core := none, target := target, effectFc := d.fc, order := d.host.nextOrder, mirror := none
           acked := false, fromTwin := false, job := true, listed := listed }

/-! ### The two kinds of row -/

/-- A command that changes no state: the core takes it, checks it, and answers (R342, R340). -/
def Dev.serveRead (d : Dev) (core : Nat) (ops : List Nat) (f : Dev → Cmd → Nat × List Byte) : Dev :=
  match d.take core ops with
  | none => d
  | some (e, c) =>
    match e.precheck c with
    | some (st, pl) => e.answer c st pl
    | none => let (st, pl) := f e c; e.answer c st pl

/-- A command that changes state: the core takes it, checks it through step 10, and accepts it. -/
def Dev.serve (d : Dev) (core : Nat) (ops : List Nat) (check : Dev → Cmd → Check)
    (accept : Dev → Nat → Cmd → Dev) : Dev :=
  match d.take core ops with
  | none => d
  | some (e, c) =>
    match firstRefusal [e.precheck c, check e c] with
    | some (st, pl) => e.answer c st pl
    | none => accept e core c

/-- The usual state-changing row. -/
def Dev.serveChange (d : Dev) (core : Nat) (op : Nat) (check : Dev → Cmd → Check) : Dev :=
  d.serve core [op] check Dev.accept

/-! ### Ends of waiting commands -/

/-- Take a waiting command out. -/
def Dev.unhold (d : Dev) (order : Nat) : Dev :=
  { d with host := { d.host with waiting := d.host.waiting.filter fun w => w.order != order } }

/-- End a waiting command with a response (none for one the twin mirrored here). -/
def Dev.finish (d : Dev) (w : Waiting) (st : Nat) (pl : List Byte) : Dev :=
  let d := d.unhold w.order
  if w.fromTwin then d
  else d.respond w.cmd st pl (match w.target with | some t => if w.job then d.fc else fcOf t | none => d.fc) w.target
    (w.mirror.isSome && w.acked)

/-- End the waiting command of an acceptance order, if it still waits. -/
def Dev.finishOrder (d : Dev) (order : Nat) (st : Nat) (pl : List Byte) : Dev :=
  match d.host.waiting.find? fun w => w.order == order with
  | some w => d.finish w st pl
  | none => d

/-- What applying a command gives: the device, the status and the response payload. -/
abbrev Applied := Dev × Nat × List Byte

/-- Applied with OK and no payload. -/
def okWith (d : Dev) : Applied := (d, stOk, [])

/-- Status that stands for "goes on": the command stays as a job that another row ends. -/
def stGoesOn : Nat := 0x100

/-- Applied, and carried on by a hub unit. -/
def goesOn (d : Dev) : Applied := (d, stGoesOn, [])

/-- A waiting command becomes a job: no core holds it any more. -/
def Dev.makeJob (d : Dev) (order : Nat) : Dev :=
  { d with host := { d.host with
    waiting := d.host.waiting.map fun w =>
      if w.order = order then { w with job := true, core := none, listed := false } else w } }

/-- The next value of the random source, and the device after the draw. -/
def Dev.draw (d : Dev) : Nat × Dev := ((Config.freeValue d.free).toNat, { d with free := d.free + 1 })

/-- A re-check at the effect Beat, then the effect. -/
def recheck (d : Dev) (c : Check) (f : Dev → Applied) : Applied :=
  match c with
  | some (st, pl) => (d, st, pl)
  | none => f d

end Sys2Proof.Machine
end

