-- ==== Sys2Proof/Machine/Crc.lean ====
section
/-! DEFINITION. The three check-value units and their register port (R303 to R306), and the frame check sequences
of the Fumarole framing (R291, R292). -/

namespace Sys2Proof.Machine

open Sys2Proof

/-- Width of a unit's value: CRC-16, CRC-32, CRC-32C (R303). -/
def crcWidth (unit : Nat) : Nat := if unit = 0 then 16 else 32

/-- Feed one byte to a value of a unit; with REFLECT the value is held reflected (R304). -/
def crcByte (unit : Nat) (reflect : Bool) (v : Nat) (b : Byte) : Nat :=
  match unit, reflect with
  | 0, true => (crcFeedR 16 0x8408#16 (BitVec.ofNat 16 v) [b]).toNat
  | 0, false => (crcFeed 16 0x1021#16 (BitVec.ofNat 16 v) [b]).toNat
  | 1, true => (crcFeedR 32 0xEDB8_8320#32 (BitVec.ofNat 32 v) [b]).toNat
  | 1, false => (crcFeed 32 0x04C1_1DB7#32 (BitVec.ofNat 32 v) [b]).toNat
  | _, true => (crcFeedR 32 0x82F6_3B78#32 (BitVec.ofNat 32 v) [b]).toNat
  | _, false => (crcFeed 32 0x1EDC_6F41#32 (BitVec.ofNat 32 v) [b]).toNat

/-- RESULT of the selected context (R304). -/
def CrcUnit.result (u : CrcUnit) (unit : Nat) : Nat :=
  let v := u.value % 2 ^ crcWidth unit
  if u.xorOut then 2 ^ crcWidth unit - 1 - v else v

/-- A context in the engine's use: reflected, inverted, restarted (R291, R306). -/
def freshContext (unit : Nat) : Nat × Bool × Bool := (2 ^ crcWidth unit - 1, true, true)

/-- Context `k` as it stands. -/
def CrcUnit.context (u : CrcUnit) (k : Nat) : Nat × Bool × Bool :=
  if k = u.ctxSel then (u.value, u.reflect, u.xorOut) else Tab.get (0xFFFF_FFFF, true, true) u.ctxs k

/-- Put a context in place, live or saved. -/
def CrcUnit.setContext (u : CrcUnit) (k : Nat) (x : Nat × Bool × Bool) : CrcUnit :=
  if k = u.ctxSel then { u with value := x.1, reflect := x.2.1, xorOut := x.2.2 }
  else { u with ctxs := Tab.set u.ctxs k x }

/-- CTX_SEL: save the live value and CFG, load the new context; 520 to 1,023 select 519 (R304, R305). -/
def CrcUnit.select (u : CrcUnit) (value : Nat) : CrcUnit :=
  let k := min (value % 1024) 519
  let x := u.context k
  { u with ctxs := Tab.set u.ctxs u.ctxSel (u.value, u.reflect, u.xorOut), ctxSel := k
           value := x.1, reflect := x.2.1, xorOut := x.2.2 }

/-- Feed bytes in order (R304). -/
def CrcUnit.feed (u : CrcUnit) (unit : Nat) (l : List Byte) : CrcUnit :=
  { u with value := l.foldl (crcByte unit u.reflect) u.value }

/-- The unit of a number. -/
def Dev.crc (d : Dev) : Nat → CrcUnit
  | 0 => d.crc16
  | 1 => d.crc32
  | _ => d.crc32c

def Dev.setCrc (d : Dev) (unit : Nat) (u : CrcUnit) : Dev :=
  match unit with
  | 0 => { d with crc16 := u }
  | 1 => { d with crc32 := u }
  | _ => { d with crc32c := u }

/-- The selected context's source is bound in HDLC mode: the register port may not change it (R306). -/
def Dev.crcHeld (d : Dev) (unit : Nat) : Bool :=
  match (d.source (d.crc unit).ctxSel).bind with
  | some b => (d.fum b.port).attr.mode == 1
  | none => false

/-- A register-port write of data, VALUE or CFG: refused under R306, or carried out. -/
def Dev.crcWrite (d : Dev) (unit : Nat) (f : CrcUnit → CrcUnit) : Dev :=
  if d.crcHeld unit then
    let d := d.setCrc unit { d.crc unit with denied := true }
    (d.tick (0x5403 + unit) 1).raise 0x0A06 0 (leBytes 1 unit ++ leBytes 2 (d.crc unit).ctxSel)
  else d.setCrc unit (f (d.crc unit))

/-- CRC_CTX_SEL_WRITE (R305). -/
def execCrcCtxSelWrite (unit value : Nat) (s : State) : Host.Outcome State Fault Refusal :=
  s.runIf (fun _ => unit < 3) fun d => d.setCrc unit ((d.crc unit).select value)

/-- CRC_CFG_WRITE (R304, R306). -/
def execCrcCfgWrite (unit value : Nat) (s : State) : Host.Outcome State Fault Refusal :=
  s.runIf (fun _ => unit < 3) fun d =>
    d.crcWrite unit fun u => { u with reflect := bit value 0, xorOut := bit value 1 }

/-- CRC_DATA_B_WRITE (R304). -/
def execCrcDataBWrite (unit value : Nat) (s : State) : Host.Outcome State Fault Refusal :=
  s.runIf (fun _ => unit < 3) fun d => d.crcWrite unit fun u => u.feed unit (leBytes 1 value)

/-- CRC_DATA_H_WRITE (R304). -/
def execCrcDataHWrite (unit value : Nat) (s : State) : Host.Outcome State Fault Refusal :=
  s.runIf (fun _ => unit < 3) fun d => d.crcWrite unit fun u => u.feed unit (leBytes 2 value)

/-- CRC_DATA_W_WRITE (R304). -/
def execCrcDataWWrite (unit value : Nat) (s : State) : Host.Outcome State Fault Refusal :=
  s.runIf (fun _ => unit < 3) fun d => d.crcWrite unit fun u => u.feed unit (leBytes 4 value)

/-- CRC_VALUE_WRITE (R305, R306). -/
def execCrcValueWrite (unit value : Nat) (s : State) : Host.Outcome State Fault Refusal :=
  s.runIf (fun _ => unit < 3) fun d => d.crcWrite unit fun u => { u with value := value % 2 ^ 32 }

/-- Value a register of a unit reads (R304). -/
def Dev.crcRead (d : Dev) (unit off : Nat) : Nat :=
  let u := d.crc unit
  match off with
  | 0x00 => u.ctxSel
  | 0x04 => b2n u.reflect + 2 * b2n u.xorOut
  | 0x14 => u.value
  | 0x18 => u.result unit
  | 0x1C => 2 * b2n u.denied
  | _ => 0

/-- A write of a register of a unit through the bus matrix (R304 to R306). -/
def Dev.crcRegister (d : Dev) (unit off value : Nat) : Dev :=
  match off with
  | 0x00 => d.setCrc unit ((d.crc unit).select value)
  | 0x04 => d.crcWrite unit fun u => { u with reflect := bit value 0, xorOut := bit value 1 }
  | 0x08 => d.crcWrite unit fun u => u.feed unit (leBytes 1 value)
  | 0x0C => d.crcWrite unit fun u => u.feed unit (leBytes 2 value)
  | 0x10 => d.crcWrite unit fun u => u.feed unit (leBytes 4 value)
  | 0x14 => d.crcWrite unit fun u => { u with value := value % 2 ^ 32 }
  | 0x1C => if bit value 1 then d.setCrc unit { d.crc unit with denied := false } else d
  | _ => d

/-- Check value of content under a unit's engine settings (R291, R292). -/
def fcsOf (unit : Nat) (l : List Byte) : Nat :=
  2 ^ crcWidth unit - 1 - l.foldl (crcByte unit true) (2 ^ crcWidth unit - 1)

end Sys2Proof.Machine
end

