-- ==== Sys2Proof/Machine/Sinter.lean ====
section
/-! DEFINITION. Sinter: acceptance, the commit queue, wear, verification, spares, and the SINTER_* commands
(R362 to R378, R270). -/

namespace Sys2Proof.Machine

open Sys2Proof

/-- First black-box word and first spare among the cells. -/
def bbCell (k : Nat) : Nat := 4096 + k
def spareCell (k : Nat) : Nat := 6144 + k

/-- Words that a host BAR0 write or SINTER_WRITE may write (R363); a reserved word is none of them (R12; DEDUCED, log 83). -/
def hostWritable (w : Nat) : Bool :=
  (w < 56 || (64 ≤ w && w < 128) || (256 ≤ w && w < 512) || (1024 ≤ w && w < 4096)) && !reservedWord w

/-- Twin words (R270). -/
def twinWord (w : Nat) : Bool := (256 ≤ w && w < 512) || (1024 ≤ w && w < 4096)

/-- An accepted write enters the commit queue; beyond 64 entries it is held (R367). -/
def Sinter.put (s : Sinter) (c : Commit) : Sinter :=
  if s.queue.length < 64 && s.held.isEmpty then { s with queue := s.queue ++ [c] } else { s with held := s.held ++ [c] }

/-- The BX256 writes a whole word of its own (R363). -/
def Dev.sinterPut (d : Dev) (w v : Nat) : Dev := { d with sinter := d.sinter.put { word := w, width := 0, value := v } }

/-- Write some bits of a profile word; an unset word starts from 0. -/
def Dev.sinterField (d : Dev) (w hi lo v : Nat) : Dev :=
  let old := if d.sinter.read w = unset then 0 else d.sinter.read w
  d.sinterPut w (old - bits old hi lo * 2 ^ lo + (v % 2 ^ (hi + 1 - lo)) * 2 ^ lo)

/-- A write is refused (R363). -/
def Dev.sinterRefuse (d : Dev) (master w : Nat) : Dev :=
  (d.tick 0x5380 1).raise 0x0B01 (objWord w) (leBytes 1 master ++ leBytes 2 w)

/-! ### Commit (R367 to R372) -/

/-- Spares not in use. -/
def Sinter.sparesFree (s : Sinter) : Nat := 256 - s.spares

/-- Give the cell `k` a free spare; it must exist. -/
def Sinter.remap (s : Sinter) (k : Nat) : Sinter :=
  { s with cells := Tab.modify {} s.cells k fun c => { c with spare := some s.spares }, spares := s.spares + 1 }

/-- Number of the spare in a cell, 0xFFFF for a word as first made. -/
def spareNo (k : Nat) : Nat := if 6144 ≤ k then k - 6144 else 0xFFFF

/-- Put a value in a cell: one endurance cycle; at 10^9 the word is WORN (R370). -/
def Dev.burn (d : Dev) (w k v : Nat) : Dev :=
  let c : Cell := Tab.get {} d.sinter.cells k
  let n := satAdd max32 c.wear 1
  let d := { d with sinter := { d.sinter with
    cells := Tab.set d.sinter.cells k { c with value := v, wear := n, worn := c.worn || n == 1_000_000_000 } } }
  let d := d.tick 0x5382 1
  if n = 1_000_000_000 then d.raise 0x0B02 0 (leBytes 2 w ++ leBytes 2 (spareNo k)) else d

/-- Remap the word served by cell `k`, and report (R370, R371). -/
def Dev.remapWord (d : Dev) (w k : Nat) : Dev :=
  let n := d.sinter.spares
  { d with sinter := d.sinter.remap k }.raise 0x0B03 0
    (leBytes 2 w ++ leBytes 2 n ++ leBytes 2 (256 - (n + 1)))

/-- No spare is free (R372): `outcome` 0 written to the WORN word, 1 discarded. -/
def Dev.noSpare (d : Dev) (w outcome : Nat) : Dev := d.raise 0x0B04 0 (leBytes 2 w ++ leBytes 1 outcome)

/-- What one commit did: remapped, written to a WORN word with no spare, cell that holds the value. -/
structure CommitDone where
  remapped : Bool
  onWorn : Bool
  cell : Nat
  deriving DecidableEq, Repr

/-- One word commits, is read back (`ok`) and remapped when WORN or failed (R370 to R372). -/
def Dev.commit (d : Dev) (w width value : Nat) (ok : Bool) : Dev × CommitDone :=
  let k := d.sinter.cellOf w
  let c : Cell := Tab.get {} d.sinter.cells k
  let v := mergeWord c.value width value
  if c.failed && d.sinter.sparesFree = 0 then (d.noSpare w 1, ⟨false, false, k⟩)
  else
    let move := (c.worn || c.failed) && d.sinter.sparesFree != 0
    let d := if move then d.remapWord w k else d
    let k1 := d.sinter.cellOf w
    let onWorn := c.worn && !move
    let d := if onWorn then d.noSpare w 0 else d
    let d := d.burn w k1 v
    if ok then (d, ⟨move, onWorn, k1⟩)
    else
      let d := { d with sinter := { d.sinter with
        cells := Tab.modify {} d.sinter.cells k1 fun x => { x with failed := true } } }
      let d := d.raise 0x0B05 0 (leBytes 2 w ++ leBytes 2 (spareNo k1))
      if d.sinter.sparesFree = 0 then
        let d := { d with sinter := { d.sinter with
          cells := Tab.modify {} d.sinter.cells k1 fun x => { x with value := c.value } } }
        (d.noSpare w 1, ⟨move, onWorn, k1⟩)
      else
        let d := d.remapWord w k1
        let k2 := d.sinter.cellOf w
        (d.burn w k2 v, ⟨true, onWorn, k2⟩)

/-- A committed twin word goes to the twin (R270). -/
def Dev.twinCopy (d : Dev) (w : Nat) : Dev :=
  if twinWord w && d.pair.role == .active && d.twinFollows then
    { d with pair := { d.pair with
      txRecs := d.pair.txRecs ++ [{ snapMfn := d.mfn, body := .sinter w (d.sinter.stored w) }] } }
  else d

/-- The response of SINTER_WRITE (R376). -/
def sinterWriteResponse (d : Dev) (x : CommitDone) : List Byte :=
  leBytes 4 (Tab.get {} d.sinter.cells x.cell : Cell).wear ++ leBytes 1 (b2n x.remapped + 2 * b2n x.onWorn) ++ zeros 3

/-- The first entry of a commit port ends its commit; a held write takes the room. -/
def Dev.commitNext (d : Dev) (second ok : Bool) : Dev :=
  match (if second then d.sinter.second else d.sinter.queue) with
  | [] => d
  | c :: t =>
    let s := if second then { d.sinter with second := t } else
      match d.sinter.held with
      | h :: r => { d.sinter with queue := t ++ [h], held := r }
      | [] => { d.sinter with queue := t }
    let (d, x) := { d with sinter := s }.commit c.word c.width c.value ok
    let d := d.twinCopy c.word
    match c.waiter with
    | some o => d.finishOrder o stOk (sinterWriteResponse d x)
    | none => d

/-- SINTER_COMMIT (R367 to R372). -/
def execSinterCommit (second ok : Bool) (s : State) : Host.Outcome State Fault Refusal :=
  s.run fun d => d.commitNext second ok

/-- SINTER_TWIN_COMMIT (R270, R368): on a STANDBY device the second port commits the twin-word records. -/
def execSinterTwinCommit (s : State) : Host.Outcome State Fault Refusal :=
  s.runIf (fun d => d.pair.role == .standby || d.pair.role == .joining) fun d =>
    match d.pair.twinWords with
    | [] => d
    | (w, v) :: t => { d with pair := { d.pair with twinWords := t } }.asTwin fun d => (d.commit w 0 v true).1

/-! ### Host writes (R366) -/

/-- A host write through BAR0 to a register word: accepted, held, refused or a decode error. -/
def Dev.sinterBar0 (d : Dev) (off width value : Nat) : Dev :=
  let w := (off - 0x8000) / 8
  if (width = 8 && off % 8 = 0) || (width = 4 && off % 4 = 0) then
    if d.host.sinterWe != 0x5157 || !hostWritable w then d.sinterRefuse 7 w
    else if twinWord w && d.pair.role == .standby then d.raise 0x090C (objWord w) (leBytes 2 w ++ leBytes 2 0)
    else
      let half := if width = 8 then 0 else if off % 8 = 0 then 1 else 2
      let v := if half = 2 then value % 2 ^ 32 * 2 ^ 32 else value % 2 ^ 64
      let c : Commit := { word := w, width := half, value := v }
      let full := 64 ≤ d.sinter.queue.length || !d.sinter.held.isEmpty
      let d := { d with sinter := d.sinter.put c }
      if full then
        let (v, d) := d.draw
        (d.tick 0x5381 1).raise 0x0B06 0 (leBytes 4 (v % 2 ^ 32))
      else d
  else d.decodeError 7 (0x3000_0000 + (off - 0x8000))

/-- SINTER_BAR0_WRITE (R366, R367, R270). -/
def execSinterBar0Write (off width value : Nat) (s : State) : Host.Outcome State Fault Refusal :=
  if 0x1_0000 ≤ off then .fault .outsideBar
  else s.runIf (fun d => d.host.linkUp && 0x8000 ≤ off) fun d => d.sinterBar0 off width value

/-! ### Commands (R375 to R377) -/

/-- Whether a word has an accepted write not yet committed. -/
def Sinter.pendingWord (s : Sinter) (w : Nat) : Bool := (s.queue ++ s.second ++ s.held).any fun c => c.word == w

/-- SINTER_READ's response (R375). -/
def sinterRead (d : Dev) (c : Cmd) : Nat × List Byte :=
  let n := min (clamp 1 26 (c.field 0 1)) (4096 - c.index)
  let ws := (List.range n).map fun i => c.index + i
  (stOk, leBytes 1 n ++ leBytes 1 d.sinter.queue.length ++ leBytes 2 d.sinter.sparesFree ++
    leBytes 4 (bitsOf (ws.map d.sinter.pendingWord)) ++ (ws.map fun w => leBytes 8 (d.sinter.read w)).flatten)

/-- SINTER_READ (R375). -/
def execSinterRead (core : Nat) (s : State) : Host.Outcome State Fault Refusal :=
  s.run fun d => d.serveRead core [0x0B01] sinterRead

/-- A word that no command may write gives CONSTRAINT (R376). -/
def checkSinterWrite (_ : Dev) (c : Cmd) : Check := refuseIf (!hostWritable c.index) stConstraint

/-- Effect of SINTER_WRITE: the write is accepted; the command ends when its commit ends (R376). -/
def applySinterWrite (d : Dev) (c : Cmd) (order : Nat) : Applied :=
  let x : Commit := { word := c.index, width := fallback 2 0 (c.field 0 1), value := c.field 8 8, waiter := some order }
  goesOn { d with sinter := d.sinter.put x }

/-- SINTER_WRITE (R376). -/
def execSinterWrite (core : Nat) (s : State) : Host.Outcome State Fault Refusal :=
  s.run fun d => d.serveChange core 0x0B02 checkSinterWrite

/-- SINTER_WEAR's response (R377). -/
def sinterWear (d : Dev) (c : Cmd) : Nat × List Byte :=
  let w := if c.field 0 1 = 1 then bbCell (clamp 0 2047 (c.field 2 2)) else c.index
  let x : Cell := Tab.get {} d.sinter.cells w
  let k := d.sinter.cellOf w
  let y : Cell := Tab.get {} d.sinter.cells k
  let st := if x.spare.isSome then 3 else if x.failed then 2 else if x.worn then 1 else 0
  let sp := if k = w then 0 else if !y.worn then 1 else if d.sinter.sparesFree = 0 then 3 else 2
  (stOk, leBytes 4 x.wear ++ leBytes 1 st ++ leBytes 1 sp ++ leBytes 2 (if k = w then 0xFFFF else spareNo k) ++
    leBytes 4 (if k = w then 0 else y.wear) ++ leBytes 2 d.sinter.spares ++ leBytes 2 d.sinter.sparesFree)

/-- SINTER_WEAR (R377). -/
def execSinterWear (core : Nat) (s : State) : Host.Outcome State Fault Refusal :=
  s.run fun d => d.serveRead core [0x0B03] sinterWear

/-! ### Black box (R374) -/

/-- BOOT_EPOCH rises by one, saturating at 0xFFFE; the unset value counts as one before 0 (R374). -/
def Dev.nextEpoch (d : Dev) : Dev :=
  let e := if d.sinter.read 58 = unset then 0 else min 0xFFFE (bits (d.sinter.read 58) 15 0 + 1)
  d.sinterPut 58 e

/-- Accept a black-box commit: the second port, or the commit queue on a STANDBY device (R368). -/
def Dev.bbPut (d : Dev) (k v : Nat) : Dev :=
  let c : Commit := { word := bbCell k, width := 0, value := v }
  if d.pair.role == .standby then { d with sinter := d.sinter.put c }
  else { d with sinter := { d.sinter with second := d.sinter.second ++ [c] } }

/-- Copy a record into the black-box ring: five commits in the order of R374. -/
def Dev.bbCopy (d : Dev) (bytes : List Byte) (fc : Nat) : Dev :=
  let k := 4 * d.log.bbNext
  let key := bits (d.sinter.read 58) 15 0 * 2 ^ 48 + fc % 2 ^ 48
  let d := d.bbPut k unset
  let d := d.bbPut (k + 1) (fieldAt bytes 8 8)
  let d := d.bbPut (k + 2) (fieldAt bytes 16 8)
  let d := d.bbPut (k + 3) (fieldAt bytes 24 8)
  let d := d.bbPut k key
  { d with log := { d.log with bbNext := (d.log.bbNext + 1) % 512 } }

/-- Key of a black-box record as read. -/
def Sinter.bbKey (s : Sinter) (k : Nat) : Nat := s.read (bbCell (4 * k))

/-- Index of the valid record with the highest key. -/
def Sinter.bbNewest (s : Sinter) : Option Nat :=
  ((List.range 512).filter fun k => s.bbKey k != unset).foldl
    (fun best k => match best with
      | none => some k
      | some b => if s.bbKey b < s.bbKey k then some k else best) none

end Sys2Proof.Machine
end

