-- ==== Sys2Proof/Machine/Service.lean ====
section
/-! DEFINITION. Test patterns, loopbacks, JTAG, the field lock, the service UART and the peripheral I²C controllers
(R442 to R466). -/

namespace Sys2Proof.Machine

open Sys2Proof

/-! ### Test patterns (R442 to R445, R460, R461) -/

/-- Lanes of PAM4 at a client port (R144): 53.125 Gb/s per lane and above. -/
def pam4Client (x : Desc) : Bool :=
  (x.clientType == 0x04 && x.lanes ≤ 2) || (0x05 ≤ x.clientType && x.clientType ≤ 0x08) || 0x40 ≤ x.clientType

/-- Descriptor of the client port that a client lane belongs to. -/
def Dev.laneDesc (d : Dev) (l : Nat) : Option Desc :=
  d.sched.active.bind fun i => i.ptab.find? fun x => x.kind != 2 && x.cp ≤ l && l < x.cp + x.lanes

/-- A lane runs PAM4: every line lane, and client lanes by their port; a lane of no port may run either. -/
def Dev.lanePam4 (d : Dev) (l : Nat) : Bool :=
  if 64 ≤ l then true else match d.laneDesc l with | some x => pam4Client x | none => true

/-- A lane belongs to an enabled port. -/
def Dev.laneEnabled (d : Dev) (l : Nat) : Bool :=
  if 64 ≤ l then (d.port ((l - 64) / 8)).enabled
  else match d.laneDesc l with | some x => (d.client x.cp).enabled | none => false

/-- The active image uses a die link: a channel sits on the slice, or a line slot of its ports is routed (R442). -/
def Dev.dieLinkUsed (d : Dev) (s : Nat) : Bool :=
  match d.sched.active with
  | none => false
  | some i => i.ptab.any (fun x => x.ch / 64 == s) || i.xcal.any (fun e => e.gs / 640 == s || e.ch / 64 == s)

/-- Patterns and conditions of R442; `true` means that the request is refused. -/
def Dev.prbsRefused (d : Dev) (o pattern mode : Nat) : Bool :=
  let k := objIndex o
  let gen := bit mode 0
  let force := bit mode 3
  let test := d.domOn domTest
  if pattern = 0 then false
  else match objType o with
    | 0x0C => !(pattern ≤ 6 || (pattern ≤ 9 && d.lanePam4 k)) || (gen && d.laneEnabled k && !force)
    | 0x0D =>
      if k < 4 then pattern != 6 || !test || d.dieLinkUsed k
      else if k = 4 then !(pattern == 6 || pattern == 8) || !test || d.pair.paired
      else pattern != 6 || !test || !d.domOn domHbm || d.domRises domFar
    | 0x07 => !(pattern == 1 || pattern == 4) || (d.fum k).attr.mode != 0
    | _ => pattern != 6 || (gen && !force)

/-- The twin is STANDBY or JOINING: this device's outputs may not be changed (R445). -/
def Dev.twinBound (d : Dev) : Bool := d.twinRole == some .standby || d.twinRole == some .joining

/-- Checks of PRBS_SET. -/
def checkPrbsSet (d : Dev) (c : Cmd) : Check :=
  let p := fallback 9 0 (c.field 0 1)
  let m := c.field 1 1 % 16
  refuseIf (d.prbsRefused c.object p m || (p != 0 && bit m 0 && d.twinBound)) stConstraint

/-- Effect of PRBS_SET: counts restart when the checker starts or PATTERN or INVERT changes (R444). Where in its pattern a
generator starts is open: a free value (DESIGN CHOICE, log 82). -/
def applyPrbsSet (d : Dev) (c : Cmd) : Applied :=
  recheck d (checkPrbsSet d c) fun d =>
    let p := fallback 9 0 (c.field 0 1)
    let m := c.field 1 1 % 16
    let x : Prbs := Tab.get {} d.svc.prbs c.object
    let (v, d) := d.draw
    let restart := p != x.pattern || bit m 2 != bit x.mode 2 || (bit m 1 && !bit x.mode 1)
    let y : Prbs := if restart then {} else x
    let y := { y with pattern := p, mode := m, inject := c.field 2 1, injectLeft := c.field 2 1
                      inSync := y.inSync && bit m 1 && p != 0
                      gen := if restart || !bit x.mode 0 then 1 + v % 127 else x.gen }
    okWith { d with svc := { d.svc with prbs := Tab.set d.svc.prbs c.object y } }

/-- Parameter block of PRBS_SET. -/
def prbsBlock (x : Prbs) : List Byte := leBytes 1 x.pattern ++ leBytes 1 x.mode ++ leBytes 1 x.inject ++ zeros 5

/-- PRBS_SET (R460). -/
def execPrbsSet (core : Nat) (s : State) : Host.Outcome State Fault Refusal :=
  s.run fun d => d.serveChange core 0x0F01 checkPrbsSet

/-- A checker runs. -/
def Prbs.checks (x : Prbs) : Bool := bit x.mode 1 && x.pattern != 0

/-- A generator runs. -/
def Prbs.generates (x : Prbs) : Bool := bit x.mode 0 && x.pattern != 0

/-- PRBS_READ's response (R461). -/
def prbsRead (d : Dev) (c : Cmd) : Nat × List Byte :=
  let x : Prbs := Tab.get {} d.svc.prbs c.object
  let st := if !x.checks then 0 else if x.inSync then 2 else 1
  (stOk, leBytes 8 d.fc ++ leBytes 1 st ++ leBytes 1 x.pattern ++ leBytes 1 x.mode ++ leBytes 1 0 ++ leBytes 4 x.losses ++
    leBytes 8 x.bits ++ leBytes 8 x.errors ++ leBytes 8 x.syncFc)

/-- PRBS_READ (R461). -/
def execPrbsRead (core : Nat) (s : State) : Host.Outcome State Fault Refusal :=
  s.run fun d => d.serveRead core [0x0F02] prbsRead

/-! ### Loopbacks (R446, R447, R462) -/

/-- Greatest loop code of an object (R446). -/
def loopTop (o : Nat) : Nat := if objType o = 0x02 then 3 else 2

/-- The loop a LOOP_SET asks for. -/
def loopOf (c : Cmd) : Nat := fallback (loopTop c.object) 0 (c.field 0 1)

/-- Checks of LOOP_SET (R445). -/
def checkLoopSet (d : Dev) (c : Cmd) : Check := refuseIf (loopOf c != 0 && d.twinBound) stConstraint

/-- Loop in force on an object. -/
def Dev.loopAt (d : Dev) (o : Nat) : Nat :=
  match objType o with
  | 0x02 => (d.port (objIndex o)).loop
  | 0x03 => (d.client (objIndex o)).loop
  | _ => Tab.get 0 d.svc.laneLoop (objIndex o)

/-- A lane's receiver restarts for LANE_NEAR and LANE_FAR: the lane is down until it locks again (R447). -/
def Dev.restartLane (d : Dev) (l : Nat) : Dev :=
  if 64 ≤ l then
    let p := (l - 64) / 8
    d.setPort p { d.port p with lanesUp := setBit (d.port p).lanesUp ((l - 64) % 8) false }
  else { d with clientLanesUp := setBit d.clientLanesUp l false }

/-- Effect of LOOP_SET. -/
def applyLoopSet (d : Dev) (c : Cmd) : Applied :=
  recheck d (checkLoopSet d c) fun d =>
    let k := c.index
    let n := loopOf c
    if n = d.loopAt c.object then okWith d
    else
      let d := match objType c.object with
        | 0x02 => d.setPort k { d.port k with loop := n }
        | 0x03 => d.setClient k { d.client k with loop := n }
        | _ =>
          let d := { d with svc := { d.svc with laneLoop := Tab.set d.svc.laneLoop k n } }
          if n = 0 then d else d.restartLane k
      okWith (d.raise 0x0F02 c.object (leBytes 4 c.object ++ leBytes 1 n))

/-- LOOP_SET (R462). -/
def execLoopSet (core : Nat) (s : State) : Host.Outcome State Fault Refusal :=
  s.run fun d => d.serveChange core 0x0F03 checkLoopSet

/-! ### Field lock (R449 to R454, R463 to R465) -/

/-- Consecutive failed attempts. -/
def Dev.fails (d : Dev) : Nat := d.sinter.profile 129 15 0 0

/-- MF left in the backoff. -/
def Dev.backoffLeft (d : Dev) : Nat := match d.svc.lock.backoffEnd with | some e => e - d.mfn | none => 0

/-- Backoff of the k-th failure in MF (R453). -/
def backoffMf (k : Nat) : Nat := if 12 ≤ k then 12_096_000 else min (2 ^ k * 3360) 12_096_000

def Dev.setLock (d : Dev) (l : Lock) : Dev := { d with svc := { d.svc with lock := l } }

/-- LOCK_PASSWORD and LOCK_RESPOND end LOCKED while a backoff runs (R453). -/
def checkBackoff (d : Dev) (_ : Cmd) : Check :=
  if 0 < d.backoffLeft then some (stLocked, leBytes 4 d.backoffLeft ++ leBytes 4 0) else none

/-- An attempt succeeds: FAILS 0, and a session opens or restarts (R453, R454). -/
def Dev.openSession (d : Dev) (method : Nat) : Dev :=
  let d := if d.fails = 0 then d else d.sinterPut 129 0
  let fresh := d.svc.lock.session.isNone
  let d := d.setLock { d.svc.lock with session := some (d.mfn + 96_768_000) }
  if fresh then d.raise 0x0F03 0 (leBytes 1 method) else d

/-- An attempt fails: FAILS rises and a backoff starts (R453). -/
def Dev.failAttempt (d : Dev) : Dev :=
  let k := min 0xFFFF (d.fails + 1)
  ((d.sinterPut 129 k).setLock { d.svc.lock with backoffEnd := some (d.mfn + backoffMf k) }).raise 0x0F04 0
    (leBytes 2 k ++ leBytes 4 (backoffMf k))

/-- Outcome of an attempt (R463, R464). -/
def Dev.attempt (d : Dev) (good : Bool) (method : Nat) : Applied :=
  if good then (d.openSession method, stOk, leBytes 4 96_768_000 ++ leBytes 4 0)
  else (d.failAttempt, stConstraint, [])

/-- Effect of LOCK_CHALLENGE: a new nonce (R452, R463). -/
def applyLockChallenge (d : Dev) (_ : Cmd) : Applied :=
  let (v, d) := d.draw
  (d.setLock { d.svc.lock with nonce := some v, nonceMfn := d.mfn }, stOk,
    leBytes 16 v ++ leBytes 8 Config.unitId.toNat ++ zeros 8)

/-- The nonce is valid (R452). -/
def Lock.validNonce (l : Lock) (mfn : Nat) : Option Nat :=
  match l.nonce with
  | some v => if mfn < l.nonceMfn + 201_600 then some v else none
  | none => none

/-- Effect of LOCK_RESPOND: the nonce serves once (R452). -/
def applyLockRespond (d : Dev) (c : Cmd) : Applied :=
  recheck d (checkBackoff d c) fun d =>
    let good := match d.svc.lock.validNonce d.mfn with
      | some v =>
        (beBytes 32 (Config.hmac (leBytes 16 v ++ leBytes 8 Config.unitId.toNat)).toNat).take 16 ==
          sliceAt c.payload 0 16
      | none => false
    (d.setLock { d.svc.lock with nonce := none }).attempt good 1

/-- Verifier of a password under the salt in words 130 and 131 (R451). -/
def Dev.verifier (d : Dev) (pw : List Byte) : List Byte :=
  beBytes 32 (Config.hmac ([0x50#8, 0x57#8] ++ leBytes 8 (d.sinter.read 130) ++ leBytes 8 (d.sinter.read 131) ++ pw)).toNat

/-- The stored verifier; `none` when unset. -/
def Dev.storedVerifier (d : Dev) : Option (List Byte) :=
  let ws := [132, 133, 134, 135].map d.sinter.read
  if ws.all fun w => w == unset then none else some (ws.map fun w => leBytes 8 w).flatten

/-- Effect of LOCK_PASSWORD (R451, R464). -/
def applyLockPassword (d : Dev) (c : Cmd) : Applied :=
  recheck d (checkBackoff d c) fun d =>
    let pw := sliceAt c.payload 8 (clamp 8 64 (c.field 0 1))
    d.attempt (d.storedVerifier == some (d.verifier pw)) 0

/-- The open session ends. -/
def Dev.closeSession (d : Dev) (cause : Nat) : Dev :=
  if d.svc.lock.session.isNone then d
  else (d.setLock { d.svc.lock with session := none }).raise 0x0F03 0 (leBytes 1 (0x80 + cause))

/-- Effect of LOCK_CLOSE (R464). -/
def applyLockClose (d : Dev) (_ : Cmd) : Applied := okWith (d.closeSession 0)

/-- LOCK_STATE becomes LOCKED or OPEN; a change is reported (R465, R466). -/
def Dev.putLockState (d : Dev) (lock : Bool) : Dev :=
  let was := d.lockSet
  let d := d.sinterPut 128 (if lock then 0x4C4B else 0)
  if was = lock then d else d.raise 0x0F05 0 (leBytes 1 (b2n lock))

/-- Write a list of consecutive words. -/
def Dev.sinterPuts (d : Dev) (w : Nat) : List Nat → Dev
  | [] => d
  | v :: t => Dev.sinterPuts (d.sinterPut w v) (w + 1) t

/-- Effect of LOCK_PASSWORD_SET (R465). -/
def applyLockPasswordSet (d : Dev) (c : Cmd) : Applied :=
  match fallback 3 0 (c.field 0 1) with
  | 1 =>
    let (v, d) := d.draw
    let d := d.sinterPuts 130 [v % 2 ^ 64, v / 2 ^ 64 % 2 ^ 64]
    let ver := d.verifier (sliceAt c.payload 8 (clamp 8 64 (c.field 1 1)))
    okWith ((d.sinterPuts 132 ((List.range 4).map fun i => fieldAt ver (8 * i) 8)).putLockState true)
  | 2 => okWith (d.putLockState true)
  | 3 => okWith ((d.sinterPuts 130 (List.replicate 6 unset)).putLockState false)
  | _ => okWith d

/-- LOCK_CHALLENGE (R463). -/
def execLockChallenge (core : Nat) (s : State) : Host.Outcome State Fault Refusal :=
  s.run fun d => d.serveChange core 0x0F10 fun _ _ => none

/-- LOCK_RESPOND (R463). -/
def execLockRespond (core : Nat) (s : State) : Host.Outcome State Fault Refusal :=
  s.run fun d => d.serveChange core 0x0F11 checkBackoff

/-- LOCK_PASSWORD (R464). -/
def execLockPassword (core : Nat) (s : State) : Host.Outcome State Fault Refusal :=
  s.run fun d => d.serveChange core 0x0F12 checkBackoff

/-- LOCK_CLOSE (R464). -/
def execLockClose (core : Nat) (s : State) : Host.Outcome State Fault Refusal :=
  s.run fun d => d.serveChange core 0x0F13 fun _ _ => none

/-- LOCK_PASSWORD_SET (R465). -/
def execLockPasswordSet (core : Nat) (s : State) : Host.Outcome State Fault Refusal :=
  s.run fun d => d.serveChange core 0x0F14 fun _ _ => none

/-- Opcodes of the vendor diagnostics (R351). -/
def vendorOps : List Nat := (List.range 16).map (0x0F20 + ·)

/-- VENDOR_DIAGNOSTIC: refused LOCKED while locked (R353); what it does otherwise this manual does not describe (R351). -/
def execVendorDiagnostic (core : Nat) (s : State) : Host.Outcome State Fault Refusal :=
  match s.dev.powered, s.dev.take core vendorOps with
  | true, some (e, c) =>
    match e.precheck c with
    | some _ => s.run fun d => d.serve core vendorOps (fun _ _ => none) fun e _ _ => e
    | none => .refused .vendorDiagnostic
  | _, _ => s.run fun d => d

/-- NONCE_EXPIRY (R452). -/
def execNonceExpiry (s : State) : Host.Outcome State Fault Refusal :=
  s.runIf (fun d => d.svc.lock.nonce.isSome && d.svc.lock.nonceMfn + 201_600 ≤ d.mfn) fun d =>
    d.setLock { d.svc.lock with nonce := none }

/-- LOCK_BACKOFF_END (R453). -/
def execLockBackoffEnd (s : State) : Host.Outcome State Fault Refusal :=
  s.runIf (fun d => d.svc.lock.backoffEnd.isSome && d.backoffLeft == 0) fun d =>
    d.setLock { d.svc.lock with backoffEnd := none }

/-- LOCK_SESSION_EXPIRY (R454). -/
def execLockSessionExpiry (s : State) : Host.Outcome State Fault Refusal :=
  s.runIf (fun d => match d.svc.lock.session with | some e => e ≤ d.mfn | none => false) fun d => d.closeSession 1

/-! ### JTAG (R448) -/

/-- The instruction that takes effect: BYPASS in place of all but IDCODE while locked. -/
def Dev.jtagDecode (d : Dev) (i : JtagInstr) : JtagInstr := if d.locked && i != .idcode then .bypass else i

/-- JTAG_INSTRUCTION (R448): the private instructions are not described. -/
def execJtagInstruction (i : JtagInstr) (s : State) : Host.Outcome State Fault Refusal :=
  match s.dev.jtagDecode i with
  | .privateCode _ => .refused .privateJtag
  | j => s.run fun d => { d with svc := { d.svc with jtag := j } }

/-! ### Service UART (R455, R456, R459) -/

/-- UART_CHARACTER_RECEIVED (R455). -/
def execUartCharacterReceived (byte : Byte) (stop : Bool) (s : State) : Host.Outcome State Fault Refusal :=
  s.run fun d =>
    if !stop then { d with svc := { d.svc with uartFraming := satAdd 0xFFFF d.svc.uartFraming 1 } }
    else if d.locked then { d with svc := { d.svc with uartClosed := satAdd 0xFFFF d.svc.uartClosed 1 } }
    else { d with svc := { d.svc with uartRx := some byte } }

/-- A read of the UART counters returns and clears them (R459). -/
def Dev.uartRead (d : Dev) : Nat × Dev :=
  (d.svc.uartFraming + 2 ^ 16 * d.svc.uartClosed, { d with svc := { d.svc with uartFraming := 0, uartClosed := 0 } })

/-- UART_COUNTER_READ (R459). -/
def execUartCounterRead (s : State) : Host.Outcome State Fault Refusal :=
  s.run fun d =>
    let (v, d) := d.uartRead
    { d with host := { d.host with readData := leBytes 4 v } }

/-! ### Peripheral I²C (R457 to R459) -/

def Dev.pmb (d : Dev) (unit : Nat) : Pmb := if unit = 0 then d.svc.pmb0 else d.svc.pmb1

def Dev.setPmb (d : Dev) (unit : Nat) (x : Pmb) : Dev :=
  if unit = 0 then { d with svc := { d.svc with pmb0 := x } } else { d with svc := { d.svc with pmb1 := x } }

/-- START: a transaction begins, or COLLIDE is set while one runs (R457). -/
def Pmb.start (x : Pmb) : Pmb :=
  if x.busy then { x with collide := true } else { x with busy := true, retries := 0, lost := false }

/-- PMB_START (R457). -/
def execPmbStart (unit : Nat) (s : State) : Host.Outcome State Fault Refusal :=
  s.runIf (fun _ => unit < 2) fun d => d.setPmb unit (d.pmb unit).start

/-- PMB_ARBITRATION_LOST (R458). -/
def execPmbArbitrationLost (unit : Nat) (s : State) : Host.Outcome State Fault Refusal :=
  s.runIf (fun d => unit < 2 && (d.pmb unit).busy && !(d.pmb unit).lost) fun d =>
    d.setPmb unit { d.pmb unit with lost := true, losses := satAdd max32 (d.pmb unit).losses 1 }

/-- PMB_RETRY (R458): at most three retries; a fourth loss ends the transaction with ARB_FAIL. -/
def execPmbRetry (unit : Nat) (s : State) : Host.Outcome State Fault Refusal :=
  s.runIf (fun d => unit < 2 && (d.pmb unit).busy && (d.pmb unit).lost) fun d =>
    let x := d.pmb unit
    if x.retries < 3 then d.setPmb unit { x with lost := false, retries := x.retries + 1 }
    else (d.setPmb unit { x with lost := false, busy := false, arbFail := true }).raise 0x0F06 0
      (leBytes 1 unit ++ leBytes 1 x.addr)

/-- Data bytes of a transaction: 0 and 33 to 63 are taken as 32 (R459). -/
def pmbLen (n : Nat) : Nat := if n = 0 || 32 < n then 32 else n

/-- Put received bytes in the data registers. -/
def pmbStore (t : Tab Byte) (n : Nat) (l : List Byte) : Tab Byte :=
  (List.range n).foldl (fun t i => Tab.set t i (byteAt l i)) t

/-- PMB_TRANSACTION_DONE (R457). -/
def execPmbTransactionDone (unit : Nat) (nack : Bool) (data : List Byte) (s : State) :
    Host.Outcome State Fault Refusal :=
  s.runIf (fun d => unit < 2 && (d.pmb unit).busy && !(d.pmb unit).lost) fun d =>
    let x := d.pmb unit
    let x := { x with busy := false, done := x.done || !nack, nack := x.nack || nack }
    d.setPmb unit (if x.read && !nack then { x with data := pmbStore x.data (pmbLen x.len) data } else x)

/-- Value of a 32-bit register of a controller (R459). -/
def Pmb.register (x : Pmb) (off : Nat) : Nat :=
  match off with
  | 0x00 => min 2 x.speed
  | 0x04 => x.addr + 2 ^ 7 * b2n x.read + 2 ^ 8 * x.len
  | 0x0C => b2n x.busy + 2 * b2n x.done + 4 * b2n x.nack + 8 * b2n x.arbFail + 16 * b2n x.collide
  | 0x10 => x.losses
  | o => if 0x20 ≤ o && o < 0x40 then leNat ((List.range 4).map fun i => Tab.get 0 x.data (o - 0x20 + i)) else 0

/-- A 32-bit write of a register of a controller (R459). -/
def Pmb.write (x : Pmb) (off v : Nat) : Pmb :=
  match off with
  | 0x00 => { x with speed := v % 4 }
  | 0x04 => { x with addr := v % 128, read := bit v 7, len := bits v 13 8 }
  | 0x08 => if bit v 0 then x.start else x
  | 0x0C => { x with done := x.done && !bit v 1, nack := x.nack && !bit v 2, arbFail := x.arbFail && !bit v 3
                     collide := x.collide && !bit v 4 }
  | o => if 0x20 ≤ o && o < 0x40 then
      { x with data := (List.range 4).foldl (fun t i => Tab.set t (o - 0x20 + i) (byteAt (leBytes 4 v) i)) x.data }
    else x

end Sys2Proof.Machine
end

