-- ==== Sys2Proof/Machine/Pattern.lean ====
section
/-! DEFINITION. Test patterns as bits: the generators that replace bytes of a channel's payload or of FPp_TXD, and the checkers
that read them (R442 to R444). -/

namespace Sys2Proof.Machine

open Sys2Proof

/-- Objects whose pattern passes through the model: channels and Fumarole ports. -/
def patternHeld (obj : Nat) : Bool := objType obj == 1 || objType obj == 7

/-- The two stages of a pattern's shift register that are added; the first is its length (R443). -/
def patternTaps : Nat → Nat × Nat
  | 1 => (7, 6)
  | 4 => (15, 14)
  | _ => (31, 28)

/-- Patterns whose standard inverts the register's bits (O.150; PRESUMED, log 80). -/
def patternInverts (p : Nat) : Bool := p != 1

/-- The bit that follows in a register, and the register with a bit shifted in. -/
def patternNext (t : Nat × Nat) (r : Nat) : Bool := bit r (t.1 - 1) != bit r (t.2 - 1)
def patternShift (t : Nat × Nat) (r : Nat) (b : Bool) : Nat := (2 * r + b2n b) % 2 ^ t.1

/-- The bits on the line are the register's, inverted by the standard, and by INVERT (R444). -/
def Prbs.turned (x : Prbs) : Bool := patternInverts x.pattern != bit x.mode 2

/-- One bit leaves a generator; an injected error inverts it (R444). -/
def Prbs.emit (x : Prbs) : Prbs × Bool :=
  let t := patternTaps x.pattern
  let b := patternNext t x.gen
  ({ x with gen := patternShift t x.gen b, flip := false }, b != (x.turned != x.flip))

/-- `n` bits leave a generator. -/
def Prbs.emits : Nat → Prbs → Prbs × List Bool
  | 0, x => (x, [])
  | n + 1, x => let (x, b) := x.emit; let (x, l) := Prbs.emits n x; (x, b :: l)

/-- One bit reaches a checker: counted in sync against the register running on, otherwise matched against the register of the
bits received (R444). -/
def Prbs.see (x : Prbs) (b : Bool) : Prbs :=
  let t := patternTaps x.pattern
  let r := b != x.turned
  let e := patternNext t x.chk
  if x.inSync && !x.lost then
    let w := (2 * x.window + b2n (e != r)) % 2 ^ 64
    { x with chk := patternShift t x.chk e, window := w, bits := x.bits + 1, errors := x.errors + b2n (e != r)
             lost := 8 < ((List.range 64).filter fun i => bit w i).length, run := 0 }
  else { x with chk := patternShift t x.chk r, run := if e == r && x.chk != 0 then x.run + 1 else 0 }

/-- The test objects' state grows. -/
def Dev.setPrbs (d : Dev) (obj : Nat) (x : Prbs) : Dev := { d with svc := { d.svc with prbs := Tab.set d.svc.prbs obj x } }

/-- Generator and checker of an object. -/
def Dev.prbs (d : Dev) (obj : Nat) : Prbs := Tab.get {} d.svc.prbs obj

/-- `n` bytes of an object's generator; `msb` puts the first bit in bit 7. -/
def Dev.patternBytes (d : Dev) (obj n : Nat) (msb : Bool) : Dev × List Byte :=
  let (x, l) := (d.prbs obj).emits (8 * n)
  (d.setPrbs obj x, (List.range n).map fun i =>
    let b := (l.drop (8 * i)).take 8
    BitVec.ofNat 8 (bitsOf (if msb then b.reverse else b)))

/-- Bytes reach an object's checker. -/
def Dev.patternSeen (d : Dev) (obj : Nat) (msb : Bool) (l : List Byte) : Dev :=
  let x := d.prbs obj
  if !x.checks || l.isEmpty then d
  else d.setPrbs obj (l.foldl (fun x b =>
    (List.range 8).foldl (fun x i => x.see (bit b.toNat (if msb then 7 - i else i))) x) x)

/-- A test signal stands in place of a channel's traffic on a port for slot accounting: TX behind its own generator or that of a
line lane in use, RX behind that of a lane of its client port (R444, R386). -/
def Dev.testSignal (d : Dev) (ch p cp lanes lanesInUse dir : Nat) : Bool :=
  let lane := fun (l : Nat) => (d.prbs (0x0C * 2 ^ 24 + l)).generates
  if dir = 0 then (d.prbs (objChannel ch)).generates || (List.range lanesInUse).any fun k => lane (64 + 8 * p + k)
  else (List.range lanes).any fun k => lane (cp + k)

/-- PRBS_SYNC_CHANGE (R444): 1,024 bits have matched, or more than 8 of 64 have not. -/
def Prbs.turns (x : Prbs) (held sync : Bool) : Bool :=
  x.checks && x.inSync != sync && (!held || (if sync then 1_024 ≤ x.run else x.lost))

/-- PRBS_SYNC_CHANGE (R444). -/
def execPrbsSyncChange (obj : Nat) (sync : Bool) (s : State) : Host.Outcome State Fault Refusal :=
  s.runIf (fun d => (d.prbs obj).turns (patternHeld obj) sync) fun d =>
    let x := d.prbs obj
    let y := if sync then { x with inSync := true, syncFc := d.fc, window := 0, lost := false }
      else { x with inSync := false, losses := satAdd max32 x.losses 1, lost := false, run := 0 }
    (d.setPrbs obj y).raise 0x0F01 obj (leBytes 4 obj ++ leBytes 1 (if sync then 2 else 1))

/-- What a Beat brings to generators and checkers (R444): each of the INJECT Beats after the effect Beat inverts one bit; the
checkers outside the model report what they have counted. -/
def Dev.prbsBeat (d : Dev) (i : BeatInput) : Dev :=
  let t := d.svc.prbs.map fun p => (p.1, { p.2 with flip := 0 < p.2.injectLeft, injectLeft := p.2.injectLeft - 1 })
  let t := (i.prbs.filter fun x => !patternHeld x.obj).foldl (fun t x =>
    Tab.modify {} t x.obj fun p => if p.checks && p.inSync
      then { p with bits := p.bits + x.bits, errors := p.errors + x.errors } else p) t
  { d with svc := { d.svc with prbs := t } }

end Sys2Proof.Machine
end

