-- ==== Sys2Proof/Machine/Fumarole.lean ====
section
/-! DEFINITION. The Fumarole ports: bindings, export and import queues, framing, and the FUM_* commands
(R288 to R302, R307 to R312). -/

namespace Sys2Proof.Machine

open Sys2Proof

/-- Bytes of a staging area (R295, R300). -/
def stagingBytes : Nat := 131_072

/-- Sources bound to a port. -/
def Dev.boundTo (d : Dev) (p : Nat) : List Nat :=
  (d.fumSources.filter fun s => match s.2.bind with | some b => b.port == p | none => false).map (·.1)

/-- The port runs: its mode is not OFF and its domain is on (R307). -/
def Dev.fumRuns (d : Dev) (p : Nat) : Bool := (d.fum p).attr.mode != 0 && d.domOn (domFum p)

/-- A cell of a port (R384). -/
def fumCell (p o : Nat) : Nat := 0x4A00 + 32 * p + o

/-- A cell of a source (R384). -/
def sourceCell (s o : Nat) : Nat := 0x4B00 + 4 * s + o

/-- A frame is discarded and reported (R312). -/
def Dev.fumDiscard (d : Dev) (p src reason : Nat) : Dev :=
  (d.setFum p { d.fum p with discards := satAdd max32 (d.fum p).discards 1 }).raise 0x0A01 (objFum p)
    (leBytes 1 p ++ leBytes 2 src ++ leBytes 1 reason)

/-- Occupancy of the export staging area rises by `n` bytes; an upward crossing of FILL_LEVEL reports (R297). -/
def Dev.fumFill (d : Dev) (p n : Nat) : Dev :=
  let f := d.fum p
  let e := f.expFill + n
  let d := d.setFum p { f with expFill := e }
  if f.attr.fillLevel != 0 && f.expFill < f.attr.fillLevel && f.attr.fillLevel ≤ e then
    d.raise 0x0A03 (objFum p) (leBytes 1 p ++ leBytes 4 e)
  else d

/-! ### Export (R291, R295 to R299) -/

/-- Add bytes to the item of a source that is not whole, wherever it stands. -/
def growItem (src : Nat) (bytes : List Byte) (l : List Item) : List Item :=
  l.map fun i => if i.src = src && !i.whole then { i with bytes := i.bytes ++ bytes } else i

/-- Settle the item of a source that is not whole: whole now, good or bad. -/
def closeItem (src : Nat) (bad : Bool) (l : List Item) : List Item :=
  l.map fun i => if i.src = src && !i.whole then { i with whole := true, bad := bad } else i

/-- Whether a list holds an item of a source that is not whole. -/
def hasOpen (src : Nat) (l : List Item) : Bool := l.any fun i => i.src == src && !i.whole

/-- A whole item becomes eligible at the end of the port's queue (R295). -/
def FumPort.stage (f : FumPort) (src prio : Nat) (bytes : List Byte) (whole : Bool) : FumPort :=
  { f with staged := f.staged ++ [{ src, prio, order := f.nextOrder, bytes, whole }], nextOrder := f.nextOrder + 1 }

/-- Bytes a source's item in progress already holds. -/
def FumPort.openBytes (f : FumPort) (src : Nat) : Nat :=
  sum (((f.arriving ++ f.staged ++ f.fillBank ++ f.readBank).filter fun i => i.src == src && !i.whole).map
    fun i => i.bytes.length)

/-- Staging cannot hold a frame in progress: it is discarded whole and counted; a port frame of it that the banks hold ends with
an abort (R295, R296; DEDUCED, log 89). -/
def Dev.stagingFull (d : Dev) (p src : Nat) : Dev :=
  let f := d.fum p
  let f := if hasOpen src (f.fillBank ++ f.readBank) then
      { f with fillBank := closeItem src true f.fillBank, readBank := closeItem src true f.readBank }
    else
      { f with arriving := f.arriving.filter fun i => i.src != src, staged := f.staged.filter fun i => i.src != src || i.whole
               expFill := f.expFill - f.openBytes src }
  (((d.setFum p f).setSource src { d.source src with dropRest := true }).tick (fumCell p 1) 1).fumDiscard p src 1

/-- An item of the source that is not whole is on its way out: it goes on through an unbind and a MODE of OFF (R301, R307). -/
def Dev.goesOn (d : Dev) (p src : Nat) : Bool := d.domOn (domFum p) && hasOpen src (d.fum p).readBank

/-- Content bytes of a line frame in progress reach staging: at CUT_THROUGH bytes the item is eligible (R295, R296). -/
def Dev.gccBytes (d : Dev) (src : Nat) (bytes : List Byte) : Dev :=
  match (d.source src).bind with
  | none => d
  | some b =>
    let f := d.fum b.port
    if !(d.goesOn b.port src || d.fumRuns b.port && f.attr.mode = 1) || (d.source src).dropRest then d
    else if stagingBytes < f.expFill + bytes.length then d.stagingFull b.port src
    else if hasOpen src (f.staged ++ f.fillBank ++ f.readBank) then
      (d.setFum b.port { f with
        staged := growItem src bytes f.staged, fillBank := growItem src bytes f.fillBank
        readBank := growItem src bytes f.readBank }).fumFill b.port bytes.length
    else
      let old := (f.arriving.find? fun i => i.src == src).map (·.bytes)
      let all := old.getD [] ++ bytes
      let rest := f.arriving.filter fun i => i.src != src
      let f := if f.attr.cutThrough ≤ all.length then { f with arriving := rest }.stage src b.prio all false
        else { f with arriving := rest ++ [{ src, prio := b.prio, order := 0, bytes := all, whole := false }] }
      (d.setFum b.port f).fumFill b.port bytes.length

/-- FCS length and unit of a binding (R291). -/
def fcsLen (fcs : Nat) : Nat := if fcs = 0 then 2 else 4

/-- A received line frame is good (R291): FCS, no abort, 1 to 4,096 content bytes. -/
def goodLineFrame (fcs : Nat) (bytes : List Byte) (aborted : Bool) : Bool :=
  let n := bytes.length - fcsLen fcs
  !aborted && fcsLen fcs < bytes.length && n ≤ 4096 &&
    fcsOf fcs (bytes.take n) == leNat (bytes.drop n)

/-- Raw bytes of transparent mode become items of at most 64 bytes (R295). -/
def FumPort.stageRaw (f : FumPort) (src prio : Nat) : Nat → List Byte → FumPort
  | 0, _ => f
  | n + 1, l => if l.isEmpty then f else (f.stage src prio (l.take 64) true).stageRaw src prio n (l.drop 64)

/-- A whole line frame, or the raw bytes of a Beat, of a source (R291, R293, R295 to R297). -/
def Dev.gccFrame (d : Dev) (src : Nat) (bytes : List Byte) (aborted : Bool) : Dev :=
  match (d.source src).bind with
  | none => d
  | some b =>
    let p := b.port
    let s := d.source src
    if s.unbinding && !d.goesOn p src then d
    else if !d.fumRuns p && !d.goesOn p src then d.fumDiscard p src 0
    else if (d.fum p).attr.mode = 2 then
      if stagingBytes < (d.fum p).expFill + bytes.length then (d.tick (fumCell p 1) 1).fumDiscard p src 1
      else (d.setFum p ((d.fum p).stageRaw src b.prio bytes.length bytes)).fumFill p bytes.length
    else
      let good := goodLineFrame b.fcs bytes aborted
      let n := bytes.length - fcsLen b.fcs
      let d := if good then (d.setSource src { s with framesOut := (s.framesOut + 1) % 2 ^ 32 }).tick (sourceCell src 0) 1
        else (d.setSource src { s with badFcs := satAdd max32 s.badFcs 1 }).tick (sourceCell src 1) 1
      let f := d.fum p
      if s.dropRest then d.setSource src { d.source src with dropRest := false }
      else if hasOpen src (f.staged ++ f.fillBank ++ f.readBank) then
        -- a cut-through item: the rest of the content arrives, and the frame is settled
        let have_ := f.openBytes src
        let more := (bytes.take n).drop have_
        let left := hasOpen src (f.fillBank ++ f.readBank)
        if !good && !left then
          -- nothing of it has left staging: it is discarded
          (d.setFum p { f with staged := f.staged.filter fun i => i.src != src || i.whole
                               expFill := f.expFill - have_ }).fumDiscard p src 2
        else
          let g := fun l => closeItem src (!good) (growItem src more l)
          (d.setFum p { f with staged := g f.staged, fillBank := g f.fillBank, readBank := g f.readBank }).fumFill p
            more.length
      else
        let have_ := f.openBytes src
        let f := { f with arriving := f.arriving.filter fun i => i.src != src, expFill := f.expFill - have_ }
        let d := d.setFum p f
        if !good then d.fumDiscard p src 2
        else if stagingBytes < f.expFill + n then (d.tick (fumCell p 1) 1).fumDiscard p src 1
        else (d.setFum p (f.stage src b.prio (bytes.take n) true)).fumFill p n

/-- One byte in HDLC mode (R291): flags delimit, 0x7D escapes, 0x7D before a flag aborts; of a frame longer than a good one can
be, `cap` bytes are kept. -/
def LineRxHdlc.take (cap : Nat) (x : LineRxHdlc) (b : Byte) : LineRxHdlc :=
  if b = 0x7E then
    { x with opened := true, esc := false, bytes := [], fed := 0
             done := if x.opened && (x.esc || !x.bytes.isEmpty) then x.done ++ [(x.bytes, x.esc)] else x.done }
  else if !x.opened then x
  else if b = 0x7D then { x with esc := true }
  else { x with esc := false, bytes := (x.bytes ++ [if x.esc then b ^^^ 0x20 else b]).take cap }

/-- Channel bytes of a source arrive from the line: in HDLC mode frame by frame, in transparent mode as they are (R288, R291,
R293). The content of a frame in progress goes on to staging once the frames before it are settled (R296). -/
def Dev.gccArrive (d : Dev) (src : Nat) (l : List Byte) : Dev :=
  let x := d.source src
  match x.bind with
  | none => d
  | some b =>
    if x.unbinding && !d.goesOn b.port src then d
    else if (d.fum b.port).attr.mode = 2 then d.setSource src { x with rx := { x.rx with bytes := x.rx.bytes ++ l } }
    else
      let r := l.foldl (LineRxHdlc.take 4_101) x.rx
      let new := (r.bytes.take (r.bytes.length - fcsLen b.fcs)).drop r.fed
      if r.done.isEmpty && !new.isEmpty then
        (d.setSource src { x with rx := { r with fed := r.fed + new.length } }).gccBytes src new
      else d.setSource src { x with rx := r }

/-- In transparent mode the bytes received in the Beat are complete at its end (R295). -/
def Dev.gccBeat (d : Dev) : Dev :=
  d.fumSources.foldl (fun d e =>
    let x := d.source e.1
    match x.bind with
    | some b =>
      if (d.fum b.port).attr.mode = 2 && !x.rx.bytes.isEmpty then
        d.setSource e.1 { x with rx := { x.rx with bytes := [], done := x.rx.done ++ [(x.rx.bytes, false)] } }
      else d
    | none => d) d

/-- GCC_LINE_FRAME_RECEIVED (R291, R295, R296): the next frame that has come complete from the line, or in transparent mode the
bytes of a Beat. -/
def execGccLineFrameReceived (src : Nat) (bytes : List Byte) (aborted : Bool) (s : State) :
    Host.Outcome State Fault Refusal :=
  s.runIf (fun d => d.objExists (objSource src) && (d.source src).rx.done.head? == some (bytes, aborted)) fun d =>
    let x := d.source src
    (d.setSource src { x with rx := { x.rx with done := x.rx.done.drop 1 } }).gccFrame src bytes aborted

/-- The eligible item the arbiter takes: highest priority, then earliest (R295). -/
def bestItem : List Item → Option Item
  | [] => none
  | i :: t => match bestItem t with
    | none => some i
    | some b => if b.prio < i.prio || (b.prio = i.prio && b.order < i.order) then some b else some i

/-- Bytes of a bank (R295). -/
def bankBytes : Nat := 16_384

/-- At an item boundary the arbiter chooses the next eligible item into the bank it fills; where FPp_TXD too stands between items, a
change of DIVIDER or MODE comes into force on it (R295, R307). -/
def FumPort.itemBoundary (f : FumPort) : FumPort :=
  let f := if f.sent = 0 && f.tail.isEmpty then { f with txMode := f.attr.mode, txDivider := f.attr.divider } else f
  match bestItem f.staged with
  | none => f
  | some i =>
    if bankBytes ≤ sum (f.fillBank.map fun j => j.bytes.length) then f
    else { f with staged := f.staged.erase i, fillBank := f.fillBank ++ [i] }

/-- A port in MODE OFF discards its export items and counts them, but for the one that is on FPp_TXD (R307). A frame that is not
whole is counted when it ends (DEDUCED, log 89). -/
def Dev.fumOff (d : Dev) (p : Nat) : Dev :=
  let f := d.fum p
  let kept := if f.sent = 0 then [] else f.readBank.take 1
  let gone := (f.readBank.drop kept.length ++ f.fillBank ++ f.staged).filter (·.whole)
  let d := d.setFum p { f with
    staged := [], arriving := [], fillBank := [], readBank := kept, expFill := sum (kept.map fun i => i.bytes.length) }
  gone.foldl (fun d i => d.fumDiscard p i.src 0) d

/-- FUM_ITEM_BOUNDARY (R295, R307). -/
def execFumItemBoundary (port : Nat) (s : State) : Host.Outcome State Fault Refusal :=
  s.runIf (fun d => port < 8 && d.domOn (domFum port)) fun d =>
    let d := if (d.fum port).attr.mode = 0 then d.fumOff port else d
    d.setFum port (d.fum port).itemBoundary

/-- FUM_BANK_EXCHANGE (R295): the output side has emptied its bank. -/
def execFumBankExchange (port : Nat) (s : State) : Host.Outcome State Fault Refusal :=
  s.runIf (fun d => port < 8 && d.fumRuns port && (d.fum port).readBank.isEmpty && !(d.fum port).fillBank.isEmpty)
    fun d => d.setFum port { d.fum port with readBank := (d.fum port).fillBank, fillBank := [], sent := 0 }

/-- The port frame being sent ends with an abort (R296, R299). -/
def Dev.fumAbort (d : Dev) (p src reason : Nat) : Dev :=
  ((d.setFum p { d.fum p with aborts := satAdd max32 (d.fum p).aborts 1 }).tick (fumCell p 3) 1).raise 0x0A02 (objFum p)
    (leBytes 1 p ++ leBytes 2 src ++ leBytes 1 reason)

/-- The first item of the read bank leaves the queue. -/
def Dev.fumPop (d : Dev) (p : Nat) : Dev :=
  let f := d.fum p
  match f.readBank with
  | [] => d
  | i :: t => d.setFum p { f with readBank := t, sent := 0, expFill := f.expFill - i.bytes.length }

/-- `n` items at the head of the queue are passed over: the active's read pointer is ahead (R269, R290). -/
def FumPort.skip (f : FumPort) : Nat → FumPort
  | 0 => f
  | n + 1 =>
    match f.readBank, f.fillBank, bestItem f.staged with
    | i :: t, _, _ => { f with readBank := t, sent := 0, expFill := f.expFill - i.bytes.length }.skip n
    | [], i :: t, _ => { f with fillBank := t, expFill := f.expFill - i.bytes.length }.skip n
    | [], [], some i => { f with staged := f.staged.erase i, expFill := f.expFill - i.bytes.length }.skip n
    | [], [], none => f

/-- Content with 0x7E and 0x7D escaped (R291). -/
def escape (l : List Byte) : List Byte := l.flatMap fun b => if b = 0x7E || b = 0x7D then [0x7D, b ^^^ 0x20] else [b]

/-- An abort (R291). -/
def abortSeq : List Byte := [0x7D, 0x7E]

/-- First poisoned byte position of an item. -/
def Item.firstPoison (i : Item) : Option Nat := (sortBy id i.poison).head?

/-- What an item is on FPp_TXD, as far as it is staged (R292, R293, R296, R299). In HDLC mode: tag, content, port FCS, closing flag,
or the abort that ends it; the flag of the frame before it, or of the idle item, opens it. In transparent mode its bytes, 0xFF for
those of a poisoned word. -/
def Item.portForm (i : Item) (mode : Nat) : List Byte :=
  if mode = 2 then i.bytes.zipIdx.map fun b => if i.poison.any fun q => q / 4 == b.2 / 4 then 0xFF else b.1
  else
    let tag := beBytes 2 i.src
    match i.firstPoison with
    | some q => escape (tag ++ i.bytes.take (q / 4 * 4)) ++ abortSeq
    | none =>
      if !i.whole then escape (tag ++ i.bytes)
      else if i.bad then escape (tag ++ i.bytes) ++ abortSeq
      else escape (tag ++ i.bytes ++ leBytes 4 (fcsOf 2 (tag ++ i.bytes))) ++ [0x7E]

/-- An item's last byte is on FPp_TXD: it counts, or its abort does (R295, R296, R299). -/
def Dev.itemEnds (d : Dev) (p : Nat) (i : Item) : Dev :=
  let f := d.fum p
  let done := fun (d : Dev) =>
    (d.setFum p { d.fum p with itemsOut := ((d.fum p).itemsOut + 1) % 2 ^ 32 }).tick (fumCell p 0) 1
  if f.txMode = 2 then
    done (i.poison.foldl (fun d _ =>
      (d.tick (fumCell p 4) 1).raise 0x0A02 (objFum p) (leBytes 1 p ++ leBytes 2 i.src ++ leBytes 1 1)) (d.fumPop p))
  else if !i.poison.isEmpty then ((d.fumPop p).tick (fumCell p 4) 1).fumAbort p i.src 1
  else if i.bad then (d.fumPop p).fumAbort p i.src 0
  else done (d.fumPop p)

/-- The next byte on FPp_TXD, with FPp_FS on its first bit (R292, R293, R298): none when MODE is OFF, or when the serialiser needs a
byte that is not staged, which is an underrun. -/
def Dev.fumByte (d : Dev) (p : Nat) : Dev × Option (Byte × Bool) :=
  let f := d.fum p
  if f.txMode = 0 then (d, none)
  else
    match f.tail, f.readBank with
    | b :: t, _ => (d.setFum p { f with tail := t }, some (b, false))
    | [], [] => (d, some (if f.txMode = 2 then (0xFF, true) else (0x7E, false)))
    | [], i :: _ =>
      let form := i.portForm f.txMode
      match form[f.sent]? with
      | some b =>
        let d := d.setFum p { f with sent := f.sent + 1 }
        (if f.sent + 1 = form.length && (i.whole || !i.poison.isEmpty) then d.itemEnds p i else d,
         some (b, f.txMode == 2 || f.sent == 0))
      | none => (d, none)

/-- `n` bytes are clocked out. -/
def Dev.fumClock (p : Nat) : Nat → Dev → Dev × List (Byte × Bool)
  | 0, d => (d, [])
  | n + 1, d =>
    match d.fumByte p with
    | (d, some b) => let (d, l) := Dev.fumClock p n d; (d, b :: l)
    | (d, none) => (d, [])

/-- FUM_UNDERRUN (R296): the serialiser needs a byte that is not yet staged. The port frame ends with an abort. -/
def execFumUnderrun (port : Nat) (s : State) : Host.Outcome State Fault Refusal :=
  s.runIf (fun d => port < 8 && (match (d.fum port).readBank with
      | i :: _ => !i.whole && (i.portForm (d.fum port).txMode).length ≤ (d.fum port).sent
      | [] => false)) fun d =>
    match (d.fum port).readBank with
    | i :: _ =>
      let d := d.fumPop port
      let d := d.setFum port { d.fum port with tail := abortSeq }
      (d.setSource i.src { d.source i.src with dropRest := true }).fumAbort port i.src 2
    | [] => d

/-- Content bytes of the item at the head of the read bank that have left. -/
def FumPort.contentSent (f : FumPort) : Nat :=
  match f.readBank with
  | i :: _ => min i.bytes.length
      (if f.txMode = 2 then f.sent else (((i.portForm 1).take f.sent).filter (· != 0x7D)).length - 2)
  | [] => 0

/-- Items of which a word has entered the fall-through chain of `words` free stages; `off` bytes of the first have left it. -/
def chainItems : Nat → Nat → List Item → Nat
  | _, _, [] => 0
  | words, off, i :: t => if words = 0 then 0 else 1 + chainItems (words - (i.bytes.length - off + 3) / 4) 0 t

/-- Items at the head of the read bank that count as emitted (R301): the chain takes what the bank holds without delay. -/
def FumPort.emitted (f : FumPort) : Nat := chainItems 16 f.contentSent f.readBank

/-! ### Import (R292, R293, R300) -/

/-- A port frame: tag, content and port FCS (R292). -/
def goodPortFrame (bytes : List Byte) (aborted : Bool) : Bool :=
  let n := bytes.length - 4
  !aborted && 6 < bytes.length && bytes.length ≤ 4102 && fcsOf 2 (bytes.take n) == leNat (bytes.drop n) &&
    (byteAt bytes 0).toNat < 4

/-- A whole import port frame is checked and staged for its source (R292, R300). -/
def Dev.portFrame (d : Dev) (p : Nat) (bytes : List Byte) (aborted : Bool) : Dev :=
  let src := beNat (bytes.take 2)
  let content := (bytes.take (bytes.length - 4)).drop 2
  if !goodPortFrame bytes aborted || !(d.boundTo p).contains src then (d.tick (fumCell p 2) 1).fumDiscard p src 3
  else if stagingBytes < (d.fum p).impFill + content.length then (d.tick (sourceCell src 3) 1).fumDiscard p src 4
  else
    let f := d.fum p
    d.setFum p { f with
      imports := f.imports ++ [{ src, prio := 0, order := f.nextOrder, bytes := content, whole := true }]
      nextOrder := f.nextOrder + 1, impFill := f.impFill + content.length }

/-- FUM_PORT_FRAME_RECEIVED (R292, R300): the next frame that has come complete on FPp_RXD. -/
def execFumPortFrameReceived (port : Nat) (bytes : List Byte) (aborted : Bool) (s : State) :
    Host.Outcome State Fault Refusal :=
  s.runIf (fun d => port < 8 && d.fumRuns port && (d.fum port).attr.mode == 1 &&
      (d.fum port).rx.done.head? == some (bytes, aborted)) fun d =>
    let x := (d.fum port).rx
    (d.setFum port { d.fum port with rx := { x with done := x.done.drop 1 } }).portFrame port bytes aborted

/-- FUM_TRANSPARENT_BYTE_RECEIVED (R293). -/
def execFumTransparentByteReceived (port : Nat) (byte : Byte) (s : State) : Host.Outcome State Fault Refusal :=
  s.runIf (fun d => port < 8 && d.fumRuns port && (d.fum port).attr.mode == 2) fun d =>
    match d.boundTo port with
    | src :: _ =>
      let f := d.fum port
      if stagingBytes ≤ f.impFill then
        (d.setFum port { f with discards := satAdd max32 f.discards 1 }).tick (fumCell port 6) 1
      else
        d.setFum port { f with
          imports := f.imports ++ [{ src, prio := 0, order := f.nextOrder, bytes := [byte], whole := true }]
          nextOrder := f.nextOrder + 1, impFill := f.impFill + 1 }
    | [] => d

/-- Take the first import item of a source out. -/
def FumPort.popImport (f : FumPort) (src : Nat) : FumPort :=
  match f.imports.find? fun i => i.src == src with
  | some i => { f with imports := f.imports.erase i, impFill := f.impFill - i.bytes.length }
  | none => f

/-- An import frame as it stands on the line: escaped content and FCS, and the closing flag; from a poisoned word on, the
abort (R291, R299). The flag that closes the frame before it, or fills the channel, opens it. -/
def lineForm (fcs : Nat) (i : Item) : List Byte :=
  match i.poison with
  | q :: _ => escape (i.bytes.take q) ++ abortSeq
  | [] => escape (i.bytes ++ leBytes (fcsLen fcs) (fcsOf fcs i.bytes)) ++ [0x7E]

/-- Byte of the idle item of a port's mode (R298); a source that no mode governs sends flags (PRESUMED, log 80). -/
def Dev.idleByte (d : Dev) (src : Nat) : Byte :=
  match (d.source src).bind with | some b => if (d.fum b.port).attr.mode = 2 then 0xFF else 0x7E | none => 0x7E

/-- The next import byte of a source (R291, R293, R298, R300); without its port, the idle item (R26, R307). -/
def Dev.gccByte (d : Dev) (src : Nat) : Dev × Byte :=
  match (d.source src).bind with
  | none => (d, d.idleByte src)
  | some b =>
    let f := d.fum b.port
    match f.imports.find? fun i => i.src == src with
    | none => (d, d.idleByte src)
    | some i =>
      if !d.fumRuns b.port then (d, d.idleByte src)
      else if f.attr.mode = 2 then (d.setFum b.port (f.popImport src), byteAt i.bytes 0)
      else
        let x := d.source src
        match (lineForm b.fcs i)[x.lineSent]? with
        | some v => (d.setSource src { x with lineSent := x.lineSent + 1 }, v)
        | none => (d, 0x7E)

/-- The next `n` import bytes of a source. -/
def Dev.gccTake (d : Dev) (src : Nat) : Nat → Dev × List Byte
  | 0 => (d, [])
  | n + 1 =>
    let (d, b) := d.gccByte src
    let (d, l) := Dev.gccTake d src n
    (d, b :: l)

/-- FUM_IMPORT_FRAME_SENT (R291, R300): the inserter has finished one frame and takes the next. -/
def execFumImportFrameSent (src : Nat) (s : State) : Host.Outcome State Fault Refusal :=
  s.runIf (fun d => match (d.source src).bind with
      | some b => (d.fum b.port).attr.mode == 1 && (match (d.fum b.port).imports.find? fun i => i.src == src with
          | some i => (lineForm b.fcs i).length ≤ (d.source src).lineSent
          | none => false)
      | none => false) fun d =>
    match (d.source src).bind with
    | some b =>
      let d := d.setFum b.port ((d.fum b.port).popImport src)
      let x := d.source src
      (d.setSource src { x with framesIn := (x.framesIn + 1) % 2 ^ 32, lineSent := 0 }).tick (sourceCell src 2) 1
    | none => d

/-! ### Binding (R294, R301, R306) -/

/-- At binding to a port in HDLC mode the engine sets the source's contexts (R306). -/
def Dev.engineContexts (d : Dev) (src port fcs : Nat) : Dev :=
  if (d.fum port).attr.mode != 1 then d
  else (d.setCrc fcs ((d.crc fcs).setContext src (freshContext fcs))).setCrc 2
    (((d.setCrc fcs ((d.crc fcs).setContext src (freshContext fcs))).crc 2).setContext src (freshContext 2))

/-- A context as the engine leaves it: its CFG stays, its running VALUE is the engine's, which the manual leaves open. -/
def Dev.leaveContext (d : Dev) (unit src : Nat) : Dev :=
  let (v, d) := d.draw
  d.setCrc unit ((d.crc unit).setContext src (v % 2 ^ 32, ((d.crc unit).context src).2))

/-- The engine gives up a source's contexts (R306). -/
def Dev.releaseContexts (d : Dev) (src port fcs : Nat) : Dev :=
  if (d.fum port).attr.mode != 1 then d else (d.leaveContext fcs src).leaveContext 2 src

/-- A binding ends (R301): event 0x0A05. -/
def Dev.bindingEnds (d : Dev) (src port : Nat) : Dev :=
  let d := match (d.source src).bind with | some b => d.releaseContexts src port b.fcs | none => d
  (d.setSource src { d.source src with bind := none, unbinding := false, dropRest := false, lineSent := 0, rx := {} }).raise 0x0A05
    (objSource src) (leBytes 2 src ++ leBytes 1 port ++ leBytes 1 0)

/-- Unbind a source (R301): its items that are not emitted are discarded and counted; it is unbound at once unless
one was emitted. -/
def Dev.unbind (d : Dev) (src : Nat) : Dev × Nat :=
  match (d.source src).bind with
  | none => (d, 0)
  | some b =>
    let p := b.port
    let f := d.fum p
    let x := d.source src
    let chain := f.readBank.take f.emitted
    let emitted := chain.any fun i => i.src == src
    let mine := fun (i : Item) => i.src != src
    let keptRead := chain ++ (f.readBank.drop f.emitted).filter mine
    let lineGo := 0 < x.lineSent
    let firstImp := f.imports.find? fun i => i.src == src
    let keptImp := if lineGo then (match firstImp with | some i => f.imports.filter fun j => j.src != src || j == i
                                                       | none => f.imports)
      else f.imports.filter mine
    let out := (f.arriving ++ f.staged ++ f.fillBank ++ f.readBank).length -
      ((f.arriving ++ f.staged ++ f.fillBank).filter mine).length - keptRead.length
    let n := out + (f.imports.length - keptImp.length)
    let f' := { f with
      arriving := f.arriving.filter mine, staged := f.staged.filter mine, fillBank := f.fillBank.filter mine
      readBank := keptRead, imports := keptImp }
    let f' := { f' with
      expFill := sum ((f'.arriving ++ f'.staged ++ f'.fillBank ++ f'.readBank).map fun i => i.bytes.length)
      impFill := sum (f'.imports.map fun i => i.bytes.length) }
    let d := (d.setFum p f').tick (fumCell p 5) n
    let d := if n = 0 then d else d.raise 0x0A04 (objSource src) (leBytes 2 src ++ leBytes 4 n)
    if emitted || lineGo then (d.setSource src { x with unbinding := true }, n) else (d.bindingEnds src p, n)

/-- FUM_UNBIND_COMPLETE (R301). -/
def execFumUnbindComplete (src : Nat) (s : State) : Host.Outcome State Fault Refusal :=
  s.runIf (fun d => (d.source src).unbinding && (match (d.source src).bind with
      | some b => !((d.fum b.port).readBank.any fun i => i.src == src) &&
          !((d.fum b.port).imports.any fun i => i.src == src)
      | none => false)) fun d =>
    match (d.source src).bind with
    | some b => d.bindingEnds src b.port
    | none => d

/-! ### Commands (R307 to R311) -/

/-- The attributes a FUM_PORT_SET writes (R307). -/
def fumAttrOf (c : Cmd) : FumAttr :=
  { mode := fallback 2 0 (c.field 0 1), divider := clamp 5 1250 (c.field 2 2)
    cutThrough := clamp 64 4096 (c.field 4 2), fillLevel := clamp 0 131_072 (c.field 8 4) }

/-- MODE TRANSPARENT on a port with more than one bound source gives CONSTRAINT (R307). -/
def checkFumPortSet (d : Dev) (c : Cmd) : Check :=
  refuseIf ((fumAttrOf c).mode == 2 && 1 < (d.boundTo c.index).length) stConstraint

/-- For every source bound to a port, with the FCS of its binding. -/
def Dev.eachBound (d : Dev) (p : Nat) (f : Dev → Nat → Nat → Nat → Dev) : Dev :=
  (d.boundTo p).foldl (fun d src => match (d.source src).bind with | some b => f d src p b.fcs | none => d) d

/-- The attributes of a port change; the engine gives up, or takes, the contexts of its sources (R306, R307). -/
def Dev.setFumAttr (d : Dev) (p : Nat) (a : FumAttr) : Dev :=
  let old := (d.fum p).attr.mode
  let d := if old = 1 && a.mode != 1 then d.eachBound p Dev.releaseContexts else d
  let d := d.setFum p { d.fum p with attr := a, rx := if old = a.mode then (d.fum p).rx else {} }
  let d := if old = a.mode then d else d.eachBound p fun d src _ _ => d.setSource src { d.source src with rx := {} }
  if old != 1 && a.mode = 1 then d.eachBound p Dev.engineContexts else d

/-- Effect of FUM_PORT_SET. -/
def applyFumPortSet (d : Dev) (c : Cmd) : Applied :=
  recheck d (checkFumPortSet d c) fun d => okWith (d.setFumAttr c.index (fumAttrOf c))

/-- Parameter block of FUM_PORT_SET (R350). -/
def fumPortBlock (a : FumAttr) : List Byte :=
  leBytes 1 a.mode ++ leBytes 1 0 ++ leBytes 2 a.divider ++ leBytes 2 a.cutThrough ++ leBytes 2 0 ++
    leBytes 4 a.fillLevel ++ leBytes 4 0

/-- FUM_PORT_SET (R307). -/
def execFumPortSet (core : Nat) (s : State) : Host.Outcome State Fault Refusal :=
  s.run fun d => d.serveChange core 0x0A01 checkFumPortSet

/-- The binding a FUM_BIND asks for (R308). -/
def bindingOf (c : Cmd) : Binding :=
  { port := c.field 0 1, prio := clamp 0 3 (c.field 1 1), fcs := fallback 1 1 (c.field 2 1) }

/-- Checks of FUM_BIND (R308). -/
def checkFumBind (d : Dev) (c : Cmd) : Check :=
  firstRefusal
    [refuseIf (8 ≤ c.field 0 1) stNoObject,
     refuseIf ((d.source c.index).bind.isSome || ((d.fum (c.field 0 1)).attr.mode == 2 && !(d.boundTo (c.field 0 1)).isEmpty))
       stConstraint]

/-- Effect of FUM_BIND. -/
def applyFumBind (d : Dev) (c : Cmd) : Applied :=
  recheck d (checkFumBind d c) fun d =>
    let b := bindingOf c
    let d := d.setSource c.index { d.source c.index with bind := some b, unbinding := false, lineSent := 0, rx := {} }
    okWith ((d.engineContexts c.index b.port b.fcs).raise 0x0A05 c.object
      (leBytes 2 c.index ++ leBytes 1 b.port ++ leBytes 1 1))

/-- Parameter block of FUM_BIND: PORT 0xFF when unbound (R350). -/
def fumBindBlock (b : Option Binding) : List Byte :=
  match b with
  | some b => leBytes 1 b.port ++ leBytes 1 b.prio ++ leBytes 1 b.fcs ++ zeros 5
  | none => leBytes 1 0xFF ++ zeros 7

/-- FUM_BIND (R308). -/
def execFumBind (core : Nat) (s : State) : Host.Outcome State Fault Refusal :=
  s.run fun d => d.serveChange core 0x0A02 checkFumBind

/-- Effect of FUM_UNBIND (R301, R309). -/
def applyFumUnbind (d : Dev) (c : Cmd) : Applied :=
  let (d, n) := d.unbind c.index
  (d, stOk, leBytes 4 n ++ leBytes 4 0)

/-- FUM_UNBIND (R309). -/
def execFumUnbind (core : Nat) (s : State) : Host.Outcome State Fault Refusal :=
  s.run fun d => d.serveChange core 0x0A03 fun _ _ => none

/-- Channel rate of a source in bytes per 256 Beats (R288, R310). -/
def Dev.sourceRate (d : Dev) (src : Nat) : Nat :=
  match d.sched.active with
  | none => 0
  | some i =>
    if src < 8 then match i.lcal.find? fun r => r.port == src && r.dir == 0 && r.step == 0 with
      | some r => 2 * r.n * 256
      | none => 0
    else match i.desc (sourceChannel src) with
      | some x => bytesPer256Beats 2 x.oduType x.flexRate
      | none => 0

/-- FUM_STATUS's response (R310). -/
def fumStatus (d : Dev) (c : Cmd) : Nat × List Byte :=
  if objType c.object = 0x07 then
    let f := d.fum c.index
    (stOk, leBytes 8 d.fc ++ leBytes 1 f.attr.mode ++ leBytes 1 (min 255 (d.boundTo c.index).length) ++
      leBytes 2 f.attr.divider ++ leBytes 4 f.expFill ++ leBytes 4 f.impFill ++ leBytes 4 f.itemsOut ++
      leBytes 4 f.discards ++ leBytes 4 f.aborts)
  else
    let x := d.source c.index
    let b := x.bind.getD { port := 0xFF, prio := 0, fcs := 0 }
    (stOk, leBytes 8 d.fc ++ leBytes 1 b.port ++ leBytes 1 b.prio ++ leBytes 1 b.fcs ++ leBytes 1 0 ++
      leBytes 4 (d.sourceRate c.index) ++ leBytes 4 x.framesOut ++ leBytes 4 x.framesIn ++ leBytes 4 x.badFcs)

/-- FUM_STATUS (R310). -/
def execFumStatus (core : Nat) (s : State) : Host.Outcome State Fault Refusal :=
  s.run fun d => d.serveRead core [0x0A04] fumStatus

/-- The words of an item with their tags and source, as FUM_PEEK lists them (R311). -/
def itemWords (i : Item) : Nat → Nat → List (List Byte × Nat × Nat)
  | 0, _ => []
  | n + 1, o =>
    let rest := i.bytes.length - o
    let last := rest ≤ 4
    let poison := i.poison.any fun q => o ≤ q && q < o + 4
    let tag := 1 + 2 * b2n (o == 0) + 4 * b2n (last && i.whole) + 8 * b2n poison + 16 * min 4 rest
    (sliceAt i.bytes o 4, tag, i.src) :: (if last then [] else itemWords i n (o + 4))

/-- Items of a port's export queue, head first. -/
def FumPort.queueItems (f : FumPort) : List Item :=
  f.readBank ++ f.fillBank ++ sortBy (fun i => i.prio * 2 ^ 32 + i.order) f.staged

/-- FUM_PEEK's response (R311). -/
def fumPeek (d : Dev) (c : Cmd) : Nat × List Byte :=
  let ws := ((d.fum c.index).queueItems.map fun i => itemWords i (i.bytes.length + 1) 0).flatten
  let start := clamp 0 32767 (c.field 0 4)
  let shown := (List.range 26).map fun k =>
    match ws[start + k]? with
    | some (b, t, src) => b ++ leBytes 1 t ++ leBytes 2 src ++ leBytes 1 0
    | none => zeros 8
  (stOk, leBytes 8 d.fc ++ leBytes 4 ws.length ++ leBytes 4 0 ++ shown.flatten)

/-- FUM_PEEK (R311). -/
def execFumPeek (core : Nat) (s : State) : Host.Outcome State Fault Refusal :=
  s.run fun d => d.serveRead core [0x0A05] fumPeek

/-! ### The Beat (R293, R295, R299) -/

/-- Words of the item at the head of the read bank fail parity (R299). -/
def Dev.poisonWord (d : Dev) (p at_ : Nat) : Dev :=
  match (d.fum p).readBank with
  | i :: t =>
    if at_ < (d.fum p).contentSent then d
    else d.setFum p { d.fum p with readBank := { i with poison := i.poison ++ [at_] } :: t }
  | [] => d

/-- A word of a source's first import frame that has not yet left is poisoned (R299). -/
def Dev.poisonImport (d : Dev) (p src at_ : Nat) : Dev :=
  let f := d.fum p
  match f.imports.find? fun i => i.src == src with
  | some i =>
    if (escape (i.bytes.take at_)).length < (d.source src).lineSent then d
    else d.setFum p { f with imports := f.imports.map fun j => if j = i then { j with poison := [at_] } else j }
  | none => d

/-- A port's pins in the Beat: FPp_TXD as clocked in the MODE in force on it, on the device that drives it (R289, R290), and FPp_RXD in HDLC mode; with the
port OFF, a test pattern with FPp_FS low, and its checker (R442). -/
def Dev.fumPins (d : Dev) (i : BeatInput) (p : Nat) : Dev :=
  let n := sum ((i.fumSent.filter fun x => x.1 == p).map (·.2))
  let (d, l) := if d.domOn (domFum p) then Dev.fumClock p n d else (d, [])
  let f := d.fum p
  let rxd := (i.fumRx.filter fun x => x.1 == p).flatMap (·.2)
  let test := d.domOn (domFum p) && f.attr.mode == 0 && f.txMode == 0
  let d := if test then d.patternSeen (objFum p) false rxd else d
  let (d, l) := if test && (d.prbs (objFum p)).generates then
      let (d, b) := d.patternBytes (objFum p) n false
      (d, b.map fun b => (b, false))
    else (d, l)
  let got := if d.fumRuns p && f.attr.mode = 1 then rxd else []
  let drives := d.pair.role == .active || d.pair.role == .alone
  d.setFum p { f with txd := if drives then l else [], rx := got.foldl (LineRxHdlc.take 4_103) f.rx }

/-- What a Beat moves through the Fumarole ports. -/
def Dev.fumBeat (d : Dev) (i : BeatInput) : Dev :=
  let d := i.fumPoison.foldl (fun d x => d.poisonWord x.1 x.2) d
  let d := i.impPoison.foldl (fun d x => d.poisonImport x.1 x.2.1 x.2.2) d
  (List.range 8).foldl (fun d p => d.fumPins i p) d

end Sys2Proof.Machine
end

