-- ==== Sys2Proof/Machine/Layers.lean ====
section
/-! DEFINITION. Layers of objects (R207), the reporting of their inputs (R217, R228), and which bank a port's
receive side uses (R81). -/

namespace Sys2Proof.Machine

open Sys2Proof

/-! ### Layer codes (R207) -/

def layFlexo : Nat := 0x00
def layOtu : Nat := 0x01
def layOduc : Nat := 0x02
def laySpread : Nat := 0x03
def layServer : Nat := 0x04
def layTcm (k : Nat) : Nat := 0x04 + k
def layPm : Nat := 0x0B
def layClientRx : Nat := 0x0C
def layClientTx : Nat := 0x0D
def layTcmTx (k : Nat) : Nat := 0x84 + k
def layPmTx : Nat := 0x8B

/-- Key of a layer of an object. -/
def layerKey (obj layer : Nat) : Nat := obj * 256 + layer

def Dev.layer (d : Dev) (obj l : Nat) : Layer := Tab.get {} d.layers (layerKey obj l)
def Dev.setLayer (d : Dev) (obj l : Nat) (x : Layer) : Dev := { d with layers := Tab.set d.layers (layerKey obj l) x }
def Dev.pm (d : Dev) (obj l : Nat) : PmEntity := Tab.get {} d.pms (layerKey obj l)
def Dev.setPm (d : Dev) (obj l : Nat) (x : PmEntity) : Dev := { d with pms := Tab.set d.pms (layerKey obj l) x }

/-- Layer codes of an object type and channel KIND, in ascending order (R207). -/
def layersOf (type kind : Nat) : List Nat :=
  match type with
  | 0x01 =>
    [0x04, 0x05, 0x06, 0x07, 0x08, 0x09, 0x0A, 0x0B] ++ (if kind = 0 then [0x0C] else []) ++
      (if kind = 1 then [0x85, 0x86, 0x87, 0x88, 0x89, 0x8A, 0x8B] else [])
  | 0x02 => [0x00, 0x01, 0x02, 0x05, 0x06, 0x07, 0x08, 0x09, 0x0A]
  | 0x03 => [0x0D]
  | 0x05 => [0x03]
  | _ => []

/-- KIND of the channel an object names, 0 for other objects. -/
def Image.kindOf (i : Image) (obj : Nat) : Nat :=
  match (if objType obj = 1 then i.desc (objIndex obj)
    else if objType obj = 3 then i.clientDesc (objIndex obj) else none) with
  | some x => x.kind
  | none => 0

/-- Layers of an object in an image. -/
def Image.layers (i : Image) (obj : Nat) : List Nat := layersOf (objType obj) (i.kindOf obj)

/-- A layer code suits an object now (R207). -/
def Dev.hasLayer (d : Dev) (obj l : Nat) : Bool :=
  match d.sched.active with | some i => i.has obj && (i.layers obj).contains l | none => false

/-! ### Reporting (R217, R228) -/

/-- An input stands at a value: a change is reported unless its bit is masked. -/
def Dev.noteInput (d : Dev) (obj l i : Nat) (v : Bool) : Dev :=
  let x := d.layer obj l
  if bit x.reported i == v then d
  else
    let d := d.setLayer obj l { x with reported := setBit x.reported i v }
    if bit x.mask i then d
    else d.raise (if v then 0x0701 else 0x0702) obj (leBytes 4 obj ++ leBytes 1 l ++ leBytes 1 i)

/-- Every input of a layer stands at its bit of a vector. -/
def Dev.noteVector (d : Dev) (obj l v : Nat) : Dev :=
  if (d.layer obj l).reported = v then d
  else (List.range 16).foldl (fun d i => d.noteInput obj l i (bit v i)) d

/-! ### Runs of defect conditions (R210) -/

/-- One more Beat, frame or multiframe in which the condition of an integrated input held or did not hold. -/
def Dev.observe (d : Dev) (obj l i : Nat) (raw : Bool) : Dev :=
  let x := d.layer obj l
  let r := Tab.get (0, 0) x.runs i
  d.setLayer obj l { x with runs := Tab.set x.runs i (if raw then (r.1 + 1, 0) else (0, r.2 + 1)) }

/-- The integrators of an object count afresh. -/
def Dev.clearRuns (d : Dev) (obj : Nat) : Dev :=
  { d with layers := d.layers.map fun e => (e.1, if e.1 / 256 = obj then { e.2 with runs := [] } else e.2) }

/-- Beats, frames or multiframes in a row for which the condition of an integrated input must hold to raise it, and must not
hold to clear it (R210); 0 for an input that is reported as it stands. -/
def integration (l i : Nat) : Nat × Nat :=
  let frames := fun (n : Nat) => (n, n)
  if l = layFlexo then (match i with | 2 => (86, 86) | 3 | 4 => (2_581, 2_581) | 5 | 6 => frames 3 | _ => (0, 0))
  else if l = layOtu then (match i with | 2 | 3 => (2_581, 2_581) | 5 => frames 5 | 7 | 8 => frames 3 | _ => (0, 0))
  else if l = layOduc then
    (match i with | 2 | 3 | 4 => frames 3 | 6 => frames 5 | 8 | 9 => frames 1 | 10 => (5, 3) | _ => (0, 0))
  else if l % 128 = layPm then (match i with | 1 | 2 | 3 | 8 => frames 3 | 5 => frames 5 | 7 => frames 1 | _ => (0, 0))
  else if l = layClientTx then
    (match i with | 0 => (86, 86) | 5 | 6 => (2_581, 2_581) | 8 => frames 5 | 9 => frames 3 | _ => (0, 0))
  else match i with | 1 | 2 | 3 | 4 | 8 | 9 => frames 3 | 6 => frames 5 | _ => (0, 0)

/-- The integrator of an input has reached the value `v`. -/
def Dev.integratedTo (d : Dev) (obj l i : Nat) (v : Bool) : Bool :=
  let r := Tab.get (0, 0) (d.layer obj l).runs i
  let n := integration l i
  if v then n.1 ≤ r.1 else n.2 ≤ r.2

/-! ### Calendars in force -/

/-- The LCAL record of a port, direction (0 TX, 1 RX) and step. -/
def Image.lcalOf (i : Image) (p dir step : Nat) : Option LcalRec :=
  i.lcal.find? fun r => r.port == p && r.dir == dir && r.step == step

/-- The bank in use on a port's receive side (R81). -/
def Dev.rxImage (d : Dev) (p : Nat) : Option Image :=
  if (d.port p).rxShadow then (d.sched.banks (p / 2)).2 else d.bank (p / 2)

/-- The calendar in force on a port and direction (R386): a slice that missed COMMIT stays on the old bank (R76). -/
def Dev.calendar (d : Dev) (p dir : Nat) : Option LcalRec :=
  if dir = 0 then (d.bank (p / 2)).bind fun i => i.lcalOf p 0 (d.port p).ladder.txStep
  else (d.rxImage p).bind fun i => i.lcalOf p 1 (d.port p).ladder.rxStep

/-- The LADR record of a port in an image. -/
def Image.ladrOf (i : Image) (p : Nat) : Option LadrRec := i.ladr.find? fun r => r.port == p

/-- STEPS of a port in an image; 1 without a LADR record. -/
def Image.steps (i : Image) (p : Nat) : Nat := match i.ladrOf p with | some r => r.steps.length | none => 1

/-- STEPS of a port in the active image. -/
def Dev.steps (d : Dev) (p : Nat) : Nat := match d.sched.active with | some i => i.steps p | none => 1

/-- Channels preempted on a port at a step. -/
def Image.preempted (i : Image) (p step : Nat) : List Nat :=
  match i.ladrOf p with
  | some r => match r.steps[step]? with | some s => s.preempt | none => []
  | none => []

/-- Entries of a record that are UNAVAILABLE (R62). -/
def LcalRec.unavailable (r : LcalRec) : List Nat :=
  r.entries.zipIdx.filterMap fun e => if e.1 / 2 ^ 30 = 1 then some e.2 else none

/-- FC at which the far-end step MF of an announcement is due on a port whose received MFs last 256 Beats. -/
def Ladder.annDue (l : Ladder) (count : Nat) : Nat := l.rxMfFc + 256 * (count - l.rxMfCount)

/-- RX step in force on a port in Beat `fc`: an announced step applies where its MF is due (R112, R113). -/
def Dev.rxStepAt (d : Dev) (p fc : Nat) : Nat :=
  let l := (d.port p).ladder
  match l.rxAnn with
  | some a => if l.annDue a.2 ≤ fc then a.1 else l.rxStep
  | none => l.rxStep

/-- Slots of a port's RX calendar that the far end's last received identifier signals otherwise than the calendar has them:
the RX step lags (R112). -/
def Dev.rxDisagree (d : Dev) (p : Nat) : List Nat :=
  match (d.port p).rxAvail, d.calendar p 1 with
  | some l, some r => (List.range r.entries.length).filter fun k => l.contains k != r.unavailable.contains k
  | _, _ => []

/-- A channel has a slot among some of a record's entries. -/
def LcalRec.holds (r : LcalRec) (slots : List Nat) (c : Nat) : Bool :=
  slots.any fun k => let e := r.entries.getD k 0; e / 2 ^ 30 == 3 && e % 256 == c

/-- A channel counts as preempted in RX on a port where the calendars disagree on a slot of its own (R112). -/
def Dev.disagrees (d : Dev) (p c : Nat) : Bool :=
  match d.calendar p 1 with | some r => r.holds (d.rxDisagree p) c | none => false

/-- A channel is preempted in a direction by the step in force in Beat `fc`: by what `fc` itself fixes in advance (R113), or
because the calendars disagree (R112). -/
def Dev.preemptedBy (d : Dev) (c dir fc : Nat) : Bool :=
  (List.range 8).any fun p =>
    if dir = 0 then (match d.sched.active with
      | some i => (i.preempted p (d.port p).ladder.txStep).contains c | none => false)
    else (match d.rxImage p with
      | some i => (i.preempted p (d.rxStepAt p fc)).contains c | none => false) || d.disagrees p c

/-- A channel is preempted in a direction by the step in force (R113). -/
def Dev.preempted (d : Dev) (c dir : Nat) : Bool := d.preemptedBy c dir d.fc

/-- OTUCn order of a port in the image that its slice executes. -/
def Dev.portN (d : Dev) (p : Nat) : Nat := match d.bank (p / 2) with | some i => i.portN p | none => 0

/-- Line lanes in use on a port (R92). -/
def Dev.lanesInUse (d : Dev) (p : Nat) : Nat := (d.portN p + 1) / 2

/-- The LCC of a port runs: its mode is ON, or AUTO without fallback (R105). -/
def LinePort.lccRuns (p : LinePort) : Bool := p.enabled && p.attr.lccMode != 0 && !p.ladder.fallenBack

/-! ### Chains (R208, R266) -/

/-- Layers of a chain in the order of R208: 0 port RX, 1 group, 2 channel RX, 3 client TX, 4 channel TX. -/
def chainLayers (chain kind : Nat) : List Nat :=
  match chain with
  | 0 => [0x00, 0x01, 0x0A, 0x09, 0x08, 0x07, 0x06, 0x05, 0x02]
  | 1 => [0x03]
  | 2 => [0x04, 0x0A, 0x09, 0x08, 0x07, 0x06, 0x05, 0x0B] ++ (if kind = 0 then [0x0C] else [])
  | 3 => [0x0D]
  | _ => if kind = 1 then [0x8A, 0x89, 0x88, 0x87, 0x86, 0x85, 0x8B] else []

/-- Chain of a layer of an object. -/
def chainOf (obj l : Nat) : Nat :=
  match objType obj with
  | 0x02 => 0
  | 0x05 => 1
  | 0x03 => 3
  | _ => if 0x80 ≤ l then 4 else 2

/-- BDI_MASK and ACTIONS in force for a chain. -/
def Dev.act (d : Dev) (chain index : Nat) : Nat := Tab.get 0 d.acts (chain * 256 + index)

/-- BDI asked for at a layer of an object in this Beat. -/
def Dev.bdiAsked (d : Dev) (obj l : Nat) : Bool :=
  let c := chainOf obj l
  match (chainLayers c (if c = 2 then 0 else 1)).findIdx? (· == l) with
  | some i => bit (d.act c (objIndex obj)) (16 + i)
  | none => false

end Sys2Proof.Machine
end

