-- ==== Sys2Proof/Machine/Spread.lean ====
section
/-! DEFINITION. Spread groups, deskew, aligned 1+1, the arbiter of the far-deskew memory, die links and their
commands (R174 to R206). -/

namespace Sys2Proof.Machine

open Sys2Proof

/-! ### Bounds (R185, R192) -/

def nearMax : Nat := 315_776
def reserve : Nat := 7_648
def farMax : Nat := 17_203 * 15_296
def slotsMax : Nat := 610
def slotBytesMax : Nat := 240_988_480_000

/-! ### The far tier (R192, R193) -/

/-- Sum of slots and of slots × allocation of the admitted streams. -/
def Caldera.slotsSum (c : Caldera) : Nat := sum (c.streams.map fun s => s.slots)
def Caldera.slotBytes (c : Caldera) : Nat := sum (c.streams.map fun s => s.slots * s.alloc)

/-- A stream's reservation ends. -/
def Dev.farRelease (d : Dev) (owner index : Nat) : Dev :=
  { d with cald := { d.cald with streams := d.cald.streams.filter fun s => !(s.owner == owner && s.index == index) } }

/-- Reason for which the far tier refuses a stream (R185, R192): 0 none, 5 budget, 6 unavailable, 7 beyond FAR_MAX. -/
def Dev.farReason (d : Dev) (owner index slots alloc : Nat) : Nat :=
  let rest := d.cald.streams.filter fun s => !(s.owner == owner && s.index == index)
  let c := { d.cald with streams := rest }
  if farMax < alloc then 7
  else if d.farState != 0 then 6
  else if 256 ≤ rest.length || slotsMax < c.slotsSum + slots || slotBytesMax < c.slotBytes + slots * alloc then 5
  else 0

/-- Admit a stream, or grow it in place; event 0x0605 or 0x0606. The result tells whether it stands. -/
def Dev.farAdmit (d : Dev) (owner index slots alloc : Nat) : Dev × Nat :=
  let r := d.farReason owner index slots alloc
  if r = 0 then
    let old := d.cald.streams.find? fun s => s.owner == owner && s.index == index
    let ready := match old with | some s => s.ready | none => false
    let d := d.farRelease owner index
    let x : FarStream := ⟨owner, index, ready, slots, alloc⟩
    ({ d with cald := { d.cald with streams := d.cald.streams ++ [x] } }.raise
      0x0605 owner (leBytes 4 owner ++ leBytes 1 index ++ leBytes 2 slots ++ leBytes 4 alloc), 0)
  else (d.raise 0x0606 owner (leBytes 4 owner ++ leBytes 1 index ++ leBytes 1 r), r)

/-- Streams of an owner are ready. -/
def Dev.farReady (d : Dev) (owner : Nat) : Dev :=
  { d with cald := { d.cald with
    streams := d.cald.streams.map fun s => if s.owner = owner then { s with ready := true } else s } }

/-! ### The path of a channel, and deskew streams (R186, R191) -/

def Dev.cpath (d : Dev) (ch : Nat) : ChanPath := Tab.get {} d.path.chans ch
def Dev.setCpath (d : Dev) (ch : Nat) (p : ChanPath) : Dev :=
  { d with path := { d.path with chans := Tab.set d.path.chans ch p } }

/-- Deskew stream of an owner: a member of a Spread group, or a path of an aligned group. -/
def Dev.stream (d : Dev) (owner index : Nat) : DeskewBuf := Tab.get {} d.path.deskew (owner * 16 + index)
def Dev.setStream (d : Dev) (owner index : Nat) (b : DeskewBuf) : Dev :=
  { d with path := { d.path with deskew := Tab.set d.path.deskew (owner * 16 + index) b } }

/-- The deskew streams of an owner end, in far deskew too. -/
def Dev.dropStreams (d : Dev) (owner : Nat) : Dev :=
  { d with path := { d.path with deskew := d.path.deskew.filter fun e => e.1 / 16 != owner }
           cald := { d.cald with streams := d.cald.streams.filter fun s => s.owner != owner } }

/-- Monitor of a group's path: 0 working, 1 protection (R231). -/
def Dev.monitor (d : Dev) (g k : Nat) : PathMon := Tab.get {} d.path.mons (2 * g + k)
def Dev.setMonitor (d : Dev) (g k : Nat) (m : PathMon) : Dev :=
  { d with path := { d.path with mons := Tab.set d.path.mons (2 * g + k) m } }

/-- The monitors of a group hunt afresh, their integrators cleared. -/
def Dev.dropMonitors (d : Dev) (g : Nat) : Dev :=
  { d with path := { d.path with mons := d.path.mons.filter fun e => e.1 / 2 != g } }

/-- Byte positions of Line Time at the end of the Beat in progress. -/
def Dev.endOfBeat (d : Dev) : Nat := (d.fc + 1) * 15_296

/-- Cells that a word holds. -/
def HeldWord.cells (w : HeldWord) : Nat := sum (w.items.map fun e => (e.2.filter fun i => match i with | .cell _ => true | _ => false).length)

/-- Words leave a buffer, oldest first: into the cells released in the Beat, or discarded. -/
def DeskewBuf.leave (b : DeskewBuf) (n : Nat) (release : Bool) : DeskewBuf :=
  let l := b.held.take n
  { b with
    held := b.held.drop n, cellsOut := b.cellsOut + sum (l.map HeldWord.cells)
    out := if release then l.foldl (fun t w => w.items.foldl (fun t e => Tab.modify [] t e.1 (· ++ e.2)) t) b.out else b.out }

/-- A buffer gives up its content. -/
def DeskewBuf.empty (b : DeskewBuf) : DeskewBuf := b.leave b.held.length false

/-- Fragment number of the first word held (R186): none before a marker has told it. -/
def DeskewBuf.front (b : DeskewBuf) : Option Int :=
  match b.base, b.held with
  | some n, w :: _ => w.num.map fun k => n + k
  | _, _ => none

/-- A word of a number is held. -/
def DeskewBuf.has (b : DeskewBuf) (w : Int) : Bool := match b.front with | some f => f ≤ w && w < f + b.held.length | none => false

/-- `n` VOID cells for each slot of a stream join what it sends in the Beat (R197, R201). -/
def DeskewBuf.void (b : DeskewBuf) (n : Nat) : DeskewBuf :=
  { b with out := b.cells.foldl (fun t e =>
      Tab.modify [] t e.1 (· ++ List.replicate n (.cell { bytes := zeros 16, void := true }))) b.out }

/-- TS-cell period that begins next after an arrival, in byte positions (R174, R186). -/
def nextPeriod (t : Nat) : Nat := (t * 48 / 15_296 + 1) * 15_296 / 48

/-! ### Members and states (R183, R188) -/

/-- Record that a group's receive side runs: the active image's, or the one it keeps (R190). -/
def Dev.sgRec (d : Dev) (g : Nat) : Option SgRec :=
  match (d.group g).kept with | some r => some r | none => d.sched.active.bind fun i => i.sgRec g

/-- Why a member is not available: 1 port, 2 LCC, 3 marker, 4 to 7 FAILED, 0 available (R183, R202). -/
def Dev.memberReason (d : Dev) (m : SgMember) (x : Member) : Nat :=
  let p := d.port m.port
  if !(p.enabled && p.mfAligned) then 1
  else if !(p.lccRuns && p.ladder.lastValid) then 2
  else if !x.markerValid then 3
  else if x.mState = 4 then x.reason else 0

/-- SPREAD's inputs of a group (R209): 0 FORMING, 1 REALIGN, 2 DOWN, 3 dSGSKW. -/
def Spread.vector (s : Spread) : Nat :=
  b2n (s.mode == .forming) + 2 * b2n (s.mode == .realign) + 4 * b2n (s.mode == .down) + 8 * b2n s.dSgskw

/-- A group stands as given, and its layer's inputs with it (R188, R209). -/
def Dev.putGroup (d : Dev) (g : Nat) (x : Spread) : Dev := (d.setGroup g x).noteVector (objSpread g) laySpread x.vector

/-- dSGSKW follows the members FAILED for reasons 4 to 7 (R185). -/
def Dev.noteSkew (d : Dev) (g k : Nat) : Dev :=
  let s := d.group g
  let bad := s.members.any fun m => m.mState == 4 && 4 ≤ m.reason && m.reason ≤ 7
  if bad = s.dSgskw then d
  else (d.putGroup g { s with dSgskw := bad }).raise 0x0604 (objSpread g)
    (leBytes 1 g ++ leBytes 1 k ++ leBytes 1 (b2n bad))

/-- The group leaves UP, if it is UP: event 0x0602; members that were ready fill again. -/
def Dev.leaveUp (d : Dev) (g : Nat) (mode : SgMode) (k reason : Nat) : Dev :=
  let s := d.group g
  let d := d.putGroup g
    { s with mode := mode, members := s.members.map fun m => if m.mState = 3 then { m with mState := 2 } else m }
  if s.mode == .up then d.raise 0x0602 (objSpread g) (leBytes 1 g ++ leBytes 1 k ++ leBytes 1 reason) else d

/-- Set one member. -/
def Dev.setMember (d : Dev) (g k : Nat) (x : Member) : Dev :=
  d.setGroup g { d.group g with members := setAt (d.group g).members k x }

/-- One member of a group. -/
def Dev.member (d : Dev) (g k : Nat) : Member := (d.group g).members.getD k {}

/-- A member's placement ends. -/
def Dev.unplace (d : Dev) (g k mState reason : Nat) : Dev :=
  let x := d.member g k
  let d := if x.tier = 2 then d.farRelease (objSpread g) k else d
  let d := d.setStream (objSpread g) k (d.stream (objSpread g) k).empty
  d.setMember g k { x with mState, reason, tier := 0, alloc := 0, lead := 0 }

/-- Bring one member's state up to date with its availability. -/
def Dev.settleMember (d : Dev) (g k : Nat) (m : SgMember) : Dev :=
  let x := d.member g k
  let r := d.memberReason m x
  if 1 ≤ r && r ≤ 3 then d.unplace g k 0 r
  else if x.mState = 0 then d.setMember g k { x with mState := 1, reason := 0 }
  else d

/-- Bring a group's state up to date with its members (R183, R188): any member not available takes it DOWN, and
from there it returns through FORMING. -/
def Dev.settleGroup (d : Dev) (g : Nat) : Dev :=
  match d.sgRec g with
  | none => d
  | some r =>
    let d := r.members.zipIdx.foldl (fun d p => d.settleMember g p.2 p.1) d
    let d := d.noteSkew g 0
    let s := d.group g
    match s.members.findIdx? fun x => x.mState == 0 || x.mState == 4 with
    | some k => if s.mode == .down then d else d.leaveUp g .down k (d.member g k).reason
    | none => if s.mode == .down then d.putGroup g { s with mode := .forming } else d

/-- Groups with a member on a port settle. -/
def Dev.settlePort (d : Dev) (p : Nat) : Dev :=
  match d.sched.active with
  | none => d
  | some i => i.sgmap.foldl (fun d g =>
      if (match d.sgRec g.sg with | some r => r.members.any (fun m => m.port == p) | none => false) then d.settleGroup g.sg
      else d) d

/-- A group whose channel starts (R188): one that was UP leaves it. -/
def Dev.startGroup (d : Dev) (r : SgRec) : Dev :=
  let d := (d.leaveUp r.sg .forming 0 0).dropStreams (objSpread r.sg)
  (d.putGroup r.sg { rxGen := r.sfhGen, members := r.members.map fun _ => {} }).settleGroup r.sg

/-- Realignment (R186): every placement ends, and the group measures again. -/
def Dev.realign (d : Dev) (g k reason : Nat) : Dev :=
  let d := (d.tick (0x4400 + 16 * g) 1).raise 0x0603 (objSpread g) (leBytes 1 g ++ leBytes 1 k ++ leBytes 1 reason)
  let d := d.leaveUp g .realign k reason
  let n := (d.group g).members.length
  let d := (List.range n).foldl (fun d j => d.unplace g j 1 (if j = k then reason else 0)) d
  let s := d.group g
  (d.setGroup g { s with realigns := satAdd max32 s.realigns 1, lastSet := [] }).settleGroup g

/-! ### Measurement and placement (R184, R185) -/

/-- The record of a member that belongs with stream position `x`. -/
def recordAt (h : List (Nat × Nat)) (x : Nat) : Option (Nat × Nat) :=
  h.find? fun p => p.2 ≤ x + 64 && x ≤ p.2 + 64

/-- Within 64 byte positions of the previous set, member by member. -/
def setsAgree : List Nat → List Nat → Bool
  | [], [] => true
  | a :: s, b :: t => a ≤ b + 64 && b ≤ a + 64 && setsAgree s t
  | _, _ => false

/-- Place one member at a valid measurement (R185). -/
def Dev.placeMember (d : Dev) (g k : Nat) (m : SgMember) : Dev :=
  let x := d.member g k
  if x.tier != 0 || x.mState = 0 then d
  else if x.measSkew ≤ nearMax then
    d.setMember g k { x with mState := 2, reason := 0, tier := 1, alloc := 0, skew := x.measSkew }
  else
    let fail := fun (d : Dev) (r : Nat) =>
      let d := if x.mState = 4 then d else d.tick (0x4400 + 16 * g + 10) 1
      d.setMember g k { x with mState := 4, reason := r }
    if !m.farOk then fail d 4
    else
      match d.farAdmit (objSpread g) k m.weight (x.measSkew + reserve) with
      | (d, 0) =>
        d.setMember g k { x with mState := 2, reason := 0, tier := 2, alloc := x.measSkew + reserve, skew := x.measSkew }
      | (d, r) => fail d r

/-- A valid measurement: members not yet placed are placed, in member order. A STANDBY device places nothing of its own
(R269). -/
def Dev.placeGroup (d : Dev) (g : Nat) (r : SgRec) : Dev :=
  if d.pair.role == .standby then d.settleGroup g else
  let d := r.members.zipIdx.foldl (fun d p => d.placeMember g p.2 p.1) d
  let s := d.group g
  let near := (s.members.filter fun x => x.tier == 1).map fun x => x.skew
  let d := d.setGroup g { s with nearSkew := near.foldl max 0 }
  let k := (s.members.findIdx? fun x => x.mState == 4).getD 0
  (d.noteSkew g k).settleGroup g

/-- A complete set gives each member's skew; two sets that agree in a row make a measurement (R184). -/
def Dev.takeSet (d : Dev) (g : Nat) (ts : List Nat) : Dev :=
  let late := ts.foldl max 0
  let skews := ts.map fun t => late - t
  let s := d.group g
  let valid := setsAgree skews s.lastSet
  let ms := (s.members.zip ts).map fun p => { p.1 with measSkew := late - p.2, arrT := p.2 }
  let d := d.setGroup g { s with members := ms, lastSet := skews, setFc := if valid then d.fc else s.setFc }
  if valid then d.setGroup g { d.group g with placeDue := true } else d

/-- A valid measurement of the Beat places members (R185, R192). -/
def Dev.settlePlace (d : Dev) (g : Nat) : Dev :=
  let s := d.group g
  if !s.placeDue then d
  else match d.sgRec g with
    | some r => (d.setGroup g { s with placeDue := false }).placeGroup g r
    | none => d.setGroup g { s with placeDue := false }

/-- A valid marker of member k: SEQ extended by its wraps, the record kept, a set looked for (R184). -/
def Dev.takeMarker (d : Dev) (g k weight seq offset t : Nat) : Dev :=
  let x := d.member g k
  let high := if seq + 2 ^ 31 < x.seqLast then x.seqHigh + 1 else x.seqHigh
  let pos := ((high * 2 ^ 32 + seq) * 16_384 + offset) / (max 1 weight)
  let x := { x with seqHigh := high, seqLast := seq, history := ((t, pos) :: x.history).take 72 }
  let d := d.setMember g k x
  let b := d.stream (objSpread g) k
  let d := d.setStream (objSpread g) k { b with base := some ((pos / 16 : Nat) - (b.mark : Int)) }
  let recs := (d.group g).members.map fun y => recordAt y.history pos
  if recs.all Option.isSome then
    let l := recs.filterMap id
    if l.all fun a => l.all fun b => a.2 ≤ b.2 + 64 then d.takeSet g (l.map (·.1)) else d
  else d

/-- Marker of group g, member k among the 32 markers of an LCC message: SEQ and OFFSET when VALID (R102). -/
def markerOf (words : List Nat) (g k : Nat) : Option (Nat × Nat) :=
  ((List.range 32).find? fun j => let w := words.getD (16 + 4 * j) 0; w == g * 2048 + k * 256 + 128).map fun j =>
    (words.getD (18 + 4 * j) 0 * 65_536 + words.getD (19 + 4 * j) 0, words.getD (17 + 4 * j) 0 % 16_384)

/-- The markers of a valid LCC message received on a port (R183 to R185), taken by the record that each group's receive side
runs (R190). -/
def Dev.takeMarkers (d : Dev) (p : Nat) (words : List Nat) : Dev :=
  match d.sched.active with
  | none => d
  | some i =>
    let a := (d.port p).arrival
    let t := a.measFc * 15_296 + a.bytes
    i.sgmap.foldl (fun d n => let r := (d.sgRec n.sg).getD n; r.members.zipIdx.foldl (fun d q =>
      if q.1.port = p then
        let mk := markerOf words r.sg q.2
        let d := (d.setMember r.sg q.2 { d.member r.sg q.2 with markerValid := mk.isSome }).settleGroup r.sg
        match mk with
        | some (seq, off) => d.takeMarker r.sg q.2 q.1.weight seq off t
        | none => d
      else d) d) d

/-! ### Release (R186 to R190) -/

/-- Deskew streams of a group's members. -/
def Dev.streams (d : Dev) (g : Nat) : List DeskewBuf :=
  (List.range (d.group g).members.length).map fun k => d.stream (objSpread g) k

/-- The first word W that every member's buffer holds (R188). -/
def Dev.firstWord (d : Dev) (g : Nat) : Option Int :=
  let l := d.streams g
  let w := l.foldl (fun a b => match a, b.front with | some a, some f => some (max a f) | _, _ => none) (some 0)
  match w with | some w => if l.all fun b => b.has w then some w else none | none => none

/-- Each member's buffer begins at word `w`; the engine expects the fragments from there on (R187, R188). -/
def Dev.alignWords (d : Dev) (g : Nat) (r : SgRec) (w : Int) : Dev :=
  let d := (List.range (d.group g).members.length).foldl (fun d k =>
    let b := d.stream (objSpread g) k
    d.setStream (objSpread g) k (b.leave ((w - b.front.getD w).toNat) false)) d
  let p := d.cpath r.ch
  d.setCpath r.ch { p with
    joined := false, rxPos := r.members.map fun m => 16 * m.weight * w.toNat
    rxFrag := r.members.map fun _ => [], rxData := r.members.map fun _ => [] }

/-- SG_UP (R188): every member is placed and holds word W at its first release. -/
def execSgUp (sg : Nat) (s : State) : Host.Outcome State Fault Refusal :=
  s.runIf (fun d => (d.sgRec sg).isSome && ((d.group sg).mode == .forming || (d.group sg).mode == .realign) &&
      !(d.group sg).members.isEmpty && ((d.group sg).members.all fun m => m.tier != 0 && m.mState == 2) &&
      (d.firstWord sg).isSome) fun d =>
    let g := d.group sg
    let d := match d.sgRec sg, d.firstWord sg with | some r, some w => d.alignWords sg r w | _, _ => d
    let d := d.putGroup sg
      { g with mode := .up, upFc := d.fc
               members := g.members.map fun m =>
                { m with mState := 3, reason := 0, lead := m.skew, sfhBadRun := 0, sfhOk := true, sfhNext := none } }
    (d.farReady (objSpread sg)).raise 0x0601 (objSpread sg) (leBytes 1 sg ++ leBytes 1 g.rxGen)

/-- A member's lead at a release (R186): none, or the reason that ends alignment. -/
def Dev.takeLead (d : Dev) (g k lead : Nat) (m : SgMember) : Dev × Option Nat :=
  let x := d.member g k
  let d := d.setMember g k { x with lead := lead }
  if x.tier = 1 then (d, if nearMax + reserve < lead then some 0 else none)
  else if x.tier = 2 && x.alloc ≤ lead + 1_912 then
    match d.farAdmit (objSpread g) k m.weight (x.alloc + reserve) with
    | (d, 0) => (d.setMember g k { d.member g k with alloc := x.alloc + reserve }, none)
    | (d, r) => (d, some r)
  else (d, none)

/-- Check one SFH at its predicted position (R187): whether the third failure in a row fell. -/
def Dev.checkSfh (d : Dev) (g k : Nat) (h : Sfh) : Dev × Bool :=
  if !h.present || h.start.isSome then (d, false)
  else
    let x := d.member g k
    let good := h.ok && (match x.sfhNext with | some n => h.seq == n | none => true)
    let nxt := if good then h.seq + 1 else match x.sfhNext with | some n => n + 1 | none => h.seq + 1
    let run := if good then 0 else x.sfhBadRun + 1
    let d := d.setMember g k { x with sfhOk := good, sfhBadRun := run, sfhNext := some (nxt % 2 ^ 32) }
    (if good then d else d.tick (0x4400 + 16 * g + 2 + k) 1, 3 ≤ run)

/-- A new GEN carried by START blocks on every member (R190). -/
def newGen (n : Nat) (sfhs : List Sfh) : Option Nat :=
  match sfhs with
  | h :: _ => if sfhs.length = n && sfhs.all fun x => x.start.isSome && x.start == h.start then h.start else none
  | [] => none

/-- The group takes a new GEN: FORMING, old content discarded, measured and placed again; fragment streams begin at block 0,
so the SEQ extensions and the records go with the old generation (R184, R190). -/
def Dev.takeGen (d : Dev) (g gen : Nat) : Dev :=
  let d := d.leaveUp g .forming 0 0
  let n := (d.group g).members.length
  let d := (List.range n).foldl (fun d j => d.unplace g j 1 0) d
  let s := d.group g
  let d := d.putGroup g { s with rxGen := gen, lastSet := [], placeDue := false, kept := none }
  match d.sgRec g with
  | some r => (d.putGroup g { d.group g with members := r.members.zipIdx.map fun p =>
      { markerValid := s.kept.isNone && (d.member g p.2).markerValid } }).settleGroup g
  | none => d

/-- One data word is released, in the first TS-cell period after the last member's has arrived: each member's lead, and the
condition that ends alignment, with the member (R186). -/
def Dev.releaseWord (d : Dev) (g : Nat) (r : SgRec) : Dev × Option (Nat × Nat) :=
  let arr := (d.streams g).map fun b => match b.held with | w :: _ => w.arrived | [] => 0
  let at_ := nextPeriod (arr.foldl max 0)
  r.members.zipIdx.foldl (fun (a : Dev × Option (Nat × Nat)) m =>
    let (d, e) := a
    match e with
    | some _ => a
    | none =>
      let d := d.setStream (objSpread g) m.2 ((d.stream (objSpread g) m.2).leave 1 true)
      let (d, e) := d.takeLead g m.2 (at_ - arr.getD m.2 0) m.1
      (d, e.map fun reason => (m.2, reason))) (d, none)

/-- Up to `n` words are released, until alignment ends (R186). -/
def Dev.release (g : Nat) (r : SgRec) : Nat → Dev → Dev
  | 0, d => d
  | n + 1, d =>
    match d.releaseWord g r with
    | (d, some (k, reason)) => d.realign g k reason
    | (d, none) => Dev.release g r n d

/-- Data words that every member's buffer holds. -/
def Dev.wordsHeld (d : Dev) (g : Nat) : Nat :=
  match d.streams g with
  | b :: t => t.foldl (fun n b => min n b.held.length) b.held.length
  | [] => 0

/-- A word of a far stream has come back uncorrectable: its cells are poisoned, and the stream goes on (R193). -/
def Dev.farPoison (d : Dev) (l : List (Nat × Nat)) : Dev :=
  let bad := fun (i : LinkItem) => match i with | .cell c => LinkItem.cell { c with poison := true } | .jc v ok => .jc v ok
  (l.filter fun x => d.cald.streams.any fun y => y.owner == x.1 && y.index == x.2).foldl (fun d x =>
    let b := d.stream x.1 x.2
    match b.held with
    | w :: t => d.setStream x.1 x.2 { b with held := { w with items := w.items.map fun e => (e.1, e.2.map bad) } :: t }
    | [] => d) d

/-- DESKEW_RELEASE (R186): data words that every member of a group that is UP has reported present; those that the far tier
returns uncorrectable leave poisoned (R193). -/
def execDeskewRelease (sg words : Nat) (poisoned : List Nat) (s : State) : Host.Outcome State Fault Refusal :=
  s.runIf (fun d => (d.group sg).mode == .up && 1 ≤ words && words ≤ d.wordsHeld sg) fun d =>
    match d.sgRec sg with
    | some r => Dev.release sg r words (d.farPoison (poisoned.map fun k => (objSpread sg, k)))
    | none => d

/-! ### Aligned 1+1 (R195 to R197) -/

/-- A protection group of aligned form (R68). -/
def PgRec.aligned (g : PgRec) : Bool := bit g.arch 5

/-- Record of a protection group in the active image. -/
def Dev.pgRec (d : Dev) (g : Nat) : Option PgRec := d.sched.active.bind fun i => i.pgRec g

/-- RX slots of a group's channel on one path. -/
def Dev.pgSlots (d : Dev) (r : PgRec) : Nat := match d.desc r.ch with | some x => x.tsCount | none => 0

/-- Positions in a history at which a run of 8 signatures occurs; the arrival of its latest period. -/
def runsAt (run : List Nat) : List (Nat × Nat) → List Nat
  | [] => []
  | p :: t => (if run.length = 8 && ((p :: t).take 8).map (·.1) == run then [p.2] else []) ++ runsAt run t

/-- Set the aligned state of a group. -/
def Dev.setAlign (d : Dev) (g : Nat) (a : Aligned) : Dev := d.setPg g { d.pg g with align := a }

/-- Event 0x0607: state 0 ordinary, 1 aligned, 2 guard restored; reason 0 none, 1 no match, 2 not placed, 3 far deskew
unavailable, 4 drift, 5 late read or books. -/
def Dev.alignEvent (d : Dev) (g state reason : Nat) : Dev :=
  d.raise 0x0607 (objGroup g) (leBytes 1 g ++ leBytes 1 state ++ leBytes 1 reason)

/-- The streams of both paths give up what they hold. -/
def Dev.emptyPaths (d : Dev) (g : Nat) : Dev :=
  [0, 1].foldl (fun d k => d.setStream (objGroup g) k (d.stream (objGroup g) k).empty) d

/-- The group runs as ordinary 1+1, neither path delayed (R196). -/
def Dev.unalign (d : Dev) (g reason : Nat) : Dev :=
  let a := (d.pg g).align
  let d := ((d.farRelease (objGroup g) 0).farRelease (objGroup g) 1).emptyPaths g
  let d := d.setAlign g
    { a with placed := false, aligned := false, due := false, wTier := 0, pTier := 0, wAlloc := 0, pAlloc := 0, wDelay := 0, pDelay := 0
             ordinary := true }
  if a.ordinary then d else d.alignEvent g 0 reason

/-- Place one path (R196): the tier it takes; none where it cannot be placed. -/
def Dev.placePath (d : Dev) (g index slots alloc : Nat) : Dev × Option Nat :=
  if alloc ≤ nearMax + reserve then (d.farRelease (objGroup g) index, some 1)
  else
    match d.farAdmit (objGroup g) index slots alloc with
    | (d, 0) => (d, some 2)
    | (d, _) => (d, none)

/-- At a valid match both paths are placed (R196); not by a STANDBY device (R269). -/
def Dev.placePaths (d : Dev) (g : Nat) (r : PgRec) : Dev :=
  if d.pair.role == .standby then d else
  let a := (d.pg g).align
  let base := r.guard * 15_296 + reserve
  let wAlloc := if 0 < a.delta then base + a.delta.toNat else base
  let pAlloc := if a.delta < 0 then base + (-a.delta).toNat else base
  let n := d.pgSlots r
  let (d, w) := d.placePath g 0 n wAlloc
  let (d, p) := d.placePath g 1 n pAlloc
  match w, p with
  | some tw, some tp =>
    let a := (d.pg g).align
    d.setAlign g { a with placed := true, wTier := tw, pTier := tp, wAlloc := wAlloc, pAlloc := pAlloc
                          filledFc := d.fc + (max wAlloc pAlloc + 15_295) / 15_296, wDelay := wAlloc, pDelay := pAlloc }
  | _, _ => d.unalign g 2

/-- Delays of the paths at the selector: the selected path's stays as it is, from its allocation on, and the other path's
follows the differential, so that a switch changes neither (R196, R197). -/
def Dev.pathDelays (d : Dev) (g : Nat) : Int × Int :=
  let s := d.pg g
  let a := s.align
  if s.select then ((a.pDelay : Int) + a.delta, (a.pDelay : Int)) else ((a.wDelay : Int), (a.wDelay : Int) - a.delta)

/-- Words of a path that a time in byte positions spans (R174). -/
def wordsOver (t : Nat) : Nat := (952 * t + 20 * 15_296 - 1) / (20 * 15_296)

/-- The delay of the path not selected has fallen below GUARD: the selected path's delay rises to restore it (R197). -/
def Dev.guardRestore (d : Dev) (g : Nat) (r : PgRec) : Dev :=
  let s := d.pg g
  let (w, p) := d.pathDelays g
  let other := if s.select then w else p
  let need := (r.guard * 15_296 : Nat)
  if (need : Int) ≤ other then d
  else
    let grow := ((need : Int) - other).toNat
    let a := s.align
    let delay := (if s.select then a.pDelay else a.wDelay) + grow
    let alloc := max delay (if s.select then a.pAlloc else a.wAlloc)
    match d.placePath g (b2n s.select) (d.pgSlots r) alloc with
    | (d, some t) =>
      let a := (d.pg g).align
      let b := d.stream (objGroup g) (b2n s.select)
      let a := { a with voids := a.voids + wordsOver grow * b.cells.length }
      ((d.setStream (objGroup g) (b2n s.select) (b.void (wordsOver grow))).setAlign g
        (if s.select then { a with pAlloc := alloc, pTier := t, pDelay := delay }
         else { a with wAlloc := alloc, wTier := t, wDelay := delay })).alignEvent g 2 4
    | (d, none) => d.unalign g 2

/-- Aligned mode begins once both paths are placed, filled, and delayed by GUARD (R196). -/
def Dev.beginAligned (d : Dev) (g : Nat) (r : PgRec) : Dev :=
  let a := (d.pg g).align
  let (w, p) := d.pathDelays g
  let need : Int := (r.guard * 15_296 : Nat)
  if a.placed && !a.aligned && a.filledFc ≤ d.fc && need ≤ w && need ≤ p then
    (d.farReady (objGroup g)).setAlign g { a with aligned := true, ordinary := false } |>.alignEvent g 1 0
  else d

/-- One GMP period of both paths: signatures kept, the match looked for (R195). -/
def Dev.signatures (d : Dev) (g : Nat) (r : PgRec) (wSig pSig wArr pArr : Nat) : Dev :=
  let a := (d.pg g).align
  let ws := ((wSig, wArr) :: a.wSigs).take 880
  let ps := ((pSig, pArr) :: a.pSigs).take 880
  let inP := runsAt ((ws.take 8).map (·.1)) ps
  let inW := runsAt ((ps.take 8).map (·.1)) (ws.drop 1)
  let deltas := inP.map (fun t : Nat => Int.ofNat t - Int.ofNat wArr) ++ inW.map (fun t : Nat => Int.ofNat pArr - Int.ofNat t)
  let m := match deltas with | [] => 0 | [_] => 1 | _ => 2
  let delta := match deltas with | [x] => x | _ => a.delta
  let close := a.matched == 1 && -64 ≤ delta - a.delta && delta - a.delta ≤ 64
  let valid := m == 1 && close
  let d := d.setAlign g { a with wSigs := ws, pSigs := ps, matched := m, delta := delta
                                 setFc := if valid then d.fc else a.setFc
                                 noMatchMf := if m = 1 then 0 else a.noMatchMf }
  let d := d.setAlign g { (d.pg g).align with due := (d.pg g).align.due || valid }
  let d := d.beginAligned g r
  let (w, p) := d.pathDelays g
  if (d.pg g).align.placed then d.setAlign g { (d.pg g).align with wDelay := w.toNat, pDelay := p.toNat } else d

/-- A valid match of the Beat places the paths, or restores GUARD (R196, R197). -/
def Dev.settlePaths (d : Dev) (r : PgRec) : Dev :=
  let g := r.pg
  let a := (d.pg g).align
  if !a.due then d
  else
    let d := d.setAlign g { a with due := false }
    let d := if !a.placed then d.placePaths g r else d
    if (d.pg g).align.aligned then d.guardRestore g r else d

/-- The signatures of a whole period of both paths are here (R195). -/
def Dev.signed (d : Dev) (g wSig pSig wArr pArr : Nat) : Bool :=
  (d.stream (objGroup g) 0).sig == some (wSig, wArr) && (d.stream (objGroup g) 1).sig == some (pSig, pArr)

/-- The signatures of a period are taken. -/
def Dev.takeSigs (d : Dev) (g : Nat) : Dev :=
  [0, 1].foldl (fun d k => d.setStream (objGroup g) k { d.stream (objGroup g) k with sig := none }) d

/-- ALIGNED_SIGNATURE_PERIOD (R195 to R197): a period of both paths is complete, and these are its signatures and arrivals. -/
def execAlignedSignaturePeriod (pg wSig pSig wArrival pArrival : Nat) (s : State) :
    Host.Outcome State Fault Refusal :=
  s.runIf (fun d => (match d.pgRec pg with | some r => r.aligned | none => false) &&
      d.signed pg wSig pSig wArrival pArrival) fun d =>
    match d.pgRec pg with
    | some r => (d.takeSigs pg).signatures pg r wSig pSig wArrival pArrival
    | none => d

/-- ALIGNED_MATCH_TIMEOUT (R196): no unique match for 64 MF. -/
def execAlignedMatchTimeout (pg : Nat) (s : State) : Host.Outcome State Fault Refusal :=
  s.runIf (fun d => (match d.pgRec pg with | some r => r.aligned | none => false) &&
      64 ≤ (d.pg pg).align.noMatchMf && !(d.pg pg).align.ordinary) fun d => d.unalign pg 1

/-- Placement at the end of a Beat: Spread groups before protection groups, by ascending index; members in order, the working
path before the protection path (R192). -/
def Dev.placeBeat (d : Dev) : Dev :=
  match d.sched.active with
  | none => d
  | some i =>
    let d := (sortBy (fun r : SgRec => r.sg) i.sgmap).foldl (fun d r => d.settlePlace r.sg) d
    (sortBy (fun r : PgRec => r.pg) (i.pgs.filter PgRec.aligned)).foldl Dev.settlePaths d

/-! ### Far deskew and die links (R177, R193, R201) -/

/-- Far deskew has become unavailable: every far stream is released (R193). -/
def Dev.farLost (d : Dev) : Dev :=
  match d.sched.active with
  | none => d
  | some i =>
    let d := i.sgmap.foldl (fun d r =>
      let far := r.members.zipIdx.filter fun p => (d.member r.sg p.2).tier == 2
      if far.isEmpty then d
      else
        let d := far.foldl (fun d p =>
          ((d.unplace r.sg p.2 4 6).tick (0x4400 + 16 * r.sg + 10) 1).raise 0x0606 (objSpread r.sg)
            (leBytes 4 (objSpread r.sg) ++ leBytes 1 p.2 ++ leBytes 1 6)) d
        (d.noteSkew r.sg ((far.head?.map (·.2)).getD 0)).settleGroup r.sg) d
    i.pgs.foldl (fun d r =>
      let a := (d.pg r.pg).align
      if a.wTier = 2 || a.pTier = 2 then d.unalign r.pg 3 else d) d

/-- FAR_DESKEW_UNAVAILABLE (R193): cause 1 PD_FAR or PD_HBM off, 2 the controller has declared the stack failed, 3 more than
one uncorrectable word in each of 16 MF. -/
def execFarDeskewUnavailable (cause : Nat) (s : State) : Host.Outcome State Fault Refusal :=
  s.runIf (fun d => cause = 2 || (cause = 1 && d.farState == 1) || (cause = 3 && 16 ≤ d.cald.hbmRun)) fun d =>
    (if cause = 1 then d else { d with cald := { d.cald with hbmFailed := true } }).farLost

/-- FAR_READ_DEADLINE_MISS (R201): VOID cells are counted, and the group or aligned path realigns. -/
def execFarReadDeadlineMiss (owner index cells : Nat) (s : State) : Host.Outcome State Fault Refusal :=
  s.runIf (fun d => d.cald.streams.any fun x => x.owner == owner && x.index == index) fun d =>
    let g := objIndex owner
    let port := if objType owner = 5 then
        (match d.sgRec g with | some r => (match r.members[index]? with | some m => m.port | none => 0) | none => 0)
      else (match d.pgRec g with | some r => (if index = 0 then r.wPort else r.pPort) | none => 0)
    let d := (d.tick (0x53A0 + 2 * (4 + port / 2) + 1) 1).raise 0x0609 owner (leBytes 4 owner ++ leBytes 1 index)
    let late := fun (d : Dev) =>
      let b := d.stream owner index
      d.setStream owner index (b.void (cells / max 1 b.cells.length))
    if objType owner = 5 then late ((d.tick (0x4400 + 16 * g + 1) cells).realign g index 9)
    else
      let d := d.unalign g 5
      late (d.setAlign g { (d.pg g).align with voids := (d.pg g).align.voids + cells })

/-- DIE_LINK_DOWN (R177): link-layer lock is lost. -/
def execDieLinkDown (slice : Nat) (s : State) : Host.Outcome State Fault Refusal :=
  s.runIf (fun d => slice < 4 && bit d.cald.dieUp slice) fun d =>
    { d with cald := { d.cald with dieUp := setBit d.cald.dieUp slice false } }.tick (0x53C0 + 16 * slice + 3) 1

/-- DIE_LINK_UP (R177). -/
def execDieLinkUp (slice : Nat) (s : State) : Host.Outcome State Fault Refusal :=
  s.runIf (fun _ => slice < 4) fun d => { d with cald := { d.cald with dieUp := setBit d.cald.dieUp slice true } }

/-- A slice's rising die link is down: lock lost, fabric off, or the slice failed (R177). -/
def Dev.dieDown (d : Dev) (slice : Nat) : Bool :=
  !bit d.cald.dieUp slice || !d.domOn (domFabric slice) || !bit d.pair.sliceHealth slice

/-! ### The arbiter (R198 to R200) -/

/-- A requester's settings after reset (R198). -/
def reqDefault (r : Nat) : Requester :=
  if r < 4 then { deadline := 15_296, burst := 64 }
  else if r < 8 then { deadline := 7_648, burst := 64 }
  else if r = 8 then { deadline := 3_824, burst := 64 }
  else if r = 9 then { deadline := 30_592, burst := 64 }
  else if r = 13 then { deadline := 1_957_888, burst := 64 }
  else { deadline := 3_915_776, burst := 64 }

def Dev.req (d : Dev) (r : Nat) : Requester := Tab.get (reqDefault r) d.cald.reqs r
def Dev.setReq (d : Dev) (r : Nat) (x : Requester) : Dev := { d with cald := { d.cald with reqs := Tab.set d.cald.reqs r x } }

/-- A requester uses a resource: 0 HBM, 1 Galulo (R198). -/
def usesResource (res r : Nat) : Bool :=
  if res = 0 then r < 8 || (10 ≤ r && r < 16) else [8, 9, 10, 15].contains r

/-- The earliest deadline, ties to the lower ID. -/
def Dev.arbWinner (d : Dev) : List ArbRequest → Option ArbRequest
  | [] => none
  | q :: t =>
    match d.arbWinner t with
    | none => some q
    | some b =>
      let kq := q.issue + (d.req q.requester).deadline
      let kb := b.issue + (d.req b.requester).deadline
      if kq < kb || (kq = kb && q.requester ≤ b.requester) then some q else some b

/-- Longest burst that a requester issues (R199): 32 hub cycles for the far-deskew engine, 24 for GAL_FRAME. -/
def longestBurst (r cycles : Nat) : Nat := if r < 8 then min 32 cycles else if r = 8 then min 24 cycles else cycles

/-- A holder keeps the resource beyond the maximum burst of its grant. -/
def heldOver (h : Option ArbRequest) : Bool := match h with | some q => q.burst < q.cycles | none => false

/-- The holder of a resource. -/
def Caldera.holder (c : Caldera) (resource : Nat) : Option ArbRequest := if resource = 0 then c.holder0 else c.holder1

/-- The request that wins is granted, with the burst then in force (R199, R200). -/
def Dev.grant (d : Dev) (w : Option ArbRequest) : Option ArbRequest :=
  w.map fun q => { q with cycles := longestBurst q.requester q.cycles, burst := (d.req q.requester).burst }

/-- ARBITER_GRANT (R199): the resource is free, its last holder having released it within its burst or been cut off, and the
pending request with the earliest deadline wins. -/
def execArbiterGrant (resource : Nat) (requests : List ArbRequest) (s : State) : Host.Outcome State Fault Refusal :=
  s.runIf (fun d => resource < 2 && !heldOver (d.cald.holder resource)) fun d =>
    let l := requests.filter fun q => usesResource resource q.requester && !(d.req q.requester).barred
    let w := d.grant (d.arbWinner l)
    if resource = 0 then { d with cald := { d.cald with holder0 := w } }
    else { d with cald := { d.cald with holder1 := w } }

/-- A requester holds a resource beyond the maximum burst of its grant. -/
def overBurst (r : Nat) (h : Option ArbRequest) : Bool :=
  match h with | some q => q.requester == r && q.burst < q.cycles | none => false

/-- ARB_CUTOFF (R199). -/
def execArbCutoff (requester : Nat) (s : State) : Host.Outcome State Fault Refusal :=
  s.runIf (fun d => overBurst requester d.cald.holder0 || overBurst requester d.cald.holder1) fun d =>
    let x := d.req requester
    let h0 := if overBurst requester d.cald.holder0 then none else d.cald.holder0
    let h1 := if overBurst requester d.cald.holder1 then none else d.cald.holder1
    let d := d.setReq requester { x with cutoffs := satAdd 0xFFFF x.cutoffs 1, barred := true }
    let d := { d with cald := { d.cald with holder0 := h0, holder1 := h1 } }
    (d.tick (0x53A0 + 2 * requester) 1).raise 0x0608 0 (leBytes 1 requester ++ leBytes 2 (x.cutoffs + 1))

/-- A REQUESTER above 15 gives NO_OBJECT (R205). -/
def checkArbDeadlineSet (_ : Dev) (c : Cmd) : Check := refuseIf (15 < c.field 0 1) stNoObject

/-- Effect of ARB_DEADLINE_SET; the active device sends it to its twin on execution (R200). -/
def applyArbDeadlineSet (d : Dev) (c : Cmd) : Applied :=
  let r := c.field 0 1
  let d := d.setReq r { d.req r with deadline := clamp 1_912 3_915_776 (c.field 4 4), burst := clamp 8 4_096 (c.field 8 2) }
  okWith (if d.pair.role == .active && d.twinFollows && !c.slot.isEmpty then d.mirrorOut c 0 else d)

/-- Parameter block of ARB_DEADLINE_SET for a requester. -/
def arbBlock (d : Dev) (r : Nat) : List Byte :=
  leBytes 1 r ++ leBytes 3 0 ++ leBytes 4 (d.req r).deadline ++ leBytes 2 (d.req r).burst ++ zeros 6

/-- ARB_DEADLINE_SET (R205). -/
def execArbDeadlineSet (core : Nat) (s : State) : Host.Outcome State Fault Refusal :=
  s.run fun d => d.serveChange core 0x0604 checkArbDeadlineSet

/-! ### Reads (R202 to R204) -/

/-- SG_STATUS's response (R202). -/
def sgStatus (d : Dev) (c : Cmd) : Nat × List Byte :=
  let g := c.index
  match d.sgRec g with
  | none => (stNoObject, [])
  | some r =>
    let s := d.group g
    let st := match s.mode with | .forming => 0 | .up => 1 | .realign => 2 | .down => 3
    let entry := fun (p : SgMember × Nat) =>
      let x := d.member g p.2
      leBytes 1 p.1.port ++ leBytes 1 x.mState ++ leBytes 1 x.reason ++ leBytes 1 x.tier ++ leBytes 4 x.alloc ++
        leBytes 4 x.skew ++ leBytes 2 p.1.weight ++
        leBytes 1 (b2n p.1.farOk + 2 * b2n x.markerValid + 4 * b2n x.sfhOk) ++ leBytes 1 0
    (stOk, leBytes 8 d.fc ++ leBytes 1 st ++ leBytes 1 r.members.length ++ leBytes 1 s.rxGen ++ leBytes 1 r.ch ++
      leBytes 4 s.nearSkew ++ leBytes 8 s.upFc ++ leBytes 4 s.realigns ++ leBytes 1 (b2n s.dSgskw) ++ zeros 3 ++
      (r.members.zipIdx.map entry).flatten)

/-- SG_STATUS (R202). -/
def execSgStatus (core : Nat) (s : State) : Host.Outcome State Fault Refusal :=
  s.run fun d => d.serveRead core [0x0601] sgStatus

/-- SKEW_READ's entry. -/
def skewEntry (arrival skew lead : Nat) : List Byte := leBytes 8 arrival ++ leBytes 4 skew ++ leBytes 4 lead

/-- SKEW_READ's response (R203). -/
def skewRead (d : Dev) (c : Cmd) : Nat × List Byte :=
  let g := c.index
  if objType c.object = 5 then
    let s := d.group g
    (stOk, leBytes 8 d.fc ++ leBytes 8 s.setFc ++ leBytes 1 s.members.length ++ leBytes 1 0 ++ leBytes 2 0 ++
      (s.members.map fun x => skewEntry x.arrT x.measSkew (if x.tier = 0 then 0 else x.lead)).flatten)
  else
    match d.pgRec g with
    | some r =>
      if r.aligned then
        let a := (d.pg g).align
        let arr := fun (l : List (Nat × Nat)) => match l with | p :: _ => p.2 | [] => 0
        let lead := fun (n : Nat) => if a.placed then n else 0
        (stOk, leBytes 8 d.fc ++ leBytes 8 a.setFc ++ leBytes 1 2 ++ leBytes 1 a.matched ++ leBytes 2 0 ++
          skewEntry (arr a.wSigs) (if 0 < a.delta then a.delta.toNat else 0) (lead a.wDelay) ++
          skewEntry (arr a.pSigs) (if a.delta < 0 then (-a.delta).toNat else 0) (lead a.pDelay))
      else (stConstraint, [])
    | none => (stConstraint, [])

/-- SKEW_READ (R203). -/
def execSkewRead (core : Nat) (s : State) : Host.Outcome State Fault Refusal :=
  s.run fun d => d.serveRead core [0x0602] skewRead

/-- FAR_BUDGET_READ's response (R204). -/
def farBudgetRead (d : Dev) (c : Cmd) : Nat × List Byte :=
  let sel := fallback 1 0 (c.field 0 1)
  let n := d.cald.streams.length
  let head := leBytes 8 d.fc ++ leBytes 1 d.farState ++ leBytes 1 sel ++ leBytes 2 (if sel = 0 then n else 0)
  if sel = 0 then
    let start := clamp 0 255 (c.field 1 1)
    let shown := (d.cald.streams.drop start).take 15
    (stOk, head ++ leBytes 2 d.cald.slotsSum ++ leBytes 2 0 ++ leBytes 8 d.cald.slotBytes ++ leBytes 8 slotBytesMax ++
      leBytes 2 start ++ leBytes 1 shown.length ++ leBytes 1 0 ++
      (shown.map fun s => leBytes 4 s.owner ++ leBytes 1 s.index ++ leBytes 1 (b2n s.ready) ++ leBytes 2 s.slots ++
        leBytes 4 s.alloc).flatten)
  else
    (stOk, head ++ ((List.range 16).map fun r =>
      leBytes 4 (d.req r).deadline ++ leBytes 2 (d.req r).burst ++ leBytes 2 (d.req r).cutoffsLast).flatten)

/-- FAR_BUDGET_READ (R204). -/
def execFarBudgetRead (core : Nat) (s : State) : Host.Outcome State Fault Refusal :=
  s.run fun d => d.serveRead core [0x0603] farBudgetRead

end Sys2Proof.Machine
end

