-- ==== Sys2Proof/Machine/LinePort.lean ====
section
/-! DEFINITION. Line ports: the receive chain, switch-grade indications, the Line Control Channel, the receive bank,
and the LP_* commands apart from the ladder (R91 to R105, R115 to R117, R120, R42, R81 to R83). -/

namespace Sys2Proof.Machine

open Sys2Proof

/-- First counter cell of a line port (R381). -/
def lineCell (p : Nat) : Nat := 0x2000 + 256 * p

/-- Instances of a port, as a mask. -/
def Dev.instMask (d : Dev) (p : Nat) : Nat := 2 ^ d.portN p - 1

/-- Lanes in use, as a mask. -/
def Dev.laneMask (d : Dev) (p : Nat) : Nat := 2 ^ d.lanesInUse p - 1

/-! ### Losing alignment (R95, R96) -/

/-- The port loses multiframe alignment; `stage` is the place of the first stage lost in the table of R95: 0 lane, 1 FlexO
frame, 2 FlexO group, 3 OTUC frame, 4 OTUC multiframe, 5 port multiframe (DESIGN CHOICE, log 77: event 0x0302 has no codes). -/
def Dev.loseAlignment (d : Dev) (p stage : Nat) : Dev :=
  let x := d.port p
  if !x.mfAligned then d
  else
    let d := d.setPort p { x with mfAligned := false, firstLost := stage, rxAvail := none
                                  arrival := { x.arrival with valid := false } }
    ((d.tick (lineCell p + 135) 1).raise 0x0302 (objPort p) (leBytes 1 p ++ leBytes 1 stage)).settlePort p

/-- Every stage after the FlexO frames leaves its aligned state. -/
def Dev.dropGroup (d : Dev) (p stage : Nat) : Dev :=
  (d.setPort p { d.port p with groupAligned := false, inFrame := 0, inMf := 0 }).loseAlignment p stage

/-- A lane in use goes DOWN: its two instances lose their frame, and every later stage follows. -/
def Dev.dropLane (d : Dev) (p k : Nat) : Dev :=
  let x := d.port p
  let off := fun (m : Nat) => setBit (setBit m (2 * k) false) (2 * k + 1) false
  (d.setPort p { x with lanesUp := setBit x.lanesUp k false, flexoVerify := off x.flexoVerify
                        flexoLock := off x.flexoLock, laneRun := Tab.set x.laneRun k 0
                        flexo := Tab.set (Tab.set x.flexo (2 * k) {}) (2 * k + 1) {} }).dropGroup p 0

/-- Lanes of a port stop: those that are UP leave it. -/
def Dev.dropLanes (d : Dev) (p : Nat) (l : List Nat) : Dev :=
  l.foldl (fun d k => if bit (d.port p).lanesUp k then d.dropLane p k else d) d

/-! ### Lanes and frames (R94 to R96) -/

/-- Beats with signal and CDR lock, in a row, of a lane. -/
def LinePort.laneGood (x : LinePort) (k : Nat) : Nat := Tab.get 0 x.laneRun k

/-- Domains a port needs: PD_LPp and its line quads (R92). -/
def Dev.portDomainsOn (d : Dev) (p : Nat) : Bool :=
  d.domOn (domPort p) && d.domOn (domLineQuad (2 * p)) && (d.portN p ≤ 8 || d.domOn (domLineQuad (2 * p + 1)))

/-- A port frames and demaps: enabled, powered, on a slice that works (R28, R29). -/
def Dev.portOn (d : Dev) (p : Nat) : Bool := (d.port p).enabled && d.portDomainsOn p && d.sliceOn (p / 2)

/-- LANE_UP (R95): line lane 0 to 63, signal present and CDR locked for 64 consecutive Beats. -/
def execLaneUp (lane : Nat) (s : State) : Host.Outcome State Fault Refusal :=
  s.runIf (fun d => lane < 64 && d.portOn (lane / 8) && lane % 8 < d.lanesInUse (lane / 8) &&
      64 ≤ (d.port (lane / 8)).laneGood (lane % 8)) fun d =>
    let x := d.port (lane / 8)
    d.setPort (lane / 8) { x with lanesUp := setBit x.lanesUp (lane % 8) true }

/-- LANE_DOWN (R95): signal or CDR lock is lost. -/
def execLaneDown (lane : Nat) (s : State) : Host.Outcome State Fault Refusal :=
  s.runIf (fun d => lane < 64 && (d.port (lane / 8)).enabled && bit (d.port (lane / 8)).lanesUp (lane % 8) &&
      (d.port (lane / 8)).laneGood (lane % 8) == 0) fun d =>
    (d.tick (lineCell (lane / 8) + 136 + lane % 8) 1).dropLane (lane / 8) (lane % 8)

/-- What the receiver knows of a lane position. -/
def LinePort.flexoAt (x : LinePort) (q : Nat) : FlexoPos := Tab.get {} x.flexo q

/-- PID of a lane position; before any overhead has been read there, its own place (DESIGN CHOICE, log 76). -/
def LinePort.pidAt (x : LinePort) (q : Nat) : Nat := if (x.flexoAt q).pid = 0 then q + 1 else (x.flexoAt q).pid

/-- Lane position of a FlexO instance, found by its PID (R94). -/
def LinePort.posOf (x : LinePort) (inst : Nat) : Option Nat := (List.range 16).find? fun q => x.pidAt q == inst

/-- Instances in LOCK, bit i − 1 for instance i. -/
def LinePort.instLock (x : LinePort) : Nat :=
  bitsOf ((List.range 16).map fun i => match x.posOf (i + 1) with | some q => bit x.flexoLock q | none => false)

/-- A lane position may enter a state: 0 HUNT, 1 VERIFY, 2 LOCK (R95). VERIFY needs a candidate, LOCK the marker in the
next two frames too; VERIFY is left on one frame without it, LOCK on five. -/
def LinePort.flexoMay (x : LinePort) (q state : Nat) : Bool :=
  let f := x.flexoAt q
  match state with
  | 0 => (bit x.flexoVerify q && 1 ≤ f.bad) || (bit x.flexoLock q && 5 ≤ f.bad)
  | 1 => bit x.lanesUp (q / 2) && !bit x.flexoVerify q && !bit x.flexoLock q && 1 ≤ f.good
  | 2 => bit x.lanesUp (q / 2) && bit x.flexoVerify q && 3 ≤ f.good
  | _ => false

/-- FLEXO_FRAME_STATE_CHANGE (R95): instance 1 to 16, at the lane position that its PID gives. -/
def execFlexoFrameStateChange (port inst state : Nat) (s : State) : Host.Outcome State Fault Refusal :=
  s.runIf (fun d => port < 8 && 1 ≤ inst && inst ≤ d.portN port && (d.port port).enabled &&
      (match (d.port port).posOf inst with | some q => (d.port port).flexoMay q state | none => false)) fun d =>
    let x := d.port port
    match x.posOf inst with
    | none => d
    | some q =>
      let d := d.setPort port { x with
        flexoVerify := setBit x.flexoVerify q (state == 1), flexoLock := setBit x.flexoLock q (state == 2)
        flexo := if state = 0 then Tab.set x.flexo q { x.flexoAt q with good := 0, bad := 0 } else x.flexo }
      if bit x.flexoLock q && state != 2 then d.dropGroup port 1 else d

/-- Byte positions that 300 ns last at the nominal Beat (R94). -/
def skewMax : Nat := 3_947

/-- PIDs 1 to n stand each once among the positions in LOCK (R95). -/
def LinePort.pidSet (x : LinePort) (n : Nat) : Bool :=
  let held := ((List.range 16).filter fun q => bit x.flexoLock q).map x.pidAt
  held.length == n && (List.range n).all fun i => held.contains (i + 1)

/-- The FlexO multiframes of the positions in LOCK begin within the skew of R94. -/
def LinePort.skewOk (x : LinePort) : Bool :=
  let t := ((List.range 16).filter fun q => bit x.flexoLock q).map fun q => (x.flexoAt q).start
  t.all fun a => t.all fun b => a ≤ b + skewMax

/-- Every position in LOCK carries FLEXO_GID, where GID_CHECK asks for it (R95). -/
def LinePort.gidOk (x : LinePort) : Bool :=
  !x.attr.gidCheck || (List.range 16).all fun q => !bit x.flexoLock q || (x.flexoAt q).gid == x.attr.flexoGid

/-- MAP and AVAIL name all n instances in every position in LOCK, and the PIDs are right (R98, R210). -/
def LinePort.mapOk (x : LinePort) (n : Nat) : Bool :=
  x.pidSet n && (List.range 16).all fun q =>
    !bit x.flexoLock q || ((x.flexoAt q).map == 2 ^ n - 1 && (x.flexoAt q).avail == 2 ^ n - 1)

/-- FLEXO_GROUP_STATE_CHANGE (R95). -/
def execFlexoGroupStateChange (port : Nat) (aligned : Bool) (s : State) : Host.Outcome State Fault Refusal :=
  s.runIf (fun d => port < 8 && (d.port port).enabled && d.portN port != 0 &&
      (let x := d.port port
       let n := d.portN port
       if aligned then x.pidSet n && x.skewOk && x.gidOk
       else x.groupAligned && (!x.pidSet n || 3 ≤ x.gidBad))) fun d =>
    if aligned then d.setPort port { d.port port with groupAligned := true } else d.dropGroup port 2

/-- What the receiver knows of an OTUC instance. -/
def LinePort.otucAt (x : LinePort) (i : Nat) : OtucPos := Tab.get {} x.otuc i

/-- OTUC_FRAME_STATE_CHANGE (R95): IF after 2 consecutive correct FAS, OOF after 5 consecutive errored ones. -/
def execOtucFrameStateChange (port inst : Nat) (inFrame : Bool) (s : State) : Host.Outcome State Fault Refusal :=
  s.runIf (fun d => port < 8 && 1 ≤ inst && inst ≤ d.portN port && (d.port port).groupAligned &&
      (let o := (d.port port).otucAt inst
       if inFrame then 2 ≤ o.fasGood else 5 ≤ o.fasBad)) fun d =>
    let x := d.port port
    let i := inst - 1
    if inFrame then d.setPort port { x with inFrame := setBit x.inFrame i true }
    else (d.setPort port { x with inFrame := setBit x.inFrame i false, inMf := setBit x.inMf i false }).loseAlignment port 3

/-- OTUC_MULTIFRAME_STATE_CHANGE (R95): IM after 2 consecutive frames with the expected MFAS, OOM after 5 in error. -/
def execOtucMultiframeStateChange (port inst : Nat) (inMf : Bool) (s : State) : Host.Outcome State Fault Refusal :=
  s.runIf (fun d => port < 8 && 1 ≤ inst && inst ≤ d.portN port && bit (d.port port).inFrame (inst - 1) &&
      (let o := (d.port port).otucAt inst
       if inMf then 2 ≤ o.mfGood else 5 ≤ o.mfBad)) fun d =>
    let x := d.port port
    let i := inst - 1
    if inMf then d.setPort port { x with inMf := setBit x.inMf i true }
    else (d.setPort port { x with inMf := setBit x.inMf i false }).loseAlignment port 4

/-- All n instances carry equal MFAS in the same frame (R95). -/
def LinePort.equalMfas (x : LinePort) (n : Nat) : Bool :=
  (List.range n).all fun i => (x.otucAt (i + 1)).mfas == (x.otucAt 1).mfas

/-- PORT_MULTIFRAME_LOST (R95, R96): the instances carry unequal MFAS. -/
def execPortMultiframeLost (port : Nat) (s : State) : Host.Outcome State Fault Refusal :=
  s.runIf (fun d => port < 8 && !(d.port port).equalMfas (d.portN port)) fun d => d.loseAlignment port 5

/-! ### What a Beat brings to the receive chain (R94, R95, R98, R99, R210) -/

/-- A FlexO frame ends at a lane position. -/
def FlexoPos.see (x : FlexoPos) (f : FlexoRx) : FlexoPos :=
  let x := if f.marker then { x with good := x.good + 1, bad := 0 } else { x with good := 0, bad := x.bad + 1 }
  if f.marker && f.crcOk then { x with pid := f.pid, gid := f.gid, map := f.map, avail := f.avail, start := f.start } else x

/-- A FlexO frame ends on a port; instance 1's frames close the port's FlexO frames, and every eighth its multiframes
(DESIGN CHOICE, log 76). -/
def Dev.seeFlexo (d : Dev) (p : Nat) (f : FlexoRx) : Dev :=
  let x := d.port p
  let x := { x with flexo := Tab.set x.flexo f.pos ((x.flexoAt f.pos).see f) }
  let d := d.setPort p x
  if x.pidAt f.pos != 1 then d
  else
    let d := d.observe (objPort p) layFlexo 6 (!x.mapOk (d.portN p))
    if f.mfas % 8 != 7 then d
    else
      let d := d.setPort p { d.port p with gidBad := if x.gidOk then 0 else x.gidBad + 1 }
      (d.tick (lineCell p + 134) (b2n (!x.gidOk))).observe (objPort p) layFlexo 5 (!x.gidOk)

/-- The clearing condition of an indication holds in a Beat (R99): 0 SG_LOS by the pin, 1 by a lane, 2 SG_FAS, 3 SG_AIS. -/
def Dev.sgQuiet (d : Dev) (p which : Nat) : Bool :=
  let x := d.port p
  let insts := (List.range (d.portN p)).map fun i => x.otucAt (i + 1)
  match which with
  | 0 => !x.fault
  | 1 => x.lanesUp == d.laneMask p
  | 2 => insts.all fun o => o.fasBad == 0
  | _ => insts.all fun o => o.ais == 0

/-- The setting condition of an indication holds (R99); 4 is SG_FEC. -/
def Dev.sgSet (d : Dev) (p which : Nat) : Bool :=
  let x := d.port p
  let insts := (List.range (d.portN p)).map fun i => x.otucAt (i + 1)
  match which with
  | 0 => x.fault
  | 1 => x.lanesUp != d.laneMask p
  | 2 => insts.any fun o => 3 ≤ o.fasBad
  | 3 => insts.any fun o => 3 ≤ o.ais
  | _ => false

/-- Beat conditions of a port's layers (R210): dLOS, dLOF and dLOM of FLEXO, dLOF and dLOM of OTU. -/
def Dev.observePort (d : Dev) (p : Nat) : Dev :=
  let x := d.port p
  let all := d.instMask p
  let o := objPort p
  ((((d.observe o layFlexo 2 (x.lanesUp != d.laneMask p)).observe o layFlexo 3 (x.instLock != all)).observe o layFlexo 4
    (!x.groupAligned && x.instLock == all)).observe o layOtu 2 (x.inFrame != all)).observe o layOtu 3 (x.inMf != all)

/-- What the receive chain sees: what stood at the balls, or under FRAMER_NEAR the port's own FlexO signal, its frames ending
when the line's do (R446; DESIGN CHOICE, log 81). -/
def LinePort.received (x : LinePort) (r : LineRx) : LineRx :=
  if x.loop != 1 then r
  else
    { port := r.port, good := 0xFF, fault := false
      flexo := r.flexo.filterMap fun f => match x.flexoTx[f.pos]? with
        | some o => some { f with marker := true, crcOk := true, gid := o.gid, pid := o.pid, map := o.map, avail := o.avail }
        | none => none }

/-- What stood at the balls of an enabled port in the Beat that ends. -/
def Dev.seeLine (d : Dev) (lines : List LineRx) (p : Nat) : Dev :=
  if !(d.port p).enabled then d
  else
    let x := d.port p
    let r := if !d.portOn p then { port := p, good := 0 }
      else x.received ((lines.find? fun l => l.port == p).getD { port := p, good := 0 })
    let runs := (List.range (d.lanesInUse p)).foldl (fun t k =>
      Tab.set t k (if bit r.good k then x.laneGood k + 1 else 0)) x.laneRun
    let d := d.setPort p { x with laneRun := runs, fault := r.fault }
    let d := (r.flexo.filter fun f => f.pos < 2 * d.lanesInUse p).foldl (fun d f => d.seeFlexo p f) d
    let d := d.observePort p
    let x := d.port p
    d.setPort p { x with clearRun := (List.range 4).foldl (fun t k =>
      Tab.set t k (if d.sgQuiet p k then Tab.get 0 x.clearRun k + 1 else 0)) x.clearRun }

/-- Lanes and FlexO overhead that a port drives (R92, R98, R115): a lane beyond those in use, of a disabled port, or under
LP_LANE_SET's SQUELCH is squelched. -/
def Dev.driveLanes (d : Dev) (p : Nat) : Dev :=
  let x := d.port p
  let n := if d.portOn p then d.portN p else 0
  d.setPort p { x with
    laneTx := (List.range 8).map fun k => if (d.lane (64 + 8 * p + k)).squelch then 0 else min 2 (n - 2 * k)
    flexoTx := (List.range n).map fun i => { gid := x.attr.flexoGid, pid := i + 1, map := 2 ^ n - 1, avail := 2 ^ n - 1 } }

/-! ### Switch-grade indications (R99, R100) -/

/-- The layers of a port see its indications (R209). -/
def Dev.noteSg (d : Dev) (p : Nat) : Dev :=
  let x := d.port p
  let o := objPort p
  (((d.noteInput o layFlexo 0 (x.sgPin || x.sgLane)).noteInput o layFlexo 1 x.sgFec).noteInput o layOtu 1
    x.sgFas).noteInput o layOduc 1 x.sgAis

/-- Set one indication: 0 SG_LOS by the pin, 1 SG_LOS by a lane, 2 SG_FAS, 3 SG_AIS, 4 SG_FEC. -/
def Dev.setSg (d : Dev) (p which : Nat) (v : Bool) : Dev :=
  let x := d.port p
  (match which with
   | 0 => d.setPort p { x with sgPin := v }
   | 1 => d.setPort p { x with sgLane := v }
   | 2 => d.setPort p { x with sgFas := v }
   | 3 => d.setPort p { x with sgAis := v }
   | _ => d.setPort p { x with sgFec := v }).noteSg p

/-- Uncorrectable codewords of the last 8 Beats. -/
def LinePort.fecCount (x : LinePort) : Nat := sum (x.fecWindow.take 8)

/-- SG_INDICATION_ASSERTED (R99). -/
def execSgIndicationAsserted (port which : Nat) (s : State) : Host.Outcome State Fault Refusal :=
  s.runIf (fun d => port < 8 && which < 5 && (d.port port).enabled &&
      (if which = 4 then (d.port port).attr.sgfecThr ≤ (d.port port).fecCount else d.sgSet port which)) fun d =>
    d.setSg port which true

/-- SG_INDICATION_CLEARED (R99): the clearing condition has held for 8 Beats. -/
def execSgIndicationCleared (port which : Nat) (s : State) : Host.Outcome State Fault Refusal :=
  s.runIf (fun d => port < 8 && which < 5 && (d.port port).enabled &&
      (if which = 4 then 8 ≤ (d.port port).fecBelow else 8 ≤ Tab.get 0 (d.port port).clearRun which)) fun d =>
    d.setSg port which false

/-- SG bits of LP_STATUS and FE_STATUS: SG_LOS, SG_FAS, SG_AIS, SG_FEC. -/
def LinePort.sgBits (x : LinePort) : Nat :=
  b2n (x.sgPin || x.sgLane) + 2 * b2n x.sgFas + 4 * b2n x.sgAis + 8 * b2n x.sgFec

/-! ### Received multiframes (R42, R83, R112) -/

/-- The one step of a port whose RX records signal these unavailable slots (R112). -/
def Image.stepOf (i : Image) (p : Nat) (unavailable : List Nat) : Option Nat :=
  match (List.range (i.steps p)).filter fun k =>
      (match i.lcalOf p 1 k with | some r => r.unavailable == unavailable | none => false) with
  | [k] => some k
  | _ => none

/-- Difference of two offsets within the MF, as a signed number of byte positions. -/
def offsetChange (new old : Int) : Int := (new - old + 1_957_888) % 3_915_776 - 1_957_888

/-! ### The Line Control Channel (R101 to R105) -/

/-- Bytes of LCC words in transmission order. -/
def lccBytes (words : List Nat) : List Byte := (words.map fun w => beBytes 2 w).flatten

/-- A received message is valid (R104). -/
def lccValid (words : List Nat) : Bool :=
  words.length == 256 && crcLcc (lccBytes (words.take 255)) == words.getD 255 0 && words.getD 3 0 / 256 == 0xB5 &&
    words.getD 3 0 / 16 % 16 == 1

/-- dLCCF is raised or cleared (R105). -/
def Dev.setDlccf (d : Dev) (p : Nat) (v : Bool) : Dev :=
  let x := d.port p
  if x.ladder.dLccf = v then d
  else
    ((d.setPort p { x with ladder := { x.ladder with dLccf := v } }).noteInput (objPort p) layOtu 9 v).raise 0x030B
      (objPort p) (leBytes 1 p ++ leBytes 1 (b2n v))

/-- The received TX_FP is compared with the FE_FP of the bank in use (R82). -/
def Dev.compareFp (d : Dev) (p fp : Nat) : Dev :=
  let x := d.port p
  let want := match d.rxImage p with | some i => i.feFp.getD p 0 | none => 0
  let bad := want != fp
  let d := d.setPort p { x with fpMismatch := bad, rxTxFp := fp }
  if bad && (!x.fpMismatch || x.rxTxFp != fp) then d.raise 0x0208 (objPort p) (leBytes 1 p ++ leBytes 4 fp) else d

/-- A received MF whose message is not valid (R105). -/
def Dev.lccBad (d : Dev) (p : Nat) : Dev :=
  let x := d.port p
  let d := (d.setPort p { x with ladder :=
    { x.ladder with lccBadRun := x.ladder.lccBadRun + 1, lccGoodRun := 0, lastValid := false } }).tick (lineCell p + 132) 1
  let d := d.settlePort p
  if x.lccRuns && 2 ≤ x.ladder.lccBadRun then d.setDlccf p true else d

/-- A received MF whose message is valid (R104, R105). -/
def Dev.lccGood (d : Dev) (p : Nat) (words : List Nat) : Dev :=
  let x := d.port p
  let runs := x.lccRuns
  let resumes := x.ladder.fallenBack && !x.ladder.resumeNext
  let d := d.setPort p { x with
    rxWords := words
    ladder := { x.ladder with lccBadRun := 0, lccGoodRun := x.ladder.lccGoodRun + 1, lastValid := true
                              resumeNext := x.ladder.resumeNext || x.ladder.fallenBack } }
  let d := if 1 ≤ x.ladder.lccGoodRun then d.setDlccf p false else d
  let d := if resumes then d.raise 0x0304 (objPort p) (leBytes 1 p) else d
  if runs then
    ((d.compareFp p (words.getD 1 0 * 65_536 + words.getD 2 0)).settlePort p).takeMarkers p words
  else d

/-- LCC_MESSAGE_RECEIVED (R104). -/
def execLccMessageReceived (port : Nat) (words : List Nat) (s : State) : Host.Outcome State Fault Refusal :=
  s.runIf (fun d => port < 8 && (d.port port).enabled && (d.port port).mfAligned && (d.port port).attr.lccMode != 0)
    fun d => if lccValid words then d.lccGood port words else d.lccBad port

/-- LCC_FALLBACK (R105): 64 received MF in a row were not valid in AUTO. -/
def execLccFallback (port : Nat) (s : State) : Host.Outcome State Fault Refusal :=
  s.runIf (fun d => port < 8 && (d.port port).enabled && (d.port port).mfAligned && (d.port port).attr.lccMode = 2 &&
      !(d.port port).ladder.fallenBack && 64 ≤ (d.port port).ladder.lccBadRun) fun d =>
    let d := d.setDlccf port false
    let x := d.port port
    let d := d.setPort port { x with ladder := { x.ladder with fallenBack := true, resumeNext := false } }
    (d.raise 0x0303 (objPort port) (leBytes 1 port)).settlePort port

/-- At an MF boundary a port that received a valid MF sends the LCC again (R105). -/
def LinePort.resumeLcc (x : LinePort) : LinePort :=
  if x.ladder.resumeNext then { x with ladder := { x.ladder with fallenBack := false, resumeNext := false } } else x

/-- LCC state code of LP_STATUS (R116). -/
def LinePort.lccState (x : LinePort) : Nat :=
  if x.attr.lccMode = 0 then 0 else if x.ladder.fallenBack then 3 else if x.ladder.dLccf then 2 else 1

/-- A REQ word (R103). -/
def Ladder.reqWord (l : Ladder) : Nat := l.reqStep * 8_192 + b2n l.reqOut * 4_096 + l.reqSeq

/-- The ANN word of an MF (R103). -/
def Ladder.annWord (l : Ladder) (mfn : Nat) : Nat :=
  match l.announce with
  | some a => a.step * 8_192 + 4_096 + (a.start + 8 - mfn) * 256 + a.seq
  | none => l.annSeq

/-- The markers of a port: its Spread groups' members on it, in ascending SG order, each with the index in the member's fragment
stream of the first byte that the Beat-0 frame carries while the channel runs (R102, R182). -/
def Dev.markersOn (d : Dev) (p : Nat) : List (List Nat) :=
  match d.bank (p / 2) with
  | none => []
  | some i => (sortBy (fun g : SgRec => g.sg) i.sgmap).filterMap fun g =>
      match g.members.findIdx? fun m => m.port == p with
      | none => none
      | some k =>
        let x := (d.cpath g.ch).marks.getD k 0
        let seq := x / 16_384 % 2 ^ 32
        some [g.sg * 2_048 + k * 256 + b2n (d.chan g.ch).run * 128, x % 16_384, seq / 65_536, seq % 65_536]

/-- The LCC words that a port sends in this MF (R80, R101). -/
def Dev.lccWord (d : Dev) (p k : Nat) : Nat :=
  let x := d.port p
  let l := x.ladder
  let ladr := match d.sched.active with | some i => (i.ladrOf p).isSome | none => false
  let fp := match d.sched.active with | some i => i.txFp.getD p 0 | none => 0
  let fe := match d.rxImage p with | some i => i.feFp.getD p 0 | none => 0
  let inv := fun (w : Nat) => 65_535 - w
  if !x.lccRuns then 0
  else match k with
    | 0 => (match d.bank (p / 2) with | some i => i.gen | none => 0) % 65_536
    | 1 => fp / 65_536
    | 2 => fp % 65_536
    | 3 => 0xB510 + 8 * b2n ladr + l.txStep
    | 4 | 144 => l.reqWord
    | 5 | 145 => inv l.reqWord
    | 6 => l.annWord d.mfn
    | 7 => inv (l.annWord d.mfn)
    | 8 => b2n x.mfAligned * 32_768 + b2n (x.sgPin || x.sgLane) * 16_384 + b2n x.sgFas * 8_192 + b2n x.sgAis * 4_096 +
        b2n x.sgFec * 2_048 + b2n l.dLccf * 1_024 + b2n x.calMismatch * 512 + b2n x.fpMismatch * 256 + l.rxStep * 32
    | 9 => x.rxMark
    | 10 => fe / 65_536
    | 11 => fe % 65_536
    | 12 => min max32 x.ucwLast / 65_536
    | 13 => min max32 x.ucwLast % 65_536
    | 255 => x.lccCrc
    | k => if 16 ≤ k && k < 144 then ((d.markersOn p).getD ((k - 16) / 4) []).getD ((k - 16) % 4) 0 else 0

/-! ### LP_ENABLE (R115) -/

/-- A port's units start afresh: the receive chain from unaligned states; attributes, steps, sequence numbers and what was last
received stay. -/
def Dev.freshPort (d : Dev) (p : Nat) (enabled : Bool) : Dev :=
  let x := d.port p
  let d := d.clearRuns (objPort p)
  d.setPort p { enabled := enabled, attr := x.attr, loop := x.loop, tti := x.tti, ttiLatest := x.ttiLatest, ttiFc := x.ttiFc, rxMark := x.rxMark
                arrival := { x.arrival with valid := false }
                ladder := { txStep := x.ladder.txStep, rxStep := x.ladder.rxStep, lastTxMfn := x.ladder.lastTxMfn
                            lastRxMfn := x.ladder.lastRxMfn, annSeq := x.ladder.annSeq, reqSeq := x.ladder.reqSeq
                            reqStep := x.ladder.reqStep, lastReqSeq := x.ladder.lastReqSeq, rxMfFc := d.fc } }

/-- A port is enabled: its receive chain starts from unaligned states. -/
def Dev.enablePort (d : Dev) (p : Nat) : Dev := if (d.port p).enabled then d else (d.freshPort p true).noteSg p

/-- A port is disabled: lanes squelched and ignored, no indications, the ladder's changes cancelled, the RX side back
on the active bank (R81, R110, R115). -/
def Dev.disablePort (d : Dev) (p : Nat) : Dev :=
  let x := d.port p
  if !x.enabled then d
  else
    let d := d.freshPort p false
    ((((d.noteSg p).noteInput (objPort p) layOtu 9 false).noteInput (objPort p) layOduc 11 false).noteInput (objPort p)
      layOtu 4 false).settlePort p

/-- Attributes that an LP_ENABLE writes. -/
def enableAttr (a : LpAttr) (c : Cmd) : LpAttr :=
  { a with lccMode := fallback 2 2 (c.field 1 1), sgfecThr := clamp 1 4_096 (c.field 2 2)
           flexoGid := clamp 0 0xF_FFFF (c.field 4 4), gidCheck := bit (c.field 8 1) 0 }

/-- Check of LP_ENABLE. -/
def checkLpEnable (d : Dev) (c : Cmd) : Check :=
  refuseIf (fallback 2 2 (c.field 0 1) == 1 && !(d.lit c.index && d.portDomainsOn c.index)) stConstraint

/-- The LCC starts afresh: its mode changed, or AUTO or ON is commanded where it had fallen back (R105). -/
def Dev.restartLcc (d : Dev) (p : Nat) : Dev :=
  let x := d.port p
  let resumed := x.ladder.fallenBack && x.attr.lccMode != 0
  let d := d.setPort p { x with ladder :=
    { x.ladder with fallenBack := false, resumeNext := false, lccBadRun := 0, lccGoodRun := 0 } }
  let d := if x.attr.lccMode = 0 then d.setDlccf p false else d
  let d := if resumed then d.raise 0x0304 (objPort p) (leBytes 1 p) else d
  d.settlePort p

/-- LP_ENABLE's parameters act on a port. -/
def Dev.setEnable (d : Dev) (p : Nat) (c : Cmd) : Dev :=
  let x := d.port p
  let d := d.setPort p { x with attr := enableAttr x.attr c }
  let d := match fallback 2 2 (c.field 0 1) with
    | 0 => d.disablePort p
    | 1 => d.enablePort p
    | _ => d
  if (d.port p).attr.lccMode != x.attr.lccMode || (d.port p).ladder.fallenBack then d.restartLcc p else d

/-- Effect of LP_ENABLE. -/
def applyLpEnable (d : Dev) (c : Cmd) : Applied :=
  recheck d (checkLpEnable d c) fun d => okWith (d.setEnable c.index c)

/-- Parameter block of LP_ENABLE. -/
def enableBlock (x : LinePort) : List Byte :=
  leBytes 1 (b2n x.enabled) ++ leBytes 1 x.attr.lccMode ++ leBytes 2 x.attr.sgfecThr ++ leBytes 4 x.attr.flexoGid ++
    leBytes 1 (b2n x.attr.gidCheck) ++ zeros 7

/-- LP_ENABLE (R115). -/
def execLpEnable (core : Nat) (s : State) : Host.Outcome State Fault Refusal :=
  s.run fun d => d.serveChange core 0x0301 checkLpEnable

/-! ### LP_STATUS (R116) -/

/-- M of the calendar in force. -/
def Dev.calM (d : Dev) (p dir : Nat) : Nat := match d.calendar p dir with | some r => r.m | none => 0

/-- ANN_STATE, ANN_STEP and ANN_LEFT (R116). -/
def Ladder.annState (l : Ladder) (mfn : Nat) : Nat × Nat × Nat :=
  match l.announce, l.pendingChange with
  | some a, _ => (if l.waitingChange.isSome then 2 else 1, a.step, a.start + 8 - mfn)
  | none, some c => (3, c.step, 0)
  | none, none => (0, 0, 0)

/-- LP_STATUS's response (R116). -/
def lpStatus (d : Dev) (c : Cmd) : Nat × List Byte :=
  let p := c.index
  let x := d.port p
  let l := x.ladder
  let (st, step, left) := l.annState d.mfn
  (stOk, leBytes 8 d.fc ++
    leBytes 1 (b2n x.enabled + 2 * b2n (d.lit p) + 4 * b2n x.mfAligned + 8 * b2n x.fpMismatch + 16 * b2n x.calMismatch) ++
    leBytes 1 (d.portN p) ++ leBytes 2 (d.calM p 0) ++ leBytes 2 (d.calM p 1) ++ leBytes 1 l.txStep ++ leBytes 1 l.rxStep ++
    leBytes 1 st ++ leBytes 1 step ++ leBytes 1 left ++ leBytes 1 x.lccState ++ leBytes 1 x.sgBits ++
    leBytes 1 x.lanesUp ++ leBytes 2 x.instLock ++ leBytes 2 (andBits 16 x.inFrame x.inMf) ++
    leBytes 2 (b2n l.reqOut * 32_768 + l.reqStep * 256 + l.reqSeq) ++
    leBytes 2 (min 1_500 (Config.txLat p).toNat) ++ leBytes 2 0 ++ leBytes 8 x.ttiFc)

/-- LP_STATUS (R116). -/
def execLpStatus (core : Nat) (s : State) : Host.Outcome State Fault Refusal :=
  s.run fun d => d.serveRead core [0x0302] lpStatus

/-! ### LP_LANE_SET (R117) -/

/-- Attributes that an LP_LANE_SET writes. -/
def laneAttrOf (c : Cmd) : LaneAttr :=
  { txPre := clamp 0 15 (c.field 0 1), txPost := clamp 0 31 (c.field 1 1), txMain := clamp 0 63 (c.field 2 1)
    polarity := c.field 3 1 % 4, rxEq := fallback 16 0 (c.field 4 1), squelch := bit (c.field 5 1) 0 }

/-- Effect of LP_LANE_SET: a change of RX_EQ or RX polarity restarts the lane's receiver. -/
def applyLpLaneSet (d : Dev) (c : Cmd) : Applied :=
  let l := c.index
  let old := d.lane l
  let new := laneAttrOf c
  let d := d.setLane l new
  let m := l - 64
  if (old.rxEq != new.rxEq || bit old.polarity 1 != bit new.polarity 1) && bit (d.port (m / 8)).lanesUp (m % 8)
  then okWith (d.dropLane (m / 8) (m % 8)) else okWith d

/-- Parameter block of LP_LANE_SET. -/
def laneBlock (a : LaneAttr) : List Byte :=
  leBytes 1 a.txPre ++ leBytes 1 a.txPost ++ leBytes 1 a.txMain ++ leBytes 1 a.polarity ++ leBytes 1 a.rxEq ++
    leBytes 1 (b2n a.squelch) ++ zeros 2

/-- LP_LANE_SET (R117). -/
def execLpLaneSet (core : Nat) (s : State) : Host.Outcome State Fault Refusal :=
  s.run fun d => d.serveChange core 0x0303 fun _ _ => none

/-! ### LP_OTU_OH_SET (R120) -/

/-- The accepted TTI differs from the expected value under a TIM mode: 1 SAPI, 2 DAPI, 3 both (R120, R136). -/
def timOf (mode : Nat) (tti expSapi expDapi : List Byte) : Bool :=
  let sapi := sliceAt tti 0 16 != padTo 16 expSapi
  let dapi := sliceAt tti 16 16 != padTo 16 expDapi
  match mode with | 1 => sapi | 2 => dapi | 3 => sapi || dapi | _ => false

/-- The TIM indication of a port's section. -/
def Dev.setSectionTim (d : Dev) (p : Nat) (v : Bool) : Dev :=
  (d.setPort p { d.port p with tim := v }).noteInput (objPort p) layOtu 4 v

/-- Effect of LP_OTU_OH_SET: a new expected value is compared from the next accepted TTI. -/
def applyLpOtuOhSet (d : Dev) (c : Cmd) : Applied :=
  let p := c.index
  let x := d.port p
  let d := d.setPort p { x with attr :=
    { x.attr with timMode := fallback 3 0 (c.field 0 1), force := c.field 1 1 % 4, txTti := sliceAt c.payload 4 64
                  expSapi := sliceAt c.payload 68 16, expDapi := sliceAt c.payload 84 16 } }
  okWith (if fallback 3 0 (c.field 0 1) = 0 then d.setSectionTim p false else d)

/-- Parameter block of LP_OTU_OH_SET. -/
def otuOhBlock (a : LpAttr) : List Byte :=
  leBytes 1 a.timMode ++ leBytes 1 a.force ++ zeros 2 ++ padTo 64 a.txTti ++ padTo 16 a.expSapi ++ padTo 16 a.expDapi ++ zeros 4

/-- LP_OTU_OH_SET (R120). -/
def execLpOtuOhSet (core : Nat) (s : State) : Host.Outcome State Fault Refusal :=
  s.run fun d => d.serveChange core 0x0306 fun _ _ => none

end Sys2Proof.Machine
end

