-- ==== Sys2Proof/Machine/Place.lean ====
section
/-! DEFINITION. Where words, blocks and bits stand on the data path: GMP placement (R152, R153), the slots of an OTUC frame,
66b and 257b blocks (R146, R148), block offsets (R149), and the bytes of ODU and OTUC frames. -/

namespace Sys2Proof.Machine

open Sys2Proof

/-! ### Bytes with their poison tag (R167) -/

/-- A byte with its poison tag. -/
def tagByte (b : Byte) (bad : Bool := false) : DByte := BitVec.ofNat 9 (b.toNat + 256 * b2n bad)

/-- The byte, and its poison tag. -/
def byteOf (b : DByte) : Byte := BitVec.ofNat 8 b.toNat
def badByte (b : DByte) : Bool := b.getLsbD 8

/-- Bytes of a list, without tags. -/
def bytesOf (l : List DByte) : List Byte := l.map byteOf

/-- Good bytes. -/
def tagBytes (l : List Byte) : List DByte := l.map fun b => tagByte b

/-- `n` bytes of a list, filled with 0x00 where it ends. -/
def takeFill (n : Nat) (l : List DByte) : List DByte := l.take n ++ List.replicate (n - l.length) (tagByte 0)

/-! ### The GMP distribution (R153) -/

/-- Last count of a placement table. -/
def PTable.hi (t : PTable) : Nat := t.cmBase + t.cmCount - 1

/-- The placement generator: word `j` carries data in a period of `p` words whose count is `cm`. -/
def gmpData (p cm j : Nat) : Bool := (j + 1) * cm % p < cm

/-- Word `j` carries data in a period whose count is `cm`: bit j of bitmap cm − CM_BASE (R66), and for a count outside the
table the placement generator (R166). -/
def PTable.data (t : PTable) (cm j : Nat) : Bool :=
  if t.cmBase ≤ cm && cm ≤ t.hi then
    bit (byteAt t.bitmaps ((cm - t.cmBase) * ((t.p + 63) / 64 * 8) + j / 8)).toNat (j % 8)
  else gmpData t.p cm j

/-! ### Slots of OTUC frames (R152, R174) -/

/-- First block of slot `t` (0 to 19) in the frame that carries OMFI `k`: block j of slot t is payload word 20j + t of the
20-frame period. -/
def firstBlock (k t : Nat) : Nat := (952 * k + 19 - t) / 20

/-- Blocks of slot `t` in the frame that carries OMFI `k`. -/
def slotBlocks (k t : Nat) : List Nat := (List.range (firstBlock (k + 1) t - firstBlock k t)).map (firstBlock k t + ·)

/-- TS-cell periods of a Beat (R174). -/
def tsPeriods : Nat := 48

/-- Words that have begun by the end of TS-cell period `i` of the Beat that carries OMFI `k`. -/
def wordsBy (k i : Nat) : Nat := (952 * (tsPeriods * k + i + 1) + 20 * tsPeriods - 1) / (20 * tsPeriods)

/-- How many of `n` things evenly spread over a Beat fall into TS-cell period `i`. -/
def inPeriod (n i : Nat) : Nat := n * (i + 1) / tsPeriods - n * i / tsPeriods

/-- Things delivered in Beat `b` at `num` / `den` a Beat. -/
def perBeatAt (num den b : Nat) : Nat := (b + 1) * num / den - b * num / den

/-! ### Frames -/

/-- Columns of an ODU or OTUC row, and bytes of a frame. -/
def rowBytes : Nat := 3_824
def frameBytes : Nat := 15_296

/-- Frame alignment signal (G.709; PRESUMED, log 80). -/
def fasBytes : List Byte := [0xF6, 0xF6, 0xF6, 0x28, 0x28, 0x28]

/-- Bytes from a place in a frame on that belong together: columns 1 to 14, 15 to 16, or 17 to 3,824 of a row. -/
def runLen (pos : Nat) : Nat :=
  let c := pos % rowBytes
  if c < 14 then 14 - c else if c < 16 then 16 - c else rowBytes - c

/-- A payload column (counted from 0) carries fixed stuff: 3,817 to 3,824 of an OPU4, 1,905 to 1,920 of an OPU2 or OPU2e that
carries a client (G.709; PRESUMED, log 80). -/
def stuffColumn (oduType c : Nat) : Bool :=
  if oduType = 5 then 3_816 ≤ c else if oduType = 2 || oduType = 3 then 1_904 ≤ c && c < 1_920 else false

/-- Payload bytes of a client before a column of a row, and in a row. -/
def clientColumns (oduType c : Nat) : Nat := ((List.range (c - 16)).filter fun k => !stuffColumn oduType (16 + k)).length
def clientRowBytes (oduType : Nat) : Nat :=
  if oduType = 5 then 3_800 else if oduType = 2 || oduType = 3 then 3_792 else 3_808

/-- Lay data bytes into the columns from `c` on that carry no fixed stuff; `n` columns. -/
def layColumns (oduType : Nat) : Nat → Nat → List DByte → List DByte
  | 0, _, _ => []
  | n + 1, c, l =>
    if stuffColumn oduType c then tagByte 0 :: layColumns oduType n (c + 1) l
    else match l with
      | b :: t => b :: layColumns oduType n (c + 1) t
      | [] => tagByte 0 :: layColumns oduType n (c + 1) []

/-- The data bytes among columns from `c` on. -/
def readColumns (oduType : Nat) : Nat → List DByte → List DByte
  | _, [] => []
  | c, b :: t => if stuffColumn oduType c then readColumns oduType (c + 1) t else b :: readColumns oduType (c + 1) t

/-- Lay bytes into the data words among `n` payload bytes from index `q` on, 0x00 into the words of stuff (R153). -/
def layWords (data : Nat → Bool) (size : Nat) : Nat → Nat → List DByte → List DByte
  | 0, _, _ => []
  | n + 1, q, l =>
    if data (q / size) then
      match l with
      | b :: t => b :: layWords data size n (q + 1) t
      | [] => tagByte 0 :: layWords data size n (q + 1) []
    else tagByte 0 :: layWords data size n (q + 1) l

/-- The bytes of data words among payload bytes from index `q` on. -/
def readWords (data : Nat → Bool) (size : Nat) : Nat → List DByte → List DByte
  | _, [] => []
  | q, b :: t => if data (q / size) then b :: readWords data size (q + 1) t else readWords data size (q + 1) t

/-- Bytes of data words among `n` payload bytes from index `q` on. -/
def dataIn (data : Nat → Bool) (size n q : Nat) : Nat := ((List.range n).filter fun k => data ((q + k) / size)).length

/-! ### Bits with their poison tag -/

/-- Bits of a byte, most significant first. -/
def bitsOfByte (b : DByte) : List (Bool × Bool) := (List.range 8).map fun i => (b.getLsbD (7 - i), badByte b)

/-- Bits of bytes. -/
def bitsOfBytes (l : List DByte) : List (Bool × Bool) := l.flatMap bitsOfByte

/-- `n` bytes from bits, most significant first; bits beyond the end are 0. -/
def packBytes : Nat → List (Bool × Bool) → List DByte
  | 0, _ => []
  | n + 1, l =>
    let h := l.take 8
    tagByte (BitVec.ofNat 8 (bitsOf ((List.range 8).map fun i => (h.getD (7 - i) (false, false)).1))) (h.any (·.2)) ::
      packBytes n (l.drop 8)

/-! ### 66b blocks (IEEE 802.3; PRESUMED, log 80) -/

/-- An idle block, an error block, local fault and remote fault. -/
def idleBlock : Block66 := { ctrl := true, data := 0x1E }
def errorBlock : Block66 := { ctrl := true, data := BitVec.ofNat 64 (0x1E + 256 * sum ((List.range 8).map fun i => 0x1E * 2 ^ (7 * i))) }
def localFault : Block66 := { ctrl := true, data := 0x0100_004B }
def remoteFault : Block66 := { ctrl := true, data := 0x0200_004B }

/-- Block type of a control block. -/
def Block66.type (b : Block66) : Nat := b.data.toNat % 256

/-- An idle block, and a terminate block. -/
def Block66.isIdle (b : Block66) : Bool := b.ctrl && b.data == 0x1E
def Block66.isTerm (b : Block66) : Bool := b.ctrl && [0x87, 0x99, 0xAA, 0xB4, 0xCC, 0xD2, 0xE1, 0xFF].contains b.type

/-- After this block an idle may be inserted or deleted (R163). -/
def Block66.gap (b : Block66) : Bool := b.isIdle || b.isTerm

/-- Bits [hi:lo] of a block's payload, least significant first. -/
def Block66.bitsFrom (b : Block66) (lo n : Nat) : List (Bool × Bool) :=
  (List.range n).map fun i => (b.data.getLsbD (lo + i), b.poison)

/-- The 66 bits of a block in transmission order. -/
def Block66.bits (b : Block66) : List (Bool × Bool) := (b.ctrl, b.poison) :: (!b.ctrl, b.poison) :: b.bitsFrom 0 64

/-- A block from 66 bits: poisoned, it is an error block as it leaves (R167). -/
def blockOf (l : List (Bool × Bool)) : Block66 :=
  { ctrl := (l.headD (true, false)).1, data := BitVec.ofNat 64 (bitsOf ((l.drop 2).map (·.1))), poison := l.any (·.2) }

/-- What leaves toward an Ethernet client in place of a poisoned block (R167). -/
def Block66.clean (b : Block66) : Block66 := if b.poison then errorBlock else b

/-- The digest bytes of a block (R271). -/
def Block66.digestBytes (b : Block66) : List Byte := BitVec.ofNat 8 (if b.ctrl then 1 else 2) :: leBytes 8 b.data.toNat

/-! ### 257b blocks (R148; the coding of IEEE 802.3, PRESUMED, log 80) -/

/-- Four 66b blocks as one 257b block, in transmission order: the header bit; with a control block among them, four bits that
tell which are data, and the second nibble of the first block type left out. -/
def transcode (l : List Block66) : List (Bool × Bool) :=
  match l.findIdx? (·.ctrl) with
  | none => (true, false) :: l.flatMap fun b => b.bitsFrom 0 64
  | some c =>
    (false, false) :: l.map (fun b => (!b.ctrl, b.poison)) ++
      (l.zipIdx.flatMap fun p => if p.2 = c then p.1.bitsFrom 0 4 ++ p.1.bitsFrom 8 56 else p.1.bitsFrom 0 64)

/-- Block type whose first nibble is `n`. -/
def typeOfNibble (n : Nat) : Option Nat :=
  [0x1E, 0x2D, 0x33, 0x4B, 0x55, 0x66, 0x78, 0x87, 0x99, 0xAA, 0xB4, 0xCC, 0xD2, 0xE1, 0xFF].find? fun t => t % 16 == n

/-- Number of up to 64 bits, least significant first, and whether one is poisoned. -/
def numOf (l : List (Bool × Bool)) : Nat := bitsOf (l.map (·.1))

/-- The four 66b blocks of a 257b block (R150). -/
def expand (l : List (Bool × Bool)) : List Block66 :=
  let bad := l.any (·.2)
  if (l.headD (true, false)).1 then
    (List.range 4).map fun i => { ctrl := false, data := BitVec.ofNat 64 (numOf ((l.drop (1 + 64 * i)).take 64)), poison := bad }
  else
    let flags := ((l.drop 1).take 4).map (·.1)
    match flags.findIdx? (!·) with
    | none => List.replicate 4 errorBlock
    | some c =>
      (List.range 4).map fun i =>
        let at_ := 5 + 64 * i - (if c < i then 4 else 0)
        if i = c then
          match typeOfNibble (numOf ((l.drop at_).take 4)) with
          | some t => { ctrl := true, data := BitVec.ofNat 64 (t + 256 * numOf ((l.drop (at_ + 4)).take 56)), poison := bad }
          | none => errorBlock
        else
          { ctrl := !flags.getD i true, data := BitVec.ofNat 64 (numOf ((l.drop at_).take 64)), poison := bad }

/-- OPU overhead bytes of a frame with block offset `b`, rows 1 to 3, columns 15 and 16 (R149). -/
def boffBytes (b : Nat) : List Byte := beBytes 2 b ++ beBytes 2 (65_535 - b) ++ [BitVec.ofNat 8 (crc8 (beBytes 2 b)), 0]

end Sys2Proof.Machine
end

