-- ==== Sys2Proof/Machine/Odu.lean ====
section
/-! DEFINITION. ODU overhead: what sinks, monitors and sources of the six TCM levels and PM do with each frame, delay
measurement, raw overhead, captures, TTI acceptance, and the ODU_* commands (R98, R122 to R140). -/

namespace Sys2Proof.Machine

open Sys2Proof

/-! ### Where fields stand in the 42 overhead bytes: rows 2 to 4, columns 1 to 14 (R124, R139) -/

/-- First byte of a level's three: 0 PM, 1 to 6 TCM. -/
def fieldOf : Nat → Nat
  | 0 => 23 | 1 => 20 | 2 => 17 | 3 => 14 | 4 => 10 | 5 => 7 | _ => 4

/-- Bit of a level in the PM&TCM byte (R132): DMt1 to DMt6 are bits 1 to 6, DMp bit 7, in G.709 numbering. -/
def dmBit (level : Nat) : Nat := if level = 0 then 1 else 8 - level

/-- Put bytes at an offset. -/
def putAt (l : List Byte) (o : Nat) (b : List Byte) : List Byte := l.take o ++ b ++ l.drop (o + b.length)

/-! ### Objects and modes (R122, R128) -/

/-- KIND of a channel object; a line port counts as 3. -/
def Dev.oduKind (d : Dev) (obj : Nat) : Nat :=
  if objType obj = 2 then 3 else match d.desc (objIndex obj) with | some x => x.kind | none => 0

/-- Key of a level of a flow (0 TX, 1 RX) of an instance; channels have instance 1 only. -/
def levelKey (flow level : Nat) (inst : Nat := 1) : Nat := (inst - 1) * 16 + flow * 8 + level

def OduState.attr (o : OduState) (flow level : Nat) : LevelAttr := Tab.get {} o.attrs (levelKey flow level)
def OduState.level (o : OduState) (flow level : Nat) (inst : Nat := 1) : LevelState :=
  Tab.get {} o.levels (levelKey flow level inst)
def OduState.dm (o : OduState) (level : Nat) : Delay := Tab.get {} o.delay level

/-- Mode in force of a level in a flow: 0 passed, 1 monitor, 2 source, 3 sink; PM is fixed by the object (R122). -/
def oduMode (kind : Nat) (o : OduState) (flow level : Nat) : Nat :=
  if level = 0 then
    (match kind, flow with | 0, 0 => 2 | 3, 0 => 2 | 0, _ => 3 | 3, _ => 3 | 1, _ => 1 | _, 0 => 0 | _, _ => 1)
  else Tab.get 0 o.inForce (levelKey flow level)

/-- The flow is originated by the object (R124). -/
def originated (kind flow : Nat) : Bool := flow = 0 && (kind = 0 || kind = 3)

/-- LAYER code of a level of a flow (R207). -/
def layerOfLevel (obj flow level : Nat) : Nat :=
  if level = 0 then (if objType obj = 2 then layOduc else if flow = 1 then layPm else layPmTx)
  else if flow = 1 then layTcm level else layTcmTx level

/-- Set one level's state. -/
def Dev.setLevel (d : Dev) (obj flow level : Nat) (x : LevelState) (inst : Nat := 1) : Dev :=
  let o := d.oduOf obj
  d.setOdu obj { o with levels := Tab.set o.levels (levelKey flow level inst) x }

/-! ### Bytes and multiframes -/

/-- Bit-interleaved parity over bytes (R126). -/
def bip8 (l : List Byte) : Nat := (l.foldl (fun a b => a ^^^ b) 0#8).toNat

/-- Bits in which two bytes differ: BIP-8 violations, 0 to 8. -/
def violations (a b : Nat) : Nat := sum ((List.range 8).map fun k => b2n (bit a k != bit b k))

/-- A byte joins the multiframe of `n` bytes in progress: what is in progress, and the whole one it completes. -/
def joinPart (part : List Byte) (n i : Nat) (b : Byte) : List Byte × Option (List Byte) :=
  let p := if i = 0 then [b] else if part.length = i then part ++ [b] else []
  if p.length = n then ([], some p) else (p, none)

/-! ### A mode change takes effect (R128, R137, R140) -/

/-- A level enters a mode: it starts with no accepted TTI and no indications, and as a source with the TTI set now. -/
def LevelState.enter (_ : LevelState) (tti : List Byte) : LevelState := { sendTti := padTo 64 tti }

/-- A level that is no monitor or sink, or becomes one, has no defects: its inputs, their integrators, and a pending dDEG
are at reset (R137, R210). -/
def Dev.clearLevel (d : Dev) (obj flow level : Nat) : Dev :=
  let l := layerOfLevel obj flow level
  let d := d.setLayer obj l { d.layer obj l with inputs := 0, runs := [] }
  [1, 2, 3, 4, 5, 6, 7, 8, 9].foldl (fun d i => d.noteInput obj l i false) d

/-- The modes set for a flow take effect as a frame begins: event 0x0402 for each that changes. -/
def Dev.applyModes (d : Dev) (obj flow : Nat) : Dev :=
  [1, 2, 3, 4, 5, 6].foldl (fun d k =>
    let o := d.oduOf obj
    let a := o.attr flow k
    if Tab.get 0 o.inForce (levelKey flow k) = a.mode then d
    else
      let d := d.setOdu obj { o with
        inForce := Tab.set o.inForce (levelKey flow k) a.mode
        levels := Tab.set o.levels (levelKey flow k) ((o.level flow k).enter a.txTti) }
      (d.clearLevel obj flow k).raise 0x0402 obj (leBytes 4 obj ++ leBytes 1 flow ++ leBytes 1 k ++ leBytes 1 a.mode)) d

/-! ### A frame begins: what it carries (R124 to R133, steps 2 and 3 of R123) -/

/-- Put bytes in a patch. -/
def Patch.put (p : Patch) (o : Nat) (b : List Byte) : Patch := { p with oh := p.oh.take o ++ b.map some ++ p.oh.drop (o + b.length) }

/-- The sink that feeds the back indications of a level: object and flow (R126, R129). -/
def Dev.backSink (d : Dev) (kind obj flow level : Nat) : Option (Nat × Nat) :=
  if kind = 2 then
    (if flow = 0 then
      ((d.odu.find? fun e => objType e.1 == 1 && e.2.backCh == objIndex obj && d.oduKind e.1 == 2 &&
        oduMode 2 e.2 1 level == 3).map fun e => (e.1, 1))
     else none)
  else if oduMode kind (d.oduOf obj) (1 - flow) level = 3 then some (obj, 1 - flow) else none

/-- Violations old enough for a back-flow frame that begins in Beat `fc`: checked at least 2 Beats before it (R126). -/
def LevelState.mature (x : LevelState) (fc : Nat) : Nat :=
  x.pendingBei - sum ((x.fresh.filter fun e => fc < e.1 + 2).map (·.2))

/-- Byte 3 that a source sends, and the sink's state after it (R125, R126, R128). -/
def Dev.backByte (d : Dev) (kind obj flow level stat : Nat) (inst : Nat := 1) : Nat × Option (Nat × Nat × LevelState) :=
  match d.backSink kind obj flow level with
  | none => (stat, none)
  | some (so, sf) =>
    let x := (d.oduOf so).level sf level inst
    let bdi := b2n (d.bdiAsked so (layerOfLevel so sf level)) * 8
    if level != 0 && ((d.oduOf so).level sf level).stat010 then (11 * 16 + bdi + stat, none)
    else
      let n := min 8 (x.mature d.fc)
      (n * 16 + bdi + stat,
       some (so, sf, { x with pendingBei := x.pendingBei - n, sentBei := n
                              fresh := x.fresh.filter fun e => d.fc < e.1 + 2 }))

/-- A level in SOURCE mode writes its field: TTI, latched where its 64-frame multiframe begins; the BIP-8 of the frame before
the last; byte 3. -/
def Dev.writeSource (d : Dev) (kind obj flow inst mfas bip level : Nat) (p : Patch) : Dev × Patch :=
  let x := (d.oduOf obj).level flow level
  let x := if mfas % 64 = 0 then { x with sendTti := ((d.oduOf obj).attr flow level).txTti } else x
  let stat := if level != 0 && x.iaeFrames != 0 then 2 else 1
  let d := if inst = 1 then d.setLevel obj flow level { x with iaeFrames := x.iaeFrames - 1 } else d
  let (b3, upd) := d.backByte kind obj flow level stat inst
  let d := match upd with | some (so, sf, y) => d.setLevel so sf level y inst | none => d
  (d, p.put (fieldOf level) [byteAt x.sendTti (mfas % 64), BitVec.ofNat 8 bip, BitVec.ofNat 8 b3])

/-- One level of a frame that begins. -/
def Dev.writeLevel (d : Dev) (kind obj flow inst mfas bip level : Nat) (p : Patch) : Dev × Patch :=
  let o := d.oduOf obj
  match oduMode kind o flow level with
  | 2 => d.writeSource kind obj flow inst mfas bip level p
  | 3 => (d, if (o.attr flow level).clearAtSink && level != 0 then p.put (fieldOf level) (zeros 3) else p)
  | _ => (d, if originated kind flow && level != 0 then p.put (fieldOf level) (zeros 3) else p)

/-- DM bits that a TX frame sets (R132). -/
def OduState.dmPatch (o : OduState) (p : Patch) : Patch :=
  (List.range 7).foldl (fun p k =>
    let x := o.dm k
    let set := fun (v : Bool) => { p with dmMask := setBit p.dmMask (dmBit k) true, dmVal := setBit p.dmVal (dmBit k) v }
    match x.mode with | 1 => set x.rxBit | 2 => set x.txBit | _ => p) p

/-- APS/PCC level of a protection group (R229). -/
def apsLevel (arch tcm : Nat) : Nat := if arch % 8 = 0 then 7 else if arch % 8 = 1 then 0 else tcm

/-- The protection group of a channel in the active image. -/
def Dev.groupOf (d : Dev) (ch : Nat) : Option PgRec := d.sched.active.bind fun i => i.pgs.find? fun g => g.ch == ch

/-- APS/PCC bytes of a TX frame: the group's at its level, a raw value elsewhere (R124, R230, R250). -/
def Dev.apsBytes (d : Dev) (obj mfas : Nat) (orig : Bool) : Option (List Byte) :=
  let l := mfas % 8
  let raw := Tab.get [] (d.oduOf obj).rawAps l
  let other := if !raw.isEmpty then some (padTo 4 raw) else if orig then some (zeros 4) else none
  if objType obj = 1 then
    match d.groupOf (objIndex obj) with
    | some g =>
      if apsLevel g.arch (d.pg g.pg).tcmLevel = l then
        some (if d.domOn domPrt then padTo 4 (d.pg g.pg).txAps else zeros 4)
      else other
    | none => other
  else other

/-- Raw RES, EXP, APS and FTFL values, and the LCC (step 3 of R123, R101, R133). -/
def Dev.rawBytes (d : Dev) (kind obj inst mfas : Nat) (p : Patch) : Patch :=
  let o := d.oduOf obj
  let orig := originated kind 0
  let res := match o.rawRes with | some r => some (padTo 9 r) | none => if orig then some (zeros 9) else none
  let p := match res with
    | some r => ((p.put 0 (r.take 2)).put 3 ((r.drop 2).take 1)).put 36 (r.drop 3)
    | none => p
  let exp := if kind = 3 then
      (if inst = 1 then some (beBytes 2 (d.lccWord (objIndex obj) mfas)) else some (zeros 2))
    else match o.rawExp with | some e => some (padTo 2 e) | none => if orig then some (zeros 2) else none
  let p := match exp with | some e => p.put 26 e | none => p
  let half := Tab.get [] o.ftflNow (mfas / 128)
  let p := if !half.isEmpty then p.put 13 [byteAt half (mfas % 128)] else if orig then p.put 13 [0] else p
  match d.apsBytes obj mfas orig with | some l => p.put 32 l | none => p

/-- First source of an object's GCC1 and GCC2 (R288). -/
def gccSource (obj k : Nat) : Nat := 8 + 2 * objIndex obj + k

/-- GCC1 and GCC2 of a TX frame: the bound source's next bytes; unbound, the idle item in an originated flow and what comes
in a passed one; 0x00 in an ODUCn (R124, R288). -/
def Dev.gccFields (d : Dev) (kind obj : Nat) (p : Patch) : Dev × Patch :=
  if kind = 3 then (d, p.put 28 (zeros 4))
  else
    [0, 1].foldl (fun (a : Dev × Patch) k =>
      let s := gccSource obj k
      if (a.1.source s).bind.isSome || kind = 0 then
        let (d, l) := a.1.gccTake s 2
        (d, a.2.put (28 + 2 * k) l)
      else a) (d, p)

/-- A frame of a flow begins: what it carries in place of what comes with it. `bip` is the BIP-8 of the frame before the
last, as sent. -/
def Dev.beginFrame (d : Dev) (kind obj flow inst mfas bip : Nat) : Dev × Patch :=
  let d := if inst = 1 then d.applyModes obj flow else d
  let o := d.oduOf obj
  let p : Patch := { oh := List.replicate 42 (if originated kind flow then some 0 else none) }
  if flow != 0 then
    (List.range 7).foldl (fun (a : Dev × Patch) k => a.1.writeLevel kind obj flow inst mfas bip k a.2) (d, p)
  else
    let d := if inst = 1 then
        d.setOdu obj { o with
          ftflNow := if mfas = 0 then o.rawFtfl else o.ftflNow
          delay := o.delay.map fun e =>
            (e.1, if e.2.measuring && !e.2.matched then { e.2 with count := min 65_535 (e.2.count + 1) } else e.2) }
      else d
    let p := if kind = 2 then p else (d.oduOf obj).dmPatch p
    let (d, p) := (List.range 7).foldl (fun (a : Dev × Patch) k =>
      a.1.writeLevel kind obj flow inst mfas bip k a.2) (d, p)
    (d.rawBytes kind obj inst mfas p |> d.gccFields kind obj)

/-- The overhead that leaves, of what came. -/
def Patch.apply (p : Patch) (oh : List Byte) : List Byte :=
  (List.range 42).map fun k =>
    let b := byteAt oh k
    let b := (p.oh.getD k none).getD b
    if k = 2 then BitVec.ofNat 8 ((List.range 8).foldl (fun v j => if bit p.dmMask j then setBit v j (bit p.dmVal j) else v)
      b.toNat) else b

/-! ### Maintenance signals (step 4 of R123) -/

/-- The ODU maintenance signal in force in a channel's flow: 1 AIS, 2 LCK, 3 OCI, 0 none (R123, R170, R216). -/
def Channel.signal (c : Channel) (flow : Nat) : Nat :=
  let m := if flow = 0 then c.maintTx else c.maintRx
  if m.signal != 0 then m.signal else if flow = 0 then c.catTx else c.catRx

/-- Byte that a maintenance signal puts in overhead and payload (G.709; PRESUMED, log 31). -/
def maintByte : Nat → Byte
  | 1 => 0xFF | 2 => 0x55 | _ => 0x66

/-- Overhead of a maintenance signal, as G.709 defines it: AIS leaves the FTFL byte (PRESUMED, log 31). -/
def maintPattern (signal : Nat) (oh : List Byte) : List Byte :=
  if signal = 0 then oh
  else if signal = 1 then putAt (List.replicate 42 (maintByte 1)) 13 [byteAt oh 13]
  else List.replicate 42 (maintByte signal)

/-! ### A frame ends: what was read (R125, R126, R131, R132, R135, step 1 of R123) -/

/-- BEI that byte 3 reports: 1001, 1010 and 1100 to 1111 count as 0, and so does BIAE (R125). -/
def beiOf (b3 : Nat) : Nat := if b3 / 16 ≤ 8 then b3 / 16 else 0

/-- Defect conditions of a level that byte 3 carries, by their inputs (R209, R210). -/
def Dev.observeLevel (d : Dev) (obj flow level b3 : Nat) : Dev :=
  let l := layerOfLevel obj flow level
  let stat := b3 % 8
  let base := if l = layOduc then 2 else 1
  let d := ((d.observe obj l base (stat == 7)).observe obj l (base + 1) (stat == 5)).observe obj l (base + 2) (stat == 6)
  if level = 0 then d.observe obj l (if l = layOduc then 6 else 5) (bit b3 3)
  else (((d.observe obj l 4 (stat == 0)).observe obj l 6 (bit b3 3)).observe obj l 8 (stat == 2)).observe obj l 9
    (b3 / 16 == 11)

/-- A sink or monitor of one level reads a frame of an instance: byte 3, and the BIP-8 that the frame reports of the one
before the last. A TCM sink under STAT 010 counts no violations. -/
def Dev.readLevel (d : Dev) (kind : Nat) (f : OhFrame) (bip level : Nat) : Dev :=
  let o := d.oduOf f.obj
  let m := oduMode kind o f.flow level
  if m != 1 && m != 3 then d
  else
    let b3 := (byteAt f.oh (fieldOf level + 2)).toNat
    let x := o.level f.flow level f.inst
    let iae := level != 0 && b3 % 8 = 2
    let n := if iae then 0 else violations bip (byteAt f.oh (fieldOf level + 1)).toNat
    let x := if m = 3 && n != 0 then { x with pendingBei := x.pendingBei + n, fresh := x.fresh ++ [(d.fc, n)] } else x
    let x := if f.inst = 1 then
        { x with bdi := bit b3 3, biae := level != 0 && b3 / 16 == 11, stat010 := iae, ltc := level != 0 && b3 % 8 == 0 }
      else x
    let d := d.setLevel f.obj f.flow level x f.inst
    let l := layerOfLevel f.obj f.flow level
    let r : PmFrame := { obj := f.obj, layer := l, mfas := f.mfas, inst := f.inst, near := n, far := beiOf b3 }
    let d := { d with path := { d.path with pmNow := d.path.pmNow ++ [r] } }
    if f.inst = 1 then d.observeLevel f.obj f.flow level b3 else d

/-- DM bits of a received frame (R132). -/
def OduState.readDm (o : OduState) (b : Nat) : OduState :=
  { o with delay := (List.range 7).foldl (fun t k =>
      Tab.modify {} t k fun x =>
        let v := bit b (dmBit k)
        { x with rxBit := v, matched := x.matched || (x.measuring && x.count < 65_535 && v == x.txBit) }) o.delay }

/-- DM bits of a sent frame. -/
def OduState.sentDm (o : OduState) (b : Nat) : OduState :=
  { o with delay := (List.range 7).foldl (fun t k => Tab.modify {} t k fun x => { x with sentBit := bit b (dmBit k) }) o.delay }

/-- A complete frame joins a capture (R135). -/
def Capture.take (c : Capture) (fc mfas : Nat) (oh opu : List Byte) : Capture :=
  let (fp, fd) := joinPart c.ftflPart 256 mfas (byteAt oh 13)
  let (pp, pd) := joinPart c.psiPart 256 mfas (byteAt opu 6)
  let tt := (List.range 7).map fun k => (k, joinPart (Tab.get [] c.ttiPart k) 64 (mfas % 64) (byteAt oh (fieldOf k)))
  let c := { c with oh := padTo 42 oh, opu := padTo 8 opu, frameFc := fc, mfas := mfas, frameValid := true
                    ftflPart := fp, psiPart := pp, ttiPart := tt.foldl (fun t e => Tab.set t e.1 e.2.1) c.ttiPart }
  let done := tt.filterMap fun e => e.2.2.map fun l => (e.1, l)
  let c := if done.isEmpty then c
    else { c with tti := done.foldl (fun t e => Tab.set t e.1 e.2) c.tti, ttiFc := fc, ttiMfas := mfas }
  let c := match fd with | some l => { c with ftfl := l, ftflFc := fc, ftflMfas := mfas, ftflValid := true } | none => c
  match pd with | some l => { c with psi := l, psiFc := fc, psiMfas := mfas, psiValid := true } | none => c

/-- Capture of a flow and instance. -/
def OduState.capture (o : OduState) (flow inst : Nat) : Capture := Tab.get {} o.captures (flow * 32 + inst)

def Dev.capture (d : Dev) (obj flow inst mfas : Nat) (oh opu : List Byte) : Dev :=
  let o := d.oduOf obj
  d.setOdu obj { o with captures := Tab.set o.captures (flow * 32 + inst) ((o.capture flow inst).take d.fc mfas oh opu) }

/-- A received 64-byte multiframe of each level that is read joins its run of identical ones (R98, R127). -/
def Dev.noteTtis (d : Dev) (kind obj flow : Nat) (before : Nat) : Dev :=
  let o := d.oduOf obj
  let c := o.capture flow 1
  if c.ttiFc = before then d
  else
    let join := fun (t : Tab LevelState) (k : Nat) =>
      let m := oduMode kind o flow k
      let l := Tab.get [] c.tti k
      if m = 1 || m = 3 then
        Tab.modify {} t (levelKey flow k) fun x => { x with latest := l, ttiRun := if x.latest = l then x.ttiRun + 1 else 1 }
      else t
    d.setOdu obj { o with levels := (List.range 7).foldl join o.levels }

/-- Payload type that a mapping sends (R131); 0x100 where the object's flow is not originated here. -/
def Dev.payloadType (d : Dev) (obj : Nat) : Nat :=
  if objType obj = 2 then 0x22
  else match d.desc (objIndex obj) with
    | some x => if x.kind != 0 then 0x100 else if x.mapping = 3 then (if x.clientType = 0x07 then 0x8A else 0x8B)
        else (Config.payloadType x.clientType).toNat
    | none => 0x100

/-- MSI byte pair of a slot entry: availability, occupation and TPN (G.709; PRESUMED, log 79). -/
def msiPair (e : Nat) : Nat :=
  (if e / 2 ^ 30 = 1 then 0 else 2 ^ 15) + (if e / 2 ^ 30 = 3 then 2 ^ 7 + e / 256 % 4_096 / 128 * 256 + e / 256 % 128 else 0)

/-- MSI of an OPUC instance of a calendar: 20 slots, two bytes each (R131). -/
def LcalRec.msi (r : LcalRec) (inst : Nat) : List Byte :=
  ((List.range 20).map fun b => beBytes 2 (msiPair (r.entries.getD ((inst - 1) * 20 + b) 0))).flatten

/-- TPNs that an MSI names, slot by slot; 0 where none. -/
def msiTpns (l : List Byte) : List Nat :=
  (List.range 20).map fun b => let v := beNat (sliceAt l (2 * b) 2); if bit v 7 then v / 256 % 128 * 128 + v % 128 else 0

/-- Where the PSI of an instance carries its MSI (G.709; PRESUMED, log 79). -/
def msiAt : Nat := 2

/-- The received MSI disagrees with the RX calendar in force on a slot's TPN (R131). -/
def Dev.msiBad (d : Dev) (p inst : Nat) (msi : List Byte) : Bool :=
  match d.calendar p 1 with
  | some r => msiTpns msi != msiTpns (r.msi inst)
  | none => false

/-- PSI multiframe of a terminated flow: PT and MSI accepted once equal in 3 multiframes, and CSF (R131, R210). -/
def Dev.readPsi (d : Dev) (kind obj inst : Nat) (psi : List Byte) : Dev :=
  let o := d.oduOf obj
  let c := o.capture 1 inst
  let pt := (byteAt psi 0).toNat
  let msi := sliceAt psi msiAt 40
  let ptRun := if c.pt = pt then c.ptRun + 1 else 1
  let msiRun := if c.msi = msi then c.msiRun + 1 else 1
  let c := { c with pt, ptRun, msi, msiRun }
  let d := d.setOdu obj { o with captures := Tab.set o.captures (32 + inst) c }
  if inst != 1 && kind != 3 then d
  else
    let l := if kind = 3 then layOduc else layPm
    let d := if 3 ≤ c.ptRun && inst = 1 then d.observe obj l (if kind = 3 then 8 else 7) (pt != d.payloadType obj) else d
    if kind = 3 then (if 3 ≤ c.msiRun then d.observe obj l 9 (d.msiBad (objIndex obj) inst msi) else d)
    else d.observe obj l 8 (bit (byteAt psi 2).toNat 7)

/-- OMFI of a received OPUC frame (R131). -/
def Dev.readOmfi (d : Dev) (obj inst v : Nat) : Dev :=
  let o := d.oduOf obj
  let c := o.capture 1 inst
  let d := d.setOdu obj { o with captures := Tab.set o.captures (32 + inst) { c with omfi := v } }
  if inst = 1 then d.observe obj layOduc 10 (v != (c.omfi + 1) % 20) else d

/-- A frame of a flow has ended: read as it came in `f`, captured as it came in a received flow and as sent in a TX flow.
`bip` is the BIP-8 of the frame before the last, as it came. -/
def Dev.endFrame (d : Dev) (kind : Nat) (f : OhFrame) (bip : Nat) (sentOh sentOpu : List Byte) : Dev :=
  let d := (List.range 7).foldl (fun d k => d.readLevel kind f bip k) d
  let o := d.oduOf f.obj
  let d := if f.inst != 1 then d
    else if f.flow = 1 then (if kind = 2 then d else d.setOdu f.obj (o.readDm (byteAt f.oh 2).toNat))
    else d.setOdu f.obj (o.sentDm (byteAt sentOh 2).toNat)
  let before := ((d.oduOf f.obj).capture f.flow f.inst).ttiFc
  let psiBefore := ((d.oduOf f.obj).capture f.flow f.inst).psiFc
  let d := d.capture f.obj f.flow f.inst f.mfas (if f.flow = 0 then sentOh else f.oh) (if f.flow = 0 then sentOpu else f.opu)
  let d := if f.inst = 1 && f.flow = 1 then d.noteTtis kind f.obj 1 before
    else if f.inst = 1 && kind = 1 then d.noteTtis kind f.obj 0 before else d
  let c := (d.oduOf f.obj).capture f.flow f.inst
  let d := if f.flow = 1 && (kind = 0 || kind = 3) && c.psiFc != psiBefore then d.readPsi kind f.obj f.inst c.psi else d
  let d := if f.flow = 1 && kind = 3 then d.readOmfi f.obj f.inst (byteAt f.opu 7).toNat else d
  if f.flow = 1 && kind != 3 then
    (d.gccArrive (gccSource f.obj 0) (sliceAt f.oh 28 2)).gccArrive (gccSource f.obj 1) (sliceAt f.oh 30 2)
  else d

/-! ### TTI acceptance (R98, R127, R140) -/

/-- The input bit of dTIM in a layer (R209). -/
def timBit (l : Nat) : Nat := if l = layOtu || l = layPm || l = layPmTx then 4 else 5

/-- The TIM indication of a level. -/
def Dev.setTim (d : Dev) (obj flow level : Nat) (v : Bool) : Dev :=
  let l := layerOfLevel obj flow level
  (d.setLevel obj flow level { (d.oduOf obj).level flow level with tim := v }).noteInput obj l (timBit l) v

/-- A level accepts a TTI. -/
def Dev.acceptTti (d : Dev) (obj flow level : Nat) (tti : List Byte) : Dev :=
  let o := d.oduOf obj
  let x := o.level flow level
  let a := o.attr flow level
  let new := !x.hasTti || x.accepted != tti
  let d := d.setLevel obj flow level { x with accepted := tti, hasTti := true, acceptFc := if new then d.fc else x.acceptFc }
  let d := d.setTim obj flow level (timOf a.timMode tti a.expSapi a.expDapi)
  if new then d.raise 0x0401 obj (leBytes 4 obj ++ leBytes 1 flow ++ leBytes 1 level) else d

/-- A level of a flow is a sink or a monitor. -/
def Dev.readsLevel (d : Dev) (obj flow level : Nat) : Bool :=
  let m := oduMode (d.oduKind obj) (d.oduOf obj) flow level
  d.objExists obj && (objType obj = 1 || objType obj = 2) && level < 7 && flow < 2 && (m = 1 || m = 3)

/-- TTI_ACCEPTED (R98, R127): three identical 64-byte multiframes have been received, and this is their value. -/
def execTtiAccepted (site : TtiSite) (tti : List Byte) (s : State) : Host.Outcome State Fault Refusal :=
  match site with
  | .sm p =>
    s.runIf (fun d => p < 8 && (d.port p).enabled && (d.port p).mfAligned && 3 ≤ (d.port p).ttiRun &&
        (d.port p).ttiLatest == padTo 64 tti) fun d =>
      let x := d.port p
      let t := padTo 64 tti
      let d := d.setPort p { x with tti := t, ttiFc := if x.tti = t then x.ttiFc else d.fc }
      d.setSectionTim p (timOf x.attr.timMode t x.attr.expSapi x.attr.expDapi)
  | .level obj flow lvl =>
    s.runIf (fun d => d.readsLevel obj flow lvl && 3 ≤ ((d.oduOf obj).level flow lvl).ttiRun &&
        ((d.oduOf obj).level flow lvl).latest == padTo 64 tti) fun d => d.acceptTti obj flow lvl (padTo 64 tti)

/-! ### Delay measurement (R132) -/

/-- DM_MEASURE_DONE (R132): the RX flow carries the inverted bit, or 65,535 frames have been counted. -/
def execDmMeasureDone (obj level : Nat) (s : State) : Host.Outcome State Fault Refusal :=
  s.runIf (fun d => level < 7 && ((d.oduOf obj).dm level).measuring &&
      (((d.oduOf obj).dm level).matched || 65_535 ≤ ((d.oduOf obj).dm level).count)) fun d =>
    let o := d.oduOf obj
    let x := o.dm level
    let r := if x.matched then x.count else max32
    ((d.setOdu obj { o with delay := Tab.set o.delay level { x with mode := 1, measuring := false, result := r } }).raise
      0x0404 obj (leBytes 4 obj ++ leBytes 1 level ++ leBytes 4 r)).raise 0x0402 obj
        (leBytes 4 obj ++ leBytes 1 0 ++ leBytes 1 level ++ leBytes 1 (oduMode (d.oduKind obj) o 0 level))

/-! ### ODU_TTI_SET (R136) -/

/-- Effect of ODU_TTI_SET. -/
def applyOduTtiSet (d : Dev) (c : Cmd) : Applied :=
  let level := clamp 0 6 (c.field 0 1)
  let flow := fallback 1 0 (c.field 1 1)
  let o := d.oduOf c.object
  let tim := fallback 3 0 (c.field 2 1)
  let a := { o.attr flow level with timMode := tim, txTti := sliceAt c.payload 4 64
                                    expSapi := sliceAt c.payload 68 16, expDapi := sliceAt c.payload 84 16 }
  let d := d.setOdu c.object { o with attrs := Tab.set o.attrs (levelKey flow level) a }
  okWith (if tim = 0 then d.setTim c.object flow level false else d)

/-- Parameter block of ODU_TTI_SET for a level of a flow. -/
def ttiBlock (o : OduState) (flow level : Nat) : List Byte :=
  let a := o.attr flow level
  leBytes 1 level ++ leBytes 1 flow ++ leBytes 1 a.timMode ++ zeros 1 ++ padTo 64 a.txTti ++ padTo 16 a.expSapi ++
    padTo 16 a.expDapi ++ zeros 4

/-- ODU_TTI_SET (R136). -/
def execOduTtiSet (core : Nat) (s : State) : Host.Outcome State Fault Refusal :=
  s.run fun d => d.serveChange core 0x0401 fun _ _ => none

/-! ### ODU_TCM_SET (R137) -/

/-- A channel exists and is of KIND 2. -/
def Dev.isExpress (d : Dev) (ch : Nat) : Bool := match d.desc ch with | some x => x.kind == 2 | none => false

/-- A sink of another channel already uses a channel's TX flow as its back flow, at a level of `levels`. -/
def Dev.backTaken (d : Dev) (obj back : Nat) (levels : List Nat) : Bool :=
  d.odu.any fun e => e.1 != obj && objType e.1 == 1 && d.isExpress (objIndex e.1) && e.2.backCh == back &&
    levels.any fun k => (e.2.attr 1 k).mode == 3

/-- RX levels of a channel that are set to SINK once a level has taken a mode. -/
def OduState.sinks (o : OduState) (flow level mode : Nat) : List Nat :=
  [1, 2, 3, 4, 5, 6].filter fun k => (if flow = 1 && k = level then mode else (o.attr 1 k).mode) == 3

/-- Checks of ODU_TCM_SET. -/
def checkOduTcmSet (d : Dev) (c : Cmd) : Check :=
  let level := clamp 0 6 (c.field 0 1)
  let back := c.field 6 2
  let express := d.oduKind c.object == 2
  firstRefusal
    [refuseIf (express && level != 0 && back != 0xFFFF && !d.isExpress back) stNoObject,
     refuseIf (express && fallback 2 0 (c.field 4 1) != 0) stConstraint,
     refuseIf (express && level != 0 && back != 0xFFFF && d.backTaken c.object back
        ((d.oduOf c.object).sinks (fallback 1 0 (c.field 1 1)) level (fallback 3 0 (c.field 2 1)))) stConstraint]

/-- DM_MODE is set for a level; MEASURE inverts the bit being sent and starts counting (R132). -/
def Delay.setMode (x : Delay) (mode : Nat) : Delay :=
  if mode = 2 then { x with mode := 2, measuring := true, matched := false, count := 0, txBit := !x.sentBit }
  else { x with mode := mode, measuring := false }

/-- Effect of ODU_TCM_SET: DM_MODE acts at once, the mode with the next frame of the flow that begins (R132, R137). -/
def applyOduTcmSet (d : Dev) (c : Cmd) : Applied :=
  recheck d (checkOduTcmSet d c) fun d =>
    let level := clamp 0 6 (c.field 0 1)
    let flow := fallback 1 0 (c.field 1 1)
    let dm := fallback 2 0 (c.field 4 1)
    let o := d.oduOf c.object
    let a := o.attr flow level
    let kind := d.oduKind c.object
    let changed := (o.dm level).mode != dm
    let o := { o with delay := Tab.set o.delay level ((o.dm level).setMode dm) }
    let o := if level = 0 then o else
      { o with
        attrs := Tab.set o.attrs (levelKey flow level)
          { a with mode := fallback 3 0 (c.field 2 1), clearAtSink := bit (c.field 3 1) 0 }
        backCh := if kind = 2 then c.field 6 2 else o.backCh }
    let d := d.setOdu c.object o
    okWith (if changed then d.raise 0x0402 c.object
        (leBytes 4 c.object ++ leBytes 1 flow ++ leBytes 1 level ++ leBytes 1 (oduMode kind o flow level))
      else d)

/-- Parameter block of ODU_TCM_SET. -/
def tcmBlock (o : OduState) (flow level : Nat) : List Byte :=
  let a := o.attr flow level
  leBytes 1 level ++ leBytes 1 flow ++ leBytes 1 a.mode ++ leBytes 1 (b2n a.clearAtSink) ++ leBytes 1 (o.dm level).mode ++
    leBytes 1 0 ++ leBytes 2 o.backCh ++ zeros 8

/-- ODU_TCM_SET (R137). -/
def execOduTcmSet (core : Nat) (s : State) : Host.Outcome State Fault Refusal :=
  s.run fun d => d.serveChange core 0x0402 checkOduTcmSet

/-! ### ODU_OH_WRITE (R134, R138) -/

/-- MFAS level of the protection group that a channel object uses. -/
def Dev.groupLevel (d : Dev) (obj : Nat) : Option Nat :=
  if objType obj = 1 then (d.groupOf (objIndex obj)).map fun g => apsLevel g.arch (d.pg g.pg).tcmLevel else none

/-- Checks of ODU_OH_WRITE. -/
def checkOduOhWrite (d : Dev) (c : Cmd) : Check :=
  let f := fallback 4 0 (c.field 0 1)
  refuseIf ((f == 1 && objType c.object == 2) || (f == 3 && d.groupLevel c.object == some (clamp 0 7 (c.field 2 1))))
    stConstraint

/-- Effect of ODU_OH_WRITE. -/
def applyOduOhWrite (d : Dev) (c : Cmd) : Applied :=
  recheck d (checkOduOhWrite d c) fun d =>
    let o := d.oduOf c.object
    let set := fallback 1 1 (c.field 1 1) = 0
    let data := fun (n : Nat) => sliceAt c.payload 8 n
    let level := clamp 0 7 (c.field 2 1)
    let part := clamp 0 1 (c.field 3 1)
    let put := fun (t : Tab (List Byte)) (k n : Nat) => if set then Tab.set t k (data n) else Tab.drop t k
    okWith (d.setOdu c.object (match fallback 4 0 (c.field 0 1) with
      | 1 => { o with rawExp := if set then some (data 2) else none }
      | 2 => { o with rawRes := if set then some (data 9) else none }
      | 3 => { o with rawAps := put o.rawAps level 4 }
      | 4 => { o with rawFtfl := put o.rawFtfl part 128 }
      | _ => o))

/-- ODU_OH_WRITE (R138). -/
def execOduOhWrite (core : Nat) (s : State) : Host.Outcome State Fault Refusal :=
  s.run fun d => d.serveChange core 0x0403 checkOduOhWrite

/-! ### ODU_OH_READ (R139) -/

/-- STATE[L] (R139). -/
def LevelState.flags (x : LevelState) : Nat :=
  b2n x.hasTti + 2 * b2n x.tim + 4 * b2n x.bdi + 8 * b2n x.biae + 16 * b2n x.stat010 + 32 * b2n x.ltc

/-- Common head of ODU_OH_READ. -/
def ohHead (d : Dev) (fc mfas sel : Nat) (valid : Bool) : List Byte :=
  leBytes 8 d.fc ++ leBytes 8 (if valid then fc else 0) ++ leBytes 1 (b2n valid) ++ leBytes 1 (if valid then mfas else 0) ++
    leBytes 1 sel ++ leBytes 1 0

/-- ODU_OH_READ's response. -/
def oduOhRead (d : Dev) (c : Cmd) : Nat × List Byte :=
  let sel := fallback 3 0 (c.field 0 1)
  let flow := fallback 1 1 (c.field 1 1)
  let level := clamp 0 6 (c.field 2 1)
  let part := clamp 0 1 (c.field 3 1)
  let inst := if objType c.object = 2 then clamp 1 (d.portN c.index) (c.field 4 1) else 1
  let o := d.oduOf c.object
  let kind := d.oduKind c.object
  let x : Capture := Tab.get {} o.captures (flow * 32 + inst)
  (stOk, match sel with
    | 0 =>
      ohHead d x.frameFc x.mfas 0 x.frameValid ++ padTo 42 (if x.frameValid then x.oh else []) ++
        padTo 8 (if x.frameValid then x.opu else []) ++ zeros 2 ++
        (if x.frameValid then
          ((List.range 7).map fun k =>
            let l := o.level flow k
            leBytes 1 (oduMode kind o flow k) ++ leBytes 1 l.flags ++ leBytes 1 (min 255 l.pendingBei) ++ leBytes 1 0).flatten ++
          ((List.range 7).map fun k => leBytes 4 (o.dm k).result).flatten
        else zeros 56)
    | 1 =>
      let l := o.level flow level
      let tti := Tab.get [] x.tti level
      let ok := !tti.isEmpty
      ohHead d x.ttiFc x.ttiMfas 1 ok ++
        (if ok then padTo 64 l.accepted ++ padTo 64 tti ++ leBytes 8 l.acceptFc else zeros 136)
    | 2 =>
      ohHead d x.ftflFc x.ftflMfas 2 x.ftflValid ++ sliceAt (if x.ftflValid then x.ftfl else []) (128 * part) 128
    | _ => ohHead d x.psiFc x.psiMfas 3 x.psiValid ++ sliceAt (if x.psiValid then x.psi else []) (128 * part) 128)

/-- ODU_OH_READ (R139). -/
def execOduOhRead (core : Nat) (s : State) : Host.Outcome State Fault Refusal :=
  s.run fun d => d.serveRead core [0x0404] oduOhRead

/-! ### Across a swap (R129, R130, R134) -/

/-- The object starts: modes set before are in force, levels and captures start afresh. -/
def OduState.restart (o : OduState) : OduState :=
  { o with
    levels := o.attrs.filterMap fun e => if e.2.mode = 2 then some (e.1, ({} : LevelState).enter e.2.txTti) else none
    captures := [], ftflNow := [], inForce := o.attrs.filterMap fun e => if e.2.mode = 0 then none else some (e.1, e.2.mode) }

/-- Raw APS/PCC values at the level of a group are released (R134, R254). -/
def Dev.releaseAps (d : Dev) (obj level : Nat) : Dev :=
  let o := d.oduOf obj
  if (Tab.get [] o.rawAps level).isEmpty then d
  else (d.setOdu obj { o with rawAps := Tab.drop o.rawAps level }).raise 0x0403 obj (leBytes 4 obj ++ leBytes 1 level)

/-- BACK_CH reverts where the channel it names is gone or of another KIND (R129). -/
def Dev.revertBack (d : Dev) : Dev :=
  d.odu.foldl (fun d e =>
    if e.2.backCh != 0xFFFF && !d.isExpress e.2.backCh then
      (d.setOdu e.1 { d.oduOf e.1 with backCh := 0xFFFF }).raise 0x0403 e.1 (leBytes 4 e.1 ++ leBytes 1 0)
    else d) d

/-- SOURCE levels send STAT 010 in the next 16 frames: a flow's input has regained alignment (R128). -/
def Dev.regainSources (d : Dev) (obj : Nat) (flows : List Nat) : Dev :=
  let o := d.oduOf obj
  d.setOdu obj { o with levels := flows.foldl (fun t f => [1, 2, 3, 4, 5, 6].foldl (fun t k =>
    if (o.attr f k).mode = 2 then Tab.modify {} t (levelKey f k) fun x => { x with iaeFrames := 16 } else t) t) o.levels }

/-- KIND 2 channels whose ingress port is `p` (R122). -/
def Dev.expressFrom (d : Dev) (p : Nat) : List Nat :=
  match d.sched.active with
  | some i => (i.ptab.filter fun x => x.kind == 2 && i.xcal.any fun e => e.ch == x.ch && e.dir == 1 && e.gs / 320 == p).map (·.ch)
  | none => []

/-! ### Port multiframe alignment (R95, R96, R98) -/

/-- PORT_MULTIFRAME_ALIGNED (R95, R96): alignment regained puts IAE in 16 frames (R98, R128). -/
def execPortMultiframeAligned (port : Nat) (s : State) : Host.Outcome State Fault Refusal :=
  s.runIf (fun d => port < 8 && (d.port port).enabled && !(d.port port).mfAligned && (d.port port).groupAligned &&
      (d.port port).inFrame == d.instMask port && (d.port port).inMf == d.instMask port &&
      (d.port port).equalMfas (d.portN port)) fun d =>
    let x := d.port port
    let d := d.setPort port { x with mfAligned := true, hadMf := true, iaeLeft := if x.hadMf then 16 else x.iaeLeft }
    let d := if x.hadMf then (d.expressFrom port).foldl (fun d c => d.regainSources (objChannel c) [0, 1]) d else d
    (d.raise 0x0301 (objPort port) (leBytes 1 port)).settlePort port

end Sys2Proof.Machine
end

