-- ==== Sys2Proof/Machine/Channel.lean ====
section
/-! DEFINITION. Channel engines: stages and rate trackers, received counts, ramp state, block lock, client ports, and the
CH_* and CP_CONFIG commands (R141 to R173). -/

namespace Sys2Proof.Machine

open Sys2Proof

/-- First counter cell of a channel and of a client port (R381). -/
def chanCell (c : Nat) : Nat := 32 * c
def clientCell (k : Nat) : Nat := 0x2800 + 32 * k

/-! ### Stages (R141, R152, R154) -/

/-- One unit in 24-bit fixed point. -/
def one24 : Nat := 2 ^ 24

/-- Units of `k` per OTUC frame at a rate, per Beat. -/
def perBeat (k : Nat) (r : Rate) : Rate := (k * r.1 * rateOtuc.2, r.2 * rateOtuc.1)

/-- Rate of the ODU of a channel. -/
def Desc.rate (x : Desc) : Rate := oduRate x.oduType x.flexRate

/-- Gigabits per second of an Ethernet client carried by idle adjustment. -/
def ethGbps : Nat → Nat
  | 0x05 => 200 | 0x06 => 400 | 0x07 => 800 | _ => 1_600

/-- 66b blocks that the client delivers in a Beat (R163). -/
def Desc.clientBlocks (x : Desc) : Rate := perBeat 122_368 (ethGbps x.clientType * 1_000_000, 64)

/-- 66b blocks that the OPUflex payload holds in a Beat (R157): 64b/66b for IMP, 257b for four blocks for MAPPING 3. -/
def Desc.payloadBlocks (x : Desc) : Rate :=
  if x.mapping = 3 then perBeat (122_368 * 4) (x.flexRate * 238, 239 * 257) else perBeat 122_368 (x.flexRate * 238, 239 * 66)

/-- Bit rate and word of a GMP client (R152). -/
def Desc.gmpClient (x : Desc) : Rate × Nat :=
  if x.clientType = 0x03 then ((41_250_000 * 1_027, 1_056), 32) else ((103_125_000, 1), 80)

/-- A fraction rounded to the nearest integer. -/
def nearest (n m : Nat) : Nat := if m = 0 then 0 else (2 * n + m) / (2 * m)

/-- A tracker with its input rate, period, word and window; CAP and FILL_TARGET follow (R154, R158). -/
def Tracker.make (input per : Rate) (word p lo hi : Nat) : Tracker :=
  let cap := lo * word * per.2 / per.1
  { run := true, lo := lo, hi := hi, word := word, p := p, period := per.1, pden := per.2, inNum := input.1, inDen := input.2
    cmNom := nearest (input.1 * per.1 * one24) (input.2 * per.2 * word), cap := cap, target := cap / 2 }

/-- Window of the tracker's nominal count for a tolerance in ppm (R154). -/
def Tracker.widen (t : Tracker) (ppm : Nat) : Tracker :=
  let n := t.inNum * t.period
  let m := t.inDen * t.pden * t.word
  let lo := n * (1_000_000 - ppm) / (m * 1_000_000) - 1
  let hi := min t.p ((n * (1_000_000 + ppm) + m * 1_000_000 - 1) / (m * 1_000_000) + 1)
  Tracker.make (t.inNum, t.inDen) (t.period, t.pden) t.word t.p lo hi

/-- Server stage (R152, R181): a Spread group's fragments are compacted and carry SFHs. -/
def serverTracker (x : Desc) (spread : Bool) : Tracker :=
  let r := perBeat 15_296 x.rate
  let r := if spread then (r.1 * 15_283 * 16_384, r.2 * 15_296 * 16_376) else r
  Tracker.make r (20, 1) (16 * x.tsCount) 952 x.serverTab.cmBase x.serverTab.hi

/-- An idle-adjustment stage (R157, R163): its FIFO takes `input`, and `adapt` blocks leave in a Beat. -/
def idleTracker (x : Desc) (input adapt : Rate) : Tracker :=
  let b := x.payloadBlocks
  { Tracker.make input (1, 1) 1 1 (b.1 / b.2 - 1_024) ((b.1 + b.2 - 1) / b.2 + 1_024) with
    blocks := nearest (adapt.1 * one24) adapt.2 }

/-- Tolerance of a KIND 1 client-side stage in ppm (R154). -/
def clientPpm (x : Desc) : Nat := if x.oduType = 6 then 120 else 40

/-- Client-side OTU stage of KIND 1 (R152; ODTUCn.ts and ODTU4.ts as G.709 gives, PRESUMED, log 30). -/
def otuTracker (x : Desc) : Tracker :=
  if x.clientType = 0x20 then
    (Tracker.make (perBeat 15_296 x.rate) (80 * rateOtuc.1 * 227, rateOtuc.2 * 239 * 99_532_800) (clientSlots x) 15_200 0 0).widen
      (clientPpm x)
  else (Tracker.make (perBeat 15_296 x.rate) (20, 1) (16 * x.tsCount) 952 0 0).widen (clientPpm x)

/-- The whole ODU4 of an OTU4 is taken: no client-side stage (R141). -/
def Desc.wholeOdu4 (x : Desc) : Bool := x.clientType == 0x20 && x.oduType == 5

/-- TX client stage. -/
def txClientTracker (x : Desc) : Tracker :=
  if x.kind = 0 && x.mapping = 0 then
    match x.clientTab with
    | some t =>
      let (r, w) := x.gmpClient
      Tracker.make (perBeat 15_296 r) (rateOtuc.1 * x.rate.2, rateOtuc.2 * x.rate.1) w t.p t.cmBase t.hi
    | none => {}
  else if x.kind = 0 && (x.mapping = 1 || x.mapping = 3) then idleTracker x x.clientBlocks x.payloadBlocks
  else {}

/-- RX decided stage. -/
def rxTracker (x : Desc) : Tracker :=
  if x.kind = 0 && (x.mapping = 1 || x.mapping = 3) then idleTracker x x.payloadBlocks x.clientBlocks
  else if x.kind = 1 && !x.wholeOdu4 then otuTracker x
  else {}

/-- A stage adjusts idles. -/
def Tracker.idle (t : Tracker) : Bool := t.blocks != 0

/-- Tracker of a stage: 0 TX server, 1 TX client, 2 RX decided. -/
def Channel.stage (c : Channel) : Nat → Tracker
  | 0 => c.txServer | 1 => c.txClient | _ => c.rxDecided

def Channel.setStage (c : Channel) (s : Nat) (t : Tracker) : Channel :=
  match s with
  | 0 => { c with txServer := t } | 1 => { c with txClient := t } | _ => { c with rxDecided := t }

/-- First cell of a stage: clamp, slip, balance (R381). -/
def stageCell (c s : Nat) : Nat := chanCell c + (match s with | 0 => 0 | 1 => 3 | _ => 17)

/-- Data of a channel's stage event. -/
def stageData (c s : Nat) : List Byte := leBytes 4 (objChannel c) ++ leBytes 1 s

/-! ### The rate tracker (R156, R157) -/

/-- Index of the period that begins in Beat `fc`. -/
def Tracker.periodAt (t : Tracker) (fc : Nat) : Option Nat :=
  if fc < t.origin then none
  else
    let j := ((fc - t.origin) * t.pden + t.period - 1) / t.period
    if t.origin + j * t.period / t.pden = fc then some j else none

/-- Projected fill in units of 2^-24, at the end of the Beat before `fc`, for the token stamped for period `j`. -/
def Tracker.projected (t : Tracker) (fc j : Nat) : Int :=
  let ends := (j + 1) * t.period
  let from' := (max fc t.first - t.origin) * t.pden
  ((t.fill : Int) - t.owed) * one24 +
    ((t.inNum * (ends - from') * one24 / (t.inDen * t.pden) : Nat) : Int)

/-- The computation of R157 on `e`: the tracker, cm, whether it clamped. -/
def Tracker.compute (t : Tracker) (ramp : Bool) (e : Int) : Tracker × Nat × Bool :=
  let lo : Nat := if ramp then 1 else t.lo
  let hi : Nat := if ramp then t.p else t.hi
  let integ := clampI (lo * one24 : Nat) (hi * one24 + one24 - 1 : Nat) (t.integ + e / (if ramp then 16 else 256))
  let acc := t.acc + integ + e / (if ramp then 2 else 8)
  let raw := acc / one24
  let cm := clampI lo hi raw
  ({ t with integ := integ, acc := clampI 0 (one24 - 1 : Nat) (acc - cm * one24) }, cm.toNat, raw != cm)

/-- Token TYPE of a stage (R160). -/
def Tracker.type (t : Tracker) : Nat → Nat
  | 0 => 1
  | 1 => if t.idle then 3 else 2
  | _ => if t.idle then 5 else 4

/-- Token of a count, and the tracker that has issued it (R157, R160). -/
def Tracker.issue (t : Tracker) (ch s stamp cm : Nat) : Tracker × Token :=
  let cap := t.blockAcc + t.blocks
  let d : Int := ((cap / one24 : Nat) : Int) - cm
  let value : Nat := if t.idle then (d % (one24 : Int)).toNat else cm % one24
  let sigma : Nat := if t.type s = 2 then (t.acc * t.word / one24).toNat % 256 else 0
  ({ t with blockAcc := cap % one24, owed := t.owed + cm * t.word, last := if t.idle then d else cm },
   { stamp := stamp
     word := t.type s * 2 ^ 60 + ch * 2 ^ 52 + stamp % 65_536 * 2 ^ 32 + sigma * one24 + value })

/-- VALUE of a token. -/
def Token.value (k : Token) : Nat := k.word % one24

/-- A run whose result counts as clamped or not (R159). -/
def Tracker.noteClamp (t : Tracker) (c : Bool) : Tracker :=
  { t with clamped := c, clamps := if c then satAdd max32 t.clamps 1 else t.clamps, clampMf := t.clampMf || c }

/-- One run of a stage's tracker in Beat `fc` for the period that begins in Beat `stamp`. -/
def Channel.runStage (c : Channel) (ch s fc stamp j : Nat) : Channel × Token × Bool :=
  let t := c.stage s
  let f := t.projected fc j
  let e := (f - (t.target : Int) * one24) / (t.word : Int)
  let (t, cm, cl) := t.compute (c.ramp && s == 0) e
  let (t, k) := ({ t with sampled := f / one24 }.noteClamp cl).issue ch s stamp cm
  let outside := c.ramp && s == 0 && (cm < t.lo || t.hi < cm)
  ({ c with rampBad := c.rampBad || outside }.setStage s { t with ranFc := some fc }, k, cl)

/-- A token of its own takes effect at the Beat it is stamped for: its value governs the next period (R156). -/
def Tracker.apply (t : Tracker) (value sigma : Nat) : Tracker :=
  { t with nowCm := t.nextCm, nextCm := value, sigma := sigma }

/-- SIGMA_CND of a token. -/
def Token.sigma (k : Token) : Nat := k.word / 2 ^ 24 % 256

/-- Clamp cell and event (R159). -/
def Dev.noteClamp (d : Dev) (ch s : Nat) (c : Bool) : Dev :=
  if c then (d.tick (stageCell ch s) 1).raise 0x0503 (objChannel ch) (stageData ch s) else d

/-- RATE_TRACKER_PERIOD (R156, R157): in Beat t0 − 2 of a period that begins in Beat t0. -/
def execRateTrackerPeriod (ch stage : Nat) (s : State) : Host.Outcome State Fault Refusal :=
  s.runIf (fun d => ch < 256 && stage < 3 && (d.chan ch).run && ((d.chan ch).stage stage).run && d.enginePowered ch &&
      ((d.chan ch).stage stage).first ≤ d.fc + 2 && ((d.chan ch).stage stage).ranFc != some d.fc &&
      (((d.chan ch).stage stage).periodAt (d.fc + 2)).isSome) fun d =>
    match ((d.chan ch).stage stage).periodAt (d.fc + 2) with
    | none => d
    | some j =>
      let (c, k, cl) := (d.chan ch).runStage ch stage d.fc (d.fc + 2) j
      { (d.setChan ch c).noteClamp ch stage cl with tokens := d.tokens ++ [k] }

/-! ### Start, restart and resize (R78, R158, R165, R166) -/

/-- FC of the first period that begins at or after `fc`. -/
def Tracker.firstFrom (t : Tracker) (fc : Nat) : Nat :=
  let j := ((fc - t.origin) * t.pden + t.period - 1) / t.period
  t.origin + j * t.period / t.pden

/-- A stage starts at Beat `fc`: its FIFO is filled to target, and a run with e = 0 gives the first period's count. -/
def Tracker.start (t : Tracker) (ch s fc : Nat) : Tracker × Bool :=
  if !t.run then (t, false)
  else
    let t := { t with origin := if s = 0 then 0 else fc }
    let t := { t with first := t.firstFrom fc, fill := t.target, integ := t.cmNom, acc := 0, sampled := t.target }
    let (t, cm, cl) := t.compute false 0
    let (t, k) := (t.noteClamp cl).issue ch s fc cm
    ({ t with nextCm := k.value, sigma := k.sigma, mfFill := t.fill }, cl)

/-- Runs that R156 places before the start MF: for the periods that begin in the first two Beats. -/
def Channel.preRun (c : Channel) (ch s fc back : Nat) : Channel × List Token × Bool :=
  let stamp := fc + back
  let t := c.stage s
  match (if t.run && t.first ≤ stamp then t.periodAt stamp else none) with
  | none => (c, [], false)
  | some j =>
    let (c, k, cl) := c.runStage ch s (stamp - 2) stamp j
    if back = 0 then (c.setStage s ((c.stage s).apply k.value k.sigma), [], cl) else (c, [k], cl)

/-- One stage of a channel that starts. -/
def Dev.startStage (d : Dev) (ch s : Nat) : Dev :=
  let c := d.chan ch
  let (t, c0) := (c.stage s).start ch s d.fc
  let (c, _, c1) := (c.setStage s t).preRun ch s d.fc 0
  let (c, k, c2) := c.preRun ch s d.fc 1
  let d := { d.setChan ch c with tokens := d.tokens ++ k }
  ((d.noteClamp ch s c0).noteClamp ch s c1).noteClamp ch s c2

/-- Cells of a channel and of its slots start at 0 (R380). -/
def Dev.clearChannel (d : Dev) (ch : Nat) : Dev :=
  { d with cnt := { d.cnt with cells := d.cnt.cells.filter fun e =>
    !((chanCell ch ≤ e.1 && e.1 < chanCell ch + 32) || (0x3000 + 16 * ch ≤ e.1 && e.1 < 0x3000 + 16 * ch + 16)) } }

/-- An Ethernet client type. -/
def ethernet (t : Nat) : Bool := [0x01, 0x03, 0x04, 0x05, 0x06, 0x07, 0x08].contains t

/-- `n` bytes of the replacement signal of a client type, from place `from` in its stream (R158). -/
def replacementBytes (type from' n : Nat) : List DByte :=
  if ethernet type then packBytes n ((List.replicate (8 * n / 66 + 1) localFault).flatMap Block66.bits)
  else (List.range n).map fun i => tagByte (Config.replacement type (from' + i))

/-- Coded bits that stand ready before the first frame of a MAPPING 1 or 3 channel (DESIGN CHOICE, log 81). -/
def leadBits (x : Desc) : List (Bool × Bool) :=
  if x.mapping = 3 then (List.replicate 16 (transcode (List.replicate 4 localFault))).flatten
  else if x.mapping = 1 then (List.replicate 16 localFault).flatMap Block66.bits
  else []

/-- The TX path of a channel that starts: every stage FIFO holds the replacement signal (R158); a Spread group's striper
begins with the first frame (R178; DESIGN CHOICE, log 81). -/
def ChanPath.startTx (p : ChanPath) (c : Channel) (x : Desc) (members : Nat) : ChanPath :=
  { rxQ := p.rxQ, rxWord := p.rxWord, rxCm := p.rxCm, jc := p.jc, rxFrag := p.rxFrag, rxPos := p.rxPos, rxData := p.rxData
    rxUnit := p.rxUnit, rxAt := p.rxAt, joined := p.joined, rx := p.rx, clientCm := p.clientCm, boffAt := p.boffAt
    rxBits := p.rxBits, rxBlocks := p.rxBlocks, rxBytes := p.rxBytes, rxLast := p.rxLast, muxCm := p.muxCm
    txBlocks := if c.txClient.idle then List.replicate c.txClient.target localFault else []
    txBytes := if c.txClient.idle then [] else replacementBytes x.clientType 0 c.txClient.target
    fed := c.txClient.target, bits := leadBits x
    srv := if members = 0 then replacementBytes x.clientType 0 c.txServer.target else []
    queues := List.replicate members [], frag := List.replicate members 0 }

/-- The RX path of a channel that starts. -/
def ChanPath.startRx (p : ChanPath) (t : Tracker) (x : Desc) : ChanPath :=
  { p with
    rxQ := [], rxWord := 0, rxCm := none, jc := [], rxFrag := [], rxPos := [], rxData := [], rxUnit := 0, rxAt := 0
    joined := false, rx := {}, clientCm := none, boffAt := 0, rxBits := [], rxLast := 0, muxCm := 0
    rxBlocks := if t.idle then List.replicate t.target localFault else []
    rxBytes := if t.idle then [] else replacementBytes x.clientType 0 t.target }

/-- The RX side of a channel starts (R78, R81). -/
def Dev.startRx (d : Dev) (ch : Nat) (x : Desc) : Dev :=
  let t := rxTracker x
  let d := d.setChan ch { d.chan ch with
    rxDecided := t, rcvServer := none, rcvClient := none, blockLock := false, boffGood := 0, boffBad := 0, boffNext := 512
    poisonRxMf := false }
  let d := (d.setCpath ch ((d.cpath ch).startRx t x)).startStage ch 2
  if x.kind = 0 && x.mapping = 3 then d.noteInput (objChannel ch) layClientRx 1 true else d

/-- A channel's engine starts from its reset state (R158). Its RX side starts with it, unless it stays with the bank in use on
its port and starts when the port switches (`rx` is none, R81). -/
def Dev.startEngine (d : Dev) (ch : Nat) (x : Desc) (members : Nat) (rx : Option Desc) : Dev :=
  let o := d.chan ch
  let c : Channel := { run := true, startFc := d.fc, txServer := serverTracker x (members != 0), txClient := txClientTracker x
                       rxDecided := o.rxDecided, rcvServer := o.rcvServer, rcvClient := o.rcvClient, blockLock := o.blockLock
                       boffGood := o.boffGood, boffBad := o.boffBad, boffNext := o.boffNext, poisonRxMf := o.poisonRxMf }
  let d := (d.setChan ch c).setCpath ch ((d.cpath ch).startTx c x members)
  let d := [0, 1].foldl (fun d s => d.startStage ch s) d
  match rx with | some y => d.startRx ch y | none => d

/-- A channel starts (R78): its cells from 0, its engine from its reset state. -/
def Dev.startChannel (d : Dev) (ch : Nat) (x : Desc) (members gen : Nat) (rx : Option Desc) : Dev :=
  ((d.clearChannel ch).startEngine ch x members rx).raise 0x0501 (objChannel ch) (leBytes 4 (objChannel ch) ++ leBytes 4 gen)

/-- A CH_MAINT signal is released (R170). -/
def Dev.releaseMaint (d : Dev) (ch flow : Nat) : Dev :=
  let c := d.chan ch
  let m := if flow = 0 then c.maintTx else c.maintRx
  if m.signal = 0 then d
  else
    (d.setChan ch (if flow = 0 then { c with maintTx := {} } else { c with maintRx := {} })).raise 0x0509 (objChannel ch)
      (leBytes 4 (objChannel ch) ++ leBytes 1 flow ++ leBytes 1 0)

/-- A channel stops (R78); its RX side goes on where it stays with the bank in use on its port (R81). -/
def Dev.stopChannel (d : Dev) (ch gen : Nat) (keepRx : Bool) : Dev :=
  let d := (d.releaseMaint ch 0).releaseMaint ch 1
  let d := if keepRx then d
    else { d.setChan ch {} with path := { d.path with chans := Tab.drop d.path.chans ch } }
  d.raise 0x0502 (objChannel ch) (leBytes 4 (objChannel ch) ++ leBytes 4 gen)

/-- Ramp state begins (R166): integ and acc are scaled, the window, CAP and FILL_TARGET are those of the new table. -/
def Dev.resizeChannel (d : Dev) (ch : Nat) (old new : Desc) : Dev :=
  let c := d.chan ch
  let o := c.txServer
  let n := serverTracker new false
  let scale := fun (v : Int) => v * (old.tsCount : Int) / (new.tsCount : Int)
  let t := { o with lo := n.lo, hi := n.hi, word := n.word, cmNom := n.cmNom, inNum := n.inNum, inDen := n.inDen
                    cap := n.cap, target := n.target, integ := scale o.integ, acc := scale o.acc }
  (d.setChan ch { c with txServer := t, ramp := true, rampRun := 0, rampBad := false, resizeMf := true }).raise 0x0508
    (objChannel ch) (leBytes 4 (objChannel ch) ++ leBytes 1 1)

/-- RAMP_STATE_END (R166): 16 consecutive MF with every count inside its window. -/
def execRampStateEnd (ch : Nat) (s : State) : Host.Outcome State Fault Refusal :=
  s.runIf (fun d => ch < 256 && (d.chan ch).run && (d.chan ch).ramp && 16 ≤ (d.chan ch).rampRun) fun d =>
    (d.setChan ch { d.chan ch with ramp := false }).raise 0x0508 (objChannel ch) (leBytes 4 (objChannel ch) ++ leBytes 1 0)

/-! ### Stage FIFOs (R159, R162, R163) -/

/-- Units arrive: a full FIFO overflows, and input is discarded until fill falls to target. Answers how many it takes, and
whether it has overflowed. -/
def Tracker.arrive (t : Tracker) (n : Nat) : Tracker × Nat × Bool :=
  let t := { t with mfIn := t.mfIn + n }
  if t.discarding then ({ t with mfDiscard := t.mfDiscard + n }, 0, false)
  else
    let room := t.cap - t.fill
    if n ≤ room then
      ({ t with fill := t.fill + n, refilling := t.refilling && t.fill + n < t.target }, n, false)
    else
      ({ t with fill := t.fill + room, discarding := true, refilling := false, mfDiscard := t.mfDiscard + (n - room) }, room, true)

/-- Placement draws `n` units in place of `units` that a token named: what an alignment withholds is sent as 0x00; a FIFO
that cannot supply a unit underflows, and refills to target. Answers the units withheld, those taken, and whether it has
underflowed. -/
def Tracker.draw (t : Tracker) (units n : Nat) : Tracker × Nat × Nat × Bool :=
  let held := min n t.withhold
  let t := { t with owed := t.owed - units, withhold := t.withhold - held }
  let n := n - held
  if t.refilling then (t, held, 0, false)
  else if n ≤ t.fill then
    ({ t with fill := t.fill - n, mfOut := t.mfOut + n, discarding := t.discarding && t.target < t.fill - n }, held, n, false)
  else ({ t with fill := 0, mfOut := t.mfOut + t.fill, refilling := true, discarding := false }, held, t.fill, true)

/-- A slip: cell and event (R159); direction 0 underflow, 1 overflow. -/
def Dev.noteSlip (d : Dev) (ch s dir : Nat) (b : Bool) : Dev :=
  if b then
    let c := d.chan ch
    let t := c.stage s
    let d := d.setChan ch (c.setStage s { t with slips := satAdd max32 t.slips 1, slipMf := true })
    (d.tick (stageCell ch s + 1) 1).raise 0x0504 (objChannel ch) (stageData ch s ++ leBytes 1 dir)
  else d

/-- Units arrive at a stage FIFO; how many it takes. -/
def Dev.stageArrive (d : Dev) (ch s n : Nat) : Dev × Nat :=
  let c := d.chan ch
  let (t, k, spill) := (c.stage s).arrive n
  ((d.setChan ch (c.setStage s t)).noteSlip ch s 1 spill, k)

/-- Placement draws from a stage FIFO: units withheld, units taken. -/
def Dev.stageDraw (d : Dev) (ch s units n : Nat) : Dev × Nat × Nat :=
  let c := d.chan ch
  let (t, held, k, under) := (c.stage s).draw units n
  ((d.setChan ch (c.setStage s t)).noteSlip ch s 0 under, held, k)

/-- A signed 24-bit VALUE. -/
def value24 (v : Nat) : Int := if v < 2 ^ 23 then (v : Int) else (v : Int) - 2 ^ 24

/-- Units a token of an idle-adjustment stage names for the Beat in progress: B_b less D (R157, R163). -/
def Tracker.idleDraw (t : Tracker) (b : Nat) : Nat := ((perBeatAt t.blocks one24 b : Nat) - value24 t.nowCm).toNat

/-- First cell of a stage's idle blocks: inserted, deleted, carried (R381). -/
def idleCell (ch s : Nat) : Nat := chanCell ch + (if s = 1 then 8 else 21)

/-- A Beat begins at an idle-adjustment stage: its D joins what earlier Beats could not do (R163). -/
def Dev.idleOpen (d : Dev) (ch s : Nat) : Dev :=
  let c := d.chan ch
  let t := c.stage s
  d.setChan ch (c.setStage s { t with carry := t.carry + value24 t.nowCm })

/-- A Beat ends there: an adjustment it could not make is counted and carried. -/
def Dev.idleClose (d : Dev) (ch s : Nat) : Dev := d.tick (idleCell ch s + 2) (b2n (((d.chan ch).stage s).carry != 0))

/-- Kind of a block for what may follow it: 1 idle, 2 terminate, 0 other. -/
def Block66.kind (b : Block66) : Nat := if b.isIdle then 1 else if b.isTerm then 2 else 0

/-- Insert `ins` idle blocks after the first idle or terminate block, or delete idle blocks, up to `del`, that follow one, at
least one idle staying between a terminate block and what comes next; in stream order (R163). Answers the blocks, what is
left to insert and to delete, and the kind of the last block. -/
def adaptBlocks : List Block66 → Nat → Nat → Nat → List Block66 × Nat × Nat × Nat
  | [], ins, del, last => if last = 0 then ([], ins, del, last) else (List.replicate ins idleBlock, 0, del, if ins = 0 then last else 1)
  | b :: t, ins, del, last =>
    let idles := if last = 0 then [] else List.replicate ins idleBlock
    let left := if last = 0 then ins else 0
    let last := if idles.isEmpty then last else 1
    let more := match t with | n :: _ => n.isIdle | [] => false
    if 0 < del && b.isIdle && (last = 1 || (last = 2 && more)) then
      let (l, i, k, e) := adaptBlocks t left (del - 1) last
      (idles ++ l, i, k, e)
    else
      let (l, i, k, e) := adaptBlocks t left del b.kind
      (idles ++ b :: l, i, k, e)

/-- Blocks pass an idle-adjustment stage: its adjustment goes on with them. Answers them, and the kind of the last one. -/
def Dev.idleAdapt (d : Dev) (ch s last : Nat) (l : List Block66) : Dev × List Block66 × Nat :=
  let c := d.chan ch
  let t := c.stage s
  let ins := t.carry.toNat
  let del := (-t.carry).toNat
  let (l, i, k, e) := adaptBlocks l ins del last
  let d := d.setChan ch (c.setStage s { t with carry := (i : Int) - k })
  ((d.tick (idleCell ch s) (ins - i)).tick (idleCell ch s + 1) (del - k), l, e)

/-- Poisoned words received (R167). -/
def Dev.poisonedWords (d : Dev) (ch dir n : Nat) : Dev :=
  let c := d.chan ch
  if !c.run || n = 0 then d
  else
    let d := d.tick (chanCell ch + (if dir = 0 then 6 else 20)) n
    let first := if dir = 0 then !c.poisonTxMf else !c.poisonRxMf
    let d := d.setChan ch (if dir = 0 then { c with poisonTxMf := true } else { c with poisonRxMf := true })
    if first then d.raise 0x0505 (objChannel ch) (leBytes 4 (objChannel ch) ++ leBytes 1 dir) else d

/-- Units of a stage that do not balance over the MF (R162). -/
def Tracker.imbalance (t : Tracker) : Int :=
  (t.mfIn : Int) - t.mfOut - t.mfDiscard - ((t.fill : Int) - t.mfFill)

/-- A stage at the end of an MF: the balance check, and what was counted over the MF. -/
def Dev.closeStage (d : Dev) (ch s : Nat) (fault : Nat) : Dev :=
  let c := d.chan ch
  let t := c.stage s
  if !t.run then d
  else
    let bad := t.imbalance + fault
    let t := { t with mfIn := 0, mfOut := 0, mfDiscard := 0, mfFill := t.fill, slipLast := t.slipMf, clampLast := t.clampMf
                      slipMf := false, clampMf := false }
    let d := d.setChan ch (c.setStage s t)
    if bad != 0 && !t.idle && !c.resizeMf then
      (d.tick (stageCell ch s + 2) 1).raise 0x0506 (objChannel ch) (stageData ch s ++ leBytes 4 (unsigned 4 bad))
    else d

/-- A channel at the end of an MF. -/
def Dev.closeChannel (d : Dev) (ch : Nat) (gmp : List (Nat × Nat × Nat)) : Dev :=
  let fault := fun (s : Nat) => sum ((gmp.filter fun g => g.1 == ch && g.2.1 == s).map fun g => g.2.2)
  let d := [0, 1, 2].foldl (fun d s => d.closeStage ch s (fault s)) d
  let c := d.chan ch
  d.setChan ch { c with
    rampRun := if c.ramp && !c.rampBad then c.rampRun + 1 else 0
    rampBad := false, poisonTxMf := false, poisonRxMf := false, resizeMf := false }

/-! ### Received counts (R155) -/

/-- Window of a received stage; `none` where the channel does not run it. BMP has none (log). -/
def Desc.rcvWindow (x : Desc) (stage : Nat) : Option (Nat × Nat × Nat) :=
  match stage with
  | 3 => some (x.serverTab.cmBase, x.serverTab.hi, 952)
  | 4 =>
    if x.kind = 0 && x.mapping = 0 then x.clientTab.map fun t => (t.cmBase, t.hi, t.p)
    else if x.kind = 0 && x.mapping = 2 then some (0, one24 - 1, one24 - 1) else none
  | 5 => if x.kind = 1 && !x.wholeOdu4 then let t := otuTracker x; some (t.lo, t.hi, t.p) else none
  | _ => none

/-- A received stage takes a value. -/
def Channel.receive (c : Channel) (stage value : Nat) : Channel :=
  match stage with
  | 3 => { c with rcvServer := some value } | 4 => { c with rcvClient := some value } | _ => { c with rcvDemux := some value }

/-- Line ports on which an image receives a channel. -/
def Image.rxPorts (i : Image) (ch : Nat) : List Nat :=
  (List.range 8).filter fun p => i.xcal.any fun e => e.ch == ch && e.dir == 1 && e.gs / 320 == p

/-- Descriptor that governs a channel's receive side: that of the bank in use on a port it is received on (R81). -/
def Dev.rxDesc (d : Dev) (ch : Nat) : Option Desc :=
  (List.range 8).findSome? fun p => (d.rxImage p).bind fun i => if (i.rxPorts ch).contains p then i.desc ch else none

/-- RECEIVED_COUNT (R155): stage 3 server, 4 client demapping, 5 client-side demultiplexing; the justification control received
last, which governs from the next period on. -/
def execReceivedCount (ch stage value : Nat) (crcOk : Bool) (s : State) : Host.Outcome State Fault Refusal :=
  s.runIf (fun d => ch < 256 && (d.chan ch).run && value < one24 &&
      (match d.rxDesc ch with | some x => (x.rcvWindow stage).isSome | none => false) &&
      Tab.get (0, !crcOk) (d.cpath ch).jc stage == (value, crcOk)) fun d =>
    let (lo, hi, p) := ((d.rxDesc ch).bind fun x => x.rcvWindow stage).getD (0, 0, 0)
    let d := d.setCpath ch { d.cpath ch with jc := Tab.drop (d.cpath ch).jc stage }
    let c := d.chan ch
    let inside := lo ≤ value && value ≤ hi
    if crcOk && (inside || (c.ramp && 1 ≤ value && value ≤ p)) then
      d.setChan ch ({ c with rampBad := c.rampBad || (c.ramp && !inside) }.receive stage value)
    else
      let d := if stage = 3 then d.tick (chanCell ch + 16) 1 else if stage = 5 then d.tick (chanCell ch + 7) 1 else d
      d.raise 0x0507 (objChannel ch) (stageData ch stage ++ leBytes 4 value)

/-! ### Block lock (R149, R150) -/

/-- BOFF that a frame's OPU overhead carries, when complement and CRC check. -/
def boffOf (opu : List Byte) : Option Nat :=
  let a := beNat (sliceAt opu 0 2)
  if beNat (sliceAt opu 2 2) = 65_535 - a && crc8 (sliceAt opu 0 2) = (byteAt opu 4).toNat then some (a % 512) else none

/-- BOFF of the frame that follows one of BOFF `b`: 121,856 payload bits a frame. -/
def nextBoff (b : Nat) : Nat := (257 - (121_856 - b) % 257) % 257

/-- The engine reads the block offset of a received frame. -/
def Channel.takeBoff (c : Channel) (opu : List Byte) : Channel :=
  match boffOf opu with
  | some b =>
    if b = c.boffNext then { c with boffGood := c.boffGood + 1, boffBad := 0, boffNext := nextBoff b }
    else { c with boffGood := 0, boffBad := c.boffBad + 1, boffNext := nextBoff b }
  | none =>
    { c with boffGood := 0, boffBad := c.boffBad + 1, boffNext := if c.boffNext = 512 then 512 else nextBoff c.boffNext }

/-- A MAPPING 3 channel takes the block offset of a received frame. -/
def Dev.takeBoff (d : Dev) (ch : Nat) (opu : List Byte) : Dev :=
  match d.desc ch with
  | some x => if x.mapping = 3 && x.kind = 0 then d.setChan ch ((d.chan ch).takeBoff opu) else d
  | none => d

/-- A channel maps by MAPPING 3. -/
def Dev.hasBlocks (d : Dev) (ch : Nat) : Bool :=
  (d.chan ch).run && (match d.desc ch with | some x => x.kind == 0 && x.mapping == 3 | none => false)

/-- BLOCK_LOCK_GAINED (R150). -/
def execBlockLockGained (ch : Nat) (s : State) : Host.Outcome State Fault Refusal :=
  s.runIf (fun d => ch < 256 && d.hasBlocks ch && !(d.chan ch).blockLock && 2 ≤ (d.chan ch).boffGood) fun d =>
    (d.setChan ch { d.chan ch with blockLock := true }).noteInput (objChannel ch) layClientRx 1 false

/-- BLOCK_LOCK_LOST (R150). -/
def execBlockLockLost (ch : Nat) (s : State) : Host.Outcome State Fault Refusal :=
  s.runIf (fun d => ch < 256 && d.hasBlocks ch && (d.chan ch).blockLock && 3 ≤ (d.chan ch).boffBad) fun d =>
    ((d.setChan ch { d.chan ch with blockLock := false }).tick (chanCell ch + 28) 1).noteInput (objChannel ch) layClientRx 1 true

/-! ### Client ports (R146, R147, R171) -/

/-- The descriptor and lane of the client port that holds a client lane. -/
def Dev.clientOf (d : Dev) (lane : Nat) : Option Desc :=
  d.sched.active.bind fun i => i.ptab.find? fun x => x.kind != 2 && x.cp ≤ lane && lane < x.cp + x.lanes

/-- Channels of a client port. -/
def Dev.clientChannels (d : Dev) (k : Nat) : List Nat :=
  match d.sched.active with
  | some i => (i.ptab.filter fun x => x.kind != 2 && x.cp == k).map (·.ch)
  | none => []

/-- Every lane of a client port is UP. -/
def Dev.clientUp (d : Dev) (x : Desc) : Bool := (List.range x.lanes).all fun j => bit d.clientLanesUp (x.cp + j)

/-- Lanes leave the UP state: the port's later stages follow. -/
def Dev.dropClientLane (d : Dev) (lane : Nat) : Dev :=
  let d := { d with clientLanesUp := setBit d.clientLanesUp lane false }
  match d.clientOf lane with
  | some x => d.setClient x.cp { d.client x.cp with inFrame := false, inMf := false }
  | none => d

/-- Client lanes and line lanes of a slice stop (R28). -/
def Dev.dropSlice (d : Dev) (s : Nat) : Dev :=
  let d := (d.dropLanes (2 * s) (List.range 8)).dropLanes (2 * s + 1) (List.range 8)
  (List.range 16).foldl (fun d k => d.dropClientLane (16 * s + k)) d

/-- CLIENT_LANE_UP (R147). -/
def execClientLaneUp (lane : Nat) (s : State) : Host.Outcome State Fault Refusal :=
  s.runIf (fun d => lane < 64 && (match d.clientOf lane with
      | some x => (d.client x.cp).enabled && d.clientPowered x.cp x.lanes | none => false)) fun d =>
    { d with clientLanesUp := setBit d.clientLanesUp lane true }

/-- CLIENT_LANE_DOWN (R147, R381). -/
def execClientLaneDown (lane : Nat) (s : State) : Host.Outcome State Fault Refusal :=
  s.runIf (fun d => lane < 64 && bit d.clientLanesUp lane &&
      (match d.clientOf lane with | some x => (d.client x.cp).enabled | none => false)) fun d =>
    match d.clientOf lane with
    | some x => (d.tick (clientCell x.cp + 9 + (lane - x.cp)) 1).dropClientLane lane
    | none => d

/-- CLIENT_OTU_FRAME_STATE_CHANGE (R147): alignment regained puts STAT 010 in 16 frames of SOURCE levels (R128). -/
def execClientOtuFrameStateChange (lane : Nat) (inFrame inMf : Bool) (s : State) : Host.Outcome State Fault Refusal :=
  s.runIf (fun d => lane < 64 && (match d.clientOf lane with
      | some x => x.kind == 1 && x.cp == lane && (d.client lane).enabled && (!inFrame || d.clientUp x)
      | none => false) && (!inMf || inFrame)) fun d =>
    let x := d.client lane
    let d := d.setClient lane { x with inFrame := inFrame, inMf := inMf, hadFrame := x.hadFrame || inFrame }
    if inFrame && !x.inFrame && x.hadFrame then
      (d.clientChannels lane).foldl (fun d c => d.regainSources (objChannel c) [0]) d
    else d

/-- The client input has failed (R158, R171). -/
def Dev.inputFailed (d : Dev) (k : Nat) : Bool := !(d.client k).enabled || bit (d.act 3 k) 0

/-- CP_CONFIG asks FEC OFF of a port whose lanes run PAM4 (R171). -/
def fecRefused (x : Desc) (c : Cmd) : Bool :=
  fallback 2 0 (c.field 1 1) == 1 &&
    ((0x05 ≤ x.clientType && x.clientType ≤ 0x08) || (x.clientType == 0x04 && x.lanes ≤ 2))

/-- Checks of CP_CONFIG (R171): FEC OFF on PAM4 lanes. -/
def checkCpConfig (d : Dev) (c : Cmd) : Check :=
  match d.sched.active.bind fun i => i.clientDesc c.index with
  | some x => refuseIf (fecRefused x c) stConstraint
  | none => none

/-- Lane fields that a CP_CONFIG writes. -/
def clientLaneOf (c : Cmd) : LaneAttr :=
  { txPre := clamp 0 15 (c.field 3 1), txPost := clamp 0 31 (c.field 4 1), txMain := clamp 0 63 (c.field 5 1)
    polarity := c.field 6 1 % 4, rxEq := fallback 16 0 (c.field 7 1), squelch := bit (c.field 8 1) 0 }

/-- A client lane takes its fields; a change of RX_EQ or RX polarity restarts its receiver. -/
def Dev.setClientLane (d : Dev) (l : Nat) (a : LaneAttr) : Dev :=
  let old := d.lane l
  let d := d.setLane l a
  if (old.rxEq != a.rxEq || bit old.polarity 1 != bit a.polarity 1) && bit d.clientLanesUp l then d.dropClientLane l else d

/-- A client port is enabled or disabled (R171, R209): disabled, its lanes are ignored. -/
def Dev.enableClient (d : Dev) (x : Desc) (on : Bool) : Dev :=
  let k := x.cp
  let p := d.client k
  let d := if p.enabled = on then d
    else (List.range x.lanes).foldl (fun d j => { d with clientLanesUp := setBit d.clientLanesUp (k + j) false })
      ((d.setClient k { p with enabled := on, inFrame := false, inMf := false }).clearRuns (objClient k))
  d.noteInput (objClient k) layClientTx 10 (!on)

/-- What a CP_CONFIG changes. -/
def Dev.configClient (d : Dev) (x : Desc) (c : Cmd) : Dev :=
  let k := x.cp
  let d := match fallback 2 2 (c.field 0 1) with
    | 0 => d.enableClient x false | 1 => d.enableClient x true | _ => d
  let d := if ethernet x.clientType then d.setClient k { d.client k with fec := fallback 2 0 (c.field 1 1) } else d
  (List.range x.lanes).foldl (fun d j => if bit (c.field 2 1) j then d.setClientLane (k + j) (clientLaneOf c) else d) d

/-- Effect of CP_CONFIG. -/
def applyCpConfig (d : Dev) (c : Cmd) : Applied :=
  recheck d (checkCpConfig d c) fun d =>
    match d.sched.active.bind fun i => i.clientDesc c.index with
    | some x => okWith (d.configClient x c)
    | none => okWith d

/-- Parameter block of CP_CONFIG for a lane. -/
def cpBlock (p : ClientPort) (a : LaneAttr) (k : Nat) : List Byte :=
  leBytes 1 (b2n p.enabled) ++ leBytes 1 p.fec ++ leBytes 1 (2 ^ k) ++ leBytes 1 a.txPre ++ leBytes 1 a.txPost ++
    leBytes 1 a.txMain ++ leBytes 1 a.polarity ++ leBytes 1 a.rxEq ++ leBytes 1 (b2n a.squelch) ++ zeros 7

/-- The block of CP_CONFIG's readback (R350): the lowest lane named, the first lane where none is. -/
def Dev.cpReadback (d : Dev) (k mask : Nat) : List Byte :=
  let lanes := match d.sched.active.bind fun i => i.clientDesc k with | some x => x.lanes | none => 1
  let j := ((List.range lanes).find? fun j => bit mask j).getD 0
  cpBlock (d.client k) (d.lane (k + j)) j

/-- CP_CONFIG (R171). -/
def execCpConfig (core : Nat) (s : State) : Host.Outcome State Fault Refusal :=
  s.run fun d => d.serveChange core 0x0503 checkCpConfig

/-! ### CH_MAINT (R170) -/

/-- Checks of CH_MAINT: a client signal must suit the channel. -/
def checkChMaint (d : Dev) (c : Cmd) : Check :=
  let sig := fallback 6 0 (c.field 1 1)
  refuseIf (4 ≤ sig && !(fallback 1 0 (c.field 0 1) == 1 && (match d.desc c.index with
    | some x => x.kind == 0 && (if sig = 6 then x.clientType == 0x02 else ethernet x.clientType)
    | none => false))) stConstraint

/-- Effect of CH_MAINT. -/
def applyChMaint (d : Dev) (c : Cmd) : Applied :=
  recheck d (checkChMaint d c) fun d =>
    let ch := c.index
    let flow := fallback 1 0 (c.field 0 1)
    let sig := fallback 6 0 (c.field 1 1)
    let dur := c.field 4 4
    let x := d.chan ch
    let old := if flow = 0 then x.maintTx else x.maintRx
    let m : Maint := { signal := sig, expiry := if sig = 0 || dur = 0 then none else some (d.mfn + dur) }
    let d := d.setChan ch (if flow = 0 then { x with maintTx := m } else { x with maintRx := m })
    okWith (if old.signal = sig then d
      else d.raise 0x0509 (objChannel ch) (leBytes 4 (objChannel ch) ++ leBytes 1 flow ++ leBytes 1 sig))

/-- Parameter block of CH_MAINT for a flow: MF until release. -/
def maintBlock (m : Maint) (flow mfn : Nat) : List Byte :=
  leBytes 1 flow ++ leBytes 1 m.signal ++ zeros 2 ++
    leBytes 4 (match m.expiry with | some e => e - mfn | none => 0)

/-- CH_MAINT (R170). -/
def execChMaint (core : Nat) (s : State) : Host.Outcome State Fault Refusal :=
  s.run fun d => d.serveChange core 0x0502 checkChMaint

/-- CH_MAINT_EXPIRY (R170): at Beat 0 of MF E + DURATION_MF. -/
def execChMaintExpiry (ch flow : Nat) (s : State) : Host.Outcome State Fault Refusal :=
  s.runIf (fun d => ch < 256 && flow < 2 &&
      (match (if flow = 0 then (d.chan ch).maintTx else (d.chan ch).maintRx).expiry with
       | some e => fcOf e ≤ d.fc | none => false)) fun d => d.releaseMaint ch flow

/-! ### CH_STATUS and CH_RATE_READ (R169, R172) -/

/-- Maintenance signal in force, coded as in R170. -/
def Dev.maintInForce (d : Dev) (x : Desc) (flow : Nat) : Nat :=
  let c := d.chan x.ch
  let own := if flow = 0 then c.maintTx.signal else c.maintRx.signal
  let cat := if flow = 0 then c.catTx else c.catRx
  if own != 0 then own else if cat != 0 || flow = 0 || x.kind != 0 then cat
  else match (d.client x.cp).output with | 1 => 5 | 2 => 4 | 3 => 6 | _ => 0

/-- CH_STATUS's response (R169). -/
def chStatus (d : Dev) (c : Cmd) : Nat × List Byte :=
  match d.desc c.index with
  | none => (stNoObject, [])
  | some x =>
    let k := d.chan c.index
    let any := fun (f : Tracker → Bool) => f k.txServer || f k.txClient || f k.rxDecided
    let sg := match d.sched.active.bind fun i => i.sgmap.find? fun g => g.ch == c.index with | some g => g.sg | none => 0xFF
    let pg := match d.groupOf c.index with | some g => g.pg | none => 0xFF
    (stOk, leBytes 8 d.fc ++ leBytes 1 x.kind ++ leBytes 1 x.clientType ++ leBytes 1 x.oduType ++ leBytes 1 x.mapping ++
      leBytes 2 x.tsCount ++ leBytes 1 (if x.kind = 2 then 0xFF else x.cp) ++
      leBytes 1 (b2n (x.kind != 2 && !d.inputFailed x.cp) + 2 * b2n (d.preempted x.ch 0) + 4 * b2n (d.preempted x.ch 1) +
        8 * b2n k.ramp + 16 * b2n (any (·.clampLast)) + 32 * b2n (any (·.slipLast)) + 64 * b2n k.blockLock +
        128 * b2n (x.kind == 1 && k.msim)) ++
      leBytes 1 (d.maintInForce x 0) ++ leBytes 1 (d.maintInForce x 1) ++
      leBytes 1 (b2n (k.maintTx.signal != 0) + 2 * b2n (k.maintRx.signal != 0)) ++ leBytes 1 sg ++ leBytes 1 pg ++ zeros 3 ++
      leBytes 4 k.txServer.last.toNat ++ leBytes 4 (k.rcvServer.getD 0) ++ leBytes 8 k.startFc)

/-- CH_STATUS (R169). -/
def execChStatus (core : Nat) (s : State) : Host.Outcome State Fault Refusal :=
  s.run fun d => d.serveRead core [0x0501] chStatus

/-- (integ / Cm_nom − 1) × 10^9, rounded toward zero (R172). -/
def Tracker.offsetPpb (t : Tracker) : Int :=
  let m : Int := (t.inDen * t.pden * t.word : Nat)
  let n : Int := (one24 * t.inNum * t.period : Nat)
  Int.tdiv ((t.integ * m - n) * 1_000_000_000) n

/-- CH_RATE_READ's response (R172). -/
def chRateRead (d : Dev) (c : Cmd) : Nat × List Byte :=
  let s := fallback 2 0 (c.field 0 1)
  let k := d.chan c.index
  let t := k.stage s
  if !t.run then (stOk, leBytes 8 d.fc ++ leBytes 1 s ++ zeros 51)
  else
    (stOk, leBytes 8 d.fc ++ leBytes 1 s ++ leBytes 1 (if t.clamped then 3 else if k.ramp && s = 0 then 2 else 1) ++ zeros 2 ++
      leBytes 4 (unsigned 4 t.last) ++ leBytes 4 t.lo ++ leBytes 4 t.hi ++ leBytes 8 (unsigned 8 t.integ) ++
      leBytes 4 (unsigned 4 t.acc) ++ leBytes 4 (unsigned 4 t.sampled) ++ leBytes 4 t.target ++
      leBytes 4 (unsigned 4 t.offsetPpb) ++ leBytes 4 t.slips ++ leBytes 4 t.clamps ++
      leBytes 4 (if t.idle then unsigned 4 t.carry else 0))

/-- CH_RATE_READ (R172). -/
def execChRateRead (core : Nat) (s : State) : Host.Outcome State Fault Refusal :=
  s.run fun d => d.serveRead core [0x0504] chRateRead

end Sys2Proof.Machine
end

