-- ==== Sys2Proof/Machine/Unchanged.lean ====
section
/-! DEFINITION. What a swap leaves unchanged: channels, protection groups, Spread groups, ports and client ports compared
between two images (R78, R165, R249). -/

namespace Sys2Proof.Machine

open Sys2Proof

/-- An image of nothing, for an empty bank. -/
def Image.empty : Image :=
  { gen := 0, baseGen := 0, imgCrc := 0, lpMask := 0, chMask := [], txFp := [], feFp := [], lcal := [], xcal := [], ptab := []
    sgmap := [], prt := [], pgs := [], cat := [], binds := [], ladr := [] }

/-- Slot entries of a channel: (port, direction, step, position, entry). -/
def Image.slotsOf (i : Image) (c : Nat) : List (Nat × Nat × Nat × Nat × Nat) :=
  i.lcal.flatMap fun r => r.entries.zipIdx.filterMap fun e =>
    if e.1 / 2 ^ 30 == 3 && e.1 % 256 == c then some (r.port, r.dir, r.step, e.2, e.1) else none

/-- XCAL entries of a channel. -/
def Image.xcalOf (i : Image) (c : Nat) : List XcalEnt := i.xcal.filter fun e => e.ch == c

/-- The Spread group and the protection group of a channel. -/
def Image.sgOf (i : Image) (c : Nat) : Option SgRec := i.sgmap.find? fun g => g.ch == c
def Image.pgOf (i : Image) (c : Nat) : Option PgRec := i.pgs.find? fun g => g.ch == c

/-- A channel is unchanged by a swap (R78). -/
def unchanged (old new : Image) (c : Nat) : Bool :=
  (old.desc c).isSome && old.desc c == new.desc c && old.slotsOf c == new.slotsOf c && old.xcalOf c == new.xcalOf c &&
    old.sgOf c == new.sgOf c && old.pgOf c == new.pgOf c

/-- ORD of a slot entry. -/
def ordOf (e : Nat) : Nat := e / 2 ^ 21 % 512

/-- `big` is `small` with slots of higher ORD added. -/
def grows (small big : List (Nat × Nat)) : Bool :=
  small.all (fun x => big.contains x) &&
    (big.filter fun x => !small.contains x).all fun x => small.all fun y => ordOf y.2 < ordOf x.2

/-- A channel's slots of one record. -/
def Image.recSlots (i : Image) (c p dir step : Nat) : List (Nat × Nat) :=
  (i.slotsOf c).filterMap fun s => if s.1 == p && s.2.1 == dir && s.2.2.1 == step then some s.2.2.2 else none

/-- The slot entries differ only as R165 allows: on each port they grow or shrink at the highest ORD. -/
def slotsResize (old new : Image) (c : Nat) : Bool :=
  (List.range 8).all fun p => [0, 1].all fun dir => (List.range 8).all fun step =>
    let a := old.recSlots c p dir step
    let b := new.recSlots c p dir step
    grows a b || grows b a

/-- A swap makes a resize change to a channel (R165). -/
def resizes (old new : Image) (c : Nat) : Bool :=
  match old.desc c, new.desc c with
  | some a, some b =>
    !unchanged old new c && a.kind == 2 && b.kind == 2 && a.oduType == 6 && b.oduType == 6 && 2 ≤ a.tsCount && 2 ≤ b.tsCount &&
      (old.sgOf c).isNone && (new.sgOf c).isNone && (old.pgOf c).isNone && (new.pgOf c).isNone &&
      { a with tsCount := 0, flexRate := 0, clientTab := none, serverTab := b.serverTab } ==
        { b with tsCount := 0, flexRate := 0, clientTab := none } && slotsResize old new c
  | _, _ => false

/-- A channel carries on across a swap. -/
def carriesOn (old new : Image) (c : Nat) : Bool := unchanged old new c || resizes old new c

/-- A protection group carries its state across a swap (R249). -/
def pgCarries (old new : Image) (g : Nat) : Bool :=
  match old.pgRec g, new.pgRec g with
  | some a, some b => a == b && unchanged old new a.ch
  | _, _ => false

/-- A client port goes on across a swap: it exists in both images, with the same lanes, KIND and client. -/
def clientCarries (old new : Image) (k : Nat) : Bool :=
  match old.clientDesc k, new.clientDesc k with
  | some a, some b => a.lanes == b.lanes && a.kind == b.kind && a.clientType == b.clientType
  | _, _ => false

/-- A Spread group goes on across a swap: its channel is unchanged (R78). -/
def sgCarries (old new : Image) (g : Nat) : Bool :=
  match old.sgRec g, new.sgRec g with
  | some a, some b => a == b && unchanged old new a.ch
  | _, _ => false

/-- An object goes on across a swap. -/
def objCarries (old new : Image) (o : Nat) : Bool :=
  let k := objIndex o
  match objType o with
  | 0x01 => carriesOn old new k
  | 0x02 => old.lit k && new.lit k
  | 0x03 => clientCarries old new k
  | 0x05 => sgCarries old new k
  | _ => pgCarries old new k

end Sys2Proof.Machine
end

