-- ==== Sys2Proof/Machine/Bank.lean ====
section
/-! DEFINITION. The bank in use on the receive side of a line port: received multiframes, generation marks, and the RX side of
channels that a port's switch restarts (R42, R80 to R83, R112). -/

namespace Sys2Proof.Machine

open Sys2Proof

/-! ### A port switches (R81, R83) -/

/-- A port's RX side has left image `a` for image `b`: the RX side of each channel it feeds and that `b` changes restarts. -/
def Dev.switchRx (d : Dev) (p : Nat) (a b : Option Image) : Dev :=
  match b with
  | none => d
  | some j =>
    let i := a.getD Image.empty
    (j.ptab.filter fun x => j.xcal.any fun e => e.ch == x.ch && e.dir == 1 && e.gs / 320 == p).foldl (fun d x =>
      if !(d.chan x.ch).run || unchanged i j x.ch || resizes i j x.ch then d else d.startRx x.ch x) d

/-- A received MF starts: arrival offset (R42; OFF_DELTA is 0 where no valid offset went before, DESIGN CHOICE, log 77);
without a running LCC the switch to the bank that a swap has made active in an earlier Beat (R83); the availability that
the MF which ends has signalled, compared with each step's (R112); and a request for the step that already stands ends
once it has been sent (R109; DEDUCED, log 78). -/
def Dev.rxMfStart (d : Dev) (p pos : Nat) (unavailable : List Nat) : Dev :=
  let x := d.port p
  let a := x.arrival
  let delta := if a.valid then offsetChange ((d.beat * 15_296 + pos : Nat) : Int) ((a.beats * 15_296 + a.bytes : Nat) : Int) else 0
  let shadow := x.rxShadow
  let stays := shadow && (x.lccRuns || d.sched.lastSwapFc == d.fc)
  let from' := d.rxImage p
  let x := { x with
    arrival := { valid := true, beats := d.beat, bytes := pos, delta := delta, measFc := d.fc }
    rxShadow := stays, rxAvail := some unavailable }
  let found := ((d.setPort p x).rxImage p).bind fun i => i.stepOf p unavailable
  let l := x.ladder
  let l := { l with
    rxMfCount := l.rxMfCount + max 1 ((d.fc - l.rxMfFc + 128) / 256), rxMfFc := d.fc
    reqOut := l.reqOut && !(l.reqStep == l.rxStep && l.rxAnn.isNone && l.reqStart + 256 ≤ d.fc) }
  let l := match found with
    | some k =>
      if k = l.rxStep then { l with matchRun := 0 }
      else if l.matchRun != 0 && l.matchStep = k then { l with matchRun := l.matchRun + 1 }
      else { l with matchStep := k, matchRun := 1 }
    | none => { l with matchRun := 0 }
  let d := d.setPort p { x with ladder := l }
  if (d.port p).rxShadow = shadow then d else d.switchRx p from' (d.rxImage p)

/-- RX_MF_START (R42). -/
def execRxMfStart (port pos : Nat) (unavailable : List Nat) (s : State) : Host.Outcome State Fault Refusal :=
  s.runIf (fun d => port < 8 && pos < 15_296 && (d.port port).enabled && (d.port port).mfAligned) fun d =>
    d.rxMfStart port pos unavailable

/-! ### Generation marks (R80, R81) -/

/-- The bank not in use on a port's receive side. -/
def Dev.otherImage (d : Dev) (p : Nat) : Option Image :=
  if (d.port p).rxShadow then d.bank (p / 2) else (d.sched.banks (p / 2)).2

/-- Whether a mark is that of an image that lights the port. -/
def markOf (i : Option Image) (p mark : Nat) : Bool :=
  match i with | some x => x.gen % 65_536 == mark && x.lit p | none => false

/-- A generation mark is read (R81). -/
def Dev.takeMark (d : Dev) (p mark : Nat) : Dev :=
  let x := d.port p
  let same := match d.rxImage p with | some i => i.gen % 65_536 == mark | none => false
  if same then (d.setPort p { x with rxMark := mark, calMismatch := false }).noteInput (objPort p) layOduc 11 false
  else if markOf (d.otherImage p) p mark then
    (((d.setPort p { x with rxMark := mark, calMismatch := false, rxShadow := !x.rxShadow }).switchRx p (d.rxImage p)
      (d.otherImage p)).noteInput (objPort p) layOduc 11 false).raise 0x0205 (objPort p) (leBytes 1 p ++ leBytes 2 mark)
  else
    let again := x.calMismatch && x.unknownMark = mark
    let d := (d.setPort p { x with rxMark := mark, calMismatch := true, unknownMark := mark }).noteInput (objPort p)
      layOduc 11 true
    if again then d else d.raise 0x0206 (objPort p) (leBytes 1 p ++ leBytes 2 mark)

/-- RX_GENERATION_MARK (R81): on an LCC-enabled port. -/
def execRxGenerationMark (port mark : Nat) (s : State) : Host.Outcome State Fault Refusal :=
  s.runIf (fun d => port < 8 && mark < 65_536 && (d.port port).mfAligned && (d.port port).lccRuns) fun d =>
    d.takeMark port mark


end Sys2Proof.Machine
end

