-- ==== Sys2Proof/Machine/Host.lean ====
section
/-! DEFINITION. The host attachment's mailboxes, registers and resets, and the system commands
(R314 to R334, R355 to R360). -/

namespace Sys2Proof.Machine

open Sys2Proof

/-! ### Doorbells and credits (R318, R319) -/

/-- Acknowledge the next `n` commands of a mailbox: copy each slot into the queue and advance CMD_ACK (R319). -/
def Dev.acknowledge (d : Dev) (bar1 : Memory) (mb : Nat) : Nat → Dev
  | 0 => d
  | n + 1 =>
    let m := d.mb mb
    let slot := bar1.readBytes (0x8000 * mb + 0x100 * (m.cmdAck % 64)) 256
    let d := { d with host := { d.host with queue := d.host.queue ++ [Cmd.ofSlot mb slot] } }
    Dev.acknowledge (d.setMb mb { m with cmdAck := (m.cmdAck + 1) % 2 ^ 16 }) bar1 mb n

/-- Announce the commands up to CMD_PROD, and acknowledge those the credits cover; the others wait and the overrun
counts (R319). -/
def Dev.doorbell (d : Dev) (bar1 : Memory) (mb : Nat) : Dev :=
  let m := { d.mb mb with announced := (d.mb mb).cmdProd }
  let d := d.setMb mb m
  let n := min m.unacked m.room
  let excess := m.unacked - n
  let d := d.acknowledge bar1 mb n
  if excess = 0 then d
  else (d.tick (0x41A0 + mb) 1).raise 0x1003 (objMailbox mb) (leBytes 1 mb ++ leBytes 4 excess)

/-- DOORBELL (R319). -/
def execDoorbell (mb : Nat) (s : State) : Host.Outcome State Fault Refusal :=
  s.runIf (fun d => mb < 8 && d.host.linkUp) fun d => d.doorbell s.bar1 mb

/-- The host advances RSP_CONS: beyond RSP_PROD it is taken as RSP_PROD (R318). Read responses leave the ring. -/
def Dev.consume (d : Dev) (mb value : Nat) : Dev :=
  let m := d.mb mb
  let unread := (m.rspProd + 2 ^ 16 - m.rspCons) % 2 ^ 16
  let adv := (value % 2 ^ 16 + 2 ^ 16 - m.rspCons) % 2 ^ 16
  let adv := if unread < adv then unread else adv
  d.setMb mb { m with rspCons := (m.rspCons + adv) % 2 ^ 16, unread := m.unread.drop adv }

/-- RSP_CONS_WRITE (R318). -/
def execRspConsWrite (mb value : Nat) (s : State) : Host.Outcome State Fault Refusal :=
  s.runIf (fun d => mb < 8 && d.host.linkUp) fun d => d.consume mb value

/-- ANNOUNCED_COMMAND_ACKNOWLEDGED (R319): the next announced command that waited for credits. -/
def execAnnouncedCommandAcknowledged (mb : Nat) (s : State) : Host.Outcome State Fault Refusal :=
  s.runIf (fun d => mb < 8 && (d.mb mb).unacked != 0 && (d.mb mb).room != 0) fun d => d.acknowledge s.bar1 mb 1

/-! ### Registers (R11, R316) -/

/-- FC_LO_READ (R316). -/
def execFcLoRead (s : State) : Host.Outcome State Fault Refusal :=
  s.runIf (fun d => d.host.linkUp) fun d =>
    { d with host := { d.host with fcHi := d.fc / 2 ^ 32 % 2 ^ 32, readData := leBytes 4 (d.fc % 2 ^ 32) } }

/-- Value of register 0x0034 (R316). -/
def Dev.lwfRegister (d : Dev) : Nat := d.host.lwf.length + 2 ^ 16 * d.host.lwfLost

/-- LWF_LOST_READ (R316): a read returns the count and clears it. -/
def execLwfLostRead (s : State) : Host.Outcome State Fault Refusal :=
  s.runIf (fun d => d.host.linkUp) fun d =>
    { d with host := { d.host with lwfLost := 0, readData := leBytes 4 d.lwfRegister } }

/-- LWF_POP (R316): a written 1 discards the oldest record. -/
def execLwfPop (value : Nat) (s : State) : Host.Outcome State Fault Refusal :=
  s.runIf (fun d => d.host.linkUp && bit value 0) fun d => { d with host := { d.host with lwf := d.host.lwf.drop 1 } }

/-- Value a 32-bit read of a BAR0 control register returns, with no side effect (R316). -/
def Dev.bar0 (d : Dev) (off : Nat) : Nat :=
  let l : Lwf := d.host.lwf.headD { addr := 0, master := 0, id := 0, win := 0, cause := 0, fc := 0 }
  match off with
  | 0x0000 => 0x00B1_0256
  | 0x0004 => if 2 ≤ d.pwr.fwState then 0x0100 else 0
  | 0x0008 => d.pwr.fwState + 8 * (d.pwr.coresUp % 16)
  | 0x0010 => d.fc % 2 ^ 32
  | 0x0014 => d.host.fcHi
  | 0x0020 => b2n d.host.alarmFatal + 2 * b2n d.host.alarmPair
  | 0x0030 => d.host.hwinFault
  | 0x0034 => d.lwfRegister
  | 0x0040 => l.addr % 2 ^ 32
  | 0x0044 => l.addr / 2 ^ 32 % 256 + 2 ^ 8 * l.master + 2 ^ 12 * l.id + 2 ^ 16 * l.win + 2 ^ 19 * l.cause
  | 0x0048 => l.fc % 2 ^ 32
  | 0x004C => l.fc / 2 ^ 32 % 2 ^ 32
  | 0x0300 => d.host.sinterWe
  | 0x7800 => d.host.pba
  | o =>
    if 0x0100 ≤ o && o < 0x0200 then
      let m := d.mb ((o - 0x0100) / 0x20)
      match (o - 0x0100) % 0x20 with
      | 0x00 => m.cmdProd
      | 0x08 => m.cmdAck
      | 0x0C => m.rspProd
      | 0x10 => m.rspCons
      | 0x14 => b2n m.irqEn
      | 0x18 => b2n (o < 0x0120) + 2 * b2n d.standbyOnly + 4 * b2n d.paused
      | _ => 0
    else if 0x0200 ≤ o && o < 0x0280 then
      let w : Window := Tab.get {} d.host.wins ((o - 0x0200) / 0x10)
      match (o - 0x0200) % 0x10 with
      | 0x0 => w.base % 2 ^ 32
      | 0x4 => w.base / 2 ^ 32
      | 0x8 => b2n w.enabled + 2 * b2n w.readOnly
      | _ => 0
    else if 0x7000 ≤ o && o < 0x7100 then
      d.host.entry ((o - 0x7000) / 0x10) / 2 ^ (8 * ((o - 0x7000) % 0x10)) % 2 ^ 32
    else 0

/-- Write one 32-bit word of an MSI-X table entry; a pending message is sent when the mask clears (R331). -/
def HostIf.writeEntry (h : HostIf) (v k value : Nat) : HostIf :=
  let old := h.entry v
  let e := old - (old / 2 ^ (32 * k) % 2 ^ 32) * 2 ^ (32 * k) + (value % 2 ^ 32) * 2 ^ (32 * k)
  let h := { h with msix := Tab.set h.msix v e }
  if !bit e 96 && bit h.pba v then { h with pba := setBit h.pba v false }.vector v else h

/-- A 32-bit write of a BAR0 control register that has no row of its own, under its access code (R11, R316). -/
def Dev.writeBar0 (d : Dev) (off value : Nat) : Dev :=
  let h := d.host
  if off = 0x0020 then
    { d with host := { h with alarmFatal := h.alarmFatal && !bit value 0, alarmPair := h.alarmPair && !bit value 1 } }
  else if off = 0x0030 then { d with host := { h with hwinFault := h.hwinFault - andBits 8 h.hwinFault value } }
  else if off = 0x0300 then { d with host := { h with sinterWe := value % 2 ^ 16 } }
  else if 0x0100 ≤ off && off < 0x0200 then
    let n := (off - 0x0100) / 0x20
    match (off - 0x0100) % 0x20 with
    | 0x00 => d.setMb n { d.mb n with cmdProd := value % 2 ^ 16 }
    | 0x14 => d.setMb n { d.mb n with irqEn := bit value 0 }
    | _ => d
  else if 0x7000 ≤ off && off < 0x7100 then
    { d with host := h.writeEntry ((off - 0x7000) / 0x10) ((off - 0x7000) % 0x10 / 4) value }
  else d

/-- REGISTER_WRITE (R11, R12, R316, R317). -/
def execRegisterWrite (w : RegWrite) (s : State) : Host.Outcome State Fault Refusal :=
  match w with
  | .bar0 off width value =>
    if 0x1_0000 ≤ off then .fault .outsideBar
    else s.runIf (fun d => d.host.linkUp && off < 0x8000) fun d =>
      if width = 4 && off % 4 = 0 then d.writeBar0 off value else d.tick 0x4187 1
  | .bar1 off bytes =>
    if 0x4_0000 < off + bytes.length then .fault .outsideBar
    else s.runMem fun s => if s.dev.host.linkUp then { s with bar1 := s.bar1.writeBytes off bytes } else s
  | .busMaster on => s.runIf (fun d => d.host.linkUp) fun d => { d with host := { d.host with busMaster := on } }

/-! ### Resets of the endpoint (R315) -/

/-- Configuration space and the host-interface registers at their reset values; windows disabled; pending bits and
announced commands discarded. Ring indices and acknowledged commands stay. -/
def Dev.endpointReset (d : Dev) : Dev :=
  { d with host := { d.host with
    mbs := d.host.mbs.map fun p =>
      (p.1, { p.2 with cmdProd := p.2.cmdAck, announced := p.2.cmdAck, irqEn := false })
    wins := [], lwf := [], lwfLost := 0, hwinFault := 0, fcHi := 0, msix := [], pba := 0, sinterWe := 0
    busMaster := false } }

/-- PERST_N_ASSERTED (R315, R416). -/
def execPerstNAsserted (s : State) : Host.Outcome State Fault Refusal :=
  s.run fun d =>
    let d := d.endpointReset
    let x := d.domain domPcie
    if x.state = .off then
      d.setDomain domPcie { x with state := .rising, risingMfn := d.mfn, switches := satAdd max32 x.switches 1
                                   lastFc := d.fc }
    else d

/-- PCIE_LINK_CHANGE (R315): down, up, or a hot reset. -/
def execPcieLinkChange (up hot : Bool) (width speed : Nat) (s : State) : Host.Outcome State Fault Refusal :=
  s.run fun d =>
    let d := if hot || !up then d.endpointReset else d
    let d := if hot then d.raise 0x1005 0 (leBytes 1 1) else d
    if up = d.host.linkUp && width = d.host.linkWidth && speed = d.host.linkSpeed then d
    else
      { d with host := { d.host with linkUp := up && d.domOn domPcie, linkWidth := width, linkSpeed := speed } }.raise
        0x1004 0 (leBytes 1 (b2n up) ++ leBytes 1 width ++ leBytes 1 speed)

/-- PCIE_FLR (R315). -/
def execPcieFlr (s : State) : Host.Outcome State Fault Refusal :=
  s.run fun d => d.endpointReset.raise 0x1005 0 (leBytes 1 0)

/-! ### Late write faults (R330) -/

/-- Record a late write fault; a command whose fence read finds it ends WRITE_FAULT. -/
def Dev.lateWrite (d : Dev) (master id addr win cause : Nat) : Dev :=
  let h := d.host
  let h := if h.lwf.length < 16
    then { h with lwf := h.lwf ++ [{ addr, master, id, win := if master = 7 then win else 0, cause, fc := d.fc }] }
    else { h with lwfLost := satAdd 0xFFFF h.lwfLost 1 }
  let h := { h with lwfTotal := satAdd max32 h.lwfTotal 1
                    hwinFault := if master = 7 then setBit h.hwinFault win true else h.hwinFault }
  let d := ({ d with host := h }.tick (0x4190 + master) 1).raise 0x1002 0
    (leBytes 1 master ++ leBytes 1 id ++ leBytes 5 addr ++ leBytes 1 cause)
  if 2 ≤ master && master ≤ 5 then
    match d.host.waiting.find? fun w => w.core == some (master - 2) with
    | some w => d.finish w stWriteFault []
    | none => d
  else d

/-- LATE_WRITE_FAULT (R330). -/
def execLateWriteFault (master id addr win cause : Nat) (s : State) : Host.Outcome State Fault Refusal :=
  s.runIf (fun _ => master < 9 && id < 16 && win < 8 && 1 ≤ cause && cause ≤ 5) fun d =>
    d.lateWrite master id addr win cause

/-! ### Reads of the command interface (R355, R356, R358) -/

/-- SYS_IDENTIFY's response (R355). -/
def sysIdentify (d : Dev) (c : Cmd) : Nat × List Byte :=
  let v := match d.pwr.running with | some i => i.version | none => 0
  let g := match d.pwr.running with | some i => i.digest | none => 0
  (stOk, leBytes 2 0x0256 ++ leBytes 1 0xB1 ++ leBytes 1 0 ++ leBytes 1 1 ++ leBytes 1 0 ++ leBytes 2 0 ++ leBytes 4 v ++
    leBytes 1 d.pwr.fwSource ++ leBytes 1 c.mb ++ leBytes 1 (b2n (c.mb == 0)) ++ leBytes 1 d.pair.index ++
    leBytes 8 Config.unitId.toNat ++ leBytes 4 g ++ leBytes 4 0)

/-- Code of an anchor state (R51). -/
def AnchorMode.code : AnchorMode → Nat
  | .free => 0 | .acquire => 1 | .slew => 2 | .locked => 3 | .holdover => 4

/-- DEVICE response of SYS_STATUS (R356). -/
def sysDevice (d : Dev) (c : Cmd) : List Byte :=
  leBytes 8 d.fc ++ leBytes 1 d.pwr.fwState ++ leBytes 1 d.pwr.coresUp ++ leBytes 1 d.pair.role.code ++
    leBytes 1 d.anchor.mode.code ++ leBytes 4 d.activeGen ++ leBytes 4 d.shadowGen ++ leBytes 1 d.dieHealth ++
    leBytes 1 d.fieldLock ++ leBytes 2 d.timedWaiting.length ++ leBytes 4 (d.log.seq + 2 ^ 32 - 1) ++
    leBytes 4 d.host.lwfTotal ++ leBytes 4 d.host.decodeErrors ++ leBytes 1 (d.mb c.mb).free ++
    leBytes 1 (d.mb c.mb).grants.length ++ leBytes 2 0

/-- SYS_ECHO's response (R358). -/
def sysEcho (_ : Dev) (c : Cmd) : Nat × List Byte := (stOk, c.payload)

/-- SYS_IDENTIFY (R355). -/
def execSysIdentify (core : Nat) (s : State) : Host.Outcome State Fault Refusal :=
  s.run fun d => d.serveRead core [0x0001] sysIdentify

/-- SYS_ECHO (R358). -/
def execSysEcho (core : Nat) (s : State) : Host.Outcome State Fault Refusal :=
  s.run fun d => d.serveRead core [0x0004] sysEcho

/-! ### SYS_CANCEL (R324, R357) -/

/-- A waiting command is taken: it is untimed, or armed at Beat 252 of the MF before its target (R324); a SCHED_SWAP is
taken then in any case (R77). -/
def Dev.taken (d : Dev) (w : Waiting) : Bool :=
  match (if w.cmd.opcode = 0x0203 then d.sched.swap.map (·.target) else w.target) with
  | none => true
  | some t => fcOf t ≤ d.fc + 4

/-- SYS_CANCEL's response. -/
def cancelResponse (op outcome target : Nat) : List Byte :=
  leBytes 2 op ++ leBytes 1 outcome ++ leBytes 1 0 ++ leBytes 4 target

/-- Withdraw a command: before it is taken it ends CANCELLED and the cancel ends OK; after, TOO_LATE (R324, R357). -/
def Dev.cancel (d : Dev) (c : Cmd) : Dev :=
  let mb := c.index
  let seq := c.field 0 2
  if mb = c.mb && seq = c.seq then d.answer c stConstraint []
  else match d.host.queue.find? fun q => q.mb == mb && q.seq == seq with
  | some q => ((d.unqueue q).answer q stCancelled []).answer c stOk (cancelResponse q.opcode 0 0)
  | none =>
    match d.host.waiting.find? fun w => w.cmd.mb == mb && w.cmd.seq == seq && !w.fromTwin with
    | some w =>
      let t := w.target.getD 0 % 2 ^ 32
      if d.taken w then d.answer c stTooLate (cancelResponse w.cmd.opcode 1 t)
      else
        let d := (d.unhold w.order).answer w.cmd stCancelled []
        let d := { d with
          pair := { d.pair with
            unacked := d.pair.unacked.filter fun e => !(e.mb == mb && e.seq == seq)
            cancelTx := d.pair.cancelTx ++ w.mirror.toList
            handover := if w.cmd.opcode = 0x0904 || w.cmd.opcode = 0x0905 then none else d.pair.handover }
          sched := if w.cmd.opcode = 0x0203 then { d.sched with swap := none } else d.sched
          pwr := if w.cmd.opcode = 0x0011 || w.cmd.opcode = 0x0012 then { d.pwr with activation := none } else d.pwr }
        d.answer c stOk (cancelResponse w.cmd.opcode 0 t)
    | none =>
      match (d.mb mb).unread.find? fun u => u.1 == seq with
      | some (_, op, t) => d.answer c stTooLate (cancelResponse op 1 t)
      | none => d.answer c stNoObject []

/-- SYS_CANCEL (R357). -/
def execSysCancel (core : Nat) (s : State) : Host.Outcome State Fault Refusal :=
  s.run fun d => d.serve core [0x0003] (fun _ _ => none) fun e _ c => e.cancel c

/-! ### SYS_MBX_GRANT (R359) -/

/-- The entry a SYS_MBX_GRANT names, clamped to its type's range. -/
def grantOf (c : Cmd) : Grant :=
  let n := indexCount (c.field 2 1) - 1
  { type := c.field 2 1, first := clamp 0 n (c.field 4 3), last := clamp 0 n (c.field 7 3) }

/-- OP of SYS_MBX_GRANT, after its fallback. -/
def grantOp (c : Cmd) : Nat := fallback 3 0 (c.field 0 1)

/-- Checks 9 and 10 of SYS_MBX_GRANT. -/
def checkSysMbxGrant (d : Dev) (c : Cmd) : Check :=
  let op := grantOp c
  let g := grantOf c
  firstRefusal
    [refuseIf ((op == 1 || op == 2) && 0x0F ≤ c.field 2 1) stNoObject,
     refuseIf (op == 1 && !(d.mb c.index).grants.contains g && 32 ≤ (d.mb c.index).grants.length && c.index != 0
       && g.first ≤ g.last) stNoResource,
     refuseIf (c.index == 0) stConstraint,
     refuseIf ((op == 1 || op == 2) && g.last < g.first) stConstraint]

/-- Bytes of a listed grant entry. -/
def Grant.bytes (g : Grant) : List Byte := leBytes 1 g.type ++ leBytes 1 0 ++ leBytes 3 g.first ++ leBytes 3 g.last

/-- The list a SYS_MBX_GRANT returns: at most 26 entries from START. -/
def grantList (l : List Grant) (start : Nat) : List Byte :=
  let shown := (l.drop start).take 26
  leBytes 1 l.length ++ leBytes 1 start ++ leBytes 1 shown.length ++ zeros 5 ++ (shown.map Grant.bytes).flatten

/-- Effect of SYS_MBX_GRANT. -/
def applySysMbxGrant (d : Dev) (c : Cmd) : Applied :=
  recheck d (checkSysMbxGrant d c) fun d =>
    let g := grantOf c
    let l := (d.mb c.index).grants
    let l' := match grantOp c with
      | 1 => if l.contains g then l else l ++ [g]
      | 2 => l.erase g
      | 3 => []
      | _ => l
    let d := d.setMb c.index { d.mb c.index with grants := l' }
    let d := if l' = l then d
      else d.raise 0x0002 (objMailbox c.index)
        (leBytes 1 c.index ++ leBytes 1 (grantOp c) ++ leBytes 1 g.type ++ leBytes 3 g.first ++ leBytes 3 g.last)
    (d, stOk, grantList l' (clamp 0 31 (c.field 1 1)))

/-- SYS_MBX_GRANT (R359). -/
def execSysMbxGrant (core : Nat) (s : State) : Host.Outcome State Fault Refusal :=
  s.run fun d => d.serveChange core 0x0005 checkSysMbxGrant

/-! ### SYS_WINDOW_SET (R360) -/

/-- The window a SYS_WINDOW_SET writes: BASE clamped, bits [19:0] ignored. -/
def windowOf (c : Cmd) : Window :=
  let b := clamp 0 0xFF_E000_0000 (c.field 8 8)
  { base := b - b % 2 ^ 20, enabled := bit (c.field 1 1) 0, readOnly := bit (c.field 1 1) 1 }

/-- Parameter block of a window (R350, R360). -/
def windowBytes (w : Nat) (x : Window) : List Byte :=
  leBytes 1 w ++ leBytes 1 (b2n x.enabled + 2 * b2n x.readOnly) ++ zeros 6 ++ leBytes 8 x.base

/-- SYS_WINDOW_SET takes effect in the Beat in which it executes (R360). -/
def Dev.setWindow (d : Dev) (c : Cmd) : Dev :=
  let w := c.field 0 1
  let x := windowOf c
  let d := { d with host := { d.host with wins := Tab.set d.host.wins w x } }
  (d.raise 0x0003 0 (leBytes 1 w ++ leBytes 1 (b2n x.enabled + 2 * b2n x.readOnly) ++ leBytes 8 x.base)).answer c stOk
    (windowBytes w x)

/-- SYS_WINDOW_SET (R360). -/
def execSysWindowSet (core : Nat) (s : State) : Host.Outcome State Fault Refusal :=
  s.run fun d => d.serve core [0x0006] (fun _ c => refuseIf (8 ≤ c.field 0 1) stNoObject) fun e _ c => e.setWindow c

/-! ### Cores (R323, R416) -/

/-- A core restarts: the command it was executing returns to the head of its class (R323, R416). -/
def Dev.restartCore (d : Dev) (core cause : Nat) : Dev :=
  let d := match d.host.waiting.find? fun w => w.core == some core with
    | some w =>
      let d := d.unhold w.order
      { d with host := { d.host with queue := w.cmd :: d.host.queue } }
    | none => d
  let trips := match d.pwr.trial with | some (m, n, k, b) => some (m, n, k + 1, b) | none => none
  { d with pwr := { d.pwr with trial := trips } }.raise 0x0014 0 (leBytes 1 core ++ leBytes 1 cause)

/-- CORE_WATCHDOG_EXPIRY (R416). -/
def execCoreWatchdogExpiry (core : Nat) (s : State) : Host.Outcome State Fault Refusal :=
  s.runIf (fun d => core < 4 && bit d.pwr.coresUp core && d.pwr.fwState == 2) fun d => d.restartCore core 0

end Sys2Proof.Machine
end

