-- ==== Sys2Proof/Machine/Counter.lean ====
section
/-! DEFINITION. Counter cells, bus-matrix filters and Geyser (R379 to R384, R389 to R397). -/

namespace Sys2Proof.Machine

open Sys2Proof

/-! ### Cells (R382, R392, R393) -/

/-- CNT_READ's response (R392). -/
def cntRead (d : Dev) (c : Cmd) : Nat × List Byte :=
  let n := min (clamp 1 48 (c.field 0 1)) (24576 - c.index)
  let cs := (List.range n).map fun i => c.index + i
  (stOk, leBytes 8 d.fc ++ leBytes 1 n ++ zeros 3 ++ leBytes 8 (bitsOf (cs.map d.cnt.chained)) ++
    (cs.map fun k => leBytes 4 (Tab.get 0 d.cnt.cells k)).flatten)

/-- CNT_READ (R392). -/
def execCntRead (core : Nat) (s : State) : Host.Outcome State Fault Refusal :=
  s.run fun d => d.serveRead core [0x0C01] cntRead

/-- An odd cell gives CONSTRAINT (R393). -/
def checkCntChainSet (_ : Dev) (c : Cmd) : Check := refuseIf (c.index % 2 == 1) stConstraint

/-- Make a pair chained, unchained or as after reset (R393). -/
def Counters.setChain (n : Counters) (pair mode : Nat) : Counters :=
  let dflt := chainedAtReset (2 * pair)
  let want := match mode with | 0 => false | 1 => true | _ => dflt
  let rest := n.flipped.filter fun p => p != pair
  { n with flipped := if want = dflt then rest else insertBy id pair rest }

/-- Effect of CNT_CHAIN_SET: both cells keep their values (R382, R393). -/
def applyCntChainSet (d : Dev) (c : Cmd) : Applied :=
  let first := c.index / 2
  let n := min (clamp 1 4096 (c.field 2 2)) (12288 - first)
  let mode := fallback 2 2 (c.field 0 1)
  let x := (List.range n).foldl (fun x i => x.setChain (first + i) mode) d.cnt
  okWith { d with cnt := { x with chainSeq := (x.chainSeq + 1) % 2 ^ 32 } }

/-- Readback of CNT_CHAIN_SET: PAIRS 1, MODE the state of the object's pair (R393). -/
def cntChainBlock (d : Dev) (cell : Nat) : List Byte :=
  leBytes 1 (b2n (d.cnt.chained cell)) ++ leBytes 1 0 ++ leBytes 2 1 ++ leBytes 4 0

/-- CNT_CHAIN_SET (R393). -/
def execCntChainSet (core : Nat) (s : State) : Host.Outcome State Fault Refusal :=
  s.run fun d => d.serveChange core 0x0C02 checkCntChainSet

/-! ### Filters (R383, R394) -/

/-- The filter a CNT_FILTER_SET writes. -/
def filterOf (c : Cmd) : Filter :=
  { masters := c.field 0 2 % 512, priv := fallback 2 0 (c.field 2 1), classes := c.field 3 1 % 16
    base := clamp 0 0xFF_FFFF_FFFF (c.field 8 8), limit := clamp 0 0xFF_FFFF_FFFF (c.field 16 8) }

/-- Whether a cell is the first of a filter. -/
def filterCell (k : Nat) : Bool := 0x4100 ≤ k && k < 0x4180 && k % 4 == 0

/-- Checks of CNT_FILTER_SET. -/
def checkCntFilterSet (_ : Dev) (c : Cmd) : Check :=
  refuseIf (!filterCell c.index || (filterOf c).limit < (filterOf c).base) stConstraint

/-- Effect of CNT_FILTER_SET. -/
def applyCntFilterSet (d : Dev) (c : Cmd) : Applied :=
  okWith { d with cnt := { d.cnt with filters := Tab.set d.cnt.filters ((c.index - 0x4100) / 4) (filterOf c) } }

/-- Parameter block of a filter. -/
def filterBlock (f : Filter) : List Byte :=
  leBytes 2 f.masters ++ leBytes 1 f.priv ++ leBytes 1 f.classes ++ leBytes 4 0 ++ leBytes 8 f.base ++ leBytes 8 f.limit

/-- CNT_FILTER_SET (R394). -/
def execCntFilterSet (core : Nat) (s : State) : Host.Outcome State Fault Refusal :=
  s.run fun d => d.serveChange core 0x0C03 checkCntFilterSet

/-- A transaction matches a filter (R383). Class: 0 read, 1 write, 2 posted slice write, 3 decode error. -/
def Filter.takes (f : Filter) (master : Nat) (delegated : Bool) (cls addr : Nat) : Bool :=
  bit f.masters master && (f.priv == 0 || (f.priv == 1 && !delegated) || (f.priv == 2 && delegated)) &&
    bit f.classes cls && f.base ≤ addr && addr ≤ f.limit

/-- A transaction ends: every matching filter counts it and its bytes in units of 32 (R383). -/
def Dev.transaction (d : Dev) (master : Nat) (delegated : Bool) (cls addr len : Nat) : Dev :=
  d.cnt.filters.foldl (fun d f =>
    if f.2.takes master delegated cls addr then
      (d.tick (0x4100 + 4 * f.1) 1).tick (0x4100 + 4 * f.1 + 2) ((len + 31) / 32)
    else d) d

/-! ### Geyser (R389 to R391) -/

/-- First cell and number of cells of a bank (R379). -/
def bankRange : Nat → Nat × Nat
  | 0 => (0x0000, 0x2000) | 1 => (0x2000, 0x800) | 2 => (0x2800, 0x800) | 3 => (0x3000, 0x1100)
  | 4 => (0x4100, 0x100) | 5 => (0x4200, 0x200) | _ => (0x4400, 0x1C00)

/-- Banks of a mask, in ascending code. -/
def banksOf (mask : Nat) : List Nat := (List.range 7).filter fun b => bit mask b

/-- Length of a dump (R390). -/
def dumpLength (mask : Nat) : Nat := 64 + 4 * sum ((banksOf mask).map fun b => (bankRange b).2)

/-- The cells of the banks of a mask. -/
def Counters.banks (n : Counters) (mask : Nat) : Tab Nat :=
  n.cells.filter fun c => (banksOf mask).any fun b => (bankRange b).1 ≤ c.1 && c.1 < (bankRange b).1 + (bankRange b).2

/-- At the end of Beat 255 a snapshot that falls due is latched, before any change at the MF boundary (R46, R389). -/
def Dev.latchCells (d : Dev) : Dev :=
  let n := d.cnt
  let x : Dump := { seq := 0, fc := d.fc, mask := n.bankMask, gen := d.activeGen, d := n.interval, chainSeq := n.chainSeq
                    cells := n.banks n.bankMask }
  { d with cnt := { n with latched :=
    if n.enabled && d.domOn domGeyser && n.slots != 0 && (d.mfn + 1) % n.interval == 0 then some x else none } }

/-- A snapshot has been latched at the end of the MF that closed (R389). -/
def Dev.snapshotDue (d : Dev) : Bool := d.cnt.latched.isSome && d.cnt.slots != 0

/-- Dumps that staging holds: 64, or one in the hub buffer while far deskew is unavailable (R391). -/
def Dev.stagingDumps (d : Dev) : Nat := if d.farState = 0 then 64 else 1

/-- Take a snapshot (R389, R391). -/
def Dev.snapshot (d : Dev) : Dev :=
  let n := d.cnt
  let seq := (n.dumpSeq + 1) % 2 ^ 32
  match n.latched with
  | none => d
  | some x =>
    if n.staged.length < d.stagingDumps then
      { d with cnt := { n with dumpSeq := seq, latched := none, staged := n.staged ++ [{ x with seq := seq }] } }.tick 0x5400 1
    else
      (({ d with cnt := { n with dumpSeq := seq, latched := none, missed := n.missed + 1 } }.tick 0x5400 1).tick
        0x5401 1).raise 0x0C01 0 (leBytes 4 seq ++ leBytes 1 0)

/-- GEYSER_SNAPSHOT (R389, R391). -/
def execGeyserSnapshot (s : State) : Host.Outcome State Fault Refusal := s.runIf Dev.snapshotDue Dev.snapshot

/-- Bytes of a dump (R390). -/
def dumpBytes (x : Dump) (pairIndex missed : Nat) : List Byte :=
  let body := ((banksOf x.mask).map fun b =>
    ((List.range (bankRange b).2).map fun i => leBytes 4 (Tab.get 0 x.cells ((bankRange b).1 + i))).flatten).flatten
  let head := [0x47#8, 0x59#8, 0x53#8, 0x52#8] ++ leBytes 2 1 ++ leBytes 1 x.mask ++ leBytes 1 pairIndex ++
    leBytes 4 x.seq ++ leBytes 4 (dumpLength x.mask) ++ leBytes 8 x.fc ++ leBytes 4 x.gen ++ leBytes 2 x.d ++
    leBytes 2 0 ++ leBytes 4 missed ++ leBytes 4 x.chainSeq ++ zeros 20
  head ++ leBytes 4 (crc32c (head ++ body)) ++ body

/-- Host address of the slot of a dump (R391). -/
def Counters.slotAddress (n : Counters) (seq : Nat) : Nat :=
  n.base + ((seq + 2 ^ 32 - n.firstSeq) % 2 ^ 32 % n.slots) * n.slotBytes

/-- Geyser can transfer (R314). -/
def Dev.dmaReady (d : Dev) : Bool := d.host.linkUp && d.host.busMaster

/-- GEYSER_DUMP_WRITTEN (R390, R391): the oldest staged dump stands whole in its slot, and vector 9 is raised. -/
def execGeyserDumpWritten (s : State) : Host.Outcome State Fault Refusal :=
  s.runIf (fun d => !d.cnt.staged.isEmpty && d.cnt.slots != 0 && d.dmaReady) fun d =>
    match d.cnt.staged with
    | [] => d
    | x :: t =>
      { d with cnt := { d.cnt with
        staged := t, missed := 0
        lastDump := some (d.cnt.slotAddress x.seq, dumpBytes x d.pair.index d.cnt.missed) } }.vector 9

/-- A dump's transfer fails (R391): its slot is left with MAGIC 0. -/
def Dev.dumpFails (d : Dev) : Dev :=
  match d.cnt.staged with
  | [] => d
  | x :: t =>
    let addr := d.cnt.slotAddress x.seq
    (({ d with cnt := { d.cnt with staged := t, missed := d.cnt.missed + 1, lastDump := some (addr, zeros 4) } }.tick
      0x5402 1).raise 0x0C01 0 (leBytes 4 x.seq ++ leBytes 1 1)).raise 0x1006 0
        (leBytes 1 6 ++ leBytes 2 0 ++ leBytes 8 addr)

/-! ### Geyser commands (R395, R396) -/

/-- A BANK_MASK whose dump exceeds SLOT_BYTES gives CONSTRAINT (R395). -/
def checkGeyserSet (d : Dev) (c : Cmd) : Check :=
  refuseIf (d.cnt.slots != 0 && d.cnt.slotBytes < dumpLength (c.field 1 1 % 128)) stConstraint

/-- Effect of GEYSER_SET. -/
def applyGeyserSet (d : Dev) (c : Cmd) : Applied :=
  recheck d (checkGeyserSet d c) fun d =>
    okWith { d with cnt := { d.cnt with
      enabled := match fallback 2 2 (c.field 0 1) with | 0 => false | 1 => true | _ => d.cnt.enabled
      bankMask := c.field 1 1 % 128, interval := clamp 1 65535 (c.field 2 2) } }

/-- Parameter block of GEYSER_SET. -/
def geyserBlock (n : Counters) : List Byte :=
  leBytes 1 (b2n n.enabled) ++ leBytes 1 n.bankMask ++ leBytes 2 n.interval ++ leBytes 4 0

/-- GEYSER_SET (R395). -/
def execGeyserSet (core : Nat) (s : State) : Host.Outcome State Fault Refusal :=
  s.run fun d => d.serveChange core 0x0C04 checkGeyserSet

/-- SLOT_BYTES and SLOTS as applied (R396). -/
def postSlotBytes (c : Cmd) : Nat := clamp 4096 1_048_576 (c.field 8 4 - c.field 8 4 % 4096)
def postSlots (c : Cmd) : Nat := if c.field 12 2 = 0 then 0 else clamp 2 4096 (c.field 12 2)

/-- A SLOT_BYTES below the current dump length gives CONSTRAINT (R396). -/
def checkGeyserPost (d : Dev) (c : Cmd) : Check :=
  refuseIf (postSlotBytes c < dumpLength d.cnt.bankMask) stConstraint

/-- Effect of GEYSER_POST: the next dump goes to slot 0 of the new ring. -/
def applyGeyserPost (d : Dev) (c : Cmd) : Applied :=
  recheck d (checkGeyserPost d c) fun d =>
    let first := match d.cnt.staged with | x :: _ => x.seq | [] => (d.cnt.dumpSeq + 1) % 2 ^ 32
    let d := { d with cnt := { d.cnt with
      base := c.field 0 8 - c.field 0 8 % 4096, slotBytes := postSlotBytes c, slots := postSlots c, firstSeq := first } }
    (d.raise 0x0C04 0 (leBytes 4 first ++ leBytes 2 (postSlots c)), stOk,
      leBytes 4 first ++ leBytes 4 (postSlotBytes c) ++ leBytes 2 (postSlots c) ++ zeros 6)

/-- GEYSER_POST (R396). -/
def execGeyserPost (core : Nat) (s : State) : Host.Outcome State Fault Refusal :=
  s.run fun d => d.serveChange core 0x0C05 checkGeyserPost

end Sys2Proof.Machine
end

