-- ==== Sys2Proof/Machine/Ladder.lean ====
section
/-! DEFINITION. Rate ladders: requests, announcements, step changes in both directions, and the ladder commands
(R103, R106 to R113, R118, R119, R79). -/

namespace Sys2Proof.Machine

open Sys2Proof

/-- A committed swap waits at this boundary: it goes before the ladder steps (R46, R79). -/
def Dev.swapDue (d : Dev) : Bool := match d.sched.swap with | some j => j.phase = 2 && j.target ≤ d.mfn | none => false

/-- Set a port's ladder. -/
def Dev.setLadder (d : Dev) (p : Nat) (l : Ladder) : Dev := d.setPort p { d.port p with ladder := l }

/-- The ladder of a port. -/
def Dev.ladder (d : Dev) (p : Nat) : Ladder := (d.port p).ladder

/-- Event 0x0309: reason 0 refused, 1 replaced, 2 timed out (DESIGN CHOICE, log 77: R121 gives no codes). -/
def Dev.reqEnded (d : Dev) (p step seq reason : Nat) : Dev :=
  d.raise 0x0309 (objPort p) (leBytes 1 p ++ leBytes 1 step ++ leBytes 1 seq ++ leBytes 1 reason)

/-! ### Requests to the far end (R108, R109) -/

/-- A request for a step is sent; it replaces an outstanding one (R109). -/
def Dev.sendRequest (d : Dev) (p step : Nat) : Dev :=
  let l := d.ladder p
  let d := if l.reqOut then d.reqEnded p l.reqStep l.reqSeq 1 else d
  let seq := (l.reqSeq + 1) % 256
  (d.setLadder p { l with reqOut := true, reqStep := step, reqSeq := seq, reqStart := d.fc }).raise 0x0308 (objPort p)
    (leBytes 1 p ++ leBytes 1 step ++ leBytes 1 seq)

/-- The step that LPx_STEP asks for: RX step + 1, limited to FLOOR and to STEPS − 1 (R108). -/
def Dev.pinStep (d : Dev) (p : Nat) : Nat :=
  min ((d.ladder p).rxStep + 1) (min (d.port p).attr.floor (d.steps p - 1))

/-- At least SETTLE_MF MF have passed since an MF. -/
def settled (last : Option Nat) (settle mfn : Nat) : Bool := match last with | some m => m + settle ≤ mfn | none => true

/-- A qualified assertion of LPx_STEP makes a request now (R108). -/
def Dev.pinAsks (d : Dev) (p : Nat) : Bool :=
  let x := d.port p
  x.lccRuns && x.attr.pin = 1 && 4 ≤ x.ladder.pinRun && x.ladder.rxStep < d.pinStep p && !x.ladder.reqOut &&
    settled x.ladder.lastRxMfn x.attr.settleMf d.mfn

/-- STEP_PIN_QUALIFIED (R108). -/
def execStepPinQualified (port : Nat) (s : State) : Host.Outcome State Fault Refusal :=
  s.runIf (fun d => port < 8 && d.pinAsks port) fun d => d.sendRequest port (d.pinStep port)

/-- LADDER_REQUEST_TIMEOUT (R109): 256 MF have passed. -/
def execLadderRequestTimeout (port : Nat) (s : State) : Host.Outcome State Fault Refusal :=
  s.runIf (fun d => port < 8 && (d.ladder port).reqOut && (d.ladder port).reqStart + 65_536 ≤ d.fc) fun d =>
    let l := d.ladder port
    (d.setLadder port { l with reqOut := false }).reqEnded port l.reqStep l.reqSeq 2

/-! ### TX step changes (R107, R110) -/

/-- A TX step change arises: it waits behind a running announcement, or is pending; a later change replaces it. A pending
change that a command back to the TX step in force replaces is dropped, and nothing is announced (DESIGN CHOICE, log 33). -/
def Dev.changeStep (d : Dev) (p step start : Nat) (far : Bool) (seq : Nat) : Dev :=
  let l := d.ladder p
  let c : StepChange := { step := step, start := start, fromFarEnd := far, reqSeq := seq }
  if l.announce.isSome then d.setLadder p { l with waitingChange := some c }
  else d.setLadder p { l with pendingChange := if step = l.txStep then none else some c }

/-- Step that a request is judged against: the one being announced, else the TX step (R107). -/
def Ladder.refStep (l : Ladder) : Nat := match l.announce with | some a => a.step | none => l.txStep

/-- The step that stands once what is announced and what waits behind it have been applied. -/
def Ladder.finalStep (l : Ladder) : Nat := match l.waitingChange with | some w => w.step | none => l.refStep

/-- A new far-end request (R107). One that comes in the Beat that took a command counts as taken before it: it is judged as
things stood then, and the command's step stands (R110). -/
def Dev.farRequest (d : Dev) (p step seq : Nat) : Dev :=
  let x := d.port p
  let l := { x.ladder with lastReqSeq := some seq }
  let d := d.setLadder p l
  let allowed := x.attr.accept = 2 || (x.attr.accept = 1 && l.refStep < step)
  let k := min step (min x.attr.floor (d.steps p - 1))
  let late := match l.cmdTaken with | some t => t.1 == d.fc | none => false
  let final := match l.cmdTaken with | some t => if t.1 = d.fc then t.2 else l.finalStep | none => l.finalStep
  if !allowed || k = final then d.reqEnded p step seq 0
  else if late then d
  else d.changeStep p k (if d.beat ≤ 251 then d.mfn + 1 else d.mfn + 2) true seq

/-- LCC_REQ_RECEIVED (R103, R107). -/
def execLccReqReceived (port word inverse : Nat) (s : State) : Host.Outcome State Fault Refusal :=
  s.runIf (fun d => port < 8 && word < 65_536 && (d.port port).mfAligned && (d.port port).lccRuns) fun d =>
    if word + inverse != 65_535 then d.tick (lineCell port + 133) 1
    else if bit word 12 && (d.ladder port).lastReqSeq != some (word % 256) then
      d.farRequest port (word / 8_192) (word % 256)
    else d

/-- LADDER_ANNOUNCE_START (R110): the first announced MF of the pending change begins. -/
def execLadderAnnounceStart (port : Nat) (s : State) : Host.Outcome State Fault Refusal :=
  s.runIf (fun d => port < 8 && d.beat == 0 && !d.swapDue && (d.ladder port).announce.isNone &&
      (match (d.ladder port).pendingChange with
       | some c => c.start ≤ d.mfn && settled (d.ladder port).lastTxMfn (d.port port).attr.settleMf d.mfn
       | none => false)) fun d =>
    let l := d.ladder port
    match l.pendingChange with
    | none => d
    | some c =>
      let seq := (l.annSeq + 1) % 256
      (d.setLadder port { l with pendingChange := none, annSeq := seq
                                 announce := some { step := c.step, start := d.mfn, seq := seq } }).raise
        0x0305 (objPort port) (leBytes 1 port ++ leBytes 1 c.step ++ leBytes 4 (d.mfn + 8))

/-- A step of this port is due: Beat 0 of MF a + 8 has come and the token of this Beat, which carries the step, has
reached the data path. A port whose token was missed stays at the step in force until the next Beat (R20, R21, R110). -/
def Dev.stepDue (d : Dev) (p : Nat) : Bool :=
  !(d.ladder p).tokenMissed && (match (d.ladder p).announce with | some a => a.start + 8 ≤ d.mfn | none => false)

/-- Some ladder step is due: it goes before timed commands and the PM second (R46). -/
def Dev.ladderDue (d : Dev) : Bool := (List.range 8).any d.stepDue

/-- LADDER_STEP_APPLY (R110): Beat 0 of MF a + 8. -/
def execLadderStepApply (port : Nat) (s : State) : Host.Outcome State Fault Refusal :=
  s.runIf (fun d => port < 8 && !d.swapDue && d.stepDue port) fun d =>
    let l := d.ladder port
    match l.announce with
    | none => d
    | some a =>
      let next := match l.waitingChange with
        | some w => if w.step = a.step then none else some w
        | none => none
      (d.setLadder port { l with txStep := a.step, lastTxMfn := some d.mfn, announce := none, waitingChange := none
                                 pendingChange := next }).raise
        0x0306 (objPort port) (leBytes 1 port ++ leBytes 1 l.txStep ++ leBytes 1 a.step)

/-- LPx_STEP_ACK in a Beat (R111). -/
def Ladder.ackPin (l : Ladder) (mfn beat : Nat) : Bool :=
  match l.announce with
  | some a =>
    mfn = a.start + 7 && (beat = 240 || 248 ≤ beat || ((beat = 241 || beat = 242) && bit a.step 2) ||
      ((beat = 243 || beat = 244) && bit a.step 1) || ((beat = 245 || beat = 246) && bit a.step 0))
  | none => false

/-! ### The RX step (R112) -/

/-- LCC_ANN_RECEIVED (R103, R112). -/
def execLccAnnReceived (port word inverse : Nat) (s : State) : Host.Outcome State Fault Refusal :=
  s.runIf (fun d => port < 8 && word < 65_536 && (d.port port).mfAligned && (d.port port).lccRuns) fun d =>
    if word + inverse != 65_535 then d.tick (lineCell port + 133) 1
    else if !bit word 12 then d
    else
      let step := word / 8_192
      let left := word / 256 % 16
      let top := match d.rxImage port with | some i => i.steps port | none => 1
      if left = 0 || 8 < left || top ≤ step then d.tick (lineCell port + 133) 1
      else
        let l := d.ladder port
        d.setLadder port { l with rxAnn := some (step, l.rxMfCount + left) }

/-- The RX step becomes `k`; a request for it is no longer outstanding (R109). -/
def Dev.setRxStep (d : Dev) (p k code : Nat) : Dev :=
  let l := d.ladder p
  if k = l.rxStep then d
  else
    ((d.setPort p { d.port p with rxAvail := none }).setLadder p { l with rxStep := k, lastRxMfn := some d.mfn, reqOut := l.reqOut && l.reqStep != k, matchRun := 0 }).raise
      code (objPort p) (leBytes 1 p ++ leBytes 1 l.rxStep ++ leBytes 1 k)

/-- RX_STEP_APPLY (R112): the first received frame of the far-end step MF; where that MF's start was not received, the Beat
after it was due. -/
def execRxStepApply (port : Nat) (s : State) : Host.Outcome State Fault Refusal :=
  s.runIf (fun d => port < 8 && (match (d.ladder port).rxAnn with
      | some a => a.2 ≤ (d.ladder port).rxMfCount || (d.ladder port).annDue a.2 < d.fc | none => false)) fun d =>
    match (d.ladder port).rxAnn with
    | some a => (d.setLadder port { d.ladder port with rxAnn := none }).setRxStep port a.1 0x0307
    | none => d

/-- RX_STEP_RESYNC (R112): the availability has matched one other step in 2 consecutive MF. -/
def execRxStepResync (port : Nat) (s : State) : Host.Outcome State Fault Refusal :=
  s.runIf (fun d => port < 8 && 2 ≤ (d.ladder port).matchRun) fun d =>
    d.setRxStep port (d.ladder port).matchStep 0x030A

/-! ### LP_LADDER_POLICY (R118) -/

/-- Attributes that an LP_LADDER_POLICY writes. -/
def policyAttr (a : LpAttr) (c : Cmd) : LpAttr :=
  { a with accept := fallback 2 1 (c.field 0 1), pin := fallback 1 1 (c.field 1 1), floor := clamp 0 7 (c.field 2 1)
           settleMf := clamp 8 65_535 (c.field 4 2) }

/-- Effect of LP_LADDER_POLICY. -/
def applyLpLadderPolicy (d : Dev) (c : Cmd) : Applied :=
  okWith (d.setPort c.index { d.port c.index with attr := policyAttr (d.port c.index).attr c })

/-- Parameter block of LP_LADDER_POLICY. -/
def policyBlock (a : LpAttr) : List Byte :=
  leBytes 1 a.accept ++ leBytes 1 a.pin ++ leBytes 1 a.floor ++ leBytes 1 0 ++ leBytes 2 a.settleMf ++ zeros 2

/-- LP_LADDER_POLICY (R118). -/
def execLpLadderPolicy (core : Nat) (s : State) : Host.Outcome State Fault Refusal :=
  s.run fun d => d.serveChange core 0x0304 fun _ _ => none

/-! ### LP_LADDER_STEP (R119) -/

/-- The LCC must run. -/
def checkLpLadderStep (d : Dev) (c : Cmd) : Check := refuseIf (!(d.port c.index).lccRuns) stConstraint

/-- Effect of LP_LADDER_STEP. -/
def applyLpLadderStep (d : Dev) (c : Cmd) : Applied :=
  recheck d (checkLpLadderStep d c) fun d =>
    let p := c.index
    let l := d.ladder p
    let k := clamp 0 (d.steps p - 1) (c.field 1 1)
    if c.field 0 1 = 1 then
      okWith (if k = l.rxStep && !l.reqOut && l.rxAnn.isNone then d else d.sendRequest p k)
    else if k = l.txStep && l.announce.isNone && l.pendingChange.isNone && l.waitingChange.isNone then okWith d
    else
      let d := d.setLadder p { l with cmdTaken := some (d.fc, l.finalStep) }
      okWith (d.changeStep p k (if d.beat = 0 then d.mfn else d.mfn + 1) false 0)

/-- LP_LADDER_STEP (R119). -/
def execLpLadderStep (core : Nat) (s : State) : Host.Outcome State Fault Refusal :=
  s.run fun d => d.serveChange core 0x0305 checkLpLadderStep

/-! ### Across a swap (R79, R106) -/

/-- Clamp a change to the new image's steps at Beat 0 of the swap MF: a far-end request also to FLOOR; what the clamp
leaves equal to `ref` is dropped, a far-end request as refused. -/
def Dev.clampChange (d : Dev) (p ref : Nat) (c : StepChange) : Dev × Option StepChange :=
  let top := d.steps p - 1
  let k := min c.step (if c.fromFarEnd then min top (d.port p).attr.floor else top)
  if k = ref then (if c.fromFarEnd then d.reqEnded p c.step c.reqSeq 0 else d, none)
  else (d, some { c with step := k })

/-- Ladder changes that wait are brought to the new image. -/
def Dev.clampLadder (d : Dev) (p : Nat) : Dev :=
  let l := d.ladder p
  let (d, pend) := match l.pendingChange with | some c => d.clampChange p l.txStep c | none => (d, none)
  let (d, wait) := match l.waitingChange with | some c => d.clampChange p l.refStep c | none => (d, none)
  d.setLadder p { d.ladder p with pendingChange := pend, waitingChange := wait }

/-- A port made lit by a swap starts at step 0 in both directions (R106). -/
def Dev.resetLadder (d : Dev) (p : Nat) : Dev := 
  d.setLadder p { annSeq := (d.ladder p).annSeq, reqSeq := (d.ladder p).reqSeq, reqStep := (d.ladder p).reqStep
                  rxMfFc := d.fc }

end Sys2Proof.Machine
end

