-- ==== Sys2Proof/Machine/Power.lean ====
section
/-! DEFINITION. Rails, resets, power domains, reference clocks and Dormant (R413 to R416, R429 to R438). -/

namespace Sys2Proof.Machine

open Sys2Proof

/-! ### Resets (R416) -/

/-- Everything volatile at its reset value; Sinter's words, the flash, the inputs of the balls and the rail-fault
latch stay (R416). Sinter writes that have not committed are lost (R369). -/
def Dev.cold (d : Dev) (mode : PowerMode) : Dev :=
  let base : Dev := {}
  { base with
    sinter := { cells := d.sinter.cells, spares := d.sinter.spares }
    sched := { base.sched with slotA := d.sched.slotA, slotB := d.sched.slotB }
    pwr := { base.pwr with
      mode := mode, order := d.pwr.order, enables := d.pwr.enables, rails := d.pwr.rails, bankA := d.pwr.bankA
      bankB := d.pwr.bankB, refA := d.pwr.refA, refB := d.pwr.refB, refBSel := !d.pwr.refA && d.pwr.refB
      faultOrder := d.pwr.faultOrder, wakeBy := d.pwr.wakeBy }
    pair := { base.pair with aliveIn := d.pair.aliveIn }
    free := d.free }

/-- The pair outputs of a device that claims nothing (R258). -/
def Dev.dropOutputs (d : Dev) : Dev :=
  { d with pair := { d.pair with selLp := 0, aliveOut := false, selbusHeld := true, selbus := [] } }

/-! ### Rails (R413 to R415) -/

/-- The up-sequence starts: PWR_EN0 high, waiting for the rail of order 1 (R414). -/
def Dev.startUp (d : Dev) : Dev :=
  { d with pwr := { d.pwr with mode := .upSeq, order := 1, enables := 1, rails := 0 } }

/-- The down-sequence starts: PWR_EN7 and PWR_EN6 low, waiting for the rail of order 7 (R414). -/
def Dev.startDown (d : Dev) : Dev :=
  { d with pwr := { d.pwr with mode := .downSeq, order := 7, enables := d.pwr.enables % 64 } }

/-- VAON_APPLIED (R414). -/
def execVaonApplied (s : State) : Host.Outcome State Fault Refusal :=
  s.supply fun d => if d.pwr.mode = .unpowered then (d.cold .unpowered).startUp else d

/-- A rail fault (R415). -/
def Dev.railFault (d : Dev) (order : Nat) : Dev :=
  let d := d.dropOutputs
  { d with pwr := { d.pwr with faultOrder := order } }.startDown

/-- The rail that the sequence waits for reaches its threshold, or its time ends (R414, R415). -/
def Dev.railReached (d : Dev) (ok : Bool) : Dev :=
  let k := d.pwr.order
  match d.pwr.mode with
  | .upSeq =>
    if !ok then d.railFault k
    else
      let r := setBit d.pwr.rails (k - 1) true
      let e := setBit d.pwr.enables k true
      if 7 ≤ k then { d with pwr := { d.pwr with mode := .booting, order := 8, enables := e, rails := r } }
      else { d with pwr := { d.pwr with order := k + 1, enables := e, rails := r } }
  | .downSeq =>
    let r := setBit d.pwr.rails (k - 1) false
    if k ≤ 1 then
      if d.pwr.faultOrder != 0 then { d with pwr := { d.pwr with mode := .faultWait, order := 0, enables := 0, rails := r } }
      else
        let d := { d with pwr := { d.pwr with mode := .dormant, order := 0, enables := 0, rails := r } }
        let wakes := d.pwr.wakeWaits
        let d := d.cold .dormant
        if wakes then { d with pwr := { d.pwr with wakeBy := some 0 } }.startUp else d
    else { d with pwr := { d.pwr with order := k - 1, enables := setBit d.pwr.enables (k - 2) false, rails := r } }
  | _ => d

/-- RAIL_REACHED (R414). -/
def execRailReached (ok : Bool) (s : State) : Host.Outcome State Fault Refusal := s.supply fun d => d.railReached ok

/-- RAIL_FAULT (R415). -/
def execRailFault (order : Nat) (s : State) : Host.Outcome State Fault Refusal :=
  s.runIf (fun _ => 1 ≤ order && order ≤ 7) fun d => d.railFault order

/-- RAIL_FAULT_RESTART (R415): 1 s after the down-sequence. -/
def execRailFaultRestart (s : State) : Host.Outcome State Fault Refusal :=
  s.always fun d => if d.pwr.mode = .faultWait then (d.cold .faultWait).startUp else d

/-- RESET_N (R416, R435): a reset, or a wake from Dormant. -/
def execResetN (s : State) : Host.Outcome State Fault Refusal :=
  s.always fun d =>
    match d.pwr.mode with
    | .running | .booting => d.cold .booting
    | .dormant => ({ d with pwr := { d.pwr with wakeBy := some 1 } }.cold .dormant).startUp
    | _ => d

/-- WAKE (R435): a request during the entry takes effect when the entry ends. -/
def execWake (s : State) : Host.Outcome State Fault Refusal :=
  s.always fun d =>
    match d.pwr.mode with
    | .dormant => ({ d with pwr := { d.pwr with wakeBy := some 0 } }.cold .dormant).startUp
    | .downSeq => if d.pwr.faultOrder = 0 then { d with pwr := { d.pwr with wakeWaits := true } } else d
    | _ => if d.pwr.dormant.isSome then { d with pwr := { d.pwr with wakeWaits := true } } else d

/-- POWER_REMOVED (R369): the commit in progress leaves its word old or new; queued writes are lost. -/
def execPowerRemoved (committed : Bool) (s : State) : Host.Outcome State Fault Refusal :=
  s.supply fun d =>
    let d := if committed then
        let one := fun (d : Dev) (q : List Commit) =>
          match q with | c :: _ => (d.commit c.word c.width c.value true).1 | [] => d
        one (one d d.sinter.queue) d.sinter.second
      else d
    let d := d.cold .unpowered
    { d with pwr := { d.pwr with order := 0, enables := 0, rails := 0, faultOrder := 0 }
             pair := { d.pair with selLp := 0, aliveOut := false } }

/-! ### Reference clocks (R429, R430) -/

/-- REFCLK_BAD (R430): the synthesiser switches to the other reference if it is good; with both bad, the hub fault
of R258 stands. -/
def execRefclkBad (b : Bool) (s : State) : Host.Outcome State Fault Refusal :=
  s.run fun d =>
    let d := if b then { d with pwr := { d.pwr with refB := false } } else { d with pwr := { d.pwr with refA := false } }
    let other := if b then d.pwr.refA else d.pwr.refB
    if d.pwr.refBSel = b then
      if other then { d with pwr := { d.pwr with refBSel := !b } }.raise 0x0E05 0 (leBytes 1 (b2n (!b)))
      else { d with pair := { d.pair with hubFault := true } }
    else d

/-- REFCLK_GOOD (R429, R430): a reference becomes good; the device returns to its preferred one when REF_REVERT is set. With both
bad before, it takes the one that has become good (DESIGN CHOICE, log 81). -/
def execRefclkGood (b : Bool) (s : State) : Host.Outcome State Fault Refusal :=
  s.run fun d =>
    if (if b then d.pwr.refB else d.pwr.refA) then d
    else
      let d := if b then { d with pwr := { d.pwr with refB := true } } else { d with pwr := { d.pwr with refA := true } }
      let d := d.raise 0x0E06 0 (leBytes 1 (b2n b))
      let d := if if d.pwr.refBSel then d.pwr.refB else d.pwr.refA then d else { d with pwr := { d.pwr with refBSel := b } }
      if d.refRevert && d.refPreferB = b && d.pwr.refBSel != b then
        { d with pwr := { d.pwr with refBSel := b } }.raise 0x0E06 0 (leBytes 1 (b2n b))
      else d

/-! ### Power domains (R30, R431, R432) -/

/-- A slice's fabric is needed (R30): client port, engine or line port of a channel, or a lit port's slots. -/
def Image.needsFabric (i : Image) (s : Nat) : Bool :=
  i.ptab.any (fun x => x.ch / 64 == s || (x.kind != 2 && x.cp / 16 == s) ||
      (i.channelPorts x.ch).any fun p => p / 2 == s) ||
    (List.range 8).any fun p => i.lit p && p / 2 == s

/-- A domain the image needs (R30). -/
def Image.needs (i : Image) (k : Nat) : Bool :=
  if k < 256 then (i.desc k).isSome
  else if k < 264 then i.lit (k - 256)
  else if k < 280 then
    i.ptab.any fun x => x.kind != 2 && 0 < x.lanes && x.cp / 4 ≤ k - 264 && k - 264 ≤ (x.cp + x.lanes - 1) / 4
  else if k < 296 then
    let p := (k - 280) / 2
    i.lit p && (if (k - 280) % 2 = 0 then true else 8 < i.portN p)
  else if k < 300 then false
  else if k < 304 then i.needsFabric (k - 300)
  else k == domCaldera

/-- Needed by the active image. -/
def Dev.needed (d : Dev) (k : Nat) : Bool := match d.sched.active with | some i => i.needs k | none => false

/-- READY cores. -/
def Dev.readyCores (d : Dev) : List Nat := [0, 1, 2, 3].filter fun n => d.domOn (domCore n)

/-- A near stream is placed on a slice: a member or aligned path in the near tier that uses its ports (R432). -/
def Dev.nearUsed (d : Dev) (s : Nat) : Bool :=
  match d.sched.active with
  | none => false
  | some i =>
    i.sgmap.any (fun g => ((d.group g.sg).members.zip g.members).any fun m => m.1.tier == 1 && m.2.port / 2 == s) ||
      i.pgs.any fun g => ((d.pg g.pg).align.wTier == 1 && g.wPort / 2 == s) ||
        ((d.pg g.pg).align.pTier == 1 && g.pPort / 2 == s)

/-- A switch to OFF of one domain is refused (R432). -/
def Dev.offRefused (d : Dev) (k : Nat) (force : Bool) : Bool :=
  ((304 ≤ k && k < 308) && d.readyCores == [k - 304]) ||
    (!force && (d.needed k || ((296 ≤ k && k < 300) && d.nearUsed (k - 296)) || k == domPcie))

/-- Units of a domain start from reset when it becomes READY (R431): the dynamic state goes, attributes stay. -/
def Dev.unitReset (d : Dev) (k : Nat) : Dev :=
  if k < 256 then
    match d.desc k with
    | some x =>
      let members := match d.sched.active.bind fun i => i.sgOf k with | some g => g.members.length | none => 0
      if (d.chan k).run then d.startEngine k x members (some ((d.rxDesc k).getD x)) else d
    | none => d
  else if k < 264 then (d.freshPort (k - 256) (d.port (k - 256)).enabled).noteSg (k - 256)
  else if 304 ≤ k && k < 308 then { d with pwr := { d.pwr with coresUp := setBit d.pwr.coresUp (k - 304) true } }
  else if k = domHbm then { d with cald := { d.cald with hbmFailed := false } }
  else if 313 ≤ k && k < 321 then d.setFum (k - 313) { attr := (d.fum (k - 313)).attr }
  else d

/-- A domain changes state. -/
def Dev.putDomain (d : Dev) (k : Nat) (st : DomState) : Dev :=
  let x := d.domain k
  d.setDomain k { x with state := st, switches := satAdd max32 x.switches 1, lastFc := d.fc, waitsRising := false }

/-- Room for one more domain to enter RISING in this MF (R431). -/
def Dev.risingRoom (d : Dev) : Bool := d.pwr.risingMfn != d.mfn || d.pwr.risingCount < 16

/-- A domain enters RISING. -/
def Dev.beginRising (d : Dev) (k : Nat) : Dev :=
  let n := if d.pwr.risingMfn = d.mfn then d.pwr.risingCount + 1 else 1
  let d := d.putDomain k .rising
  let d := d.setDomain k { d.domain k with risingMfn := d.mfn }
  { d with pwr := { d.pwr with risingMfn := d.mfn, risingCount := n } }

/-- Switch one domain on: it enters RISING, or waits for room (R431). -/
def Dev.switchOn (d : Dev) (k : Nat) : Dev :=
  if d.domRises k || (d.domain k).waitsRising then d
  else if d.risingRoom then d.beginRising k
  else d.setDomain k { d.domain k with waitsRising := true }

/-- Lanes that a domain's units drive or frame leave the UP state as the units stop (R431). -/
def Dev.stopLanes (d : Dev) (k : Nat) : Dev :=
  if 256 ≤ k && k < 264 then d.dropLanes (k - 256) (List.range 8)
  else if 264 ≤ k && k < 280 then (List.range 4).foldl (fun d j => d.dropClientLane (4 * (k - 264) + j)) d
  else if 280 ≤ k && k < 296 then d.dropLanes ((k - 280) / 2) ((List.range 4).map fun j => (k - 280) % 2 * 4 + j)
  else if 300 ≤ k && k < 304 then d.dropSlice (k - 300)
  else d

/-- Switch one domain off: its units stop at once (R431). PD_PRT reports (R250), PD_PCIE takes its link down. -/
def Dev.switchOff (d : Dev) (k : Nat) : Dev :=
  if !d.domRises k then d.setDomain k { d.domain k with waitsRising := false }
  else
    let d := (d.putDomain k .falling).stopLanes k
    if 304 ≤ k && k < 308 then { d with pwr := { d.pwr with coresUp := setBit d.pwr.coresUp (k - 304) false } }
    else if k = domPcie then { d with host := { d.host with linkUp := false } }
    else if k = domPrt then d.raise 0x0805 0 (leBytes 1 0)
    else d

/-- PWR_DOMAIN_SET jobs whose domains are all settled end (R436). -/
def Dev.settleDomains (d : Dev) : Dev :=
  let done := d.pwr.domJobs.filter fun j => ((List.range j.2.2).all fun i =>
    let x := d.domain (j.2.1 + i)
    (x.state == .ready || x.state == .off) && !x.waitsRising)
  let d := { d with pwr := { d.pwr with domJobs := d.pwr.domJobs.filter fun j => !done.contains j } }
  done.foldl (fun d j => d.finishOrder j.1 stOk (leBytes 2 j.2.2 ++ zeros 6)) d

/-- Number of domains a PWR_DOMAIN_SET covers. -/
def domCount (c : Cmd) : Nat := min (clamp 1 324 (c.field 2 2)) (324 - c.index)

/-- Checks of PWR_DOMAIN_SET (R432). -/
def checkPwrDomainSet (d : Dev) (c : Cmd) : Check :=
  let ks := (List.range (domCount c)).map fun i => c.index + i
  let force := bit (c.field 1 1) 0
  let cores := d.readyCores
  refuseIf (fallback 2 2 (c.field 0 1) == 0 &&
    (ks.any (fun k => d.offRefused k force) || (!cores.isEmpty && cores.all fun n => ks.contains (domCore n))))
    stConstraint

/-- Effect of PWR_DOMAIN_SET: the response comes when the last domain is READY or OFF; PD_PCIE's comes first (R432, R436). -/
def applyPwrDomainSet (d : Dev) (c : Cmd) (order : Nat) : Applied :=
  recheck d (checkPwrDomainSet d c) fun d =>
    let n := domCount c
    let ks := (List.range n).map fun i => c.index + i
    match fallback 2 2 (c.field 0 1) with
    | 0 =>
      if ks.contains domPcie && d.domRises domPcie then
        (ks.foldl Dev.switchOff d, stOk, leBytes 2 n ++ zeros 6)
      else
        let d := ks.foldl Dev.switchOff d
        if ks.all fun k => (d.domain k).state == .off then (d, stOk, leBytes 2 n ++ zeros 6)
        else goesOn { d with pwr := { d.pwr with domJobs := d.pwr.domJobs ++ [(order, c.index, n)] } }
    | 1 =>
      let d := ks.foldl Dev.switchOn d
      if ks.all fun k => d.domOn k then (d, stOk, leBytes 2 n ++ zeros 6)
      else goesOn { d with pwr := { d.pwr with domJobs := d.pwr.domJobs ++ [(order, c.index, n)] } }
    | _ => (d, stOk, leBytes 2 n ++ zeros 6)

/-- Readback of PWR_DOMAIN_SET (R436). -/
def domainBlock (d : Dev) (k : Nat) : List Byte := leBytes 1 (b2n (d.domRises k)) ++ leBytes 1 0 ++ leBytes 2 1 ++ zeros 4

/-- PWR_DOMAIN_SET (R436). -/
def execPwrDomainSet (core : Nat) (s : State) : Host.Outcome State Fault Refusal :=
  s.run fun d => d.serveChange core 0x0E01 checkPwrDomainSet

/-- The waiting domain of the lowest index. -/
def Dev.firstWaiting (d : Dev) : Option Nat := (d.pwr.domains.find? fun p => p.2.waitsRising).map (·.1)

/-- DOMAIN_RISING_START (R431). -/
def execDomainRisingStart (domain : Nat) (s : State) : Host.Outcome State Fault Refusal :=
  s.runIf (fun d => d.firstWaiting == some domain && d.risingRoom) fun d => d.beginRising domain

/-- DOMAIN_READY (R431). -/
def execDomainReady (domain : Nat) (s : State) : Host.Outcome State Fault Refusal :=
  s.runIf (fun d => domain < 324 && (d.domain domain).state == .rising) fun d =>
    let d := (d.putDomain domain .ready).unitReset domain
    let d := d.raise 0x0E01 (objDomain domain) (leBytes 2 domain ++ leBytes 1 2)
    let d := if domain = domPrt then d.raise 0x0805 0 (leBytes 1 1) else d
    d.settleDomains

/-- DOMAIN_OFF (R431). -/
def execDomainOff (domain : Nat) (s : State) : Host.Outcome State Fault Refusal :=
  s.runIf (fun d => domain < 324 && (d.domain domain).state == .falling) fun d =>
    ((d.putDomain domain .off).raise 0x0E01 (objDomain domain) (leBytes 2 domain ++ leBytes 1 0)).settleDomains

/-- Domains that AUTO_OFF switches off (R432). -/
def Dev.autoOffDomains (d : Dev) : List Nat :=
  match d.sched.active with
  | none => []
  | some i =>
    let slicePort := fun (s : Nat) => i.sgmap.any (fun g => g.members.any fun m => m.port / 2 == s) ||
      i.pgs.any fun g => g.wPort / 2 == s || g.pPort / 2 == s
    (List.range 296).filter (fun k => !i.needs k) ++
      ((List.range 4).filter fun s => !slicePort s).map domNear ++
      ((List.range 4).filter fun s => !i.needsFabric s).map domFabric ++ (if i.pgs.isEmpty then [domPrt] else [])

/-- PWR_STATUS's response (R437). -/
def pwrStatus (d : Dev) (c : Cmd) : Nat × List Byte :=
  if objType c.object = 0 then
    let all := List.range 324
    let moving := all.filter fun k => (d.domain k).state == .rising || (d.domain k).state == .falling
    let on := all.map d.domRises
    (stOk, leBytes 8 d.fc ++ leBytes 1 (d.pwr.rails + 128 * b2n (bit d.pwr.enables 7)) ++
      leBytes 1 (b2n d.pwr.refA + 2 * b2n d.pwr.refB + 4 * b2n d.pwr.refBSel) ++
      leBytes 1 (d.fwBank + 2 * b2n d.fwTrial + 4 * b2n d.pwr.stage.isSome) ++ leBytes 1 (min 255 moving.length) ++
      leBytes 2 (on.filter id).length ++ leBytes 2 0 ++ leBytes 41 (bitsOf on) ++ zeros 7)
  else
    let k := c.index
    let x := d.domain k
    let st := match x.state with | .off => 0 | .rising => 1 | .ready => 2 | .falling => 3
    let last := 304 ≤ k && k < 308 && d.readyCores == [k - 304]
    (stOk, leBytes 8 d.fc ++ leBytes 1 st ++ leBytes 1 (b2n (d.needed k) + 2 * b2n last) ++ leBytes 2 0 ++
      leBytes 4 x.switches ++ leBytes 8 x.lastFc)

/-- PWR_STATUS (R437). -/
def execPwrStatus (core : Nat) (s : State) : Host.Outcome State Fault Refusal :=
  s.run fun d => d.serveRead core [0x0E02] pwrStatus

/-! ### Dormant (R433, R434, R438) -/

/-- Dormant entry starts (R433, step 1): with a STANDBY twin, a handover of everything comes first. -/
def Dev.startDormant (d : Dev) (trigger : Nat) (force : Bool) (order : Option Nat) : Dev :=
  let target := d.mfn + 2
  let d := { d with pwr := { d.pwr with dormant := some (target, trigger, order), dormantForce := force } }
  if d.pair.role == .active && d.twinRole == some .standby then
    { d with pair := { d.pair with handover := some { issuer := true, take := false, all := true, force := force
                                                      target := target, lp := 0xFF, cp := 0xFFFF_FFFF_FFFF_FFFF
                                                      byDormant := true } } }
  else d

/-- PWR_DORMANT ends BUSY during a firmware operation (R428), or when the entry has begun. -/
def checkPwrDormant (d : Dev) (_ : Cmd) : Check := refuseIf (d.fwBusy || d.pwr.dormant.isSome) stBusy

/-- PWR_DORMANT (R438). -/
def execPwrDormant (core : Nat) (s : State) : Host.Outcome State Fault Refusal :=
  s.run fun d => d.serve core [0x0E03] checkPwrDormant fun e _ c =>
    (e.acceptJob c none false).startDormant 0 (bit (c.field 0 1) 0) (some e.host.nextOrder)

/-- DORM_REQ (R433): ignored while WAKE_N is low. -/
def execDormReq (wakeLow : Bool) (s : State) : Host.Outcome State Fault Refusal :=
  s.runIf (fun d => !wakeLow && d.pwr.mode == .running && d.pwr.dormant.isNone && !d.fwBusy) fun d =>
    d.startDormant 1 true none

/-- Commit everything queued (R433, step 3). -/
def Dev.drainSinter : Nat → Dev → Dev
  | 0, d => d
  | n + 1, d => Dev.drainSinter n (d.commitNext false true)

/-- Every transmit lane is squelched, and the Fumarole outputs go to high impedance (R433, step 2). -/
def Dev.silence (d : Dev) : Dev :=
  { d with
    ports := d.ports.map fun e => (e.1, { e.2 with laneTx := List.replicate 8 0, flexoTx := [] })
    fumPorts := d.fumPorts.map fun e => (e.1, { e.2 with txd := [] }) }

/-- DORMANT_ENTRY (R433, R434, R369): from Beat 0 of the entry MF. -/
def execDormantEntry (s : State) : Host.Outcome State Fault Refusal :=
  s.runIf (fun d => match d.pwr.dormant with | some (m, _, _) => fcOf m ≤ d.fc | none => false) fun d =>
    match d.pwr.dormant with
    | none => d
    | some (m, trigger, order) =>
      let d := d.dropOutputs.silence
      let d := (d.sinterPut 67 d.fc).sinterPut 68 (d.pps.pmSeconds % 2 ^ 32)
      let d := d.drainSinter (d.sinter.queue.length + d.sinter.held.length)
      let d := d.raise 0x0E03 0 (leBytes 8 (fcOf m) ++ leBytes 1 trigger)
      let d := match order with | some o => d.finishOrder o stOk (leBytes 8 (fcOf m)) | none => d
      { d with
        pwr := { d.pwr with dormant := none }
        host := { d.host with alarmFatal := false, alarmPair := false } }.startDown

end Sys2Proof.Machine
end

