-- ==== Sys2Proof/Machine/Defect.lean ====
section
/-! DEFINITION. Defects and consequent actions: the layers of each chain, their outputs, how a chain's actions combine and
act, and the DEF_* commands (R207 to R218, R223 to R225). -/

namespace Sys2Proof.Machine

open Sys2Proof

/-! ### Layers in force -/

/-- Flow and level of a TCM or PM layer. -/
def flowOfLayer (l : Nat) : Nat := if 0x80 ≤ l then 0 else 1
def levelOfLayer (l : Nat) : Nat := if l % 0x80 = layPm then 0 else l % 0x80 - 4

/-- A TCM layer. -/
def isTcm (l : Nat) : Bool := 5 ≤ l % 0x80 && l % 0x80 ≤ 10

/-- A PM layer. -/
def isPmLayer (l : Nat) : Bool := l % 0x80 == layPm

/-- Mode of a TCM layer: 0 TRANSPARENT, 1 MONITOR, 2 SOURCE, 3 SINK. -/
def Dev.tcmMode (d : Dev) (obj l : Nat) : Nat :=
  oduMode (d.oduKind obj) (d.oduOf obj) (flowOfLayer l) (levelOfLayer l)

/-- A TCM level in TRANSPARENT mode is skipped (R208). -/
def Dev.skips (d : Dev) (obj l : Nat) : Bool := isTcm l && d.tcmMode obj l == 0

/-- The input bit of dDEG, where a layer has one (R209). -/
def degBit (l : Nat) : Option Nat :=
  if l = layOtu then some 6 else if l = layOduc || isTcm l || l = layClientTx then some 7
  else if isPmLayer l then some 6 else none

/-- The input bit of dBDI, where a layer has one. -/
def bdiBit (l : Nat) : Option Nat :=
  if l = layOtu || isPmLayer l then some 5 else if l = layOduc || isTcm l then some 6
  else if l = layClientTx then some 8 else none

/-- Inputs whose OR is the default TSF (R209). -/
def defaultTsf (l : Nat) : Nat :=
  if l = layFlexo then 0x7F else if l = layOtu then 0x1F else if l = layOduc then 0xF3F else if l = laySpread then 0xF
  else if l = layServer then 0x3 else if isTcm l then 0x3F else if isPmLayer l then 0x9F else if l = layClientRx then 0x7
  else if l = layClientTx then 0x66F else 0

/-- A layer takes the TSF of the layer before it as input 0 (R208). -/
def takesSsf (l : Nat) : Bool := l != layFlexo && l != laySpread && l != layClientTx

/-! ### Outputs (R213 to R215) -/

/-- KIND and client of the channel that a layer's object belongs to. -/
def Image.layerDesc (i : Image) (obj : Nat) : Option Desc :=
  if objType obj = 1 then i.desc (objIndex obj) else if objType obj = 3 then i.clientDesc (objIndex obj) else none

/-- The default output of a layer (R215). CSF is carried for every client of KIND 0 (DESIGN CHOICE, log 40). -/
def defaultOutput (d : Dev) (i : Image) (obj l vec : Nat) : Nat :=
  let x := i.layerDesc obj
  let kind := match x with | some x => x.kind | none => 9
  let eth := match x with | some x => ethernet x.clientType | none => false
  let tsf := andBits 16 vec (defaultTsf l) != 0
  let tsd := match degBit l with | some b => bit vec b | none => false
  let bdi := tsf && (l = layOtu || l = layOduc || (isTcm l && d.tcmMode obj l = 3) || (l = layPm && kind = 0) ||
    (l = layClientTx && kind = 1))
  let ais := tsf && (kind = 1 || kind = 2) && (l = layServer || isTcm l || isPmLayer l)
  let pre := l = layServer && bit vec 1
  let oci := pre && (kind = 1 || kind = 2)
  let cli := kind = 0 && (pre || (l = layClientRx && tsf))
  let csf := l = layClientTx && kind = 0 && tsf
  b2n tsf + 2 * b2n tsd + 4 * b2n bdi + 8 * b2n ais + 32 * b2n oci + 64 * b2n (cli && eth) + 256 * b2n (cli && !eth) +
    1_024 * b2n csf

/-- The table a layer is bound to (R69, R213). -/
def Image.bindingOf (i : Image) (obj l : Nat) : Option RespTable :=
  match i.binds.find? fun b => b.obj == obj && b.layer == l with
  | some b => if (i.layers obj).contains l then i.cat.find? fun t => t.id == b.tableId else none
  | none => none

/-- A table's word for an input (R213, R234). -/
def RespTable.look (t : RespTable) (v : Nat) : Nat := t.words.getD (v % 2 ^ t.inBits) 0

/-- Output of a layer for its vector. -/
def layerOutput (d : Dev) (i : Image) (obj l vec : Nat) : Nat :=
  match i.bindingOf obj l with | some t => t.look vec | none => defaultOutput d i obj l vec

/-! ### Evaluating a chain (R208, R211, R212) -/

/-- Inputs of a layer that the evaluation itself forms: the preempted states in force in the token's Beat, and dCSF. -/
def Dev.formed (d : Dev) (obj l : Nat) (pre : Bool × Bool) (v : Nat) : Nat :=
  if l = layServer then setBit (setBit v 1 pre.1) 2 pre.2
  else if l = layClientRx then setBit v 2 (bit (d.layer obj layPm).sample 8)
  else v

/-- One layer: its vector and output, what changed reported. Answers the TSF passed on and the layer's output. -/
def Dev.evalLayer (d : Dev) (i : Image) (obj l : Nat) (ssf : Bool) (pre : Bool × Bool) : Dev × Bool × Nat :=
  if d.skips obj l then (d.setLayer obj l { d.layer obj l with vector := 0, output := 0 }, ssf, 0)
  else
    let v := d.formed obj l pre (d.layer obj l).sample
    let v := if takesSsf l then setBit v 0 ssf else v
    let o := layerOutput d i obj l v
    let d := d.setLayer obj l { d.layer obj l with vector := v, output := o }
    let d := if takesSsf l then d.noteInput obj l 0 ssf else d
    let d := if l = layServer then (d.noteInput obj l 1 pre.1).noteInput obj l 2 pre.2
      else if l = layClientRx then d.noteInput obj l 2 (bit v 2) else d
    (d, bit o 0, o)

/-- Outputs of the layers of a chain, in order. -/
def Dev.evalLayers (i : Image) (obj : Nat) (pre : Bool × Bool) : List Nat → Bool → Dev → Dev × List Nat
  | [], _, d => (d, [])
  | l :: t, ssf, d =>
    let (d, tsf, o) := d.evalLayer i obj l ssf pre
    let (d, os) := Dev.evalLayers i obj pre t tsf d
    (d, o :: os)

/-- ACTIONS of a chain's outputs (R216, R266): bits 10 to 3 ORed, TSF and TSD of the last layer. -/
def actionsOf (os : List Nat) : Nat :=
  let or := os.foldl (fun a o => orBits 11 a o) 0
  or / 8 * 8 + (match os.getLast? with | some o => o % 4 | none => 0)

/-- BDI_MASK of a chain's outputs. -/
def bdiMaskOf (os : List Nat) : Nat := bitsOf (os.map fun o => bit o 2)

/-- A consequent-action token (R266). -/
def catToken (chain index stamp : Nat) (os : List Nat) : Token :=
  { stamp := stamp
    word := 9 * 2 ^ 60 + chain * 2 ^ 57 + index * 2 ^ 48 + stamp % 65_536 * 2 ^ 32 + bdiMaskOf os * 65_536 + actionsOf os }

/-- Evaluate one chain of an object and issue its token. -/
def Dev.evalChain (d : Dev) (i : Image) (chain obj stamp : Nat) (ssf : Bool) (pre : Bool × Bool) : Dev :=
  let kind := match i.layerDesc obj with | some x => x.kind | none => 9
  let (d, os) := Dev.evalLayers i obj pre (chainLayers chain kind) ssf d
  { d with tokens := d.tokens ++ [catToken chain (objIndex obj) stamp os] }

/-- The image in force in Beat `fc`, at most two Beats ahead (R212): the shadow bank across a committed swap. -/
def Dev.imageAt (d : Dev) (fc : Nat) : Option Image :=
  match d.sched.swap with
  | some j => if j.phase = 2 && j.target ≤ fc / 256 then d.sched.shadow else d.sched.active
  | none => d.sched.active

/-- TX step in force on a port in Beat `fc`: an announced step applies at its MF boundary (R110). -/
def Dev.txStepAt (d : Dev) (p fc : Nat) : Nat :=
  let l := (d.port p).ladder
  match l.announce with
  | some a => if a.start + 8 ≤ fc / 256 then a.step else l.txStep
  | none => l.txStep

/-- Preempted states (RX, TX) of a channel in Beat `fc` (R113, R211). -/
def Dev.preemptedAt (d : Dev) (i : Image) (c fc : Nat) : Bool × Bool :=
  (d.preemptedBy c 1 fc, (List.range 8).any fun p => (i.preempted p (min (d.txStepAt p fc) (i.steps p - 1))).contains c)

/-- Channels of a calendar's slots. -/
def LcalRec.has (r : LcalRec) (c : Nat) : Bool := r.entries.any fun e => e / 2 ^ 30 == 3 && e % 256 == c

/-- A channel has RX slots on a port in the RX step in force. -/
def Dev.rxSlotsOn (d : Dev) (i : Image) (c p : Nat) : Bool :=
  let rx := match d.rxImage p with | some r => some r | none => some i
  match rx.bind fun r => r.lcalOf p 1 (d.port p).ladder.rxStep with | some r => r.has c | none => false

/-- SSF of a channel's SERVER layer (R211): `sel` is the selection of its protection group's token. -/
def Dev.serverSsf (d : Dev) (i : Image) (c : Nat) (sel : Nat → Bool) : Bool :=
  let odu := fun (p : Nat) => bit (d.layer (objPort p) layOduc).output 0
  let sg := match i.sgmap.find? fun g => g.ch == c with | some g => bit (d.layer (objSpread g.sg) laySpread).output 0 | none => false
  let ports := match i.pgs.find? fun g => g.ch == c with
    | some g => odu (if sel g.pg then g.pPort else g.wPort)
    | none => (List.range 8).any fun p => i.lit p && d.rxSlotsOn i c p && odu p
  ports || sg

/-- Objects that an evaluation ahead of a swap takes as they stand; the others start there (R218). -/
def Dev.evaluates (d : Dev) (i : Image) (obj : Nat) : Bool :=
  match d.sched.active with
  | some a => a == i || objCarries a i obj
  | none => false

/-- Client ports of an image. -/
def Image.clientPorts (i : Image) : List Nat := ((i.ptab.filter fun x => x.kind != 2).map (·.cp)).eraseDups

/-- The port RX and group chains of the objects that `on` names (R239, step 1). -/
def Dev.evalPorts (d : Dev) (i : Image) (stamp : Nat) (on : Nat → Bool) : Dev :=
  let d := ((List.range 8).filter fun p => i.lit p && on (objPort p)).foldl
    (fun d p => d.evalChain i 0 (objPort p) stamp false (false, false)) d
  (i.sgmap.filter fun g => on (objSpread g.sg)).foldl
    (fun d g => d.evalChain i 1 (objSpread g.sg) stamp false (false, false)) d

/-- The channel and client chains of the objects that `on` names (R239, step 4). -/
def Dev.evalChannels (d : Dev) (i : Image) (stamp : Nat) (on : Nat → Bool) (sel : Nat → Bool) : Dev :=
  let xs := i.ptab.filter fun x => on (objChannel x.ch)
  let d := xs.foldl (fun d x =>
    d.evalChain i 2 (objChannel x.ch) stamp (d.serverSsf i x.ch sel) (d.preemptedAt i x.ch stamp)) d
  let d := (i.clientPorts.filter fun k => on (objClient k)).foldl
    (fun d k => d.evalChain i 3 (objClient k) stamp false (false, false)) d
  (xs.filter fun x => x.kind = 1).foldl (fun d x =>
    d.evalChain i 4 (objChannel x.ch) stamp (bit (d.layer (objClient x.cp) layClientTx).output 0) (false, false)) d

/-! ### Actions in force (R216) -/

/-- Maintenance signal that forward bits ask for: 2 LCK, 3 OCI, 1 AIS, 0 none. -/
def forwardOf (a : Nat) : Nat := if bit a 4 then 2 else if bit a 5 then 3 else if bit a 3 then 1 else 0

/-- Signal that client bits ask for: 4 SQUELCH, 3 REPLACE, 2 LF, 1 RF, 0 none. -/
def clientSignalOf (a : Nat) : Nat :=
  if bit a 9 then 4 else if bit a 8 then 3 else if bit a 6 then 2 else if bit a 7 then 1 else 0

/-- A channel's maintenance signals follow the actions in force. -/
def Dev.actChannel (d : Dev) (x : Desc) : Dev :=
  let rx := d.act 2 x.ch
  let tx := if x.kind = 2 then rx else if x.kind = 1 then orBits 11 (d.act 4 x.ch) (d.act 3 x.cp) else d.act 3 x.cp
  d.setChan x.ch { d.chan x.ch with catTx := forwardOf tx, catRx := if x.kind = 1 then forwardOf rx else 0 }

/-- A client port's output follows the actions in force. -/
def Dev.actClient (d : Dev) (i : Image) (k : Nat) : Dev :=
  let own := d.act 3 k
  let all := (i.ptab.filter fun x => x.kind != 2 && x.cp == k).foldl (fun a x => orBits 11 a (d.act 2 x.ch)) own
  let kind1 := match i.clientDesc k with | some x => x.kind == 1 | none => false
  d.setClient k { d.client k with
    output := if kind1 then (if bit all 9 then 4 else 0) else clientSignalOf all
    otuBdi := kind1 && bit own 16 }

/-- The actions in force reach the flows and the client ports. -/
def Dev.actAll (d : Dev) : Dev :=
  match d.sched.active with
  | none => d
  | some i =>
    let d := i.ptab.foldl Dev.actChannel d
    i.clientPorts.foldl (fun d k => d.actClient i k) d

/-- What a client port sends (R170, R216): SQUELCH, then a CH_MAINT client signal, then the other client bits. -/
def Dev.clientSends (d : Dev) (k : Nat) : Nat :=
  let o := (d.client k).output
  let m := match d.sched.active.bind fun i => i.clientDesc k with
    | some x => if x.kind = 0 then (d.chan x.ch).maintRx.signal else 0
    | none => 0
  let dark := match d.sched.active.bind fun i => i.clientDesc k with | some x => !d.clientPowered k x.lanes | none => true
  if !(d.client k).enabled || dark || o = 4 then 4 else match m with | 4 => 2 | 5 => 1 | 6 => 3 | _ => o

/-! ### Sampling and layers that start (R212, R218) -/

/-- Every layer's inputs are sampled at the end of a Beat. -/
def Dev.sampleLayers (d : Dev) : Dev := { d with layers := d.layers.map fun e => (e.1, { e.2 with sample := e.2.reported }) }

/-- A layer starts: every defect 0 (R218). -/
def Dev.startLayer (d : Dev) (obj l : Nat) : Dev := d.setLayer obj l {}

/-! ### Defects that integrators raise and clear (R210) -/

/-- Defect inputs of a layer that integrators raise and clear; inputs 1 to 4 of CLIENT_TX are the reports of the 802.3
sublayers. -/
def integrated (l : Nat) : List Nat :=
  if l = layFlexo then [2, 3, 4, 5, 6] else if l = layOtu then [2, 3, 5, 7, 8] else if l = layOduc then [2, 3, 4, 6, 8, 9, 10]
  else if isTcm l then [1, 2, 3, 4, 6, 8, 9] else if isPmLayer l then [1, 2, 3, 5, 7, 8]
  else if l = layClientTx then [0, 1, 2, 3, 4, 5, 6, 8, 9] else []

/-- An object and mode produce a defect (R210). -/
def Dev.produces (d : Dev) (obj l i : Nat) : Bool :=
  d.hasLayer obj l && (integrated l).contains i &&
    (if isTcm l || isPmLayer l then d.tcmMode obj l == 1 || d.tcmMode obj l == 3
     else if l = layClientTx then
       (match d.sched.active.bind fun m => m.clientDesc (objIndex obj) with
        | some x => (i == 0 || (if 5 ≤ i then x.kind == 1 else ethernet x.clientType)) && (d.client x.cp).enabled
        | none => false)
     else (d.port (objIndex obj)).enabled)

/-- An integrator sets or clears its input. -/
def Dev.setInput (d : Dev) (obj l i : Nat) (v : Bool) : Dev :=
  let x := d.layer obj l
  (d.setLayer obj l { x with inputs := setBit x.inputs i v }).noteInput obj l i v

/-- Level that a group's path monitors watch: 0 PM, 1 to 6 TCM; none for SNC/I (R229, R231). -/
def monLevel (arch tcm : Nat) : Option Nat :=
  if arch % 8 = 0 then none else if arch % 8 = 1 then some 0 else some tcm

/-- A path monitor's defect stands at a value: dAIS, dLCK, dOCI and dLTC by their integrators, dTIM by the accepted TTI and what
the channel's RX flow expects at the level. -/
def Dev.monitorHas (d : Dev) (r : PgRec) (k i : Nat) (v : Bool) : Bool :=
  let m := d.monitor r.pg k
  if i = 5 then
    let a := (d.oduOf (objChannel r.ch)).attr 1 ((monLevel r.arch (d.pg r.pg).tcmLevel).getD 0)
    (!m.tti.isEmpty && timOf a.timMode m.tti a.expSapi a.expDapi) == v
  else
    let n := Tab.get (0, 0) m.runs i
    if v then 3 ≤ n.1 else 3 ≤ n.2

/-- Defect inputs of a path monitor (R231) that integrators raise and clear: dAIS, dLCK, dOCI, dLTC, dTIM, as bits 1 to 5 of the
TCM layer's vector. -/
def Dev.monitorDefect (d : Dev) (obj path i : Nat) (v : Bool) : Option Dev :=
  let g := objIndex obj
  match d.pgRec g with
  | none => none
  | some r =>
    let x := d.pg g
    let m := if path = 0 then x.w else x.p
    let ok := objType obj = 6 && path < 2 && x.run && r.arch % 8 != 0 && (m.gained || !v) &&
      ([1, 2, 3, 5].contains i || (i = 4 && r.arch % 8 = 2)) && d.monitorHas r path i v
    if !ok then none
    else
      let m := { m with monDefects := setBit m.monDefects i v }
      some (d.setPg g (if path = 0 then { x with w := m } else { x with p := m }))

/-- DEFECT_RAISED (R210): of a layer, once its integrator has counted long enough, or (object type 0x06, layer = path) of a path monitor. -/
def execDefectRaised (obj layer defect : Nat) (s : State) : Host.Outcome State Fault Refusal :=
  s.run fun d =>
    match d.monitorDefect obj layer defect true with
    | some e => e
    | none => if d.produces obj layer defect && d.integratedTo obj layer defect true then d.setInput obj layer defect true else d

/-- DEFECT_CLEARED (R210). -/
def execDefectCleared (obj layer defect : Nat) (s : State) : Host.Outcome State Fault Refusal :=
  s.run fun d =>
    match d.monitorDefect obj layer defect false with
    | some e => e
    | none => if d.hasLayer obj layer && (integrated layer).contains defect && d.integratedTo obj layer defect false
        then d.setInput obj layer defect false else d

/-! ### DEF_READ, DEF_MASK, DEF_DEG_SET (R223 to R225) -/

/-- An entry of DEF_READ. -/
def Dev.defEntry (d : Dev) (i : Image) (obj l : Nat) : List Byte :=
  let x := d.layer obj l
  leBytes 1 l ++ leBytes 1 (b2n (i.bindingOf obj l).isSome + 2 * b2n (d.skips obj l)) ++ leBytes 2 x.vector ++
    leBytes 2 x.mask ++ zeros 2 ++ leBytes 4 x.output

/-- DEF_READ's response (R223). -/
def defRead (d : Dev) (c : Cmd) : Nat × List Byte :=
  match d.sched.active with
  | none => (stNoObject, [])
  | some i =>
    let ls := i.layers c.object
    (stOk, leBytes 8 d.fc ++ leBytes 1 ls.length ++ zeros 7 ++ (ls.map fun l => d.defEntry i c.object l).flatten)

/-- DEF_READ (R223). -/
def execDefRead (core : Nat) (s : State) : Host.Outcome State Fault Refusal :=
  s.run fun d => d.serveRead core [0x0701] defRead

/-- LAYER must suit the object. -/
def checkDefMask (d : Dev) (c : Cmd) : Check := refuseIf (!d.hasLayer c.object (c.field 0 1)) stNoObject

/-- Effect of DEF_MASK: only reporting changes (R217). -/
def applyDefMask (d : Dev) (c : Cmd) : Applied :=
  recheck d (checkDefMask d c) fun d =>
    okWith (d.setLayer c.object (c.field 0 1) { d.layer c.object (c.field 0 1) with mask := c.field 2 2 })

/-- Parameter block of DEF_MASK. -/
def maskBlock (x : Layer) (l : Nat) : List Byte := leBytes 1 l ++ zeros 1 ++ leBytes 2 x.mask ++ zeros 4

/-- DEF_MASK (R224). -/
def execDefMask (core : Nat) (s : State) : Host.Outcome State Fault Refusal :=
  s.run fun d => d.serveChange core 0x0702 checkDefMask

/-- LAYER must suit the object and have dDEG. -/
def checkDefDegSet (d : Dev) (c : Cmd) : Check :=
  refuseIf (!d.hasLayer c.object (c.field 0 1) || (degBit (c.field 0 1)).isNone) stNoObject

/-- Effect of DEF_DEG_SET: from the next PM second. -/
def applyDefDegSet (d : Dev) (c : Cmd) : Applied :=
  recheck d (checkDefDegSet d c) fun d =>
    let l := c.field 0 1
    okWith (d.setLayer c.object l
      { d.layer c.object l with degmNext := clamp 2 10 (c.field 1 1), degthrNext := clamp 1 10_000 (c.field 2 2) })

/-- Parameter block of DEF_DEG_SET. -/
def degBlock (x : Layer) (l : Nat) : List Byte := leBytes 1 l ++ leBytes 1 x.degm ++ leBytes 2 x.degthr ++ zeros 4

/-- DEF_DEG_SET (R225). -/
def execDefDegSet (core : Nat) (s : State) : Host.Outcome State Fault Refusal :=
  s.run fun d => d.serveChange core 0x0703 checkDefDegSet

end Sys2Proof.Machine
end

