-- ==== Sys2Proof/Machine/Tephra.lean ====
section
/-! DEFINITION. The event log: staging, overflow, coalescing, the writer, the ring, the black-box copy, and the
EVT_* commands (R398 to R412). -/

namespace Sys2Proof.Machine

open Sys2Proof

/-! ### Records -/

/-- The 32 bytes of a record (R398). -/
def Record.bytes (r : Record) (seq : Nat) : List Byte :=
  leBytes 8 r.fc ++ leBytes 2 r.code ++ leBytes 1 r.sev ++ leBytes 1 r.flags ++ leBytes 4 r.obj ++ padTo 12 r.data ++
    leBytes 4 seq

/-- An ordinary record of an event. -/
def Event.record (e : Event) : Record :=
  { fc := e.fc, code := e.code, sev := e.sev, flags := 4 * b2n e.fromTwin, obj := e.obj, data := e.data }

/-- A COALESCED record of a counted entry (R398, R403, R404). -/
def Counted.record (c : Counted) : Record :=
  { fc := c.lastFc, code := c.code, sev := c.sev, flags := 1, obj := c.obj
    data := leBytes 8 c.firstFc ++ leBytes 4 (min max32 c.count) }

/-! ### Counting (R403, R404) -/

/-- Count an occurrence in an entry. -/
def Counted.add (c : Counted) (fc sev obj n firstFc : Nat) : Counted :=
  { c with count := c.count + n, lastFc := max c.lastFc fc, firstFc := min c.firstFc firstFc, sev := max c.sev sev
           obj := if c.obj = obj then obj else 0 }

/-- Count into the overflow entry of a code (R403). -/
def overflowAdd (l : List Counted) (code obj sev fc n firstFc : Nat) : List Counted :=
  if l.any fun c => c.code == code then l.map fun c => if c.code = code then c.add fc sev obj n firstFc else c
  else insertBy (fun c => c.code) { code, obj, count := n, firstFc, lastFc := fc, sev } l

/-- A record overflows: an ordinary one counts once, a summary as many times as it counts. -/
def Tephra.overflowRecord (t : Tephra) (r : Record) : Tephra :=
  let n := if bit r.flags 0 then fieldAt r.data 8 4 else 1
  let first := if bit r.flags 0 then fieldAt r.data 0 8 else r.fc
  { t with overflow := overflowAdd t.overflow r.code r.obj r.sev r.fc n first
           overflows := satAdd max32 t.overflows n }

/-- Lowest severity in the queue. -/
def lowestSev (l : List Record) : Nat := l.foldl (fun m r => min m r.sev) 3

/-- Take out the latest record of a severity. -/
def dropLatest (sev : Nat) (l : List Record) : List Record × Option Record :=
  match l.reverse.findIdx? fun r => r.sev == sev with
  | some i => let k := l.length - 1 - i; (l.eraseIdx k, l[k]?)
  | none => (l, none)

/-- A record arrives at the staging queue of 64 entries (R402, R403). -/
def Tephra.enqueue (t : Tephra) (r : Record) : Tephra :=
  if t.staging.length < 64 then { t with staging := t.staging ++ [r] }
  else
    let low := lowestSev t.staging
    if low < r.sev then
      match dropLatest low t.staging with
      | (l, some x) => { t with staging := l ++ [r] }.overflowRecord x
      | (_, none) => t.overflowRecord r
    else t.overflowRecord r

/-- Ordinary records of a coalesced code in an MF: two for 0x0701 and 0x0702, otherwise one (R404, R228). -/
def ordinaryLimit (code : Nat) : Nat := if code = 0x0701 || code = 0x0702 then 2 else 1

/-- How many ordinary records of a key this MF has. -/
def Tephra.seenCount (t : Tephra) (code obj : Nat) : Nat :=
  match t.seen.find? fun s => s.1 == code && s.2.1 == obj with
  | some s => s.2.2
  | none => 0

/-- Count one more ordinary record of a key. -/
def Tephra.see (t : Tephra) (code obj : Nat) : Tephra :=
  if t.seenCount code obj = 0 then { t with seen := t.seen ++ [(code, obj, 1)] }
  else { t with seen := t.seen.map fun s => if s.1 = code && s.2.1 = obj then (code, obj, s.2.2 + 1) else s }

/-- Key under which changes of one input of 0x0701 and 0x0702 are counted: object, layer and bit (R228). -/
def Event.seenObj (e : Event) : Nat :=
  if e.code = 0x0701 || e.code = 0x0702 then e.obj + 2 ^ 32 * (fieldAt e.data 4 2 + 1) else e.obj

/-- Count a later occurrence in the table of 256 entries (R404). -/
def Tephra.coalesceAdd (t : Tephra) (e : Event) : Tephra :=
  let hit := fun (o : Nat) => t.coalesce.any fun c => c.code == e.code && c.obj == o
  let bump := fun (o : Nat) =>
    t.coalesce.map fun c => if c.code = e.code && c.obj = o then c.add e.fc e.sev o 1 e.fc else c
  let fresh := fun (o : Nat) =>
    t.coalesce ++ [{ code := e.code, obj := o, count := 1, firstFc := e.fc, lastFc := e.fc, sev := e.sev }]
  if hit e.obj then { t with coalesce := bump e.obj }
  else if t.coalesce.length < 256 then { t with coalesce := fresh e.obj }
  else if hit 0 then { t with coalesce := bump 0 }
  else t.overflowRecord e.record

/-- The first event that has arisen enters staging, or is counted (R402 to R404). -/
def Tephra.stageNext (t : Tephra) : Tephra :=
  match t.arising with
  | [] => t
  | e :: r =>
    let t := { t with arising := r }
    if coalesces e.code then
      if t.seenCount e.code e.seenObj < ordinaryLimit e.code then (t.see e.code e.seenObj).enqueue e.record
      else t.coalesceAdd e
    else t.enqueue e.record

/-- EVENT_STAGED (R400, R402 to R404). -/
def execEventStaged (s : State) : Host.Outcome State Fault Refusal :=
  s.run fun d => { d with log := d.log.stageNext }

/-- At a new MF the coalescing entries close: those with a count wait to be staged (R404). -/
def Tephra.closeMf (t : Tephra) : Tephra := { t with due := t.due ++ t.coalesce, coalesce := [], seen := [] }

/-- COALESCED_SUMMARY_STAGED (R404): one closed entry is staged as a COALESCED record. -/
def execCoalescedSummaryStaged (s : State) : Host.Outcome State Fault Refusal :=
  s.run fun d =>
    match d.log.due with
    | [] => d
    | c :: r => { d with log := { d.log with due := r }.enqueue c.record }

/-- Key of pending overflow entries: descending severity, then ascending code (R403). -/
def Counted.order (c : Counted) : Nat := (3 - c.sev) * 65536 + c.code

/-- The overflow entry staged next. -/
def nextOverflow (l : List Counted) : Option Counted :=
  l.foldl (fun b c => match b with | none => some c | some x => if c.order < x.order then some c else some x) none

/-- OVERFLOW_SUMMARY_STAGED (R403): the queue has a free entry. -/
def execOverflowSummaryStaged (s : State) : Host.Outcome State Fault Refusal :=
  s.runIf (fun d => d.log.staging.length < 64) fun d =>
    match nextOverflow d.log.overflow with
    | none => d
    | some c => { d with log := { d.log with overflow := d.log.overflow.erase c, staging := d.log.staging ++ [c.record] } }

/-! ### The writer (R401, R402, R405, R407) -/

/-- The staged entry of highest severity, the earliest arrival within it. -/
def bestRecord : List Record → Option Record
  | [] => none
  | r :: t => match bestRecord t with
    | none => some r
    | some b => if r.sev < b.sev then some b else some r

/-- Slots of the region written. -/
def Tephra.size (t : Tephra) : Nat := if t.region = 0 then 8192 else 512

/-- Write a record into the ring at the next slot; a slot written again loses its older record. -/
def Tephra.writeRing (t : Tephra) (r : Record) : Tephra :=
  if t.region = 2 then t
  else
    let key := t.region * 65536 + t.slot
    { t with
      ring := (t.ring.filter fun x => x.1 != key) ++ [(key, t.seq, r)]
      slot := (t.slot + 1) % t.size, seq := (t.seq + 1) % 2 ^ 32 }

/-- Write one record, with its black-box copy if a token is available (R402, R407). -/
def Dev.writeRecord (d : Dev) : Dev :=
  match bestRecord d.log.staging with
  | none => d
  | some r =>
    let d := { d with log := { d.log with staging := d.log.staging.erase r } }
    if Tab.get 3 d.log.bbMin (r.code / 256) ≤ r.sev then
      if d.log.bucket = 0 then
        let d := { d with log := { d.log.writeRing r with bbSkipped := satAdd max32 d.log.bbSkipped 1 } }
        d.raise 0x1104 0 (leBytes 2 r.code)
      else
        let r := { r with flags := r.flags + 2 }
        let d := d.bbCopy (r.bytes d.log.seq) r.fc
        { d with log := { d.log.writeRing r with bucket := d.log.bucket - 1 } }
    else { d with log := d.log.writeRing r }

/-- TEPHRA_RECORD_WRITE (R402, R401, R407). -/
def execTephraRecordWrite (s : State) : Host.Outcome State Fault Refusal := s.run Dev.writeRecord

/-- An uncorrectable error in the log SRAM (R406): the writer moves to the spare region, or stops. A record whose
write found the error is written again. -/
def Dev.logFault (d : Dev) (slot : Nat) (onWrite : Bool) : Dev :=
  let d := d.tick (0x4200 + 16 + 1) 1
  if d.log.region = 0 then
    let d := if d.sinter.read 56 = unset then d.sinterPut 56 d.fc else d
    let t := d.log
    let lost := t.ring.find? fun x => x.1 == slot
    let t := { t with region := 1, slot := 0, badSlots := t.badSlots ++ [slot] }
    let t := match lost with
      | some x => if onWrite && x.2.1 = (t.seq + 2 ^ 32 - 1) % 2 ^ 32 then
          { t with ring := (t.ring.filter fun y => y.1 != slot) ++ [(65536, x.2.1, x.2.2)], slot := 1 } else t
      | none => t
    { d with log := t }.raise 0x1102 0 (leBytes 2 slot)
  else if d.log.region = 1 then { d with log := { d.log with region := 2 } }.raise 0x1103 0 (leBytes 2 slot)
  else d

/-- LOG_MEMORY_FAULT (R406). -/
def execLogMemoryFault (slot : Nat) (onWrite : Bool) (s : State) : Host.Outcome State Fault Refusal :=
  s.runIf (fun d => slot < d.log.size) fun d => d.logFault slot onWrite

/-- The bucket gains 256 tokens at a PM second boundary (R407). -/
def Dev.refillBucket (d : Dev) : Dev := { d with log := { d.log with bucket := min 512 (d.log.bucket + 256) } }

/-! ### Commands (R409 to R411) -/

/-- A record of the ring as EVT_READ returns it: 0x00 bytes when its slot reads uncorrectable (R406). -/
def Tephra.recordBytes (t : Tephra) (x : Nat × Nat × Record) : List Byte :=
  if x.1 < 65536 && t.badSlots.contains x.1 then zeros 32 else x.2.2.bytes x.2.1

/-- OLDEST_SEQ. -/
def Tephra.oldest (t : Tephra) : Nat := match t.ring with | x :: _ => x.2.1 | [] => t.seq

/-- Whether sequence `a` stands before `b`: signed difference modulo 2^32 (R401). -/
def seqBefore (a b : Nat) : Bool := 2 ^ 31 ≤ (a + 2 ^ 32 - b) % 2 ^ 32

/-- Records EVT_READ selects (R409). -/
def Tephra.pick (t : Tephra) (start minSev mode : Nat) : List (Nat × Nat × Record) :=
  let ok := t.ring.filter fun x => minSev ≤ x.2.2.sev
  if mode = 1 then lastN 6 ok
  else (ok.filter fun x => !seqBefore x.2.1 start).take 6

/-- EVT_READ's response (R409). -/
def evtRead (d : Dev) (c : Cmd) : Nat × List Byte :=
  let l := d.log.pick (c.field 0 4) (clamp 0 3 (c.field 4 1)) (fallback 1 0 (c.field 5 1))
  (stOk, leBytes 8 d.fc ++ leBytes 4 d.log.oldest ++ leBytes 4 d.log.seq ++ leBytes 1 l.length ++ leBytes 1 d.log.region ++
    leBytes 1 d.log.staging.length ++ leBytes 1 0 ++ leBytes 4 d.log.overflows ++ leBytes 4 d.log.bbSkipped ++
    leBytes 4 d.log.badReads ++ (l.map d.log.recordBytes).flatten)

/-- Main-ring slots an EVT_READ read uncorrectable count in BAD_READS (R406). -/
def Dev.countBadReads (d : Dev) (c : Cmd) : Dev :=
  let l := d.log.pick (c.field 0 4) (clamp 0 3 (c.field 4 1)) (fallback 1 0 (c.field 5 1))
  let n := (l.filter fun x => x.1 < 65536 && d.log.badSlots.contains x.1).length
  { d with log := { d.log with badReads := satAdd max32 d.log.badReads n } }

/-- EVT_READ (R409). -/
def execEvtRead (core : Nat) (s : State) : Host.Outcome State Fault Refusal :=
  s.run fun d => d.serve core [0x0D01] (fun _ _ => none) fun e _ c =>
    let e := e.countBadReads c
    e.answer c stOk (evtRead e c).2

/-- An undefined AREA names nothing (R410). -/
def checkEvtMask (_ : Dev) (c : Cmd) : Check := refuseIf (0x11 < c.field 0 1) stNoObject

/-- Effect of EVT_MASK. -/
def applyEvtMask (d : Dev) (c : Cmd) : Applied :=
  let a := c.field 0 1
  okWith { d with log := { d.log with
    irqMin := Tab.set d.log.irqMin a (clamp 0 4 (c.field 1 1)), bbMin := Tab.set d.log.bbMin a (clamp 0 4 (c.field 2 1)) } }

/-- Parameter block of EVT_MASK for an area (R410). -/
def evtMaskBlock (d : Dev) (a : Nat) : List Byte :=
  leBytes 1 a ++ leBytes 1 (Tab.get 2 d.log.irqMin a) ++ leBytes 1 (Tab.get 3 d.log.bbMin a) ++ zeros 5

/-- EVT_MASK (R410). -/
def execEvtMask (core : Nat) (s : State) : Host.Outcome State Fault Refusal :=
  s.run fun d => d.serveChange core 0x0D02 checkEvtMask

/-- EVT_BLACKBOX_READ's response (R411). -/
def evtBlackbox (d : Dev) (c : Cmd) : Nat × List Byte :=
  let start := clamp 0 511 (c.field 0 2)
  let valid := ((List.range 512).filter fun k => d.sinter.bbKey k != unset).length
  let recs := (List.range (min 6 (512 - start))).map fun i =>
    ((List.range 4).map fun j => leBytes 8 (d.sinter.read (bbCell (4 * (start + i) + j)))).flatten
  (stOk, leBytes 8 d.fc ++ leBytes 2 (d.sinter.bbNewest.getD 0xFFFF) ++ leBytes 2 valid ++ leBytes 4 0 ++ recs.flatten)

/-- EVT_BLACKBOX_READ (R411). -/
def execEvtBlackboxRead (core : Nat) (s : State) : Host.Outcome State Fault Refusal :=
  s.run fun d => d.serveRead core [0x0D03] evtBlackbox

end Sys2Proof.Machine
end

