-- ==== Sys2Proof/Machine/Pm.lean ====
section
/-! DEFINITION. Performance monitoring: entities, PM seconds, unavailability, bins, thresholds, dDEG, and the PM_*
commands (R44, R219 to R222, R226, R227). -/

namespace Sys2Proof.Machine

open Sys2Proof

/-! ### Entities (R219) -/

/-- A layer is a PM entity now. -/
def Dev.isPmEntity (d : Dev) (obj l : Nat) : Bool :=
  d.hasLayer obj l &&
    (if objType obj = 2 && (l = layOtu || l = layOduc) then (d.port (objIndex obj)).enabled
     else if isTcm l || isPmLayer l then d.tcmMode obj l == 1 || d.tcmMode obj l == 3
     else l == layClientTx && (match d.sched.active with | some i => i.kindOf obj == 1 | none => false))

/-- An entity starts: its bins are suspect (R221). -/
def PmEntity.start (e : PmEntity) (pms : Nat) : PmEntity :=
  { run := true, cur := { pms := pms }, m15 := { startPms := pms, suspect := true }, h24 := { startPms := pms, suspect := true }
    thresholds := e.thresholds, uasBidir := e.uasNext, uasNext := e.uasNext }

/-- PM_BIN_SET words of the port defaults, as commands, the lowest word last (R365). -/
def Dev.pmWords (d : Dev) : List Cmd :=
  (List.range 8).reverse.filterMap fun k =>
    if d.sinter.read (502 + k) = unset then none else some (Cmd.ofWord 0x0705 0 (d.sinter.read (502 + k)))

/-- An entity that starts: THRESHOLD and UAS_MODE from the port defaults of its layer (R365). -/
def Dev.freshEntity (d : Dev) (l : Nat) : PmEntity :=
  ((d.pmWords.filter fun c => c.field 1 1 == l).foldl (fun (e : PmEntity) c =>
    match fallback 4 0 (c.field 0 1) with
    | 2 => { e with thresholds := Tab.set e.thresholds (clamp 0 1 (c.field 3 1) * 8 + clamp 0 7 (c.field 2 1)) (c.field 4 4) }
    | 3 => { e with uasNext := fallback 1 1 (c.field 4 4) == 1 }
    | _ => e) {}).start d.pps.pmSeconds

/-- An entity as it stands: started where it was not yet. -/
def Dev.entity (d : Dev) (obj l : Nat) : PmEntity :=
  let e := d.pm obj l
  if e.run then e else d.freshEntity l

/-! ### In a Beat -/

/-- First cells of an entity's counts: BIP-8 violations and BEI (R381). -/
def pmCells (obj l : Nat) : Option Nat × Option Nat :=
  let i := objIndex obj
  if objType obj = 1 && l = layPm then (some (chanCell i + 24), some (chanCell i + 26))
  else if objType obj = 2 && l = layOtu then (none, some (lineCell i + 144))
  else if objType obj = 3 && l = layClientTx then (some (clientCell i), none)
  else (none, none)

/-- Blocks that completed in a Beat. -/
def Dev.pmBlocks (d : Dev) (b : PmBlocks) : Dev :=
  if d.isPmEntity b.obj b.layer then
    let e := d.entity b.obj b.layer
    let c := e.cur
    let d := d.setPm b.obj b.layer { e with cur :=
      { c with blocks := c.blocks + b.blocks, nearErr := c.nearErr + b.nearErr, farErr := c.farErr + b.farErr } }
    let (n, f) := pmCells b.obj b.layer
    let d := match n with | some k => d.tick k b.near | none => d
    match f with | some k => d.tick k b.far | none => d
  else d

/-- A frame joins the blocks of the Beat: an OTUCn or ODUCn frame is one block across its instances. -/
def joinFrame (l : List (Nat × PmBlocks)) (r : PmFrame) : List (Nat × PmBlocks) :=
  let add := fun (b : PmBlocks) => { b with
    nearErr := b2n (b.nearErr != 0 || r.near != 0), farErr := b2n (b.farErr != 0 || r.far != 0)
    near := b.near + r.near, far := b.far + r.far }
  match l.findIdx? fun e => objType r.obj == 2 && e.1 == r.mfas && e.2.obj == r.obj && e.2.layer == r.layer with
  | some i => l.zipIdx.map fun e => if e.2 = i then (e.1.1, add e.1.2) else e.1
  | none => l ++ [(r.mfas, add { obj := r.obj, layer := r.layer, blocks := 1, nearErr := 0, farErr := 0, near := 0, far := 0 })]

/-- The frames that the Beat completed count as blocks; those of a client-side OTU come from outside. -/
def Dev.pmFrames (d : Dev) (outside : List PmBlocks) : Dev :=
  let l := (d.path.pmNow.foldl joinFrame []).map (·.2)
  (l ++ outside.filter fun b => b.layer == layClientTx).foldl Dev.pmBlocks { d with path := { d.path with pmNow := [] } }

/-- Every layer of every object of the active image, as (object, layer). -/
def Image.allLayers (i : Image) : List (Nat × Nat) :=
  let of := fun (o : Nat) => (i.layers o).map fun l => (o, l)
  ((List.range 8).filter i.lit).flatMap (fun p => of (objPort p)) ++ i.ptab.flatMap (fun x => of (objChannel x.ch)) ++
    i.clientPorts.flatMap (fun k => of (objClient k)) ++
    i.sgmap.flatMap fun g => of (objSpread g.sg)

/-- TSF or dBDI in a Beat makes a defect second. -/
def Dev.pmDefect (d : Dev) (obj l : Nat) : Dev :=
  let x := d.layer obj l
  let near := bit x.output 0
  let far := match bdiBit l with | some b => bit x.reported b | none => false
  if (near || far) && d.isPmEntity obj l then
    let e := d.entity obj l
    d.setPm obj l { e with cur := { e.cur with
      nearDefect := e.cur.nearDefect || near, farDefect := e.cur.farDefect || far } }
  else d

/-- A path monitor with a defect, or out of frame after it had gained frame, makes its second a defect second (R231). -/
def Dev.markMonitors (d : Dev) : Dev :=
  { d with path := { d.path with mons := d.path.mons.map fun e =>
      let x := d.pg (e.1 / 2)
      let m := if e.1 % 2 = 0 then x.w else x.p
      (e.1, if m.monDefects != 0 || (m.gained && !m.inFrame) then { e.2 with defect := true } else e.2) } }

/-- The defect seconds of every entity of the active image, and of the path monitors. -/
def Dev.pmDefects (d : Dev) : Dev :=
  match d.sched.active with
  | none => d
  | some i => (i.allLayers.foldl (fun d p => d.pmDefect p.1 p.2) d).markMonitors

/-! ### Classifying a second (R219) -/

/-- Errored blocks reach 15 % of the blocks, rounded up. -/
def sesBlocks (blocks err : Nat) : Bool := err != 0 && (15 * blocks + 99) / 100 ≤ err

/-- SES and ES of a direction: `far` picks it. -/
def PmSecond.err (s : PmSecond) (far : Bool) : Nat := if far then s.farErr else s.nearErr
def PmSecond.defect (s : PmSecond) (far : Bool) : Bool := if far then s.farDefect else s.nearDefect
def PmSecond.ses (s : PmSecond) (far : Bool) : Bool := s.defect far || sesBlocks s.blocks (s.err far)
def PmSecond.es (s : PmSecond) (far : Bool) : Bool := s.defect far || s.err far != 0

/-- A bad second, for dDEG. -/
def PmSecond.bad (s : PmSecond) (degthr : Nat) : Bool := s.ses false || degthr * s.blocks < s.nearErr * 10_000

/-! ### Settling (R220 to R222) -/

/-- Unavailability of a direction at a second, from the state before it and the ten seconds from it on. -/
def unavailableNow (was : Bool) (ten : List PmSecond) (far : Bool) : Bool :=
  if was then !ten.all fun s => !s.ses far else ten.all fun s => s.ses far

/-- Counts of a direction after a second settles. -/
def PmCounts.add (c : PmCounts) (s : PmSecond) (far unavailable : Bool) : PmCounts :=
  if unavailable then { c with uas := satAdd max32 c.uas 1 }
  else if s.ses far then { c with es := satAdd max32 c.es 1, ses := satAdd max32 c.ses 1 }
  else { c with es := satAdd max32 c.es (b2n (s.es far)), bbe := satAdd max32 c.bbe (s.err far) }

/-- A settled second joins a bin. -/
def PmBin.add (b : PmBin) (s : PmSecond) (nearU farU : Bool) : PmBin :=
  { b with holds := true, seconds := b.seconds + 1, near := b.near.add s false nearU, far := b.far.add s true farU }

/-- A settled second joins the closing bin in which it began, the oldest where none is older. -/
def addClosing (s : PmSecond) (nu fu : Bool) : List PmBin → List PmBin
  | [] => []
  | b :: t => if b.startPms ≤ s.pms || t.isEmpty then b.add s nu fu :: t else b :: addClosing s nu fu t

/-- A settled second joins the bin in which it began: the current one, or one that is closing. -/
def addToBins (cur : PmBin) (closing : List PmBin) (s : PmSecond) (nu fu : Bool) : PmBin × List PmBin :=
  if cur.startPms ≤ s.pms then (cur.add s nu fu, closing) else (cur, addClosing s nu fu closing)

/-- Counts of a bin by PARAM. -/
def PmBin.counts (b : PmBin) : List Nat :=
  [b.near.bbe, b.near.es, b.near.ses, b.near.uas, b.far.bbe, b.far.es, b.far.ses, b.far.uas]

/-- PARAMs that cross their thresholds (R222). -/
def PmEntity.crossings (e : PmEntity) (b : PmBin) (type : Nat) : List (Nat × Nat) :=
  b.counts.zipIdx.filterMap fun p =>
    let thr := Tab.get 0 e.thresholds (type * 8 + p.2)
    if thr != 0 && thr ≤ p.1 && !bit b.crossed p.2 then some (p.2, p.1) else none

/-- Report the crossings of one bin. -/
def Dev.reportCrossings (d : Dev) (obj l type : Nat) (cs : List (Nat × Nat)) : Dev :=
  cs.foldl (fun d p => d.raise 0x0703 obj
    (leBytes 4 obj ++ leBytes 1 l ++ leBytes 1 p.1 ++ leBytes 1 type ++ leBytes 4 p.2)) d

/-- Mark PARAMs as crossed. -/
def PmBin.mark (b : PmBin) (cs : List (Nat × Nat)) : PmBin :=
  { b with crossed := cs.foldl (fun v p => setBit v p.1 true) b.crossed }

/-- The oldest of eleven seconds settles. -/
def Dev.settleSecond (d : Dev) (obj l : Nat) (e : PmEntity) : Dev × PmEntity :=
  match e.pending.reverse with
  | [] => (d, e)
  | s :: rest =>
    if rest.length < 10 then (d, e)
    else
      let ten := s :: rest.take 9
      let nu := unavailableNow e.nearUnavail ten false
      let fu := unavailableNow e.farUnavail ten true
      let ev := fun (d : Dev) (dir : Nat) (now was : Bool) => if now = was then d else
        d.raise 0x0707 obj (leBytes 4 obj ++ leBytes 1 l ++ leBytes 1 dir ++ leBytes 1 (b2n now))
      let d := ev (ev d 0 nu e.nearUnavail) 1 fu e.farUnavail
      let (cn, cf) := if e.uasBidir then (nu || fu, nu || fu) else (nu, fu)
      let (m, mc) := addToBins e.m15 e.m15Closing s cn cf
      let (h, hc) := addToBins e.h24 e.h24Closing s cn cf
      let e := { e with nearUnavail := nu, farUnavail := fu, pending := rest.reverse, m15Closing := mc, h24Closing := hc }
      let (c0, c1) := (e.crossings m 0, e.crossings h 1)
      let d := (d.reportCrossings obj l 0 c0).reportCrossings obj l 1 c1
      (d, { e with m15 := m.mark c0, h24 := h.mark c1 })

/-- dDEG after a second (R219): consecutive bad or good seconds. -/
def Dev.settleDeg (d : Dev) (obj l : Nat) (e : PmEntity) (s : PmSecond) : Dev × PmEntity :=
  let x := d.layer obj l
  let bad := s.bad x.degthr
  let e := { e with badRun := if bad then e.badRun + 1 else 0, goodRun := if bad then 0 else e.goodRun + 1 }
  match degBit l with
  | none => (d, e)
  | some b =>
    if x.degm ≤ e.badRun then (d.setInput obj l b true, e)
    else if x.degm ≤ e.goodRun then (d.setInput obj l b false, e)
    else (d, e)

/-- A path monitor's second ends: dDEG by the DEGM and DEGTHR of the channel's RX flow at the level (R219, R231). -/
def Dev.monitorSecond (d : Dev) (r : PgRec) (k : Nat) : Dev :=
  match monLevel r.arch (d.pg r.pg).tcmLevel with
  | none => d
  | some level =>
    let a := d.layer (objChannel r.ch) (if level = 0 then layPm else layTcm level)
    let m := d.monitor r.pg k
    let bad := ({ pms := 0, blocks := m.blocks, nearErr := m.errored, nearDefect := m.defect } : PmSecond).bad a.degthr
    let m := { m with blocks := 0, errored := 0, defect := false, badRun := if bad then m.badRun + 1 else 0
                      goodRun := if bad then 0 else m.goodRun + 1 }
    let d := d.setMonitor r.pg k m
    let x := d.pg r.pg
    let p := if k = 0 then x.w else x.p
    let p := { p with monDeg := if a.degm ≤ m.badRun then p.gained else if a.degm ≤ m.goodRun then false else p.monDeg }
    d.setPg r.pg (if k = 0 then { x with w := p } else { x with p := p })

/-- The bin that a second belongs to is suspect. -/
def PmEntity.suspectAt (e : PmEntity) (pms : Nat) : PmEntity :=
  let one := fun (cur : PmBin) => if cur.startPms ≤ pms then { cur with suspect := true } else cur
  { e with m15 := one e.m15, h24 := one e.h24 }

/-- Bins whose last second has settled leave for history, newest first (R221). -/
def closeBins (next : Nat) (startCur : Nat) : List PmBin → List PmBin × List PmBin
  | [] => ([], [])
  | b :: t =>
    let (keep, gone) := closeBins next b.startPms t
    if startCur + 10 ≤ next then (keep, { b with closed := true, holds := true } :: gone) else (b :: keep, gone)

/-- One entity at the boundary to PM second `next`: the second ends, bins end where `end15` or `end24` holds. Answers
the bins that close, by type. -/
def Dev.entitySecond (d : Dev) (obj l next : Nat) (irregular newOrigin end15 end24 : Bool) :
    Dev × List PmBin × List PmBin :=
  let e := d.entity obj l
  let s := { e.cur with irregular := irregular }
  let e := { e with cur := { pms := next }, last := s, pending := s :: e.pending }
  let e := if irregular then e.suspectAt s.pms else e
  let (d, e) := d.settleDeg obj l e s
  let (d, e) := d.settleSecond obj l e
  let e := if newOrigin then
    { e with m15 := { e.m15 with suspect := true }, h24 := { e.h24 with suspect := true } } else e
  let e := if end15 then { e with m15Closing := e.m15 :: e.m15Closing, m15 := { startPms := next } } else e
  let e := if end24 then { e with h24Closing := e.h24 :: e.h24Closing, h24 := { startPms := next } } else e
  let (k15, g15) := closeBins next e.m15.startPms e.m15Closing
  let (k24, g24) := closeBins next e.h24.startPms e.h24Closing
  let e := { e with m15Closing := k15, h24Closing := k24, m15Hist := (g15 ++ e.m15Hist).take 32
                    h24Hist := (g24 ++ e.h24Hist).take 7, uasBidir := e.uasNext }
  let x := d.layer obj l
  let d := d.setLayer obj l { x with degm := x.degmNext, degthr := x.degthrNext }
  (d.setPm obj l e, g15, g24)

/-- Event 0x0704, once per bin type. -/
def Dev.binClosed (d : Dev) (type : Nat) (bs : List PmBin) : Dev :=
  match bs with
  | [] => d
  | b :: _ => d.raise 0x0704 0 (leBytes 1 type ++ leBytes 4 b.startPms ++ leBytes 1 (b2n (bs.any (·.suspect))))

/-- Entities that are no more end. -/
def Dev.dropEntities (d : Dev) : Dev :=
  { d with pms := d.pms.filter fun p => d.isPmEntity (p.1 / 256) (p.1 % 256) }

/-- A PM second ends and the next begins (R44, R219 to R221). -/
def Dev.pmSecond (d : Dev) : Dev :=
  let len := d.pps.pmsAge
  let irregular := len != 3360 && len != 3361
  let next : Nat := (d.pps.pmSeconds + 1) % 2 ^ 32
  let d := if irregular then d.raise 0x0705 0 (leBytes 4 len) else d
  let newOrigin := d.pmDev.originNext != d.pmDev.origin
  let d := { d with
    pmDev := { d.pmDev with origin := d.pmDev.originNext }
    pps := { d.pps with pmSeconds := next, pmsMfn := d.mfn, pmsAge := 0, edgeWaits := false, irregular := irregular } }
  let since : Int := (next : Int) - (d.pmDev.origin : Int)
  let d := d.dropEntities
  let d := match d.sched.active with
    | some i => (i.pgs.filter fun r => (d.pg r.pg).run).foldl (fun d r => (d.monitorSecond r 0).monitorSecond r 1) d
    | none => d
  let es : List (Nat × Nat) := match d.sched.active with | some i => i.allLayers.filter fun p => d.isPmEntity p.1 p.2 | none => []
  let (d, g15, g24) := es.foldl (fun (a : Dev × List PmBin × List PmBin) p =>
    let (d, x, y) := a.1.entitySecond p.1 p.2 next irregular newOrigin (since % 900 == 0) (since % 86_400 == 0)
    (d, a.2.1 ++ x, a.2.2 ++ y)) (d, [], [])
  (((d.binClosed 0 g15).binClosed 1 g24).refillBucket)

/-- A timed command's moment has come (R47, R48). -/
def Dev.timedDue (d : Dev) : Bool :=
  d.host.waiting.any fun w => !w.job && (match w.target with | some t => fcOf t ≤ d.fc | none => false)

/-- PM_SECOND_BOUNDARY (R44): at Beat 0 of an MF, after swaps, ladder steps and timed commands (R46). -/
def execPmSecondBoundary (s : State) : Host.Outcome State Fault Refusal :=
  s.runIf (fun d => d.beat == 0 && !d.swapDue && !d.ladderDue && !d.timedDue && d.pps.pmsAge != 0 &&
      (if d.pps.state == .valid then d.pps.edgeWaits else d.pps.edgeWaits || 3360 ≤ d.pps.pmsAge)) Dev.pmSecond

/-! ### PM_READ (R226) -/

/-- Counts of an unsettled second. -/
def PmSecond.counts (s : PmSecond) : PmBin := PmBin.add { startPms := s.pms, suspect := s.irregular } s false false

/-- The bin that BIN selects: whether it holds data, suspect, closed, START_PMS, settled seconds, counts. -/
def PmEntity.bin (e : PmEntity) (k : Nat) : PmBin :=
  if k = 0 then { e.cur.counts with seconds := 0 }
  else if k = 1 then { e.last.counts with seconds := 0, holds := !e.pending.isEmpty }
  else if k = 2 then e.m15
  else if k < 35 then e.m15Hist.getD (k - 3) { startPms := 0 }
  else if k = 35 then e.h24
  else e.h24Hist.getD (k - 36) { startPms := 0 }

/-- Bytes of the counts of a direction. -/
def PmCounts.bytes (c : PmCounts) : List Byte := leBytes 4 c.bbe ++ leBytes 4 c.es ++ leBytes 4 c.ses ++ leBytes 4 c.uas

/-- PM_READ's response. -/
def pmRead (d : Dev) (c : Cmd) : Nat × List Byte :=
  let l := c.field 0 1
  if !d.isPmEntity c.object l then (stNoObject, [])
  else
    let k := clamp 0 42 (c.field 1 1)
    let e := d.entity c.object l
    let b := e.bin k
    (stOk, leBytes 8 d.fc ++ leBytes 1 k ++
      leBytes 1 (b2n b.holds + 2 * b2n b.suspect + 4 * b2n b.closed + 8 * b2n e.nearUnavail + 16 * b2n e.farUnavail +
        32 * b2n e.uasBidir) ++ zeros 2 ++
      leBytes 4 b.startPms ++ leBytes 4 b.seconds ++ b.near.bytes ++ b.far.bytes)

/-- PM_READ (R226). -/
def execPmRead (core : Nat) (s : State) : Host.Outcome State Fault Refusal :=
  s.run fun d => d.serveRead core [0x0704] pmRead

/-! ### PM_BIN_SET (R227) -/

/-- Checks of PM_BIN_SET. -/
def checkPmBinSet (d : Dev) (c : Cmd) : Check :=
  let fn := fallback 4 0 (c.field 0 1)
  let l := c.field 1 1
  refuseIf (if fn = 1 then objType c.object != 0
    else objType c.object == 0 || !d.hasLayer c.object l || (2 ≤ fn && !d.isPmEntity c.object l)) stNoObject

/-- Effect of PM_BIN_SET. -/
def applyPmBinSet (d : Dev) (c : Cmd) : Applied :=
  recheck d (checkPmBinSet d c) fun d =>
    let l := c.field 1 1
    let v := c.field 4 4
    let e := d.entity c.object l
    match fallback 4 0 (c.field 0 1) with
    | 1 => okWith { d with pmDev := { d.pmDev with originNext := v } }
    | 2 =>
      let k := clamp 0 1 (c.field 3 1) * 8 + clamp 0 7 (c.field 2 1)
      okWith (d.setPm c.object l { e with thresholds := Tab.set e.thresholds k v })
    | 3 => okWith (d.setPm c.object l { e with uasNext := fallback 1 1 v == 1 })
    | 4 => okWith (d.setPm c.object l { e with
        m15 := { startPms := e.m15.startPms, suspect := true, crossed := e.m15.crossed }
        h24 := { startPms := e.h24.startPms, suspect := true, crossed := e.h24.crossed } })
    | _ => okWith d

/-- Parameter block of PM_BIN_SET for its key fields (R350). -/
def Dev.pmBlock (d : Dev) (c : Cmd) : List Byte :=
  let fn := fallback 4 0 (c.field 0 1)
  let l := c.field 1 1
  let param := clamp 0 7 (c.field 2 1)
  let type := clamp 0 1 (c.field 3 1)
  let e := d.entity c.object l
  let v := match fn with
    | 1 => d.pmDev.origin | 2 => Tab.get 0 e.thresholds (type * 8 + param) | 3 => b2n e.uasBidir | _ => 0
  leBytes 1 fn ++ leBytes 1 l ++ leBytes 1 param ++ leBytes 1 type ++ leBytes 4 v ++ zeros 4

/-- PM_BIN_SET (R227). -/
def execPmBinSet (core : Nat) (s : State) : Host.Outcome State Fault Refusal :=
  s.run fun d => d.serveChange core 0x0705 checkPmBinSet

end Sys2Proof.Machine
end

