-- ==== Sys2Proof/Machine/Protection.lean ====
section
/-! DEFINITION. Protection groups: path monitors and conditions, hold-off and wait-to-restore, the response tables, tokens,
APS, and the PG_* commands; and the evaluation of every chain and group in a Beat (R212, R229 to R255). -/

namespace Sys2Proof.Machine

open Sys2Proof

/-! ### Paths (R231 to R233) -/

/-- A path of a group: 0 working, 1 protection. -/
def PgState.path (x : PgState) (k : Nat) : PgPath := if k = 0 then x.w else x.p
def PgState.setPath (x : PgState) (k : Nat) (p : PgPath) : PgState := if k = 0 then { x with w := p } else { x with p := p }

/-- Port of a path. -/
def PgRec.port (r : PgRec) (k : Nat) : Nat := if k = 0 then r.wPort else r.pPort

/-- The slice fabric that holds a path's monitor is on (R250). -/
def Dev.monitorOn (d : Dev) (r : PgRec) (k : Nat) : Bool := d.domOn (domFabric (r.port k / 2))

/-- Five frame periods of a channel's ODU have passed since the monitor started. -/
def Dev.huntOver (d : Dev) (r : PgRec) (beats : Nat) : Bool :=
  match d.desc r.ch with
  | some x => 5 * rateOtuc.1 * x.rate.2 ≤ beats * rateOtuc.2 * x.rate.1
  | none => true

/-- A path monitor counts as out of frame (R231). -/
def Dev.monitorOof (d : Dev) (r : PgRec) (m : PgPath) : Bool :=
  !m.inFrame && (m.gained || d.huntOver r m.monBeats)

/-- A path monitor as it starts hunting. -/
def PgPath.restart (m : PgPath) : PgPath :=
  { m with inFrame := false, gained := false, monBeats := 0, monDefects := 0, monDeg := false, sf := false, sd := false }

/-- States of a path's monitor as sampled at the end of a Beat (R232, R250). -/
def Dev.samplePath (d : Dev) (r : PgRec) (k : Nat) (m : PgPath) : PgPath :=
  { m with
    sf := !d.monitorOn r k || (r.arch % 8 != 0 && (d.monitorOof r m || m.monDefects != 0))
    sd := r.arch % 8 != 0 && m.monDeg }

/-- Samples of every group at the end of a Beat (R234, R236, R239). -/
def Dev.samplePgs (d : Dev) : Dev :=
  match d.sched.active with
  | none => d
  | some i => i.pgs.foldl (fun d r =>
      let x := d.pg r.pg
      if !x.run then d
      else d.setPg r.pg { x with
        w := d.samplePath r 0 x.w, p := d.samplePath r 1 x.p, smpLocal := if x.presentClear then 6 else x.held
        smpReq := x.remoteReq, smpR := x.remoteR }) d

/-- Actual condition of a path (R232): 0 OK, 1 SD, 2 SF. -/
def Dev.actualCond (d : Dev) (r : PgRec) (k : Nat) (m : PgPath) : Nat :=
  let o := (d.layer (objPort (r.port k)) layOduc).output
  if bit o 0 || m.sf then 2 else if bit o 1 || m.sd then 1 else 0

/-- Beats of a hold-off step and of a WTR step. -/
def holdoffStep : Nat := 86_016
def wtrStep : Nat := 51_609_600

/-- The presented condition follows the actual one (R233). -/
def PgPath.present (m : PgPath) (actual holdoffSet : Nat) : PgPath :=
  let m := { m with actual := actual }
  if m.holdoffDue then { m with presented := actual, holdoffDue := false }
  else if m.holdoff.isSome then (if actual < m.presented then { m with presented := actual } else m)
  else if holdoffSet = 0 || actual ≤ m.presented then { m with presented := actual }
  else { m with holdoff := some (holdoffSet * holdoffStep - 1) }

/-! ### The response table (R234 to R239) -/

/-- The 16-bit index (R234). -/
def PgState.index (x : PgState) : Nat :=
  x.w.presented + x.p.presented * 4 + x.smpLocal * 16 + b2n x.wtrDone * 128 + x.smpReq * 256 + x.smpR * 4_096 + x.state * 8_192

/-- The held local request is removed: 0 by CLEAR, 1 by LOCAL_DROP (R235). -/
def Dev.endLocal (d : Dev) (g cause : Nat) : Dev :=
  let x := d.pg g
  if x.held = 0 then d
  else (d.setPg g { x with held := 0 }).raise 0x0802 (objGroup g) (leBytes 1 g ++ leBytes 1 x.held ++ leBytes 1 cause)

/-- One group in an evaluation (R239, steps 2 and 3). -/
def Dev.evalGroup (d : Dev) (i : Image) (r : PgRec) : Dev :=
  let x := d.pg r.pg
  let x := { x with w := x.w.present (d.actualCond r 0 x.w) x.holdoffSet
                    p := x.p.present (d.actualCond r 1 x.p) x.holdoffSet }
  let word := match i.prt.find? fun t => t.id == r.tableId with | some t => t.look x.index | none => 0
  let d := d.setPg r.pg { x with word := word, state := word % 8, wtrDone := false
                                 presentClear := x.presentClear && x.smpLocal != 6 }
  if bit word 7 then d.endLocal r.pg 1 else d

/-- A protection token (R240). -/
def pgToken (g stamp word : Nat) : Token :=
  { stamp := stamp, word := 8 * 2 ^ 60 + g * 2 ^ 48 + stamp % 65_536 * 2 ^ 32 + word }

/-! ### Start and end (R249, R250, R254) -/

/-- Effect of the fields of PG_TIMERS (R254). -/
def Dev.setTimers (d : Dev) (g : Nat) (c : Cmd) : Dev :=
  let x := d.pg g
  let tcm := clamp 1 6 (c.field 2 1)
  let d := d.setPg g { x with holdoffSet := clamp 0 100 (c.field 0 1), wtrSet := clamp 1 12 (c.field 1 1), tcmLevel := tcm }
  match d.pgRec g with
  | some r =>
    if r.arch % 8 = 2 && tcm != x.tcmLevel then
      let x := d.pg g
      ((d.dropMonitors g).setPg g { x with w := x.w.restart, p := x.p.restart }).releaseAps (objChannel r.ch) tcm
    else d
  | none => d

/-- A group starts with the attributes it has (R249, R250): one in aligned mode leaves it (R206); its APS level takes effect
(R134). -/
def Dev.restartPg (d : Dev) (r : PgRec) : Dev :=
  let d := if (d.pg r.pg).align.aligned then d.alignEvent r.pg 0 0 else d
  let d := (d.dropStreams (objGroup r.pg)).dropMonitors r.pg
  let x := d.pg r.pg
  let d := d.setPg r.pg { run := true, holdoffSet := x.holdoffSet, wtrSet := x.wtrSet, tcmLevel := x.tcmLevel }
  d.releaseAps (objChannel r.ch) (apsLevel r.arch x.tcmLevel)

/-- A group that comes to exist starts with the port defaults of Sinter, if set (R56, R249). -/
def Dev.startPg (d : Dev) (r : PgRec) : Dev :=
  let d := d.setPg r.pg {}
  let w := d.sinter.read (336 + r.pg)
  (if w = unset then d else d.setTimers r.pg (Cmd.ofWord 0x0803 (objGroup r.pg) w)).restartPg r

/-- A group ends at a swap (R249). -/
def Dev.endPg (d : Dev) (g : Nat) : Dev :=
  let x := d.pg g
  let d := (d.dropStreams (objGroup g)).dropMonitors g
  (d.setPg g {}).raise 0x0806 (objGroup g) (leBytes 1 g ++ leBytes 1 x.held)

/-! ### The evaluation of a Beat (R212, R239) -/

/-- Groups are evaluated, started where PD_PRT has come back, or stand at the working path where it is off (R250). -/
def Dev.evalGroups (d : Dev) (i : Image) (stamp : Nat) (on : Nat → Bool) : Dev :=
  (i.pgs.filter fun r => on (objGroup r.pg)).foldl (fun d r =>
    let d := if d.domOn domPrt then (if (d.pg r.pg).run then d else d.restartPg r).evalGroup i r
      else d.setPg r.pg { d.pg r.pg with run := false }
    let word := if d.domOn domPrt then (d.pg r.pg).word else 0
    { d with tokens := d.tokens ++ [pgToken r.pg stamp word] }) d

/-- The path that the evaluation selects for a group. -/
def Dev.selects (d : Dev) (g : Nat) : Bool := d.domOn domPrt && bit (d.pg g).word 3

/-- Every chain and group of the objects that `on` names, for tokens stamped `stamp`. -/
def Dev.evaluate (d : Dev) (i : Image) (stamp : Nat) (on : Nat → Bool) : Dev :=
  let d := (d.evalPorts i stamp on).evalGroups i stamp on
  d.evalChannels i stamp on d.selects

/-! ### What a token does (R237, R239) -/

/-- Failure-of-protocol indications follow what is sent and accepted (R253). -/
def Dev.noteFop (d : Dev) (g : Nat) : Dev :=
  let x := d.pg g
  let rx := fun (i : Nat) => (byteAt x.rxAps i).toNat
  let tx := fun (i : Nat) => (byteAt x.txAps i).toNat
  let pm := !x.rxAps.isEmpty && (bit (rx 0) 2 != bit (tx 0) 2 || bit (rx 0) 1 != bit (tx 0) 1)
  let differ := !x.rxAps.isEmpty && rx 1 != tx 1
  let d := d.setPg g { x with fopPm := pm, fopNr := x.fopNr && differ, nrRun := if differ then x.nrRun else 0 }
  let d := if pm = x.fopPm then d else d.raise 0x0804 (objGroup g) (leBytes 1 g ++ leBytes 1 0 ++ leBytes 1 (b2n pm))
  if x.fopNr && !differ then d.raise 0x0804 (objGroup g) (leBytes 1 g ++ leBytes 1 1 ++ leBytes 1 0) else d

/-- A protection token takes effect at the start of its Beat. -/
def Dev.applyProtection (d : Dev) (g word : Nat) : Dev :=
  let x := d.pg g
  let sel := bit word 3
  let wtr := if bit word 5 then some (x.wtrSet * wtrStep) else if bit word 6 then none else x.wtrLeft
  let x' := { x with
    select := sel, wtrLeft := wtr, wtrDone := x.wtrDone && !bit word 5 && !bit word 6
    txAps := leBytes 1 (bits word 15 8) ++ leBytes 1 (bits word 23 16) ++ leBytes 1 (bits word 31 24) ++ leBytes 1 0 }
  let d := d.setPg g x'
  let d := if sel = x.select then d else
    ((d.setPg g { x' with switches := satAdd max32 x.switches 1, switchFc := d.fc }).tick (0x4600 + 8 * g) 1).raise 0x0801
      (objGroup g) (leBytes 1 g ++ leBytes 1 (b2n sel) ++ leBytes 1 (bits word 15 12))
  d.noteFop g

/-- Timers of every group in a Beat: hold-off, WTR, the path monitors' hunt, and dFOP-NR (R233, R239, R250). -/
def Dev.countPgs (d : Dev) : Dev :=
  let on := d.domOn domPrt
  let less := fun (o : Option Nat) => if on then o.map (· - 1) else o
  { d with pgs := d.pgs.map fun e =>
    let x := e.2
    if !x.run then e
    else
      let differ := !x.rxAps.isEmpty && byteAt x.rxAps 1 != byteAt x.txAps 1
      (e.1, { x with
        w := { x.w with holdoff := less x.w.holdoff, monBeats := x.w.monBeats + 1 }
        p := { x.p with holdoff := less x.p.holdoff, monBeats := x.p.monBeats + 1 }
        wtrLeft := less x.wtrLeft, nrRun := if differ then x.nrRun + 1 else 0 }) }

/-- HOLDOFF_EXPIRY (R233): path 0 working, 1 protection. -/
def execHoldoffExpiry (pg path : Nat) (s : State) : Host.Outcome State Fault Refusal :=
  s.runIf (fun d => pg < 128 && path < 2 && (d.pg pg).run && ((d.pg pg).path path).holdoff == some 0) fun d =>
    let x := d.pg pg
    d.setPg pg (x.setPath path { x.path path with holdoff := none, holdoffDue := true })

/-- WTR_EXPIRY (R239). -/
def execWtrExpiry (pg : Nat) (s : State) : Host.Outcome State Fault Refusal :=
  s.runIf (fun d => pg < 128 && (d.pg pg).run && (d.pg pg).wtrLeft == some 0) fun d =>
    d.setPg pg { d.pg pg with wtrLeft := none, wtrDone := true }

/-- APS_ACCEPTED (R236): the bytes that have come in 3 consecutive occurrences, the monitor in frame. -/
def execApsAccepted (pg : Nat) (aps : List Byte) (s : State) : Host.Outcome State Fault Refusal :=
  s.runIf (fun d => pg < 128 && (d.pg pg).run && (d.pg pg).p.inFrame &&
      3 ≤ (d.monitor pg 1).apsRun && (d.monitor pg 1).aps == padTo 4 aps && (match d.pgRec pg with | some r => d.monitorOn r 1 | none => false)) fun d =>
    let x := d.pg pg
    let a := padTo 4 aps
    if x.rxAps = a then d
    else
      let d := d.setPg pg { x with rxAps := a, remoteReq := (byteAt a 0).toNat / 16, remoteR := (byteAt a 1).toNat % 2 }
      (((d.tick (0x4600 + 8 * pg + 1) 1).raise 0x0803 (objGroup pg) (leBytes 1 pg ++ a)).noteFop pg)

/-- PATH_MONITOR_FRAME_CHANGE (R231): the monitor's counts of FAS have put it in frame, or out of it. -/
def execPathMonitorFrameChange (pg path : Nat) (inFrame : Bool) (s : State) : Host.Outcome State Fault Refusal :=
  s.runIf (fun d => pg < 128 && path < 2 && (d.pg pg).run && ((d.pg pg).path path).inFrame != inFrame &&
      (d.monitor pg path).lock == inFrame && (match d.pgRec pg with | some r => d.monitorOn r path | none => false)) fun d =>
    let x := d.pg pg
    let m := x.path path
    let d := d.setPg pg (x.setPath path { m with inFrame := inFrame, gained := m.gained || inFrame })
    if inFrame then d else d.tick (0x4600 + 8 * pg + 2) 1

/-- DFOP_NR_TIMEOUT (R253): the requested signals have differed for 168 MF in a bidirectional group. -/
def execDfopNrTimeout (pg : Nat) (s : State) : Host.Outcome State Fault Refusal :=
  s.runIf (fun d => pg < 128 && (d.pg pg).run && !(d.pg pg).fopNr && 168 * 256 ≤ (d.pg pg).nrRun &&
      (match d.pgRec pg with | some r => bits r.arch 4 3 == 1 | none => false)) fun d =>
    (d.setPg pg { d.pg pg with fopNr := true }).raise 0x0804 (objGroup pg) (leBytes 1 pg ++ leBytes 1 1 ++ leBytes 1 1)

/-! ### PG_COMMAND (R252, R235) -/

/-- Rank of a local request. -/
def localRank : Nat → Nat
  | 1 => 4 | 2 => 3 | 3 => 2 | 4 => 2 | 5 => 1 | _ => 0

/-- PG_COMMAND needs the evaluator. -/
def checkPgCommand (d : Dev) (_ : Cmd) : Check := refuseIf (!d.domOn domPrt) stConstraint

/-- Effect of PG_COMMAND. -/
def applyPgCommand (d : Dev) (c : Cmd) : Applied :=
  recheck d (checkPgCommand d c) fun d =>
    let g := c.index
    let x := d.pg g
    let done := fun (d : Dev) => (d, stOk, leBytes 1 (d.pg g).held ++ zeros 3)
    match fallback 6 0 (c.field 0 1) with
    | 0 => done d
    | 6 =>
      let d := d.endLocal g 0
      done (d.setPg g { d.pg g with presentClear := true })
    | r => if localRank r < localRank x.held then (d, stConstraint, []) else done (d.setPg g { x with held := r, presentClear := false })

/-- PG_COMMAND (R252). -/
def execPgCommand (core : Nat) (s : State) : Host.Outcome State Fault Refusal :=
  s.run fun d => d.serveChange core 0x0801 checkPgCommand

/-! ### PG_STATUS (R253) -/

/-- PG_STATUS's response. -/
def pgStatus (d : Dev) (c : Cmd) : Nat × List Byte :=
  match d.pgRec c.index with
  | none => (stNoObject, [])
  | some r =>
    let x := d.pg c.index
    (stOk, leBytes 8 d.fc ++ leBytes 1 x.state ++
      leBytes 1 (b2n x.select + 2 * b2n x.align.aligned + 4 * b2n x.w.holdoff.isSome + 8 * b2n x.p.holdoff.isSome +
        16 * b2n x.wtrLeft.isSome + 32 * b2n x.fopPm + 64 * b2n x.fopNr + 128 * b2n (!d.domOn domPrt)) ++
      leBytes 1 r.arch ++ leBytes 1 r.tableId ++ leBytes 1 r.wPort ++ leBytes 1 r.pPort ++
      leBytes 1 (apsLevel r.arch x.tcmLevel) ++ leBytes 1 x.held ++ leBytes 1 (x.w.actual + 4 * x.w.presented) ++
      leBytes 1 (x.p.actual + 4 * x.p.presented) ++ zeros 2 ++ padTo 4 x.txAps ++ padTo 4 x.rxAps ++ leBytes 4 x.word ++
      leBytes 4 (x.w.holdoff.getD 0) ++ leBytes 4 (x.p.holdoff.getD 0) ++ leBytes 4 (x.wtrLeft.getD 0) ++
      leBytes 4 x.switches ++ leBytes 8 x.switchFc ++ leBytes 2 r.guard ++ zeros 2)

/-- PG_STATUS (R253). -/
def execPgStatus (core : Nat) (s : State) : Host.Outcome State Fault Refusal :=
  s.run fun d => d.serveRead core [0x0802] pgStatus

/-! ### PG_TIMERS (R254) -/

/-- Effect of PG_TIMERS: running timers keep their expiry. -/
def applyPgTimers (d : Dev) (c : Cmd) : Applied := okWith (d.setTimers c.index c)

/-- Parameter block of PG_TIMERS. -/
def timersBlock (x : PgState) : List Byte := leBytes 1 x.holdoffSet ++ leBytes 1 x.wtrSet ++ leBytes 1 x.tcmLevel ++ zeros 5

/-- PG_TIMERS (R254). -/
def execPgTimers (core : Nat) (s : State) : Host.Outcome State Fault Refusal :=
  s.run fun d => d.serveChange core 0x0803 fun _ _ => none

end Sys2Proof.Machine
end

