-- ==== Sys2Proof/Machine/Wire.lean ====
section
/-! DEFINITION. The Galulo frame as bytes: HEAD, tokens, digests, mirrored-command entries, credits and lane markers (R263 to R266,
R268, R271). -/

namespace Sys2Proof.Machine

open Sys2Proof

/-! ### HEAD (R265) -/

/-- HEAD of a frame that carries `n` tokens. -/
def GHead.bytes (h : GHead) (n : Nat) : List Byte :=
  [0x6A, 0x5C, 0x01] ++ leBytes 1 h.role ++ leBytes 8 h.fc ++ leBytes 2 h.tokSeq ++ leBytes 2 n ++ leBytes 2 h.echoSeq ++
    leBytes 2 h.echoHold ++ leBytes 1 h.health ++ leBytes 1 h.pairIndex ++ leBytes 1 h.ownLp ++ leBytes 1 h.xferOp ++
    leBytes 8 h.ownCp ++ leBytes 1 h.swapOp ++ leBytes 1 h.joinPhase ++ leBytes 2 h.cmdAck ++ leBytes 4 h.swapGen ++
    leBytes 4 h.swapCrc ++ leBytes 4 h.xferMfn ++ leBytes 1 h.xferLp ++ leBytes 1 h.divLp ++ leBytes 1 h.xstby ++ zeros 5 ++
    leBytes 8 h.xferCp

/-- HEAD as read, with TOKEN_COUNT; none without MAGIC and VERSION (R264). -/
def readHead (l : List Byte) : Option (GHead × Nat) :=
  let f := fun (o n : Nat) => leNat (sliceAt l o n)
  if sliceAt l 0 3 != [0x6A, 0x5C, 0x01] then none
  else some
    ({ role := f 3 1, fc := f 4 8, tokSeq := f 12 2, echoSeq := f 16 2, echoHold := f 18 2, health := f 20 1, pairIndex := f 21 1
       ownLp := f 22 1, xferOp := f 23 1, ownCp := f 24 8, swapOp := f 32 1, joinPhase := f 33 1, cmdAck := f 34 2
       swapGen := f 36 4, swapCrc := f 40 4, xferMfn := f 44 4, xferLp := f 48 1, divLp := f 49 1, xstby := f 50 1
       xferCp := f 56 8 }, f 14 2)

/-! ### DIGEST (R271) -/

/-- The DIGEST section: its fields in the order of R271 without gaps (DEDUCED, log 88). -/
def Digests.bytes (g : Digests) : List Byte :=
  padTo 512 (leBytes 4 g.mfn ++ leBytes 1 g.lpValid ++ leBytes 8 g.cpValid ++
    (List.range 8).flatMap (fun k => leBytes 4 (g.lp.getD k 0)) ++ (List.range 64).flatMap fun k => leBytes 4 (g.cp.getD k 0))

def readDigests (l : List Byte) : Digests :=
  let f := fun (o n : Nat) => leNat (sliceAt l o n)
  { mfn := f 0 4, lpValid := f 4 1, cpValid := f 5 8, lp := (List.range 8).map fun k => f (13 + 4 * k) 4
    cp := (List.range 64).map fun k => f (45 + 4 * k) 4 }

/-! ### CMD (R268) -/

/-- A mirrored-command entry: its 16-byte head and the mailbox slot. -/
def MirrorEntry.bytes (e : MirrorEntry) : List Byte :=
  [1] ++ leBytes 1 e.mb ++ leBytes 2 e.seq ++ leBytes 4 e.target ++ leBytes 2 e.id ++ zeros 6 ++ padTo 256 e.slot

/-- An entry as read; none where VALID is 0. -/
def readEntry (l : List Byte) : Option MirrorEntry :=
  let f := fun (o n : Nat) => leNat (sliceAt l o n)
  if f 0 1 = 0 then none
  else some { mb := f 1 1, seq := f 2 2, target := f 4 4, id := f 8 2, slot := sliceAt l 16 256 }

/-! ### Frames and lane markers (R263, R264) -/

/-- A frame as it is sent: eight CMD entries, and digests in the frame of Beat 1 only. -/
def GFrame.wire (f : GFrame) : GWire :=
  { head := f.head.bytes f.tokens.length, tokens := f.tokens.map (·.word)
    digest := match f.digests with | some g => g.bytes | none => zeros 512
    cmds := (f.cmds.take 8).map MirrorEntry.bytes ++ List.replicate (8 - f.cmds.length) (zeros 272), recs := f.recs
    tail := leBytes 2 f.credits.1 ++ leBytes 2 f.credits.2, disc := f.disc, cancels := f.cancels, scope := f.scope, pos := f.pos }

/-- A frame as it is received; none unless MAGIC, VERSION and FRAME_CRC are correct. Its tokens are stamped for the Beat after the
sender's FC (R264, R266). -/
def GWire.read (w : GWire) : Option GFrame :=
  match readHead w.head with
  | some (h, n) =>
    if !w.crcOk then none
    else some
      { head := h, tokens := (w.tokens.take (min n 2_048)).map fun t => { stamp := h.fc + 1, word := t }
        digests := if h.fc % 256 = 1 then some (readDigests w.digest) else none
        cmds := (w.cmds.take 8).filterMap readEntry, recs := w.recs, disc := w.disc, cancels := w.cancels, scope := w.scope
        pos := w.pos, credits := (leNat (sliceAt w.tail 0 2), leNat (sliceAt w.tail 2 2)) }
  | none => none

/-- Lane marker of a frame whose sender is at `fc`. -/
def laneMarker (lane fc : Nat) : List Byte := [0x6A, 0x5C, 0x4C] ++ leBytes 1 lane ++ leBytes 4 fc

/-- Lanes with FEC lock whose markers name the lane, and the FC that lane 0's names. -/
def lanesAligned (l : List (Bool × List Byte)) : Nat :=
  let fc := leNat (sliceAt ((l.getD 0 (false, [])).2) 4 4)
  bitsOf ((List.range 4).map fun k => let x := l.getD k (false, []); x.1 && x.2 == laneMarker k fc)

end Sys2Proof.Machine
end

