-- ==== Sys2Proof/Machine/Pair.lean ====
section
/-! DEFINITION. The pair: ownership, roles, tokens on a standby, Galulo frames as sent, takeover, force-standby, planned
handover and the PAIR_* commands (R256 to R268, R275 to R286). -/

namespace Sys2Proof.Machine

open Sys2Proof

def allLanes : Nat := 0xFFFF_FFFF_FFFF_FFFF

/-- Ports that stand in `a` and not in `b`. -/
def without (w a b : Nat) : Nat := a - andBits w a b

/-! ### Ownership (R257, R258, R261) -/

/-- Set the pair part. -/
def Dev.setPair (d : Dev) (p : Pair) : Dev := { d with pair := p }

/-- The device owns these ports from this Beat; SEL_LPx follows at the start of the Beat. -/
def Dev.own (d : Dev) (lp cp : Nat) : Dev :=
  if lp = d.pair.ownLp && cp = d.pair.ownCp then d
  else d.setPair { d.pair with ownLp := lp, ownCp := cp, takeoverFc := d.fc }

/-- SEL_LP0 to SEL_LP7 as owned, unless the always-on domain holds them low (R258). -/
def Dev.driveSel (d : Dev) : Dev :=
  d.setPair { d.pair with selLp := if d.pair.aliveOut && d.pwr.mode == .running then d.pair.ownLp else 0 }

/-- Code of VALID in SELBUS: ACTIVE, STANDBY or ALONE (R259). -/
def Role.valid : Role → Bool
  | .active | .standby | .alone => true
  | _ => false

/-- `n` bits of a number, least significant first. -/
def bitList (v n : Nat) : List Bool := (List.range n).map (bit v ·)

/-- SELBUS frame of the Beat (R259): OWN announces the lanes owned from the next Beat. -/
def Dev.selbusFrame (d : Dev) : List Bool :=
  let body := [true, true, true, false, false, false, true, false] ++ bitList d.pair.index 1 ++ [d.pair.role.valid] ++
    bitList (d.fc % 64) 6 ++ bitList d.pair.ownCp 64
  body ++ (bitList (crc8Bits body) 8).reverse

/-! ### Roles (R260, R290) -/

/-- At the start of its role the new ACTIVE device sends an idle item on each port and continues at the first item boundary
(R290). -/
def Dev.restartFum (d : Dev) : Dev :=
  (List.range 8).foldl (fun d p =>
    let d := if (d.fum p).sent = 0 then d else d.fumPop p
    let f := d.fum p
    if f.txMode = 0 then d else d.setFum p { f with tail := [if f.txMode = 2 then 0xFF else 0x7E] }) d

/-- The device takes a role: event 0x0901. -/
def Dev.setRole (d : Dev) (r : Role) : Dev :=
  let old := d.pair.role
  if old == r then d
  else
    let d := if r == .active && old == .standby then d.restartFum else d
    (d.setPair { d.pair with role := r }).raise 0x0901 0 (leBytes 1 old.code ++ leBytes 1 r.code)

/-- The device becomes ACTIVE and owns every port. -/
def Dev.becomeActive (d : Dev) : Dev := ((d.setRole .active).own 0xFF allLanes).driveSel

/-- The device owns nothing and waits (R262). -/
def Dev.becomeWaiting (d : Dev) : Dev :=
  let d := ((d.setRole .waiting).own 0 0).driveSel
  d.setPair { d.pair with waitStart := d.mfn, twinActiveMfn := d.mfn, joinPhase := 0, handover := none, swapOp := 0 }

/-- Object of a port index of the pair's agreement: line ports 0 to 7, client ports 8 + first lane. -/
def agreeObj (k : Nat) : Nat := if k < 8 then objPort k else objClient (k - 8)

/-- Every DIVERGED mark clears: event 0x0908 (R273, R287). -/
def Dev.clearDiverged (d : Dev) : Dev :=
  (d.pair.agree.filter fun a => a.2.diverged).foldl (fun d a =>
    d.raise 0x0908 (agreeObj a.1) (leBytes 4 (agreeObj a.1) ++ leBytes 1 0)) d

/-- The join starts at phase LINK (R274), and DIVERGED marks clear (R273). -/
def Dev.startJoin (d : Dev) (full : Bool) : Dev :=
  let d := d.clearDiverged
  let d := ((d.setRole .joining).own 0 0).driveSel
  d.setPair { d.pair with
    joinPhase := 1, joinFull := full, joinStart := d.mfn, joinRetry := none, joinAdopt := none, adopted := false
    banksCame := false, copied := false, checkRun := 0, cmdFresh := true, corrections := [], fills := []
    agree := [] }

/-- The twin says it is ACTIVE over a link that is up. -/
def Dev.twinActive (d : Dev) : Bool := d.pair.link == 2 && d.twinRole == some .active

/-- A WAITING device with AUTO_JOIN sees an ACTIVE twin (R262): JOIN_START. -/
def Dev.autoJoin (d : Dev) : Dev :=
  if d.pair.role == .waiting && bit d.pair.flags 0 && d.twinActive && d.pair.joinRetry.isNone then d.startJoin false else d

/-- WAIT_TIMEOUT_ACTIVE (R262). -/
def execWaitTimeoutActive (s : State) : Host.Outcome State Fault Refusal :=
  s.runIf (fun d => d.pair.role == .waiting &&
      (let seen := max d.pair.waitStart d.pair.twinActiveMfn
       if d.pair.index = 0 then seen + d.pair.waitMf ≤ d.mfn
       else seen + 2 * d.pair.waitMf ≤ d.mfn && !d.pair.aliveIn)) Dev.becomeActive

/-! ### Footprints (R276) -/

/-- A channel has slots on a port in a direction. -/
def Image.slotsOn (i : Image) (c p dir : Nat) : Bool :=
  match i.lcalOf p dir 0 with | some r => r.has c | none => false

/-- Lanes of a client port, as a mask. -/
def Desc.laneMask (x : Desc) : Nat := if x.kind = 2 then 0 else (2 ^ x.lanes - 1) * 2 ^ x.cp

/-- The union of masks. -/
def orAll (w : Nat) (l : List Nat) : Nat := l.foldl (orBits w) 0

/-- Slice footprint: line ports and client lanes. The egress port of a KIND 2 channel carries cells of the slice it came in
on (R276; DEDUCED, log 89). -/
def Image.footSlice (i : Image) (s : Nat) : Nat × Nat :=
  let cameIn := fun (x : Desc) => x.kind = 2 && (i.slotsOn x.ch (2 * s) 1 || i.slotsOn x.ch (2 * s + 1) 1)
  let ports := (List.range 8).filter fun p =>
    i.lit p && (p / 2 == s || i.ptab.any fun x => (x.ch / 64 == s || cameIn x) && i.slotsOn x.ch p 0)
  let lanes := (i.ptab.filter fun x => x.kind != 2 && (x.cp / 16 == s ||
    (i.slotsOn x.ch (2 * s) 1 || i.slotsOn x.ch (2 * s + 1) 1))).map Desc.laneMask
  (sum (ports.map (2 ^ ·)), orAll 64 lanes)

/-- Far footprint: the client ports, and for KIND 2 the egress line ports, of channels with a stream in the far tier. -/
def Dev.footFar (d : Dev) (i : Image) : Nat × Nat :=
  let far := fun (c : Nat) => d.cald.streams.any fun x =>
    (match i.sgOf c with | some g => x.owner == objSpread g.sg | none => false) ||
      (match i.pgOf c with | some g => x.owner == objGroup g.pg | none => false)
  let xs := i.ptab.filter fun x => far x.ch
  let ports := (xs.filter fun x => x.kind == 2).map fun x =>
    sum (((List.range 8).filter fun p => i.slotsOn x.ch p 0).map (2 ^ ·))
  (orAll 8 ports, orAll 64 (xs.map Desc.laneMask))

/-- HEALTH of HEAD (R265). -/
def Dev.health (d : Dev) : Nat :=
  d.pair.sliceHealth % 16 + 16 * b2n (d.farState == 0) + 32 * b2n (d.anchor.mode == .locked) + 64 * b2n d.pair.aliveIn +
    128 * b2n d.pair.hubFault

/-- Footprint of what a HEALTH byte reports failed, of slices and of far deskew as asked. -/
def Dev.footprint (d : Dev) (slices far : Bool) (health : Nat) : Nat × Nat :=
  match d.sched.active with
  | none => (0, 0)
  | some i =>
    let ss := if slices then (List.range 4).filter fun s => !bit health s else []
    let all := ss.map i.footSlice ++ (if far && !bit health 4 then [d.footFar i] else [])
    (orAll 8 (all.map (·.1)), orAll 64 (all.map (·.2)))

/-- Footprint that moves: far deskew counts only with FAR_FAILOVER, slices with SLICE_FAILOVER. -/
def Dev.footOf (d : Dev) (health : Nat) : Nat × Nat := d.footprint (bit d.pair.flags 1) (bit d.pair.flags 2) health

/-- Line ports and client lanes marked DIVERGED: agreement is kept at 0 to 7 for ports, 8 + lane for client ports. -/
def Dev.divergedLp (d : Dev) : Nat :=
  bitsOf ((List.range 8).map fun p => (Tab.get {} d.pair.agree p : PortAgree).diverged)
def Dev.divergedCp (d : Dev) : Nat :=
  orAll 64 ((d.pair.agree.filter fun a => 8 ≤ a.1 && a.2.diverged).map fun a =>
    match d.sched.active.bind fun i => i.clientDesc (a.1 - 8) with | some x => x.laneMask | none => 2 ^ (a.1 - 8))

/-- Ports all of whose units on a device with this HEALTH byte are sound: their own slice, and every slice and far stream that
their output comes through. -/
def Dev.soundLp (d : Dev) (health : Nat) : Nat :=
  without 8 (bitsOf ((List.range 8).map fun p => bit health (p / 2))) (d.footprint true true health).1
def Dev.soundCp (d : Dev) (health : Nat) : Nat :=
  without 64 (bitsOf ((List.range 64).map fun k => bit health (k / 16))) (d.footprint true true health).2

/-- Ports that the device's own units can carry. -/
def Dev.healthyLp (d : Dev) : Nat := d.soundLp d.health
def Dev.healthyCp (d : Dev) : Nat := d.soundCp d.health

/-- SLICE_FAILURE_DECLARED (R28, R275): the die link went down, or the slice reported an uncorrectable fault. -/
def execSliceFailureDeclared (slice : Nat) (report : Bool) (s : State) : Host.Outcome State Fault Refusal :=
  s.runIf (fun d => slice < 4 && bit d.pair.sliceHealth slice && (report || !bit d.cald.dieUp slice)) fun d =>
    (d.setPair { d.pair with sliceHealth := setBit d.pair.sliceHealth slice false }).dropSlice slice

/-! ### Tokens on a standby (R266, R267) -/

/-- TYPE and index of a token. -/
def Token.key (t : Token) : Nat :=
  let ty := t.word / 2 ^ 60
  if ty ≤ 5 then t.word / 2 ^ 52
  else if ty = 10 then 10 * 2 ^ 12 + t.word / 2 ^ 48 % 256
  else t.word / 2 ^ 48

/-- Stage of a rate-tracker token (R160). -/
def stageOfType (ty : Nat) : Nat := if ty = 1 then 0 else if ty ≤ 3 then 1 else 2

/-- Channel of a rate-tracker token. -/
def Token.ch (t : Token) : Nat := t.word / 2 ^ 52 % 256

/-- Die whose units a token's decision acts in: the engine's slice, the slice of the port or client port whose chain it
names, the hub for protection groups and their selectors. DEDUCED (log 84). -/
def Token.die (t : Token) : Nat :=
  let ty := t.word / 2 ^ 60
  let i := t.word / 2 ^ 48 % 256
  let chain := t.word / 2 ^ 57 % 8
  if ty ≤ 5 then t.ch / 64
  else if ty = 10 then i / 2
  else if ty = 9 then if chain = 0 then i / 2 else if chain = 1 then 4 else if chain = 3 then i / 16 else i / 64
  else 4

/-- A ladder token (R266) of a port for a Beat. -/
def Dev.ladderToken (d : Dev) (p stamp : Nat) : Token :=
  let l := (d.port p).ladder
  { stamp := stamp
    word := 10 * 2 ^ 60 + d.txStepAt p stamp * 2 ^ 56 + p * 2 ^ 48 + stamp % 65_536 * 2 ^ 32 +
      l.annWord (stamp / 256) % 65_536 * 65_536 + l.reqWord % 65_536 }

/-- The ladder sequencer of a standby takes TX_STEP, ANN and REQ from the received token (R267). -/
def Ladder.take (l : Ladder) (t : Token) (mfn : Nat) : Ladder :=
  let ann := t.word / 65_536 % 65_536
  let req := t.word % 65_536
  let left := ann / 256 % 16
  let running := bit ann 12 && 1 ≤ left && left ≤ 8
  { l with
    txStep := t.word / 2 ^ 56 % 8, annSeq := ann % 256
    announce := if running then some { step := ann / 8_192, start := mfn + left - 8, seq := ann % 256 } else none
    reqOut := bit req 12, reqStep := req / 8_192, reqSeq := req % 256 }

/-- A token takes effect at the start of its Beat. -/
def Dev.applyToken (d : Dev) (t : Token) (feedback : Bool) : Dev :=
  let ty := t.word / 2 ^ 60
  if ty ≤ 5 then
    let s := stageOfType ty
    let c := d.chan t.ch
    if c.run && (c.stage s).run then d.setChan t.ch (c.setStage s ((c.stage s).apply t.value t.sigma)) else d
  else if ty = 8 then d.applyProtection (t.word / 2 ^ 48 % 128) (t.word % 2 ^ 32)
  else if ty = 9 then { d with acts := Tab.set d.acts (t.word / 2 ^ 57 % 8 * 256 + t.word / 2 ^ 48 % 256) (t.word % 2 ^ 32) }
  else if ty = 10 && feedback then
    let p := t.word / 2 ^ 48 % 8
    d.setLadder p ((d.ladder p).take t d.mfn)
  else d

/-- Object that a protection or consequent-action token decides for; none for the other types. -/
def Token.object (t : Token) : Option Nat :=
  let i := t.word / 2 ^ 48 % 256
  match t.word / 2 ^ 60 with
  | 8 => some (objGroup (i % 128))
  | 9 => some (match t.word / 2 ^ 57 % 8 with | 0 => objPort i | 1 => objSpread i | 3 => objClient i | _ => objChannel i)
  | _ => none

/-- A token waits for the swap due in this Beat: its object starts there (R46, R212, R249). -/
def Dev.awaitsSwap (d : Dev) (t : Token) : Bool :=
  match t.object, d.sched.shadow with
  | some o, some new => d.swapDue && !objCarries (d.sched.active.getD Image.empty) new o
  | _, _ => false

/-- Tokens of a Beat take effect, and the actions in force follow; those of objects that a swap due in this Beat starts take
effect with it. -/
def Dev.applyTokens (d : Dev) (l : List Token) (feedback : Bool) : Dev :=
  let late := (l.filter d.awaitsSwap).map fun t => (t, feedback)
  let now := l.filter fun t => !d.awaitsSwap t
  let d := if late.isEmpty then d
    else let a := d.ahead.getD {}; { d with ahead := some { a with due := a.due ++ late } }
  (now.foldl (fun d t => d.applyToken t feedback) d).actAll

/-- A rate tracker takes the received VALUE in place of its own cm (R157, R267). -/
def Tracker.feedback (t : Tracker) (own recv : Nat) : Tracker :=
  let diff : Int := if t.idle then value24 recv - value24 own else (own : Int) - recv
  { t with acc := t.acc + diff * one24, owed := (t.owed - diff * t.word).toNat }

/-- The protection evaluator takes NEXT_STATE and LOCAL_DROP of the received WORD where its own, if any, differ: its later
evaluations stand on them (R267; DEDUCED, log 89). -/
def Dev.feedBackWord (d : Dev) (g : Nat) (own : Option Nat) (recv : Nat) : Dev :=
  let d := if own.any fun w => w % 8 == recv % 8 then d else d.setPg g { d.pg g with state := recv % 8 }
  if bit recv 7 && !own.any (bit · 7) then d.endLocal g 1 else d

/-- A received token feeds back into the evaluator that issued the own token beside it, if any. -/
def Dev.feedBack (d : Dev) (o : Option Token) (recv : Token) : Dev :=
  let ty := recv.word / 2 ^ 60
  if ty ≤ 5 then
    match o with
    | some own =>
      let s := stageOfType ty
      let c := d.chan recv.ch
      d.setChan recv.ch (c.setStage s ((c.stage s).feedback own.value recv.value))
    | none => d
  else if ty = 8 then d.feedBackWord (recv.word / 2 ^ 48 % 128) (o.map fun t => t.word % 2 ^ 32) (recv.word % 2 ^ 32)
  else d

/-- The standby's own tokens for this Beat, the ladder's among them. -/
def Dev.ownTokens (d : Dev) : List Token :=
  (d.tokens.filter fun t => t.stamp ≤ d.fc) ++ ((List.range 8).filter d.lit).map fun p => d.ladderToken p d.fc

/-- Own tokens of past Beats are gone. -/
def Dev.dropTokens (d : Dev) : Dev := { d with tokens := d.tokens.filter fun t => d.fc < t.stamp }

/-- A device executes received tokens: STANDBY, or JOINING from phase STATE on (R267). -/
def Dev.followsTokens (d : Dev) : Bool := d.pair.role == .standby || (d.pair.role == .joining && 4 ≤ d.pair.joinPhase)

/-- The standby runs a Beat on its own tokens; cause 0 invalid, 1 absent, 2 partly absent (R267). -/
def Dev.fallBack (d : Dev) (cause : Nat) : Dev :=
  if d.pair.role == .standby then
    ((d.setPair { d.pair with tokenOwn := satAdd max32 d.pair.tokenOwn 1 }).tick 0x5321 1).raise 0x090E 0
      (leBytes 4 1 ++ leBytes 1 cause)
  else d

/-- The own tokens of this Beat, if they still wait, take effect. -/
def Dev.useOwn (d : Dev) (cause : Nat) : Dev :=
  let l := d.tokens.filter fun t => t.stamp ≤ d.fc
  if l.isEmpty then d else ((d.fallBack cause).applyTokens l false).dropTokens

/-- The received tokens of this Beat are compared, fed back and executed (R267). -/
def Dev.useReceived (d : Dev) (recv : List Token) : Dev :=
  let own := d.ownTokens
  let pair := fun (t : Token) => own.find? fun o => o.key == t.key
  let diff := (recv.filter fun t => match pair t with | some o => o.word != t.word | none => false).length
  let d := (d.setPair { d.pair with tokenMismatch := satAdd max32 d.pair.tokenMismatch diff }).tick 0x5320 diff
  let d := recv.foldl (fun d t => d.feedBack (pair t) t) d
  let rest := d.tokens.filter fun t => t.stamp ≤ d.fc && !recv.any fun r => r.key == t.key
  let d := if rest.isEmpty then d else d.fallBack 2
  (d.asTwin fun d => d.applyTokens (recv ++ rest) true).dropTokens

/-! ### Frames as sent (R264 to R266) -/

/-- Tokens that a frame of this Beat carries: those stamped for the next (R266). -/
def Dev.frameTokens (d : Dev) : List Token :=
  let own := d.tokens.filter (fun t => t.stamp == d.fc + 1)
  sortBy Token.key (own ++ ((List.range 8).filter d.lit).map fun p => d.ladderToken p (d.fc + 1))

/-- HEAD of the frame of this Beat (R265). -/
def Dev.frameHead (d : Dev) : GHead :=
  let p := d.pair
  let h := p.handover
  let asks := match h with | some x => x.issuer | none => false
  let hold := (d.fc - p.rxFc) * 15_296 - p.rxPos
  { role := p.role.code, fc := d.fc, tokSeq := (d.fc + 1) % 65_536, echoSeq := p.lastEchoSeq, echoHold := min 65_535 hold
    health := d.health, pairIndex := p.index, ownLp := p.ownLp, xferOp := if asks then 1 else p.xferAnswer
    ownCp := p.ownCp, swapOp := p.swapOp, joinPhase := if p.role == .active && d.twinRole == some .joining then
      (match p.rxHead with | some x => x.joinPhase | none => 0) else p.joinPhase
    cmdAck := p.cmdAck, swapGen := p.swapGen, swapCrc := p.swapCrc
    xferMfn := (match h with | some x => x.target | none => p.joinAdopt.getD 0) % 2 ^ 32
    xferLp := (match h with | some x => x.lp | none => 0), divLp := d.divergedLp
    xstby := b2n p.xstby + 2 * b2n p.xstbyFault, xferCp := (match h with | some x => x.cp | none => 0) }

/-- The Galulo frame of this Beat; the records that have gathered leave with it. -/
def Dev.sendFrame' (d : Dev) : Dev :=
  if d.pair.link = 2 && d.domOn domGalulo then
    let p := d.pair
    let scope := match p.handover with
      | some x => if x.issuer then b2n x.all + 2 * b2n x.force + 4 * b2n x.take else 0 | none => 0
    let f : GFrame :=
      { head := d.frameHead, tokens := if p.role == .active then d.frameTokens else []
        digests := if d.beat = 1 then p.ownDigests else none, cmds := p.unacked.take 8, recs := p.txRecs, disc := p.discTx
        cancels := p.cancelTx
        scope := scope, credits := p.credits }
    let copies := p.txRecs.any fun r => match r.body with | .image false _ _ => true | _ => false
    let d := if copies then { d with sched := { d.sched with
        load := d.sched.load.map fun j => { j with sent := some f.head.tokSeq } } } else d
    d.setPair { p with txFrame := some f.wire, txRecs := [], discTx := none, cancelTx := [], credits := (0, 0) }
  else d.setPair { d.pair with txFrame := none }

/-- The frame of this Beat takes what the hub has decided since its start (SWAP_OP, R75). -/
def Dev.refreshHead (d : Dev) : Dev :=
  match d.pair.txFrame with
  | some f => d.setPair { d.pair with txFrame := some { f with head := d.frameHead.bytes f.tokens.length } }
  | none => d

/-- Ownership that moved at the start of this Beat: SEL_LPx, the OWN bits of SELBUS and those of HEAD (R258, R259, R265). -/
def Dev.driveOwn (d : Dev) : Dev :=
  let d := d.driveSel
  (d.setPair { d.pair with selbus := if d.pair.selbusHeld then [] else d.selbusFrame }).refreshHead

/-- SWAP_OP: 0 none, 1 ARM, 2 ACK, 3 COMMIT, 4 ABORT. -/
def Dev.sendSwapOp (d : Dev) (op gen crc : Nat) : Dev :=
  (d.setPair { d.pair with swapOp := op, swapGen := gen, swapCrc := crc }).refreshHead

/-- Pair outputs of a Beat (R258, R259, R264). -/
def Dev.pairOutputs (d : Dev) : Dev :=
  d.driveOwn.sendFrame'

/-- HEALTH that the frame of the Beat before reported. -/
def Dev.reportedHealth (d : Dev) : Option Nat := (d.pair.txFrame.bind fun f => readHead f.head).map fun h => h.1.health

/-- An ACTIVE device at a Beat boundary. Where the twin stands by, it releases the ports of a fault that its last frame reported
(R275); where the twin owns no port, it owns every port (R260; DEDUCED, log
89). -/
def Dev.settleOwned (d : Dev) : Dev :=
  let p := d.pair
  if p.role != .active || p.link != 2 then d
  else match p.rxHead, d.reportedHealth with
    | some h, some health =>
      if h.role = 1 || h.role = 2 then (if p.hubFault then d else d.own 0xFF allLanes)
      else if h.role != 3 then d
      else if bit health 7 then d.own (andBits 8 p.ownLp h.divLp) 0
      else
        let (lp, cp) := d.footOf health
        d.own (without 8 p.ownLp (without 8 lp h.divLp)) (without 64 p.ownCp cp)
    | _, _ => d

/-! ### Detection and takeover (R258, R275, R277) -/

/-- Whole Beats without a valid frame. -/
def Dev.silentBeats (d : Dev) : Nat := d.pair.noFrame - 1

/-- PAIR_ALIVE_IN is low while valid frames arrive: event 0x090B. -/
def Dev.aliveFault (d : Dev) : Dev :=
  if d.pair.aliveFault then d else (d.setPair { d.pair with aliveFault := true }).raise 0x090B 0 []

/-- PAIR_ALIVE_IN_LOW (R258, R275). -/
def execPairAliveInLow (s : State) : Host.Outcome State Fault Refusal :=
  s.run fun d =>
    let d := d.setPair { d.pair with aliveIn := false }
    if d.pair.link = 2 && d.pair.rxHead.isSome && d.silentBeats < 2 then d.aliveFault else d

/-- PAIR_ALIVE_IN_HIGH (R258). -/
def execPairAliveInHigh (s : State) : Host.Outcome State Fault Refusal :=
  s.run fun d => d.setPair { d.pair with aliveIn := true, aliveFault := false }

/-- KEEPALIVE_WATCHDOG_EXPIRY (R258): not refreshed for 800 ns because the hub reports a fatal fault. -/
def execKeepaliveWatchdogExpiry (s : State) : Host.Outcome State Fault Refusal :=
  s.runIf (fun d => d.pair.hubFault && !d.pair.wdExpired) fun d =>
    let d := (d.own 0 0).dropOutputs
    d.setPair { d.pair with wdExpired := true }

/-- The condition of R275 that holds: 1 power loss, 2 fatal hub fault, 3 slice, 4 far deskew; with the ports to take. -/
def Dev.takeoverCase (d : Dev) : Option (Nat × Nat × Nat) :=
  let p := d.pair
  let rest := fun (f : Nat × Nat) =>
    (without 8 (andBits 8 (without 8 f.1 d.divergedLp) d.healthyLp) p.ownLp,
     without 64 (andBits 64 (without 64 f.2 d.divergedCp) d.healthyCp) p.ownCp)
  let some' := fun (n : Nat) (f : Nat × Nat) => if f = (0, 0) then none else some (n, f.1, f.2)
  if p.role != .standby || p.xstby || p.hubFault then none
  else if !p.aliveIn && 2 ≤ d.silentBeats then let f := rest (0xFF, allLanes); some (1, f.1, f.2)
  else if p.link != 2 then none
  else match p.rxHead with
    | none => none
    | some h =>
      if bit h.health 7 then let f := rest (0xFF, allLanes); some (2, f.1, f.2)
      else
        match some' 3 (rest (d.footOf (h.health % 16 + 16))) with
        | some x => some x
        | none => if d.farState = 0 then some' 4 (rest (d.footOf (0xF + h.health / 16 * 16))) else none

/-- FAILURE_TAKEOVER (R275): at the start of a Beat. -/
def execFailureTakeover (s : State) : Host.Outcome State Fault Refusal :=
  s.runIf (fun d => d.takeoverCase.isSome) fun d =>
    match d.takeoverCase with
    | none => d
    | some (n, lp, cp) =>
      let d := (d.own (orBits 8 d.pair.ownLp lp) (orBits 64 d.pair.ownCp cp)).tick 0x5324 1
      let d := (if n ≤ 2 then d.setRole .active else d).driveOwn
      d.raise 0x0902 0 (leBytes 1 n ++ leBytes 1 d.pair.ownLp ++ leBytes 8 d.pair.ownCp)

/-! ### The anchor and the link (R37, R40) -/

/-- Another source comes into use: event 0x0103. -/
def Dev.useSource (d : Dev) (n : Nat) : Dev :=
  if d.anchor.inUse = n then d
  else { d with anchor := { d.anchor with inUse := n } }.raise 0x0103 0 []

/-- The anchor enters ACQUIRE and counts boundaries afresh. -/
def Dev.acquire (d : Dev) (n : Nat) : Dev :=
  let d := d.useSource n
  { d with anchor := { d.anchor with mode := .acquire, consistent := 0, offPhase := 0, missedMf := 0, holdoverMf := 0, stepAt := none } }

/-- The anchor enters HOLDOVER (R40): no source is in use, by neither command nor failover, so there is no event 0x0103. -/
def Dev.holdover (d : Dev) : Dev :=
  { d with anchor := { d.anchor with mode := .holdover, inUse := 3, consistent := 0, seen := false, missedMf := 0, holdoverMf := 0
                                     stepAt := none } }.raise 0x010A 0 []

/-- The link goes down (R263, R277), and its 64 Beats are counted afresh (DEDUCED, log 89): event
0x0904; an anchor that runs on TWIN enters HOLDOVER (R40). R54 gives event
0x0102 to the loss of a reference; the loss of the link logs 0x010A only (DESIGN CHOICE, log 75). -/
def Dev.linkDown (d : Dev) (lanes : Nat) : Dev :=
  let d := (d.setPair { d.pair with link := if d.domOn domGalulo then 1 else 0, lanes := lanes, goodFrames := 0, linkRun := 0 }).raise
    0x0904 0 (leBytes 1 lanes)
  if d.anchor.inUse = 2 then d.holdover else d

/-- The lanes in the Beat that ends (R263). -/
def Dev.seeGalulo (d : Dev) (l : List (Bool × List Byte)) : Dev :=
  let k := if d.domOn domGalulo then lanesAligned l else 0
  d.setPair { d.pair with laneOk := k, linkRun := if k = 0xF then d.pair.linkRun + 1 else 0 }

/-- GALULO_LINK_DOWN (R263, R277): a lane has lost its FEC lock or its marker; `lanes` still have both. -/
def execGaluloLinkDown (lanes : Nat) (s : State) : Host.Outcome State Fault Refusal :=
  s.runIf (fun d => d.pair.link == 2 && lanes == d.pair.laneOk && lanes != 0xF) fun d => d.linkDown lanes

/-- GALULO_FRAME_TIMEOUT (R275): 8 Beats without a valid frame, PAIR_ALIVE_IN high. -/
def execGaluloFrameTimeout (s : State) : Host.Outcome State Fault Refusal :=
  s.runIf (fun d => d.pair.link == 2 && 8 ≤ d.silentBeats && d.pair.aliveIn) fun d => d.linkDown d.pair.lanes

/-- GALULO_LINK_UP (R263, R277): every lane has been aligned for 64 Beats; the former standby joins again. -/
def execGaluloLinkUp (s : State) : Host.Outcome State Fault Refusal :=
  s.runIf (fun d => d.pair.link != 2 && d.domOn domGalulo && 64 ≤ d.pair.linkRun) fun d =>
    let d := (d.setPair { d.pair with link := 2, lanes := 0xF, noFrame := 0, goodFrames := 0, rxHead := none }).raise 0x0905 0 []
    if d.pair.role == .standby then d.startJoin false else d

/-! ### Planned handover (R280, R285) -/

/-- Client lanes that CP_MASK names by first lane. -/
def Dev.lanesOfMask (d : Dev) (mask : Nat) : Nat :=
  match d.sched.active with
  | none => 0
  | some i => orAll 64 ((i.ptab.filter fun x => x.kind != 2 && bit mask x.cp).map Desc.laneMask)

/-- A port to be moved has had agreeing digests in its last 16 MF; a port that carries nothing has none to compare. -/
def Dev.agrees (d : Dev) (lp cp : Nat) : Bool :=
  match d.sched.active with
  | none => true
  | some i =>
    ((List.range 8).all fun p => !(bit lp p && i.lit p && (d.port p).enabled) ||
      16 ≤ (Tab.get {} d.pair.agree p : PortAgree).goodRun) &&
    i.clientPorts.all fun k => !(bit cp k && (d.client k).enabled) ||
      16 ≤ (Tab.get {} d.pair.agree (8 + k) : PortAgree).goodRun

/-- The twin refuses a REQUEST (R280). `toMe` says that the device receives the ports. -/
def Dev.refusesXfer (d : Dev) (h : GHead) (all force toMe : Bool) : Bool :=
  let lp := h.xferLp
  let cp := h.xferCp
  let health := if toMe then d.health else h.health
  let unit := without 8 lp (d.soundLp health) != 0 || without 64 cp (d.soundCp health) != 0
  let force' := if toMe then d.pair.xstby else bit h.xstby 0
  let roles := !all || (d.pair.role == .active && h.role = 3) || (d.pair.role == .standby && h.role = 4)
  (!force && !d.agrees lp cp) || unit || force' || (if toMe then d.pair.hubFault else bit h.health 7) ||
    andBits 8 lp (orBits 8 d.divergedLp h.divLp) != 0 || andBits 64 cp d.divergedCp != 0 || !roles

/-- The MFN that 32 low bits name, nearest to this MF. -/
def Dev.extendMfn (d : Dev) (lo : Nat) : Nat :=
  let x := (lo + 2 ^ 32 - d.mfn % 2 ^ 32) % 2 ^ 32
  if x < 2 ^ 31 then d.mfn + x else d.mfn + x - 2 ^ 32

/-- A handover is asked of the twin (R280, step 1). -/
def Dev.askXfer (d : Dev) (h : Handover) : Dev := (d.setPair { d.pair with handover := some h }).refreshHead

/-- The command that a handover carries. -/
def Dev.xferJob (d : Dev) : Option Waiting :=
  d.host.waiting.find? fun w => w.job && (w.cmd.opcode == 0x0904 || w.cmd.opcode == 0x0905)

/-- The device's own handover ends without effect: the command ends with a status, a Dormant entry without FORCE ends. -/
def Dev.dropXfer (d : Dev) (h : Handover) (st : Nat) : Dev :=
  let d := d.setPair { d.pair with handover := none }
  if h.byDormant then
    if d.pwr.dormantForce then d
    else
      match d.pwr.dormant with
      | some (_, _, order) =>
        let d := { d with pwr := { d.pwr with dormant := none } }
        match order with | some o => d.finishOrder o st [] | none => d
      | none => d
  else if h.byXstby then d
  else match d.xferJob with | some w => d.finish w st [] | none => d

/-- XFER_OP of a received frame (R280, step 2). -/
def Dev.takeXfer (d : Dev) (f : GFrame) : Dev :=
  let h := f.head
  match d.pair.handover with
  | some x =>
    if x.issuer then
      if h.xferOp = 2 then d.setPair { d.pair with handover := some { x with answer := 2 } }
      else if h.xferOp = 3 && x.answer = 0 then d.dropXfer x stConstraint
      else d
    else if h.xferOp != 1 && h.fc < fcOf x.target then d.setPair { d.pair with handover := none, xferAnswer := 0 }
    else d
  | none =>
    if h.xferOp != 1 then d.setPair { d.pair with xferAnswer := 0 }
    else if d.pair.xferAnswer = 3 then d
    else
      let all := bit f.scope 0
      let take := !bit f.scope 2
      if d.refusesXfer h all (bit f.scope 1) take then d.setPair { d.pair with xferAnswer := 3 }
      else
        d.setPair { d.pair with xferAnswer := 2
                                handover := some { issuer := false, take := take, all := all, force := bit f.scope 1
                                                   target := d.extendMfn h.xferMfn, lp := h.xferLp, cp := h.xferCp
                                                   answer := 2 } }

/-- A handover takes effect now: it was accepted, or it claims ports with FORCE while the link is down (R285). -/
def Dev.xferDue (d : Dev) : Bool :=
  match d.pair.handover with
  | some h => fcOf h.target ≤ d.fc && (h.answer = 2 || (h.issuer && h.take && h.force && d.pair.link != 2))
  | none => false

/-- HANDOVER_EFFECT (R280): at Beat 0 of the target MF; the roles follow from Beat 1. -/
def execHandoverEffect (s : State) : Host.Outcome State Fault Refusal :=
  s.runIf Dev.xferDue fun d =>
    match d.pair.handover with
    | none => d
    | some h =>
      let p := d.pair
      let lp := if h.all then 0xFF else h.lp
      let cp := if h.all then allLanes else h.cp
      let d := if h.take then d.own (orBits 8 p.ownLp lp) (orBits 64 p.ownCp cp)
        else d.own (without 8 p.ownLp lp) (without 64 p.ownCp cp)
      let d := (d.setPair { d.pair with
        handover := none, xferAnswer := 0
        roleNext := if h.all then some (if h.take then .active else .standby) else d.pair.roleNext }).driveOwn
      let d := d.raise 0x0903 0 (leBytes 1 (b2n (!h.all)) ++ leBytes 1 lp ++ leBytes 8 cp)
      if h.byDormant || h.byXstby || !h.issuer then d
      else match d.xferJob with
        | some w => d.finish w stOk (leBytes 8 (fcOf h.target) ++ leBytes 1 d.pair.ownLp ++ zeros 3 ++ leBytes 8 d.pair.ownCp)
        | none => d

/-- The role that a handover gave begins (R280). -/
def Dev.nextRole (d : Dev) : Dev :=
  match d.pair.roleNext with
  | some r => (d.setPair { d.pair with roleNext := none }).setRole r
  | none => d

/-- HANDOVER_NO_ANSWER (R280): Beat 252 of the MF before the target has come. -/
def execHandoverNoAnswer (s : State) : Host.Outcome State Fault Refusal :=
  s.runIf (fun d => match d.pair.handover with
      | some h => h.issuer && h.answer = 0 && fcOf h.target ≤ d.fc + 4 && !(h.take && h.force && d.pair.link != 2)
      | none => false) fun d =>
    match d.pair.handover with
    | some h => d.dropXfer h stWriteFault
    | none => d

/-! ### Force-standby inputs (R279) -/

/-- An asserted input makes an ACTIVE device hand everything over. -/
def Dev.xstbyAct (d : Dev) : Dev :=
  if d.pair.xstby && d.pair.role == .active && d.pair.handover.isNone && d.twinRole == some .standby && d.pair.link == 2 then
    d.askXfer { issuer := true, take := false, all := true, force := false, target := d.mfn + 2, lp := 0xFF, cp := allLanes
                byXstby := true }
  else d

/-- The input takes a value: event 0x090A when it changes. -/
def Dev.setXstby (d : Dev) (v : Bool) : Dev :=
  if d.pair.xstby = v then d
  else ((d.setPair { d.pair with xstby := v }).raise 0x090A 0 []).xstbyAct

/-- A sample of the two rails. -/
def Dev.xstbySample (d : Dev) (a b : Bool) : Dev :=
  let p := d.pair
  if a = b then d.setPair { p with xstbyRun := p.xstbyRun + 1, xstbyLimit := if p.xstbyRun = 0 then p.xstbyN else p.xstbyLimit }
  else
    let d := if p.xstbyRun != 0 && !p.xstbyFault then
        (d.setPair { d.pair with xstbyShort := satAdd 0xFFFF p.xstbyShort 1 }).tick 0x5325 1 else d
    let d := d.setPair { d.pair with xstbyRun := 0 }
    let d := if p.xstbyFault then (d.setPair { d.pair with xstbyFault := false }).raise 0x0909 0 (leBytes 1 0) else d
    d.setXstby a

/-- XSTBY_SAMPLE (R279): at the start of a Beat. -/
def execXstbySample (a b : Bool) (s : State) : Host.Outcome State Fault Refusal := s.run fun d => d.xstbySample a b

/-- XSTBY_DISCREPANCY (R279): the XSTBY_N-th disagreeing sample in a row. -/
def execXstbyDiscrepancy (s : State) : Host.Outcome State Fault Refusal :=
  s.runIf (fun d => !d.pair.xstbyFault && d.pair.xstbyRun != 0 && d.pair.xstbyLimit ≤ d.pair.xstbyRun) fun d =>
    ((d.setPair { d.pair with xstbyFault := true }).raise 0x0909 0 (leBytes 1 1)).setXstby false

/-! ### PAIR_SET (R282) -/

/-- Checks of PAIR_SET. -/
def checkPairSet (d : Dev) (c : Cmd) : Check :=
  let r := d.pair.role
  firstRefusal
    [refuseIf (clamp 0 1 (c.field 1 1) != d.pair.index && r != .alone && r != .waiting) stConstraint,
     refuseIf (fallback 2 2 (c.field 0 1) == 0 && (r == .standby || r == .joining) && d.twinRole == some .active) stConstraint]

/-- The values that a PAIR_SET block gives. -/
def Pair.setValues (p : Pair) (c : Cmd) : Pair :=
  { p with index := clamp 0 1 (c.field 1 1), flags := c.field 2 1 % 8, waitMf := clamp 64 16_384 (c.field 4 2)
           paired := match fallback 2 2 (c.field 0 1) with | 0 => false | 1 => true | _ => p.paired }

/-- Parameter block of PAIR_SET. -/
def pairBlock (p : Pair) : List Byte :=
  leBytes 1 (b2n p.paired) ++ leBytes 1 p.index ++ leBytes 1 p.flags ++ leBytes 1 0 ++ leBytes 2 p.waitMf ++ zeros 2

/-- A change of MODE. -/
def Dev.setMode (d : Dev) (mode : Nat) : Dev :=
  if mode = 0 && d.pair.role != .alone then
    let d := ((d.setRole .alone).own 0xFF allLanes).driveSel
    d.setPair { d.pair with joinPhase := 0, handover := none }
  else if mode = 1 && d.pair.role == .alone then
    if d.twinActive then d.becomeActive else d.becomeWaiting
  else d

/-- PAIR_SET takes effect at once (R282) and is held in Sinter word 64. -/
def Dev.pairSet (d : Dev) (c : Cmd) : Dev :=
  let d := (d.setPair (d.pair.setValues c)).setMode (fallback 2 2 (c.field 0 1))
  (d.sinterPut 64 (leNat (pairBlock d.pair))).answer c stOk []

/-- PAIR_SET (R282). -/
def execPairSet (core : Nat) (s : State) : Host.Outcome State Fault Refusal :=
  s.run fun d => d.serve core [0x0901] checkPairSet fun e _ c => e.pairSet c

/-! ### PAIR_JOIN, PAIR_STATUS (R283, R284) -/

/-- PAIR_JOIN needs a WAITING device, the link and an ACTIVE twin. -/
def checkPairJoin (d : Dev) (_ : Cmd) : Check := refuseIf (d.pair.role != .waiting || !d.twinActive) stConstraint

/-- Effect of PAIR_JOIN: the join starts, and the command ends at phase LINK. -/
def applyPairJoin (d : Dev) (c : Cmd) : Applied :=
  recheck d (checkPairJoin d c) fun d => okWith (d.startJoin (bit (c.field 0 1) 0))

/-- PAIR_JOIN (R283). -/
def execPairJoin (core : Nat) (s : State) : Host.Outcome State Fault Refusal :=
  s.run fun d => d.serveChange core 0x0902 checkPairJoin

/-- Byte positions as nanoseconds: a position lasts 8 bits at the OTUC rate (R34). -/
def nsOf (positions : Nat) : Nat := positions * 8 * 226 * 1_000_000 / (239 * 99_532_800)

/-- PAIR_STATUS's response (R284). -/
def pairStatus (d : Dev) (_ : Cmd) : Nat × List Byte :=
  let p := d.pair
  (stOk, leBytes 8 d.fc ++ leBytes 1 p.role.code ++ leBytes 1 (match p.rxHead with | some h => h.role | none => 0xFF) ++
    leBytes 1 p.index ++ leBytes 1 p.link ++
    leBytes 1 (b2n p.aliveIn + 2 * b2n p.aliveFault + 4 * b2n p.xstby + 8 * b2n p.xstbyFault + 16 * b2n d.protectedPair +
      32 * b2n (p.agree.any fun a => a.2.resync != 0) + 64 * b2n p.paired) ++
    leBytes 1 p.joinPhase ++ leBytes 1 p.ownLp ++ leBytes 1 d.divergedLp ++ leBytes 8 p.ownCp ++ leBytes 8 d.divergedCp ++
    leBytes 2 (min 0xFFFF (nsOf p.oneWay)) ++ leBytes 1 p.discMf ++ leBytes 1 0 ++ leBytes 2 p.xstbyN ++
    leBytes 2 p.xstbyShort ++ leBytes 4 p.mismatchMf ++ leBytes 4 p.tokenMismatch ++ leBytes 4 p.tokenOwn ++
    leBytes 4 p.correctionsN ++ leBytes 8 p.takeoverFc)

/-- PAIR_STATUS (R284). -/
def execPairStatus (core : Nat) (s : State) : Host.Outcome State Fault Refusal :=
  s.run fun d => d.serveRead core [0x0903] pairStatus

/-! ### PAIR_TAKEOVER, PAIR_YIELD (R285) -/

/-- SCOPE = ALL of a move command. -/
def moveAll (c : Cmd) : Bool := fallback 1 0 (c.field 0 1) == 0

/-- Checks of PAIR_TAKEOVER and PAIR_YIELD; one handover runs at a time. -/
def checkPairMove (take : Bool) (d : Dev) (c : Cmd) : Check :=
  firstRefusal
    [refuseIf d.pair.handover.isSome stBusy,
     refuseIf (moveAll c && (if take then d.pair.role != .standby else d.pair.role != .active)) stConstraint]

/-- The move starts: its target is resolved with ref = MFN_now + 2. A timed move is one of the waiting timed commands,
within their limits (R49). -/
def Dev.startMove (d : Dev) (take : Bool) (c : Cmd) : Dev :=
  let (t, dflt) := if c.timed then resolveTarget (d.mfn + 2) c.applyAt else (d.mfn + 2, false)
  if c.timed && !d.timedRoom t then d.answer c stNoResource []
  else
    let d := d.acceptJob c (if c.timed then some t else none) c.timed
    let d := if dflt then d.raise 0x0109 0 (leBytes 2 c.opcode ++ leBytes 2 c.seq ++ leBytes 4 c.applyAt) else d
    d.askXfer { issuer := true, take := take, all := moveAll c, force := bit (c.field 1 1) 0, target := t
                lp := if moveAll c then 0xFF else c.field 2 1
                cp := if moveAll c then allLanes else d.lanesOfMask (c.field 4 8) }

/-- PAIR_TAKEOVER (R285). -/
def execPairTakeover (core : Nat) (s : State) : Host.Outcome State Fault Refusal :=
  s.run fun d => d.serve core [0x0904] (checkPairMove true) fun e _ c => e.startMove true c

/-- PAIR_YIELD (R285). -/
def execPairYield (core : Nat) (s : State) : Host.Outcome State Fault Refusal :=
  s.run fun d => d.serve core [0x0905] (checkPairMove false) fun e _ c => e.startMove false c

/-! ### PAIR_DISCREPANCY_SET (R286) -/

/-- DISC_MF and XSTBY_N as a command gives them. -/
def discOf (c : Cmd) : Nat × Nat := (clamp 1 64 (c.field 0 1), clamp 4 4_096 (c.field 2 2))

/-- New discrepancy times apply to runs that start afterwards. -/
def Dev.setDisc (d : Dev) (x : Nat × Nat) : Dev := d.setPair { d.pair with discMf := x.1, xstbyN := x.2 }

/-- Parameter block of PAIR_DISCREPANCY_SET. -/
def discBlock (p : Pair) : List Byte := leBytes 1 p.discMf ++ leBytes 1 0 ++ leBytes 2 p.xstbyN ++ zeros 4

/-- PAIR_DISCREPANCY_SET applies at once, goes to the twin, and is held in Sinter word 65. -/
def Dev.pairDisc (d : Dev) (c : Cmd) : Dev :=
  let d := d.setDisc (discOf c)
  let d := d.setPair { d.pair with discTx := some (discOf c) }
  (d.sinterPut 65 (leNat (discBlock d.pair))).answer c stOk []

/-- PAIR_DISCREPANCY_SET (R286). -/
def execPairDiscrepancySet (core : Nat) (s : State) : Host.Outcome State Fault Refusal :=
  s.run fun d => d.serve core [0x0906] (fun _ _ => none) fun e _ c => e.pairDisc c

end Sys2Proof.Machine
end

