-- ==== Sys2Proof/Machine/Sched.lean ====
section
/-! DEFINITION. Schedule loads, flash stores, the checks of a swap, and the SCHED_* commands (R71, R72, R74, R85 to R90). -/

namespace Sys2Proof.Machine

open Sys2Proof

/-! ### Sources of an image (R85) -/

/-- Internal address at which the staging area of HBM begins (DESIGN CHOICE, log 23). -/
def stagingBase : Nat := 0x4_0000_0000

/-- Bytes that a read of a flash slot gives: IMG_LEN of them; an erased slot gives none. -/
def flashRead (slot : Option (List Byte)) : List Byte := match slot with | some l => l.take (fieldAt l 16 4) | none => []

/-- A byte of the staging area; a free value while PD_HBM is off. -/
def Dev.stagingByte (d : Dev) (mem : Memory) (a : Nat) : Byte :=
  if d.domOn domHbm then mem.read (stagingBase + a) else Config.slicePeek (stagingBase + a) d.free

/-- Bytes that a load reads; `read` is what a transfer from host memory brought. -/
def Dev.loadBytes (d : Dev) (mem : Memory) (source length address : Nat) (read : Option (List Byte)) : Option (List Byte) :=
  match source with
  | 0 => read.map fun l => l.take length
  | 1 => some ((List.range length).map fun i => d.stagingByte mem (address + i))
  | 2 => some (flashRead d.sched.slotA)
  | _ => some (flashRead d.sched.slotB)

/-- SOURCE, LENGTH and ADDRESS of SCHED_LOAD and SCHED_VERIFY. -/
def loadSource (c : Cmd) : Nat := fallback 3 2 (c.field 0 1)
def loadLength (c : Cmd) : Nat := clamp 264 33_554_432 (c.field 4 4)
def loadAddress (c : Cmd) : Nat :=
  if loadSource c = 0 then c.field 8 8 / 8 * 8 else clamp 0 (0x400_0000 - loadLength c) (c.field 8 8)

/-- A transfer from host memory has failed: event 0x1006 (R314). -/
def Dev.transferFailed (d : Dev) (opcode address : Nat) : Dev :=
  d.raise 0x1006 0 (leBytes 1 1 ++ leBytes 2 opcode ++ leBytes 8 address)

/-! ### SCHED_LOAD (R85) -/

/-- A port's receive side uses the shadow bank. -/
def Dev.shadowRead (d : Dev) : Bool := d.ports.any fun p => p.2.rxShadow

/-- A load or a discard ends BUSY. -/
def Dev.bankBusy (d : Dev) : Bool := d.sched.load.isSome || d.sched.swap.isSome || d.shadowRead

/-- Checks of SCHED_LOAD (R85, R428). -/
def checkSchedLoad (d : Dev) (_ : Cmd) : Check := refuseIf (d.bankBusy || d.fwBusy) stBusy

/-- The loader begins: the shadow bank empties, and stays empty when the load fails (R74); a transfer that cannot start
fails the command. -/
def Dev.startLoad (d : Dev) (c : Cmd) : Dev :=
  let order := d.host.nextOrder
  let d := d.acceptJob c none false
  let d := { d with sched := { d.sched.setShadow none with twinShadow := none } }
  if loadSource c = 0 && !d.dmaReady then (d.transferFailed 0x0201 (loadAddress c)).finishOrder order stWriteFault []
  else
    { d with sched := { d.sched with
      load := some { order := order, source := loadSource c, store := fallback 2 0 (c.field 1 1), length := loadLength c
                     address := loadAddress c, twin := d.twinFollows } } }

/-- SCHED_LOAD (R85). -/
def execSchedLoad (core : Nat) (s : State) : Host.Outcome State Fault Refusal :=
  s.run fun d => d.serve core [0x0201] checkSchedLoad fun e _ c => e.startLoad c

/-- The image in the shadow bank goes out to the twin as a record (R85, R269). -/
def Dev.copyShadow (d : Dev) : Dev :=
  let r : GRec := { snapMfn := d.mfn, body := .image false none d.sched.shadow }
  d.setPair { d.pair with txRecs := d.pair.txRecs ++ [r] }

/-- An image passed: it fills the shadow bank and is stored. In a pair the load goes on until the twin's shadow bank holds it
too; a twin that followed at acceptance and follows no more has failed to take it (R85). -/
def Dev.fillShadow (d : Dev) (j : LoadJob) (i : Image) (bytes : List Byte) (out : CheckOut) : Dev :=
  let d := { d with sched := { d.sched.setShadow (some i) with
    load := if d.twinFollows then some { j with copy := some out.bytes } else none
    stores := if j.store = 0 then d.sched.stores else d.sched.stores ++ [(j.store, bytes)] } }.raise
      0x0201 0 (leBytes 4 i.gen ++ leBytes 4 i.imgCrc)
  if d.twinFollows then d.copyShadow
  else d.finishOrder j.order (if j.twin then stWriteFault else stOk) out.bytes

/-- A load whose image the twin must still take: it ends OK when a frame echoes the TOKSEQ of the frame that carried the copy,
sends the copy again when the echo has passed that frame by, and ends WRITE_FAULT when the twin follows no more (R85; the
acknowledgement by ECHO_SEQ is DEDUCED, log 85). -/
def Dev.settleCopy (d : Dev) : Dev :=
  match d.sched.load with
  | none => d
  | some j =>
    match j.copy with
    | none => d
    | some out =>
      let done := fun (st : Nat) => ({ d with sched := { d.sched with
        load := none
        twinShadow := if st = stOk then d.sched.shadow.map fun (i : Image) => (i.gen, i.imgCrc) else none } }).finishOrder j.order st out
      if !d.twinFollows then done stWriteFault
      else
        match j.sent, d.pair.rxHead with
        | some q, some h =>
          if h.echoSeq = q then done stOk
          else if (h.echoSeq + 65_536 - q) % 65_536 < 32_768 then
            ({ d with sched := { d.sched with load := some { j with sent := none } } }).copyShadow
          else d
        | _, _ => d

/-- Event 0x0202. -/
def Dev.rejected (d : Dev) (out : CheckOut) : Dev :=
  d.raise 0x0202 0 (leBytes 1 out.rule ++ leBytes 1 out.sect ++ leBytes 4 out.off)

/-- The loader has read the image and checks it (R71, R74). -/
def Dev.loadRead (d : Dev) (j : LoadJob) (bytes : List Byte) : Dev :=
  match readImage bytes with
  | (out, some i) => d.fillShadow j i bytes out
  | (out, none) =>
    ({ d with sched := { d.sched with load := none } }.rejected out).finishOrder j.order (ruleStatus out.rule) out.bytes

/-- SCHED_LOAD_COMPLETE (R85): the bytes of the source have been read; a transfer from host memory brings `read`. -/
def execSchedLoadComplete (read : Option (List Byte)) (s : State) : Host.Outcome State Fault Refusal :=
  s.run fun d =>
    match d.sched.load.filter fun j => j.copy.isNone with
    | none => d
    | some j =>
      match d.loadBytes s.mem j.source j.length j.address read with
      | none => d
      | some bytes => d.loadRead j bytes

/-! ### Flash stores (R85) -/

/-- A flash slot: 1 A, 2 B. -/
def Sched.slot (s : Sched) (n : Nat) : Option (List Byte) := if n = 1 then s.slotA else s.slotB
def Sched.setSlot (s : Sched) (n : Nat) (l : Option (List Byte)) : Sched :=
  if n = 1 then { s with slotA := l } else { s with slotB := l }

/-- SCHED_STORE_DONE (R85): the flash write in progress ends; a failed one leaves free contents. -/
def execSchedStoreDone (ok : Bool) (s : State) : Host.Outcome State Fault Refusal :=
  s.run fun d =>
    match d.sched.stores with
    | [] => d
    | (n, l) :: t =>
      let held := if ok then l else Config.failedStore ((d.sched.slot n).getD []) l
      { d with sched := { d.sched.setSlot n (some held) with stores := t, storeFailed := !ok } }.raiseAs
        0x0207 (if ok then 0 else 2) 0 (leBytes 1 n ++ leBytes 4 (fieldAt l 8 4)) false

/-! ### What a swap needs (R72, V34 to V38) -/

/-- Steps that a port lit now must find in a new image (V37). -/
def Ladder.needed (l : Ladder) : List Nat :=
  [l.txStep, l.rxStep] ++ (l.announce.map (·.step)).toList ++ (l.pendingChange.map (·.step)).toList ++
    (l.waitingChange.map (·.step)).toList ++ (l.rxAnn.map (·.1)).toList

/-- The first of V35 to V38 that an image fails; 0 when none. -/
def Dev.imageRule (d : Dev) (i : Image) : Nat :=
  if i.baseGen != 0 && i.baseGen != d.activeGen then 35
  else if (List.range 324).any fun k => i.needs k && !d.domOn k then 36
  else if (List.range 8).any fun p => i.lit p && d.lit p && (d.ladder p).needed.any fun k => i.steps p ≤ k then 37
  else if d.twinFollows && d.sched.twinShadow != some (i.gen, i.imgCrc) then 38
  else 0

/-- The first of V34 to V38 that fails; 0 when none. -/
def Dev.swapRule (d : Dev) (expect : Nat) : Nat :=
  match d.sched.shadow with
  | none => 34
  | some i => if (expect != 0 && expect != i.gen) || i.gen = d.activeGen then 34 else d.imageRule i

/-! ### SCHED_VERIFY (R86) -/

/-- What a verify reports. -/
def Dev.verify (d : Dev) (c : Cmd) (bytes : List Byte) : CheckOut :=
  match readImage bytes with
  | (out, some i) =>
    let r := if fallback 1 0 (c.field 1 1) = 1 then d.imageRule i else 0
    if r = 0 then out else { out with rule := r, sect := 0xFF, off := max32 }
  | (out, none) => out

/-- Answer a SCHED_VERIFY. -/
def Dev.answerVerify (d : Dev) (mem : Memory) (c : Cmd) (read : Option (List Byte)) : Dev :=
  let bytes := if loadSource c = 0 && !d.dmaReady then none
    else d.loadBytes mem (loadSource c) (loadLength c) (loadAddress c) read
  match bytes with
  | none => (d.transferFailed 0x0202 (loadAddress c)).answer c stWriteFault []
  | some l =>
    let out := d.verify c l
    (if out.rule = 0 then d else d.rejected out).answer c (ruleStatus out.rule) out.bytes

/-- SCHED_VERIFY (R86): `read` is what the transfer from host memory brought; without it the transfer failed. -/
def execSchedVerify (core : Nat) (read : Option (List Byte)) (s : State) : Host.Outcome State Fault Refusal :=
  s.run fun d => d.serve core [0x0202] (fun _ _ => none) fun e _ c => e.answerVerify s.mem c read

/-! ### SCHED_SWAP (R87) -/

/-- Response of SCHED_SWAP. -/
def swapResponse (fc gen rule : Nat) : List Byte := leBytes 8 fc ++ leBytes 4 gen ++ leBytes 1 rule ++ zeros 3

/-- BUSY cases of SCHED_SWAP, then V34 to V38. -/
def checkSchedSwap (d : Dev) (c : Cmd) : Check :=
  firstRefusal
    [refuseIf (d.sched.swap.isSome || d.fwBusy) stBusy,
     let r := d.swapRule (c.field 0 4)
     if r = 0 then none else some (stConstraint, swapResponse 0 d.shadowGen r)]

/-- A swap waits for its target. -/
def Dev.startSwap (d : Dev) (c : Cmd) : Dev :=
  let (t, dflt) := if c.timed then resolveTarget d.refMfn c.applyAt else (d.refMfn, false)
  if c.timed && !d.timedRoom t then d.answer c stNoResource []
  else
    let order := d.host.nextOrder
    let d := d.acceptJob c (if c.timed then some t else none) c.timed
    let d := if dflt then d.raise 0x0109 0 (leBytes 2 c.opcode ++ leBytes 2 c.seq ++ leBytes 4 c.applyAt) else d
    { d with sched := { d.sched with swap := some { order := some order, expectGen := c.field 0 4, target := t } } }

/-- SCHED_SWAP (R87). -/
def execSchedSwap (core : Nat) (s : State) : Host.Outcome State Fault Refusal :=
  s.run fun d => d.serve core [0x0203] checkSchedSwap fun e _ c => e.startSwap c

/-! ### SCHED_STATUS (R88) -/

/-- SHADOW_STATE. -/
def Dev.shadowState (d : Dev) : Nat :=
  match d.sched.swap with
  | some j => if j.phase = 0 then 3 else 4
  | none => if d.sched.load.isSome then 1 else if d.sched.shadow.isSome then 2 else 0

/-- STORE_STATE. -/
def Sched.storeState (s : Sched) : Nat := match s.stores with | (n, _) :: _ => n | [] => if s.storeFailed then 3 else 0

/-- RX_BANK of a port. -/
def LinePort.rxBank (x : LinePort) : Nat := if x.calMismatch then 2 else b2n x.rxShadow

/-- IMAGE_CRC of a bank; 0 when empty. -/
def crcOf (i : Option Image) : Nat := match i with | some x => x.imgCrc | none => 0

/-- SCHED_STATUS's response. -/
def schedStatus (d : Dev) (_ : Cmd) : Nat × List Byte :=
  let s := d.sched
  (stOk, leBytes 4 d.activeGen ++ leBytes 4 (crcOf s.active) ++ leBytes 1 d.shadowState ++ leBytes 1 s.storeState ++ zeros 2 ++
    leBytes 4 d.shadowGen ++ leBytes 4 (crcOf s.shadow) ++ leBytes 4 (match s.swap with | some j => j.target | none => 0) ++
    leBytes 8 s.lastSwapFc ++ leBytes 4 (slotGen s.slotA) ++ leBytes 4 (slotGen s.slotB) ++
    ((List.range 8).map fun p => leBytes 2 (d.port p).rxMark ++ leBytes 1 (d.port p).rxBank ++ leBytes 1 0).flatten)

/-- SCHED_STATUS (R88). -/
def execSchedStatus (core : Nat) (s : State) : Host.Outcome State Fault Refusal :=
  s.run fun d => d.serveRead core [0x0204] schedStatus

/-! ### SCHED_DISCARD (R89) -/

/-- SCHED_DISCARD ends BUSY as a load does. -/
def checkSchedDiscard (d : Dev) (_ : Cmd) : Check := refuseIf d.bankBusy stBusy

/-- Effect of SCHED_DISCARD. -/
def applySchedDiscard (d : Dev) (c : Cmd) : Applied :=
  recheck d (checkSchedDiscard d c) fun d => okWith { d with sched := { d.sched.setShadow none with twinShadow := none } }

/-- SCHED_DISCARD (R89). -/
def execSchedDiscard (core : Nat) (s : State) : Host.Outcome State Fault Refusal :=
  s.run fun d => d.serveChange core 0x0205 checkSchedDiscard

end Sys2Proof.Machine
end

