-- ==== Sys2Proof/Machine/Swap.lean ====
section
/-! DEFINITION. The schedule swap: arming, the commit decision, and what comes into force at Beat 0 of the swap MF (R56,
R74 to R81, R106, R115, R129, R130, R134, R165, R170, R171, R188, R190, R213, R218, R249, R262, R301, R365). -/

namespace Sys2Proof.Machine

open Sys2Proof

/-! ### Arming and the decision (R75, R76) -/

/-- The swap that waits, with another phase and target. -/
def Dev.setSwap (d : Dev) (j : Option SwapJob) : Dev := { d with sched := { d.sched with swap := j } }

/-- End the command of a swap, if it has one. -/
def Dev.endSwap (d : Dev) (j : SwapJob) (st : Nat) (pl : List Byte) : Dev :=
  let d := d.setSwap none
  match j.order with | some o => d.finishOrder o st pl | none => d

/-- ABORT: event 0x0204 with the die or twin (0xFF: none) and the rule. -/
def Dev.abortSwap (d : Dev) (j : SwapJob) (st die rule : Nat) : Dev :=
  (d.raise 0x0204 0 (leBytes 1 die ++ leBytes 1 rule)).endSwap j st (swapResponse 0 d.shadowGen rule)

/-- SWAP_ARM (R75): Beat 252 of the MF before the target; V34 to V38 again. -/
def execSwapArm (s : State) : Host.Outcome State Fault Refusal :=
  s.runIf (fun d => d.beat == 252 &&
      (match d.sched.swap with | some j => j.phase == 0 && j.target ≤ d.mfn + 1 | none => false)) fun d =>
    match d.sched.swap with
    | none => d
    | some j =>
      let r := d.swapRule j.expectGen
      if r != 0 then d.abortSwap j stConstraint 0xFF r
      else (d.setSwap (some { j with phase := 1, target := d.mfn + 1 })).sendSwapOp 1 d.shadowGen (crcOf d.sched.shadow)

/-- The die whose acknowledgement is missing: slices 0 to 3, 5 the twin. -/
def Dev.missingAck (d : Dev) (acks : Nat) (twinAck : Bool) : Option Nat :=
  match (List.range 4).find? fun s => !bit acks s with
  | some s => some s
  | none => if d.twinFollows && !twinAck then some 5 else none

/-- SWAP_COMMIT_DECISION (R75, R76): Beat 254, COMMIT or ABORT; `acks` has bit s for slice s. -/
def execSwapCommitDecision (acks : Nat) (twinAck : Bool) (s : State) : Host.Outcome State Fault Refusal :=
  s.runIf (fun d => d.beat == 254 && !d.followsTokens &&
      (match d.sched.swap with | some j => j.phase == 1 | none => false)) fun d =>
    match d.sched.swap with
    | none => d
    | some j =>
      let op := fun (d : Dev) (n : Nat) => d.sendSwapOp n d.shadowGen (crcOf d.sched.shadow)
      match d.missingAck acks twinAck with
      | some die => (op d 4).abortSwap j stWriteFault die 0
      | none => op (d.setSwap (some { j with phase := 2 })) 3

/-- STANDBY_COMMIT_MISSING (R76): neither COMMIT nor ABORT by the end of Beat 255. -/
def execStandbyCommitMissing (s : State) : Host.Outcome State Fault Refusal :=
  s.runIf (fun d => d.followsTokens &&
      (match d.sched.swap with | some j => j.phase == 1 && j.target ≤ d.mfn | none => false)) fun d => d.setSwap none

/-! ### Port defaults (R56, R365) -/

/-- The first of `n` words from `base` that is set and names `key` in its low `bytes` bytes, as its setter's command. -/
def Dev.defaultWord (d : Dev) (base n key bytes op obj : Nat) : Option Cmd :=
  (List.range n).findSome? fun k =>
    let v := d.sinter.read (base + k)
    if v != unset && v % 256 ^ bytes == key then some (Cmd.ofWord op obj v) else none

/-- Words of a setter that apply to an object that starts, the first of each key only. -/
def Dev.firstWords (d : Dev) (base n bytes : Nat) : List Nat :=
  (List.range n).filterMap fun k =>
    let v := d.sinter.read (base + k)
    if v != unset && !(List.range k).any (fun i =>
        d.sinter.read (base + i) != unset && d.sinter.read (base + i) % 256 ^ bytes == v % 256 ^ bytes)
    then some v else none

/-- ODU_TCM_SET words act on an object that starts; BACK_CH is ignored. -/
def Dev.oduDefaults (d : Dev) (obj : Nat) : Dev :=
  (d.firstWords 496 6 2).foldl (fun d v =>
    (applyOduTcmSet d (Cmd.ofWord 0x0402 obj (v % 2 ^ 48 + 0xFFFF * 2 ^ 48))).1) d

/-- A layer that comes to exist: its masks and thresholds from the port defaults (R224, R225). -/
def Dev.freshLayer (d : Dev) (obj l : Nat) : Layer :=
  let x : Layer := match (if (degBit l).isSome then d.defaultWord 464 16 l 1 0x0703 obj else none) with
    | some c =>
      let m := clamp 2 10 (c.field 1 1)
      let t := clamp 1 10_000 (c.field 2 2)
      { degm := m, degthr := t, degmNext := m, degthrNext := t }
    | none => {}
  match d.defaultWord 480 16 l 1 0x0702 obj with | some c => { x with mask := c.field 2 2 } | none => x

/-- A line port that comes to be lit: enabled, unless its default word holds it disabled (R115). -/
def Dev.litPort (d : Dev) (p : Nat) : Dev :=
  let w := d.sinter.read (256 + 2 * p)
  let v := d.sinter.read (257 + 2 * p)
  let c := Cmd.ofWord 0x0301 (objPort p) w
  let x := d.port p
  let a := if w = unset then x.attr else enableAttr x.attr c
  let a := if v = unset then a else policyAttr a (Cmd.ofWord 0x0304 (objPort p) v)
  let d := d.setPort p { x with attr := a }
  if w != unset && fallback 2 2 (c.field 0 1) = 0 then d else d.enablePort p

/-- A client port that comes to exist: enabled, unless its default word holds it disabled (R171). The word applies as the
setter would, so one that the setter refuses has no effect (R365). -/
def Dev.newClient (d : Dev) (x : Desc) : Dev :=
  let w := d.sinter.read (272 + x.cp)
  if w = unset || fecRefused x (Cmd.ofWord 0x0503 (objClient x.cp) w) then d.enableClient x true
  else
    let c := Cmd.ofWord 0x0503 (objClient x.cp) w
    let all := { c with payload := setAt c.payload 2 0xFF#8 }
    let on := fallback 2 2 (c.field 0 1) != 0
    (d.configClient x { all with payload := setAt all.payload 0 (if on then 1#8 else 0#8) }).enableClient x on

/-! ### Banks (R75, R76, R81, R83) -/

/-- The receive side of a port across the flip: a port enabled and lit on both sides stays on its image, until a mark (R81)
or, without LCC, the next received MF boundary (R83) takes it to the other bank. -/
def LinePort.flipRx (x : LinePort) (both : Bool) : LinePort :=
  if both && x.enabled then
    { x with rxShadow := !x.rxShadow }
  else { x with rxShadow := false }

/-- Banks of a slice once its bank select has flipped; nothing where they are the hub's again. -/
def Sched.flipSlice (s : Sched) (k : Nat) : Option (Option Image × Option Image) :=
  if s.stale.any (·.1 == k) then
    let b := s.banks k
    if b = (s.active, s.shadow) then none else some (b.2, b.1)
  else none

/-- Banks of every slice that is not on the hub's after a swap: those that did not latch COMMIT keep theirs (R76). -/
def Sched.flipStale (s : Sched) (latched : Nat) : Tab (Option Image × Option Image) :=
  [0, 1, 2, 3].filterMap fun k =>
    if bit latched k then (s.flipSlice k).map fun b => (k, b) else some (k, s.banks k)

/-- The bank selects flip; slices that did not latch COMMIT keep their bank. -/
def Dev.flipBanks (d : Dev) (old new : Image) (latched : Nat) : Dev :=
  let missed := (List.range 4).filter fun s => !bit latched s
  let d := { d with
    ports := d.ports.map fun e =>
      if bit latched (e.1 / 2) then (e.1, e.2.flipRx (old.lit e.1 && new.lit e.1)) else e
    sched := { d.sched with
      active := d.sched.shadow, shadow := d.sched.active, lastSwapFc := d.fc, swap := none
      stale := d.sched.flipStale latched
      twinShadow := if d.twinFollows then d.sched.active.map fun i => (i.gen, i.imgCrc) else none } }
  missed.foldl (fun d s => d.raise 0x020A 0 (leBytes 1 s)) d

/-! ### Objects that end (R56, R78, R249, R301) -/

/-- Objects of an image that its tables name, ports and clients apart. -/
def Dev.endPorts (d : Dev) (old new : Image) (latched : Nat) : Dev :=
  ((List.range 8).filter fun p => bit latched (p / 2) && old.lit p && !new.lit p).foldl (fun d p =>
    let x := d.port p
    let l : Ladder := { annSeq := x.ladder.annSeq, reqSeq := x.ladder.reqSeq, reqStep := x.ladder.reqStep }
    d.setPort p { rxMark := x.rxMark, ladder := l }) d

/-- Slice of a client port: that of its channel (R17). -/
def Image.clientSlice (i : Image) (k : Nat) : Nat := match i.clientDesc k with | some x => x.ch / 64 | none => k / 16

/-- Client ports that leave: their lanes are ignored and lose their attributes. -/
def Dev.endClients (d : Dev) (old new : Image) (latched : Nat) : Dev :=
  (old.clientPorts.filter fun k => bit latched (old.clientSlice k) && (new.clientDesc k).isNone).foldl (fun d k =>
    let n := match old.clientDesc k with | some x => x.lanes | none => 0
    let d := (List.range n).foldl (fun d j =>
      { d with clientLanesUp := setBit d.clientLanesUp (k + j) false, lanes := Tab.drop d.lanes (k + j) }) d
    { d with clients := Tab.drop d.clients k }) d

/-- Everything kept per object goes with an object that leaves the image. -/
def Dev.endObjects (d : Dev) (old new : Image) (latched : Nat) : Dev :=
  let keep := fun (o : Nat) => !imageMade (objType o) || new.has o
  let d := (d.endPorts old new latched).endClients old new latched
  let d := { d with
    odu := d.odu.filter fun e => keep e.1
    layers := d.layers.filter fun e => keep (e.1 / 256) && (new.layers (e.1 / 256)).contains (e.1 % 256)
    pms := d.pms.filter fun e => keep (e.1 / 256) && (new.layers (e.1 / 256)).contains (e.1 % 256)
    acts := d.acts.filter fun e => keep (match e.1 / 256 with
      | 0 => objPort (e.1 % 256) | 1 => objSpread (e.1 % 256) | 3 => objClient (e.1 % 256) | _ => objChannel (e.1 % 256))
    svc := { d.svc with prbs := d.svc.prbs.filter fun e => keep e.1 }
    groups := d.groups.filter fun e => (new.sgRec e.1).isSome
    path := { d.path with deskew := d.path.deskew.filter fun e => keep (e.1 / 16) }
    cald := { d.cald with streams := d.cald.streams.filter fun x => keep x.owner } }
  let d := (old.pgs.filter fun g => (new.pgRec g.pg).isNone).foldl (fun d g => d.endPg g.pg) d
  d.fumSources.foldl (fun d e => if e.2.bind.isSome && !new.hasSource e.1 then (d.unbind e.1).1 else d) d

/-! ### Objects that start (R56, R78, R106, R115, R130, R171, R188, R218, R249) -/

/-- Layers and PM entities of objects that start: attributes stay with an object that both images have. -/
def Dev.startLayers (d : Dev) (old new : Image) : Dev :=
  new.allLayers.foldl (fun d p =>
    let (o, l) := p
    if objCarries old new o then d
    else if old.has o && (old.layers o).contains l then
      let x := d.layer o l
      let d := d.setLayer o l { mask := x.mask, degm := x.degmNext, degthr := x.degthrNext, degmNext := x.degmNext
                                degthrNext := x.degthrNext }
      let e := d.pm o l
      if e.run then d.setPm o l (e.start d.pps.pmSeconds) else d
    else d.setLayer o l (d.freshLayer o l)) d

/-- Overhead of channels and of line ports: kept where the object goes on; restarted with its attributes where the KIND
stays; reset and given the port defaults otherwise (R130). -/
def Dev.startOdu (d : Dev) (old new : Image) : Dev :=
  let d := new.ptab.foldl (fun d x =>
    let o := objChannel x.ch
    if carriesOn old new x.ch then d
    else match old.desc x.ch with
      | some y => if y.kind = x.kind then d.setOdu o (d.oduOf o).restart else (d.setOdu o {}).oduDefaults o
      | none => (d.setOdu o {}).oduDefaults o) d
  ((List.range 8).filter fun p => new.lit p && !old.lit p).foldl (fun d p =>
    (d.setOdu (objPort p) {}).oduDefaults (objPort p)) d

/-- The image that a channel's slice ran before the swap: `before` has the banks as they were. -/
def Sched.ran (before : Sched) (ch : Nat) : Image := (before.banks (ch / 64)).1.getD Image.empty

/-- A channel's RX side stays on the bank that a port still uses (R81). -/
def Dev.rxStays (d : Dev) (old : Image) (ch : Nat) : Bool :=
  old.xcal.any fun e => e.ch == ch && e.dir == 1 && (d.port (e.gs / 320)).rxShadow

/-- A channel's RX side waits for a port to switch to the new image (R81). -/
def Dev.rxWaits (d : Dev) (new : Image) (ch : Nat) : Bool := d.rxStays new ch

/-- Channels stop, start and resize on the slices that have flipped (R76, R78, R166). -/
def Dev.swapChannels (d : Dev) (before : Sched) (new : Image) (latched : Nat) : Dev :=
  let on := fun (ch : Nat) => bit latched (ch / 64)
  let d := [0, 1, 2, 3].foldl (fun d s =>
    let old := before.ran (64 * s)
    (old.ptab.filter fun x => x.ch / 64 == s && on x.ch && !carriesOn old new x.ch).foldl
      (fun d x => d.stopChannel x.ch new.gen ((new.desc x.ch).isSome && d.rxStays old x.ch)) d) d
  (new.ptab.filter fun x => on x.ch).foldl (fun d x =>
    let old := before.ran x.ch
    let members := match new.sgOf x.ch with | some g => g.members.length | none => 0
    let rx := if d.rxWaits new x.ch then none else some x
    if unchanged old new x.ch then d
    else match old.desc x.ch with
      | some y => if resizes old new x.ch then d.resizeChannel x.ch y x
        else d.startChannel x.ch x members new.gen rx
      | none => d.startChannel x.ch x members new.gen rx) d

/-- Ports made lit start at step 0 with their defaults; others bring waiting step changes to the new image (R79). -/
def Dev.startPorts (d : Dev) (old new : Image) (latched : Nat) : Dev :=
  ((List.range 8).filter fun p => bit latched (p / 2) && new.lit p).foldl (fun d p => if old.lit p then d.clampLadder p else (d.resetLadder p).litPort p) d

/-- Client ports: those that come to exist are enabled; those that change lose their lanes and keep their attributes. -/
def Dev.startClients (d : Dev) (old new : Image) (latched : Nat) : Dev :=
  (new.clientPorts.filter fun k => bit latched (new.clientSlice k)).foldl (fun d k =>
    match new.clientDesc k with
    | none => d
    | some x =>
      if clientCarries old new k then d
      else if (old.clientDesc k).isSome then
        let p := d.client k
        let d := (List.range x.lanes).foldl (fun d j => d.dropClientLane (k + j)) d
        let d := d.setClient k { enabled := p.enabled, fec := p.fec, loop := p.loop }
        d.noteInput (objClient k) layClientTx 10 (!p.enabled)
      else d.newClient x) d

/-- Spread groups: one that is UP and whose record changes keeps its generation until the new one comes (R190). -/
def Dev.startGroups (d : Dev) (old new : Image) : Dev :=
  new.sgmap.foldl (fun d g =>
    if sgCarries old new g.sg then d
    else match old.sgRec g.sg with
      | some r => if (d.group g.sg).mode == .up && r != g then
            d.putGroup g.sg { d.group g.sg with kept := some r, realigns := 0 }
        else d.startGroup g
      | none => d.startGroup g) d

/-- Protection groups that do not carry their state start; attributes stay with a group that both images have. -/
def Dev.startPgs (d : Dev) (old new : Image) : Dev :=
  new.pgs.foldl (fun d g =>
    if pgCarries old new g.pg then d
    else if (old.pgRec g.pg).isSome then d.restartPg g else d.startPg g) d

/-- Bindings whose layer does not suit their object: event 0x0706 (R213). -/
def Dev.noteBinds (d : Dev) (new : Image) : Dev :=
  (new.binds.filter fun b => !(new.layers b.obj).contains b.layer).foldl (fun d b =>
    d.raise 0x0706 b.obj (leBytes 4 b.obj ++ leBytes 1 b.layer)) d

/-! ### The evaluation of a Beat (R212, R218, R239, R249) -/

/-- The device as the objects that start at a swap are evaluated before it: their layers cleared, their groups started, or as
the evaluation of Beat 254 left both. -/
def Dev.standIn (d : Dev) (old new : Image) : Dev :=
  let d := ((d.startLayers old new).startOdu old new).startPgs old new
  match d.ahead with
  | some x => { d with layers := x.layers.foldl (fun t e => Tab.set t e.1 e.2) d.layers
                       pgs := x.pgs.foldl (fun t e => Tab.set t e.1 e.2) d.pgs }
  | none => d

/-- Beats 254 and 255 before a committed swap: tokens for the objects that start there; what the evaluation leaves of them waits
for the swap. -/
def Dev.evaluateAhead (d : Dev) (new : Image) (stamp : Nat) : Dev :=
  let old := d.sched.active.getD Image.empty
  if old == new then { d with ahead := none }
  else
    let on := fun (o : Nat) => !objCarries old new o
    let e := (d.standIn old new).evaluate new stamp on
    { d with tokens := e.tokens
             ahead := some { layers := e.layers.filter fun x => on (x.1 / 256) && (new.layers (x.1 / 256)).contains (x.1 % 256)
                             pgs := e.pgs.filter fun x => on (objGroup x.1) && (new.pgRec x.1).isSome } }

/-- CONSEQUENT_ACTION_EVALUATION (R212, R239): once in each Beat, for the Beat after the next. -/
def execConsequentActionEvaluation (s : State) : Host.Outcome State Fault Refusal :=
  s.runIf (fun d => d.evalFc != some d.fc && (d.imageAt (d.fc + 2)).isSome) fun d =>
    match d.imageAt (d.fc + 2) with
    | none => d
    | some i => { (d.evaluate i (d.fc + 2) (d.evaluates i)).evaluateAhead i (d.fc + 2) with evalFc := some d.fc }

/-- A layer that has started stands as its evaluations before the swap left it, and what they formed is reported. -/
def Dev.installLayer (d : Dev) (key : Nat) (x : Layer) : Dev :=
  let obj := key / 256
  let l := key % 256
  let d := d.setLayer obj l { d.layer obj l with vector := x.vector, output := x.output }
  (List.range 16).foldl (fun d i => if bit x.reported i then d.noteInput obj l i true else d) d

/-- A group that has started stands as its evaluations left it, with the attributes that it has. -/
def Dev.installPg (d : Dev) (g : Nat) (x : PgState) : Dev :=
  let y := d.pg g
  d.setPg g { y with state := x.state, word := x.word, w := x.w, p := x.p, wtrDone := x.wtrDone, presentClear := x.presentClear }

/-- What Beats 254 and 255 decided for the objects that start now takes effect: their tokens of this Beat, and the state of
their evaluators (R218, R249). -/
def Dev.takeAhead (d : Dev) : Dev :=
  match d.ahead with
  | none => d
  | some x =>
    let d := x.layers.foldl (fun d e => d.installLayer e.1 e.2) { d with ahead := none }
    let d := x.pgs.foldl (fun d e => d.installPg e.1 e.2) d
    (x.due.foldl (fun d t => d.applyToken t.1 t.2) d).actAll

/-! ### The effect (R75, R84, R262) -/

/-- The moment of R262: a device whose profile sets pair mode enters WAITING. -/
def Dev.enterWaiting (d : Dev) : Dev :=
  let d := d.raise 0x0901 0 (leBytes 1 Role.alone.code ++ leBytes 1 Role.waiting.code)
  (d.setPair { d.pair with waitStart := d.mfn, twinActiveMfn := d.mfn }).autoJoin

/-- After the startup image's swap: AUTO_OFF in the next MF, and the role of R262. -/
def Dev.afterStartup (d : Dev) : Dev :=
  let d := if d.autoOff then { d with pwr := { d.pwr with autoOffAt := some (d.mfn + 1) } } else d
  if d.pair.paired && d.pair.role == .waiting then d.enterWaiting else d

/-- What the swap puts in force. -/
def Dev.swapTo (d : Dev) (j : SwapJob) (new : Image) (latched : Nat) : Dev :=
  let old := d.sched.active.getD Image.empty
  let before := d.sched
  let d := d.flipBanks old new latched
  let d := ((d.endObjects old new latched).startLayers old new).startOdu old new
  let d := ((d.swapChannels before new latched).startPorts old new latched).startClients old new latched
  let d := ((d.startGroups old new).startPgs old new).revertBack.noteBinds new
  let d := d.takeAhead.raise 0x0203 0 (leBytes 4 old.gen ++ leBytes 4 new.gen)
  match j.order with
  | some o => d.finishOrder o stOk (swapResponse d.fc new.gen 0)
  | none => if d.pair.role == .alone || d.pair.role == .waiting then d.afterStartup else d

/-- SWAP_EFFECT (R75): Beat 0 of the swap MF; `latched` has bit s for each slice that latched COMMIT. -/
def execSwapEffect (latched : Nat) (s : State) : Host.Outcome State Fault Refusal :=
  s.runIf (fun d => d.beat == 0 && d.swapDue) fun d =>
    match d.sched.swap, d.sched.shadow with
    | some j, some new => d.swapTo j new latched
    | _, _ => d.setSwap none

end Sys2Proof.Machine
end

