-- ==== Sys2Proof/Machine/Flow.lean ====
section
/-! DEFINITION. The flows of a channel as their bytes pass: framing, the overhead that leaves, BIP-8, maintenance signals
(R122 to R126, R128), and what the RX client stages take out of the payload (R141, R148 to R150). -/

namespace Sys2Proof.Machine

open Sys2Proof

/-! ### One run of bytes (R123 to R126) -/

/-- A byte of the overhead of rows 2 to 4 as it leaves. -/
def Patch.byte (p : Patch) (maint k : Nat) (b : DByte) : DByte :=
  let own := match p.oh.getD k none with | some v => tagByte v | none => b
  let own := if k = 2 && p.dmMask != 0 then
      tagByte (BitVec.ofNat 8 ((List.range 8).foldl (fun v j => if bit p.dmMask j then setBit v j (bit p.dmVal j) else v)
        (byteOf own).toNat))
    else own
  if maint = 0 || (maint = 1 && k = 13) then own else tagByte (maintByte maint)

/-- Bytes that belong together pass through a flow: overhead is replaced as the patch says; a test signal `test`, where it is
not empty, replaces the OPU, and a maintenance signal overhead and payload; BIP-8 gathers over the OPU as it came and as it
leaves. `n` is their number. -/
def OduFlow.pass (f : OduFlow) (maint n : Nat) (test l : List DByte) : OduFlow × List DByte :=
  let row := f.pos / rowBytes
  let c := f.pos % rowBytes
  let f' := { f with pos := f.pos + n }
  if c < 14 then
    if row = 0 then (f', l)
    else
      let out := l.zipIdx.map fun b => f.patch.byte maint ((row - 1) * 14 + c + b.2) b.1
      ({ f' with oh := f.oh ++ bytesOf l, sentOh := f.sentOh ++ bytesOf out }, out)
  else
    let out := if maint != 0 then l.map fun _ => tagByte (maintByte maint) else if test.isEmpty then l else test
    let x := fun (v : Nat) (l : List DByte) => bip8 (BitVec.ofNat 8 v :: bytesOf l)
    let f' := { f' with bipNow := (x f.bipNow.1 l, x f.bipNow.2 out) }
    if c < 16 then
      ({ f' with opu := f.opu ++ bytesOf l, sentOpu := f.sentOpu ++ bytesOf out, opuBad := f.opuBad || l.any badByte }, out)
    else (f', out)

/-! ### Frames (R95 for clients, R122, R123) -/

/-- Bytes before the first FAS, and those from it on; the last six bytes may begin one. -/
def huntFas : List DByte → List DByte × List DByte
  | [] => ([], [])
  | b :: t =>
    if (b :: t).length < 7 || bytesOf ((b :: t).take 6) == fasBytes then ([], b :: t)
    else let (s, r) := huntFas t; (b :: s, r)

/-- A frame of a channel's flow begins. `own`: the engine originates it. -/
def Dev.openFrame (d : Dev) (ch kind flow : Nat) (own : Bool) (f : OduFlow) (l : List DByte) : Dev × OduFlow :=
  let good := own || bytesOf (l.take 6) == fasBytes
  let bad := if good then 0 else f.badFas + 1
  let mfas := if own || !good then (f.mfas + 1) % 256 else (byteOf (l.getD 6 0)).toNat
  if 5 ≤ bad then (d, { f with framed := false, badFas := 0 })
  else
    let (d, p) := d.beginFrame kind (objChannel ch) flow 1 mfas f.bipOut.2
    (d, { f with badFas := bad, mfas, patch := p, oh := [], opu := [], sentOh := [], sentOpu := [], opuBad := false
                 bipNow := (0, 0) })

/-- Messages of justification control that a frame of a KIND 0 channel brings its client stage (R155, R167). -/
def ChanPath.takeJc (p : ChanPath) (stage : Nat) (opu : List Byte) (bad : Bool) : ChanPath :=
  let (v, ok) := Config.jcRead (opu.take 6)
  { p with jc := Tab.set p.jc stage (v, ok && !bad) }

/-- A frame of a channel's flow has ended. -/
def Dev.closeFrame (d : Dev) (ch kind flow : Nat) (f : OduFlow) : Dev × OduFlow :=
  let o := objChannel ch
  let d := d.endFrame kind { obj := o, flow, inst := 1, mfas := f.mfas, oh := f.oh, opu := f.opu } f.bipIn.2 f.sentOh f.sentOpu
  let d := if flow = 1 then d.takeBoff ch (if f.opuBad then [] else f.opu) else d
  let d := if flow = 1 && kind = 0 then d.setCpath ch ((d.cpath ch).takeJc 4 f.opu f.opuBad) else d
  (d, { f with pos := 0, bipIn := (f.bipNow.1, f.bipIn.1), bipOut := (f.bipNow.2, f.bipOut.1) })

/-- A run of bytes that has passed: its place in the frame, none where no frame is found. -/
abbrev Run := Option Nat × List DByte

/-- A channel's test signal in its OPU, and its checker (R442, R444): the generator's bits fill the TX flow's payload, with the
payload type that G.709 gives a PRBS test signal (PRESUMED, log 80); the checker reads the RX flow's payload. -/
def Dev.testRun (d : Dev) (ch flow : Nat) (f : OduFlow) (k : Nat) (l : List DByte) : Dev × List DByte :=
  let c := f.pos % rowBytes
  let o := objChannel ch
  if flow = 1 then (if c < 16 then d else d.patternSeen o true (bytesOf l), [])
  else if !(d.prbs o).generates then (d, [])
  else if 16 ≤ c then let (d, b) := d.patternBytes o k true; (d, tagBytes b)
  else if c = 14 && f.pos / rowBytes = 3 && f.mfas = 0 then (d, tagByte 0xFE :: l.drop 1)
  else (d, [])

/-- `n` bytes pass through a flow. -/
def Dev.flowRuns (ch kind flow : Nat) (own : Bool) : Nat → Nat → List DByte → Dev × OduFlow → Dev × OduFlow × List Run
  | 0, _, _, (d, f) => (d, f, [])
  | fuel + 1, n, l, (d, f) =>
    if n = 0 then (d, f, [])
    else if !f.framed then
      let (skipped, rest) := huntFas l
      if rest.length < 7 then (d, { f with hold := rest }, [(none, skipped)])
      else
        let (d, f, out) := Dev.flowRuns ch kind flow own fuel rest.length rest (d, { f with framed := true, pos := 0 })
        (d, f, (none, skipped) :: out)
    else if f.pos = 0 && !own && n < 7 then (d, { f with hold := l }, [])
    else
      let (d, f) := if f.pos = 0 then d.openFrame ch kind flow own f l else (d, f)
      if !f.framed then Dev.flowRuns ch kind flow own fuel n l (d, f)
      else
        let k := min n (runLen f.pos)
        let at_ := f.pos
        let (d, test) := d.testRun ch flow f k (l.take k)
        let (f, out) := f.pass ((d.chan ch).signal flow) k test (l.take k)
        let (d, f) := if f.pos = frameBytes then d.closeFrame ch kind flow f else (d, f)
        let (d, f, rest) := Dev.flowRuns ch kind flow own fuel (n - k) (l.drop k) (d, f)
        (d, f, (some at_, out) :: rest)

/-- `n` bytes pass through a flow of a channel; those that leave. -/
def Dev.passFlow (d : Dev) (ch kind flow : Nat) (own : Bool) (n : Nat) (l : List DByte) : Dev × List Run :=
  let p := d.cpath ch
  let f := if flow = 0 then p.tx else p.rx
  let l := f.hold ++ l
  let n := if own then n else l.length
  let (d, f, out) := Dev.flowRuns ch kind flow own (2 * n + 2) n l (d, { f with hold := [], framed := f.framed || own })
  let p := d.cpath ch
  (d.setCpath ch (if flow = 0 then { p with tx := f } else { p with rx := f }), out)

/-- The bytes of runs. -/
def runBytes (l : List Run) : List DByte := l.flatMap (·.2)

/-! ### The RX client stages take the payload (R141, R150, R153, R155) -/

/-- Payload bytes of the client at frame byte `at_` on. -/
def clientIndex (oduType at_ : Nat) : Nat := at_ / rowBytes * clientRowBytes oduType + clientColumns oduType (at_ % rowBytes)

/-- A MAPPING 3 frame begins: in block lock, the blocks stand where BOFF says; what does not fit is dropped (R150). -/
def Dev.seatBlocks (d : Dev) (ch : Nat) : Dev :=
  let p := d.cpath ch
  let c := d.chan ch
  if !c.blockLock then d.setCpath ch { p with rxBits := [], boffAt := 0 }
  else if (p.rxBits.length + c.boffNext) % 257 = 0 then d
  else d.setCpath ch { p with rxBits := [], boffAt := c.boffNext }

/-- A frame begins at the client stage: the count received with the last frame governs it (R155). -/
def Dev.openClient (d : Dev) (x : Desc) : Dev :=
  let d := if x.mapping = 3 then d.seatBlocks x.ch else d
  d.setCpath x.ch { d.cpath x.ch with clientCm := (d.chan x.ch).rcvClient }

/-- A run of a KIND 0 channel's RX flow reaches its client stage. -/
def Dev.demapRun (d : Dev) (x : Desc) (r : Run) : Dev :=
  match r.1 with
  | none => d
  | some at_ =>
    let d := if at_ = 0 then d.openClient x else d
    let p := d.cpath x.ch
    if at_ % rowBytes < 16 then d
    else
      match x.mapping with
      | 0 =>
        match x.clientTab, p.clientCm with
        | some t, some cm =>
          let l := readWords (t.data cm) x.gmpClient.2 (clientIndex x.oduType at_) (readColumns x.oduType (at_ % rowBytes) r.2)
          d.setCpath x.ch { p with rxBytes := p.rxBytes ++ l }
        | _, _ => d
      | 2 => d.setCpath x.ch { p with rxBytes := p.rxBytes ++ readColumns x.oduType (at_ % rowBytes) r.2 }
      | 1 => d.setCpath x.ch { p with rxBits := p.rxBits ++ bitsOfBytes r.2 }
      | _ =>
        if !(d.chan x.ch).blockLock then d
        else
          let l := bitsOfBytes r.2
          d.setCpath x.ch { p with rxBits := p.rxBits ++ l.drop p.boffAt, boffAt := p.boffAt - l.length }

end Sys2Proof.Machine
end

