-- ==== Sys2Proof/Machine/Stripe.lean ====
section
/-! DEFINITION. Striping of a Spread group's ODUflex over its members, and putting it together again: compaction, stripe
units, Spread Fragment Headers, marker positions (R178 to R182, R187, R190). -/

namespace Sys2Proof.Machine

open Sys2Proof

/-! ### The Spread Fragment Header (R180) -/

/-- Bytes of an SFH block, and of its header. -/
def sfhBlock : Nat := 16_384
def sfhSize : Nat := 8

/-- The SFH of block `b` of a member's fragment stream. -/
def sfhBytes (sg member gen b : Nat) : List Byte :=
  let h := leBytes 1 (sg * 8 + member) ++ leBytes 1 (gen * 16 + b2n (b == 0)) ++ beBytes 4 (b % 2 ^ 32) ++ [0]
  h ++ [BitVec.ofNat 8 (crc8 h)]

/-- Bytes of the fragment stream before index `x` that SFHs take. -/
def headsBefore (x : Nat) : Nat := x / sfhBlock * sfhSize + min sfhSize (x % sfhBlock)

/-- SFH bytes among `n` fragment bytes from index `x` on. -/
def headsIn (x n : Nat) : Nat := headsBefore (x + n) - headsBefore x

/-- `n` fragment bytes from index `x` on, taking the data stream from a list. -/
def layFragment (g : SgRec) (m : Nat) : Nat → Nat → List DByte → List DByte
  | 0, _, _ => []
  | n + 1, x, l =>
    if x % sfhBlock < sfhSize then
      tagByte (byteAt (sfhBytes g.sg m g.sfhGen (x / sfhBlock)) (x % sfhBlock)) :: layFragment g m n (x + 1) l
    else match l with
      | b :: t => b :: layFragment g m n (x + 1) t
      | [] => tagByte 0 :: layFragment g m n (x + 1) []

/-! ### Compaction (R178) -/

/-- A frame byte stays in the compacted stream. -/
def compacted (pos : Nat) : Bool := pos = 6 || 14 ≤ pos

/-- Bytes of a compacted frame. -/
def compactBytes : Nat := 15_283

/-- What enters the striper of the bytes that have passed: it begins with the MFAS byte of a frame; bytes in no frame are
left out (DESIGN CHOICE, log 81). -/
def ChanPath.compact (p : ChanPath) (l : List Run) : ChanPath × List DByte :=
  l.foldl (fun (a : ChanPath × List DByte) r =>
    match r.1 with
    | none => a
    | some at_ =>
      if a.1.packAt = 0 && at_ != 0 then a
      else ({ a.1 with packAt := 1 }, a.2 ++ (r.2.zipIdx.filter fun b => compacted (at_ + b.2)).map (·.1))) (p, [])

/-! ### Stripe units (R179, R181) -/

/-- Bytes of a stripe unit. -/
def unitBytes : Nat := 16

/-- The striper deals stripe units by SEQ until a member's queue holds `n` bytes; the first number bounds the units. -/
def ChanPath.refill (g : SgRec) (m n : Nat) : Nat → ChanPath → ChanPath
  | 0, p => p
  | fuel + 1, p =>
    if n ≤ (p.queues.getD m []).length || p.srv.length < unitBytes then p
    else
      let k := g.seq.getD p.unit 0
      ChanPath.refill g m n fuel
        { p with srv := p.srv.drop unitBytes, unit := (p.unit + 1) % max 1 g.stripeLen
                 queues := setAt p.queues k (p.queues.getD k [] ++ p.srv.take unitBytes) }

/-- A member's next `n` fragment bytes. -/
def ChanPath.fragment (p : ChanPath) (g : SgRec) (m n : Nat) : ChanPath × List DByte :=
  let x := p.frag.getD m 0
  let k := n - headsIn x n
  let p := p.refill g m k (p.srv.length / unitBytes + 1)
  let q := p.queues.getD m []
  ({ p with queues := setAt p.queues m (q.drop k), frag := setAt p.frag m (x + n) }, layFragment g m n x q)

/-- Fragment bytes of the word that comes next that are SFHs, over all members. -/
def ChanPath.wordHeads (p : ChanPath) (g : SgRec) : Nat :=
  sum (g.members.zipIdx.map fun m => headsIn (p.frag.getD m.2 0) (16 * m.1.weight))

/-- The fragment bytes of a data word, members in order (R181). -/
def ChanPath.stripeWord (p : ChanPath) (g : SgRec) : ChanPath × List DByte :=
  g.members.zipIdx.foldl (fun (a : ChanPath × List DByte) m =>
    let (p, l) := a.1.fragment g m.2 (16 * m.1.weight)
    (p, a.2 ++ l)) (p, [])

/-- Data that the striper holds and no word has taken. -/
def ChanPath.striped (p : ChanPath) : Nat := p.srv.length + sum (p.queues.map (·.length))

/-! ### Putting the ODUflex together (R187) -/

/-- Units of a striping cycle that go to a member. -/
def SgRec.unitsOf (g : SgRec) (m : Nat) : Nat := (g.seq.filter (· == m)).length

/-- Data-stream bytes of a fragment stream before index `x`. -/
def dataBefore (x : Nat) : Nat := x - headsBefore x

/-- The first striping cycle that every member holds from its beginning; `first` has each member's first data-stream byte. -/
def SgRec.firstCycle (g : SgRec) (first : List Nat) : Nat :=
  (g.members.zipIdx.map fun m =>
    let c := max 1 (g.unitsOf m.2) * unitBytes
    (first.getD m.2 0 + c - 1) / c).foldl max 0

/-- Stripe units taken by SEQ from the members' data, in order; the first number bounds them. -/
def ChanPath.collect (g : SgRec) : Nat → ChanPath → ChanPath × List DByte
  | 0, p => (p, [])
  | fuel + 1, p =>
    let k := g.seq.getD p.rxUnit 0
    let q := p.rxData.getD k []
    if q.length < unitBytes then (p, [])
    else
      let (p, l) := ChanPath.collect g fuel
        { p with rxData := setAt p.rxData k (q.drop unitBytes), rxUnit := (p.rxUnit + 1) % max 1 g.stripeLen }
      (p, q.take unitBytes ++ l)

/-- Frames restored from compacted bytes: FAS before the MFAS byte, seven bytes of 0x00 after it (R178). -/
def restoreFrames : Nat → List DByte → List DByte
  | _, [] => []
  | at_, b :: t =>
    let rest := restoreFrames ((at_ + 1) % compactBytes) t
    if at_ = 0 then tagBytes fasBytes ++ b :: (tagBytes (zeros 7) ++ rest) else b :: rest

/-- The members' data goes on as ODUflex frames; the first time, from the first whole striping cycle on. -/
def ChanPath.destripe (p : ChanPath) (g : SgRec) : ChanPath × List DByte :=
  let first := p.rxPos.zip p.rxData |>.map fun e => dataBefore e.1 - e.2.length
  let c := g.firstCycle first
  let held := (g.members.zipIdx.all fun m =>
    c * g.unitsOf m.2 * unitBytes ≤ first.getD m.2 0 + (p.rxData.getD m.2 []).length)
  if !p.joined && !held then (p, [])
  else
    let p := if p.joined then p
      else { p with
        joined := true, rxUnit := 0, rxAt := c * g.stripeLen * unitBytes % compactBytes
        rxData := p.rxData.zipIdx.map fun q => q.1.drop (c * g.unitsOf q.2 * unitBytes - first.getD q.2 0) }
    let n := sum (p.rxData.map (·.length)) / unitBytes
    let (p, l) := p.collect g n
    ({ p with rxAt := (p.rxAt + l.length) % compactBytes }, restoreFrames p.rxAt l)

/-- Fragment bytes of a member arrive at the engine: the data stream without SFHs, and the SFHs that have come whole, each
with its block number. -/
def ChanPath.takeFragment (p : ChanPath) (m : Nat) (l : List DByte) : ChanPath × List (Nat × List DByte) :=
  let x := p.rxPos.getD m 0
  let data := l.zipIdx.filter fun b => sfhSize ≤ (x + b.2) % sfhBlock
  let all := p.rxFrag.getD m [] ++ (l.zipIdx.filter fun b => (x + b.2) % sfhBlock < sfhSize).map (·.1)
  let n := headsBefore (x + l.length) / sfhSize - headsBefore x / sfhSize
  let heads := (List.range n).map fun i => (headsBefore x / sfhSize + i, (all.drop (sfhSize * i)).take sfhSize)
  ({ p with rxPos := setAt p.rxPos m (x + l.length), rxFrag := setAt p.rxFrag m (all.drop (sfhSize * n))
            rxData := setAt p.rxData m (p.rxData.getD m [] ++ data.map (·.1)) },
   heads)

/-- What an SFH says, read at its predicted position (R180, R187): its own group, member and generation are `ok`. -/
def readSfh (sg member gen : Nat) (l : List DByte) : Sfh :=
  let h := bytesOf l
  let b1 := (byteAt h 1).toNat
  let sound := h.length == 8 && !l.any badByte && crc8 (h.take 7) == (byteAt h 7).toNat &&
    (byteAt h 0).toNat == sg * 8 + member
  { present := true, ok := sound && b1 / 16 == gen, seq := beNat (sliceAt h 2 4)
    start := if sound && bit b1 0 && b1 / 16 != gen then some (b1 / 16) else none }

end Sys2Proof.Machine
end

