-- ==== Sys2Proof/Machine/Engine.lean ====
section
/-! DEFINITION. The data path of a channel engine in one Beat: server demapping, the flows, client stages in both directions,
the server stage, and the words that leave as cells (R141 to R153, R158, R159, R163, R167, R175, R178 to R182, R187). -/

namespace Sys2Proof.Machine

open Sys2Proof

/-! ### Slots of a channel (R152, R181) -/

/-- ORD of a line slot in an image. -/
def Image.ordAt (i : Image) (gs dir : Nat) : Nat :=
  match i.lcalOf (gs / 320) dir 0 with | some r => ordOf (r.entries.getD (gs % 320) 0) | none => 0

/-- Member of a channel's Spread group to which a line slot belongs; 0 without a group. -/
def Image.memberAt (i : Image) (ch gs : Nat) : Nat :=
  match i.sgOf ch with | some g => (g.members.findIdx? fun m => m.port == gs / 320).getD 0 | none => 0

/-- XCAL entries of a channel's TX slots, by member, then by ORD; the working entry stands for both of a bridge. -/
def Image.txSlots (i : Image) (ch : Nat) : List XcalEnt :=
  sortBy (fun e => i.memberAt ch e.gs * 512 + i.ordAt e.gs 0) (i.xcal.filter fun e => e.ch == ch && e.dir == 0 && e.role != 3)

/-- RX slots of a channel, as (line slot, member), in the same order; each port's in the bank in use there. The working slot
stands for both of a selector. -/
def Dev.rxSlots (d : Dev) (ch : Nat) : List (Nat × Nat) :=
  let l := (List.range 8).flatMap fun p => match d.rxImage p with
    | some i => (i.xcal.filter fun e => e.ch == ch && e.dir == 1 && e.role != 3 && e.gs / 320 == p).map fun e =>
        (e.gs, i.memberAt ch e.gs, i.ordAt e.gs 1)
    | none => []
  (sortBy (fun e => e.2.1 * 512 + e.2.2) l).map fun e => (e.1, e.2.1)

/-- The engine is powered, on a slice that works, and its channel runs (R28, R29). -/
def Dev.engineOn (d : Dev) (ch : Nat) : Bool := (d.chan ch).run && d.enginePowered ch

/-! ### Words from the line (R152, R155, R167, R175) -/

/-- A cell, not a control message. -/
def LinkItem.isCell : LinkItem → Bool
  | .cell _ => true
  | .jc _ _ => false

/-- Bytes of a cell; those of a VOID cell read as 0x00. -/
def XCell.data (c : XCell) : List DByte :=
  if c.void then tagBytes (zeros 16) else (padTo 16 c.bytes).map fun b => tagByte b c.poison

/-- Control messages at the head of the slots' queues are taken; that of the first slot is the engine's (R155). -/
def ChanPath.takeMessages (p : ChanPath) (slots : List Nat) : ChanPath :=
  slots.foldl (fun p g =>
    match Tab.get [] p.rxQ g with
    | .jc v ok :: t =>
      { p with rxQ := Tab.set p.rxQ g t, jc := if slots.head? == some g then Tab.set p.jc 3 (v, ok) else p.jc }
    | _ => p) p

/-- One word off the slots' queues. Slots whose cell does not begin a period lose it while others wait to begin one. -/
def ChanPath.takeWord (p : ChanPath) (slots : List Nat) : ChanPath × Option (List XCell) :=
  let heads := slots.map fun g => match Tab.get [] p.rxQ g with | .cell c :: _ => some c | _ => none
  if slots.isEmpty || heads.any (·.isNone) then (p, none)
  else
    let cs := heads.filterMap id
    let late := cs.any (·.pstart) && !cs.all (·.pstart)
    let q := (slots.zip cs).foldl (fun t e => if late && e.2.pstart then t else Tab.modify [] t e.1 (·.drop 1)) p.rxQ
    ({ p with rxQ := q }, if late then none else some cs)

/-- Words that stand ready. -/
def ChanPath.wordsReady (p : ChanPath) (slots : List Nat) : Nat :=
  let n := fun (g : Nat) => ((Tab.get [] p.rxQ g).filter LinkItem.isCell).length
  match slots with | [] => 0 | g :: t => t.foldl (fun m g => min m (n g)) (n g)

/-- Poisoned words among cells are counted (R167). -/
def Dev.countPoison (d : Dev) (ch : Nat) (cs : List XCell) : Dev := d.poisonedWords ch 1 (cs.filter (·.poison)).length

/-- Server demapping of a word: data where the period's count places it; nothing before a first count (R153, R155). -/
def Dev.serverWord (d : Dev) (x : Desc) (cs : List XCell) : Dev × List DByte :=
  let p := d.cpath x.ch
  let start := cs.any (·.pstart)
  let j := if start then 0 else p.rxWord
  let cm := if start then (d.chan x.ch).rcvServer else p.rxCm
  let d := (d.setCpath x.ch { p with rxWord := j + 1, rxCm := cm }).countPoison x.ch cs
  match cm with
  | some v => if x.serverTab.data v j then (d, cs.flatMap XCell.data) else (d, [])
  | none => (d, [])

/-- A data word of a Spread group after release: SFHs checked, START blocks of a new GEN, the ODUflex put together
(R187, R190). -/
def Dev.spreadWord (d : Dev) (x : Desc) (g : SgRec) (slots : List (Nat × Nat)) (cs : List XCell) : Dev × List DByte :=
  if (d.group g.sg).mode != .up || cs.any (·.void) then (d, [])
  else
    let gen := (d.group g.sg).rxGen
    let d := d.countPoison x.ch cs
    let pieces := (List.range g.members.length).map fun m =>
      ((slots.zip cs).filter fun e => e.1.2 == m).flatMap fun e => e.2.data
    match newGen g.members.length (pieces.zipIdx.map fun p => readSfh g.sg p.2 gen (p.1.take 8)) with
    | some n => (d.takeGen g.sg n, [])
    | none =>
      let (d, bad) := pieces.zipIdx.foldl (fun (a : Dev × Option Nat) p =>
        let (q, heads) := (a.1.cpath x.ch).takeFragment p.2 p.1
        heads.foldl (fun (a : Dev × Option Nat) h =>
          let (d, third) := a.1.checkSfh g.sg p.2 (readSfh g.sg p.2 gen h.2)
          (d, if third && a.2.isNone then some p.2 else a.2)) (a.1.setCpath x.ch q, a.2)) (d, none)
      match bad with
      | some m => (d.realign g.sg m 8, [])
      | none =>
        let (p, l) := (d.cpath x.ch).destripe g
        (d.setCpath x.ch p, l)

/-- Up to `n` words are taken and demapped. -/
def Dev.rxWords (x : Desc) (slots : List (Nat × Nat)) : Nat → Dev → Dev × List DByte
  | 0, d => (d, [])
  | n + 1, d =>
    let gs := slots.map (·.1)
    let (p, w) := ((d.cpath x.ch).takeMessages gs).takeWord gs
    let d := d.setCpath x.ch p
    let (d, l) := match w with
      | none => (d, [])
      | some cs =>
        match d.sched.active.bind fun i => i.sgOf x.ch with
        | some a => d.spreadWord x ((d.sgRec a.sg).getD a) slots cs
        | none => d.serverWord x cs
    let (d, r) := Dev.rxWords x slots n d
    (d, l ++ r)

/-! ### Frames originated here (R122, R124, R131, R148, R149) -/

/-- A byte of row 1, columns 1 to 14, of an originated frame; 0x00 elsewhere. -/
def ownByte (mfas pos : Nat) : DByte :=
  if pos < 6 then tagByte (byteAt fasBytes pos) else if pos = 6 then tagByte (BitVec.ofNat 8 mfas) else tagByte 0

/-- MFAS of the frame in which the next byte of an originated flow stands. -/
def OduFlow.nextMfas (f : OduFlow) : Nat := if f.pos = 0 then (f.mfas + 1) % 256 else f.mfas

/-- `n` bytes of frames with nothing in their payload, for a maintenance signal to fill (R123). -/
def OduFlow.blank (f : OduFlow) (n : Nat) : List DByte :=
  (List.range n).map fun i => ownByte ((f.nextMfas + (f.pos + i) / frameBytes) % 256) ((f.pos + i) % frameBytes)

/-- CSF asked for by a channel's client layer (R131, R214). -/
def Dev.csfAsked (d : Dev) (x : Desc) : Bool := bit (d.act 3 x.cp) 10

/-- PSI byte of a frame of a KIND 0 channel: the payload type, and CSF (R131). -/
def Dev.psiByte (d : Dev) (x : Desc) (mfas : Nat) : Byte :=
  if mfas = 0 then BitVec.ofNat 8 (d.payloadType (objChannel x.ch))
  else if mfas = 2 && d.csfAsked x then 0x80 else 0

/-- OPU overhead, row by row, of a frame that a KIND 0 channel begins (R124, R131, R149, R160). -/
def Dev.opuBytes (d : Dev) (x : Desc) (mfas : Nat) : List Byte :=
  let t := (d.chan x.ch).txClient
  let p := d.cpath x.ch
  let six := match x.mapping with
    | 0 => padTo 6 (Config.jcBytes t.nextCm t.sigma)
    | 3 => boffBytes ((257 - p.bitsOut % 257) % 257)
    | _ => zeros 6
  six ++ [d.psiByte x mfas, 0]

/-- Payload of a run of a frame that a KIND 0 channel originates (R141, R148, R152, R153, R159): GMP words by CLIENT_TAB, coded
blocks, or the bytes of a BMP client. -/
def Dev.clientPayload (d : Dev) (x : Desc) (pos n : Nat) : Dev × List DByte :=
  let p := d.cpath x.ch
  let c := pos % rowBytes
  let m := clientColumns x.oduType (c + n) - clientColumns x.oduType c
  match x.mapping, x.clientTab with
  | 0, some t =>
    let size := x.gmpClient.2
    let data := t.data p.txCm
    let q := clientIndex x.oduType pos
    let need := dataIn data size m q
    let (d, held, got) := d.stageDraw x.ch 1 need need
    let p := d.cpath x.ch
    let d := d.setCpath x.ch { p with txBytes := p.txBytes.drop got }
    (d, layColumns x.oduType n c (layWords data size m q (tagBytes (zeros held) ++ p.txBytes.take got)))
  | 1, _ | 3, _ =>
    (d.setCpath x.ch { p with bits := p.bits.drop (8 * n), bitsOut := p.bitsOut + 8 * n }, packBytes n (p.bits.take (8 * n)))
  | _, _ =>
    (d.setCpath x.ch { p with txBytes := p.txBytes.drop m }, layColumns x.oduType n c (takeFill m p.txBytes))

/-- `n` bytes of the ODU that a KIND 0 channel originates, from frame byte `pos` on; the first number bounds the runs. -/
def Dev.originate (x : Desc) : Nat → Nat → Nat → Nat → Dev → Dev × List DByte
  | 0, _, _, _, d => (d, [])
  | fuel + 1, n, pos, mfas, d =>
    if n = 0 then (d, [])
    else
      let d := if pos = 0 then
          d.setCpath x.ch { d.cpath x.ch with opu := d.opuBytes x mfas, txCm := (d.chan x.ch).txClient.nowCm }
        else d
      let k := min n (runLen pos)
      let c := pos % rowBytes
      let (d, l) :=
        if c < 14 then (d, (List.range k).map fun i => ownByte mfas (pos + i))
        else if c < 16 then (d, tagBytes (((d.cpath x.ch).opu.drop (pos / rowBytes * 2 + (c - 14))).take k))
        else d.clientPayload x pos k
      let next := (pos + k) % frameBytes
      let (d, r) := Dev.originate x fuel (n - k) next (if next = 0 then (mfas + 1) % 256 else mfas) d
      (d, l ++ r)

/-! ### The client's input (R146, R158, R163) -/

/-- Rate of the 66b block stream of an Ethernet client, in blocks per Beat. -/
def Desc.blockRate (x : Desc) : Rate :=
  match x.clientType with
  | 0x01 => perBeat 122_368 (10_312_500, 66)
  | 0x03 => perBeat 122_368 (41_250_000, 66)
  | 0x04 => perBeat 122_368 (103_125_000, 66)
  | _ => x.clientBlocks

/-- 66b blocks as the bytes of their stream; a 40GBASE-R client's as 1,027-bit blocks. What does not fill a byte, or a block,
waits. -/
def ChanPath.blockBytes (p : ChanPath) (type : Nat) (l : List Block66) : ChanPath × List DByte :=
  let q := p.quad ++ l
  let n := if type = 0x03 then q.length / 16 else 0
  let bits := p.bits ++
    (if type = 0x03 then
      (List.range n).flatMap fun i =>
        let b := (q.drop (16 * i)).take 16
        (Config.bits1027 b).map fun v => (v, b.any (·.poison))
    else q.flatMap Block66.bits)
  ({ p with quad := if type = 0x03 then q.drop (16 * n) else [], bits := bits.drop (bits.length / 8 * 8) },
   packBytes (bits.length / 8) bits)

/-- What a KIND 0 client brings in the Beat: what its port received, or, while its input has failed, the replacement signal at
the client's nominal rate (R158). -/
def Dev.clientInput (d : Dev) (x : Desc) (r : ClientRx) : Dev × List Block66 × List DByte :=
  let failed := d.inputFailed x.cp
  let b := d.fc - (d.chan x.ch).startFc
  let p := d.cpath x.ch
  if ethernet x.clientType then
    let rate := x.blockRate
    let blocks := if failed then List.replicate (perBeatAt rate.1 rate.2 b) localFault else r.blocks
    if x.mapping = 1 || x.mapping = 3 then (d, blocks, [])
    else
      let (p, l) := p.blockBytes x.clientType blocks
      (d.setCpath x.ch p, [], l)
  else if failed then
    let rate := perBeat 15_296 (9_953_280, 1)
    let n := perBeatAt rate.1 rate.2 b
    (d.setCpath x.ch { p with fed := p.fed + n }, [], replacementBytes x.clientType p.fed n)
  else (d, [], tagBytes r.bytes)

/-- Units of the client reach its stage FIFO. -/
def Dev.clientArrive (d : Dev) (x : Desc) (blocks : List Block66) (bytes : List DByte) : Dev :=
  match x.mapping with
  | 0 =>
    let (d, k) := d.stageArrive x.ch 1 bytes.length
    let p := d.cpath x.ch
    d.setCpath x.ch { p with txBytes := p.txBytes ++ bytes.take k }
  | 2 => let p := d.cpath x.ch; d.setCpath x.ch { p with txBytes := p.txBytes ++ bytes }
  | _ =>
    let (d, k) := d.stageArrive x.ch 1 blocks.length
    let p := d.cpath x.ch
    d.setCpath x.ch { p with txBlocks := p.txBlocks ++ blocks.take k }

/-- Blocks that an idle-adjustment stage takes in TS-cell period `i` of the Beat. -/
def Dev.idleTake (d : Dev) (t : Tracker) (i : Nat) : Nat := if t.first ≤ d.fc then inPeriod (t.idleDraw (d.fc - t.origin)) i else 0

/-- Blocks drawn from a list beside a stage FIFO: withheld ones are idle, a shortfall is error blocks (R159). -/
def drawnBlocks (held got n : Nat) (l : List Block66) : List Block66 :=
  List.replicate held idleBlock ++ l.take got ++ List.replicate (n - held - got) errorBlock

/-- The TX idle adjustment of a TS-cell period, and the coding of its blocks (R148, R163). -/
def Dev.idleIn (d : Dev) (x : Desc) (i : Nat) : Dev :=
  let n := d.idleTake (d.chan x.ch).txClient i
  let (d, held, got) := d.stageDraw x.ch 1 n n
  let p := d.cpath x.ch
  let (d, l, last) := d.idleAdapt x.ch 1 p.txLast (drawnBlocks held got n p.txBlocks)
  let q := p.quad ++ l
  let p := { p with txBlocks := p.txBlocks.drop got, txLast := last }
  d.setCpath x.ch
    (if x.mapping = 3 then
      { p with quad := q.drop (q.length / 4 * 4)
               bits := p.bits ++ (List.range (q.length / 4)).flatMap fun j => transcode ((q.drop (4 * j)).take 4) }
    else { p with bits := p.bits ++ l.flatMap Block66.bits })

/-! ### Client-side OTU of KIND 1 (R141, R147, R153) -/

/-- Words of a client-side GMP period demultiplexed, `j` the first one's index. -/
def Dev.demuxWords (x : Desc) (t : Tracker) : Nat → Nat → List Byte → Dev → Dev × List DByte
  | 0, _, _, d => (d, [])
  | n + 1, j, l, d =>
    let d := if j = 0 then d.setCpath x.ch { d.cpath x.ch with demuxCm := (d.chan x.ch).rcvDemux } else d
    let b := match (d.cpath x.ch).demuxCm with
      | some cm => if gmpData t.p cm j then tagBytes (l.take t.word) else []
      | none => []
    let (d, r) := Dev.demuxWords x t n ((j + 1) % t.p) (l.drop t.word) d
    (d, b ++ r)

/-- The ODU of a KIND 1 channel out of what its client port received: nothing while the number of slots is wrong. -/
def Dev.demux (d : Dev) (x : Desc) (r : ClientRx) : Dev × List DByte :=
  match r.odus.find? fun w => w.tpn == x.loTpn with
  | none => (d, [])
  | some w =>
    let bad := !x.wholeOdu4 && w.slots != clientSlots x
    let d := d.setChan x.ch { d.chan x.ch with msim := bad }
    if bad then (d, [])
    else if x.wholeOdu4 then (d, tagBytes w.bytes)
    else
      let t := otuTracker x
      let p := d.cpath x.ch
      let d := match w.jc with | some m => d.setCpath x.ch { p with jc := Tab.set p.jc 5 m } | none => d
      Dev.demuxWords x t (w.bytes.length / max 1 t.word) w.first w.bytes d

/-- Words of the client-side multiplexing that have begun after `e` TS-cell periods from its first GMP period on. -/
def otuWordsBy (t : Tracker) (e : Nat) : Nat := (e * t.p * t.pden + 48 * t.period - 1) / (48 * t.period)

/-- A word of the client-side multiplexing. -/
def Dev.muxWord (x : Desc) (a : Dev × List DByte) (w : Nat) : Dev × List DByte :=
  let d := a.1
  let t := (d.chan x.ch).rxDecided
  let j := w % t.p
  let d := if j = 0 then d.setCpath x.ch { d.cpath x.ch with muxCm := t.nowCm } else d
  if gmpData t.p (d.cpath x.ch).muxCm j then
    let (d, held, got) := d.stageDraw x.ch 2 t.word t.word
    let p := d.cpath x.ch
    (d.setCpath x.ch { p with rxBytes := p.rxBytes.drop got },
     a.2 ++ tagBytes (zeros held) ++ p.rxBytes.take got ++ tagBytes (zeros (t.word - held - got)))
  else (d, a.2 ++ tagBytes (zeros t.word))

/-! ### Toward the client (R150, R159, R163, R167) -/

/-- A client port's output of the Beat grows. -/
def Dev.toClient (d : Dev) (k : Nat) (f : ClientTx → ClientTx) : Dev :=
  { d with path := { d.path with clients := Tab.modify {} d.path.clients k f } }

/-- A channel's bytes in its client-side slots, in place for the port; `first` is the index of their first word. -/
def ClientTx.addOdu (c : ClientTx) (ch first : Nat) (l : List DByte) : ClientTx :=
  { c with odus := Tab.modify (0, []) c.odus ch fun e => (if e.2.isEmpty then first else e.1, e.2 ++ bytesOf l) }

/-- 66b blocks cut out of a bit stream where their headers stand; the first number bounds them (802.3; PRESUMED, log 80). -/
def syncBlocks : Nat → List (Bool × Bool) → List Block66 × List (Bool × Bool)
  | 0, l => ([], l)
  | n + 1, l =>
    if l.length < 66 then ([], l)
    else if (l.getD 0 (false, false)).1 == (l.getD 1 (false, false)).1 then syncBlocks n (l.drop 1)
    else let (b, r) := syncBlocks n (l.drop 66); (blockOf (l.take 66) :: b, r)

/-- The blocks that a channel's coded bits hold whole. -/
def ChanPath.cutBlocks (p : ChanPath) (x : Desc) : ChanPath × List Block66 :=
  if x.mapping = 3 then
    let n := p.rxBits.length / 257
    ({ p with rxBits := p.rxBits.drop (257 * n) }, (List.range n).flatMap fun i => expand ((p.rxBits.drop (257 * i)).take 257))
  else if x.clientType = 0x03 then
    let n := p.rxBits.length / 1_027
    ({ p with rxBits := p.rxBits.drop (1_027 * n) },
     (List.range n).flatMap fun i =>
       let b := (p.rxBits.drop (1_027 * i)).take 1_027
       (Config.blocks1027 (b.map (·.1))).map fun y => { y with poison := b.any (·.2) })
  else let (l, r) := syncBlocks p.rxBits.length p.rxBits; ({ p with rxBits := r }, l)

/-- A KIND 0 channel's client stage hands on what has come: GMP and BMP clients as received, MAPPING 1 and 3 through the idle
adjustment; without block lock, local fault (R150, R164). -/
def Dev.towardClient (d : Dev) (x : Desc) (i : Nat) : Dev :=
  let p := d.cpath x.ch
  if x.mapping = 1 || x.mapping = 3 then
    let (p, l) := p.cutBlocks x
    let rate := x.payloadBlocks
    let l := if x.mapping = 3 && !(d.chan x.ch).blockLock then
        List.replicate (inPeriod (perBeatAt rate.1 rate.2 (d.fc - (d.chan x.ch).rxDecided.origin)) i) localFault
      else l
    let (d, k) := (d.setCpath x.ch p).stageArrive x.ch 2 l.length
    let n := d.idleTake (d.chan x.ch).rxDecided i
    let (d, held, got) := d.stageDraw x.ch 2 n n
    let p := d.cpath x.ch
    let blocks := p.rxBlocks ++ l.take k
    let (d, out, last) := d.idleAdapt x.ch 2 p.rxLast (drawnBlocks held got n blocks)
    let d := d.setCpath x.ch { d.cpath x.ch with rxBlocks := blocks.drop got, rxLast := last }
    d.toClient x.cp fun c => { c with blocks := c.blocks ++ out.map Block66.clean }
  else if ethernet x.clientType then
    let (p, l) := { p with rxBits := p.rxBits ++ bitsOfBytes p.rxBytes, rxBytes := [] : ChanPath }.cutBlocks x
    (d.setCpath x.ch p).toClient x.cp fun c => { c with blocks := c.blocks ++ l.map Block66.clean }
  else (d.setCpath x.ch { p with rxBytes := [] }).toClient x.cp fun c => { c with bytes := c.bytes ++ bytesOf p.rxBytes }

/-- A KIND 1 channel's ODU goes into its client-side slots. -/
def Dev.towardOtu (d : Dev) (x : Desc) (i : Nat) (l : List DByte) : Dev :=
  if x.wholeOdu4 then d.toClient x.cp fun c => c.addOdu x.ch 0 l
  else
    let (d, k) := d.stageArrive x.ch 2 l.length
    let p := d.cpath x.ch
    let d := d.setCpath x.ch { p with rxBytes := p.rxBytes ++ l.take k }
    let t := (d.chan x.ch).rxDecided
    if d.fc < t.first then d
    else
      let e := (d.fc - t.first) * 48 + i
      let a := otuWordsBy t e
      let (d, out) := ((List.range (otuWordsBy t (e + 1) - a)).map (a + ·)).foldl (Dev.muxWord x) (d, [])
      d.toClient x.cp fun c => c.addOdu x.ch (a % t.p) out

/-! ### The server stage (R152, R153, R158, R159, R181) -/

/-- Bytes of the flow reach the server FIFO. -/
def Dev.serverArrive (d : Dev) (x : Desc) (g : Option SgRec) (runs : List Run) : Dev :=
  let (p, l) := match g with | some _ => (d.cpath x.ch).compact runs | none => (d.cpath x.ch, runBytes runs)
  let (d, k) := (d.setCpath x.ch p).stageArrive x.ch 0 l.length
  let p := d.cpath x.ch
  d.setCpath x.ch { p with srv := p.srv ++ l.take k }

/-- SFH bytes join the units of a Spread group's server stage as the word that carries them is drawn (R181; DESIGN CHOICE, log 81). -/
def Tracker.insert (t : Tracker) (n : Nat) : Tracker := { t with fill := t.fill + n, mfIn := t.mfIn + n }

/-- The bytes of a data word of a Spread group. A FIFO that still holds the content it started with sends 0x00 and leaves the
fragment streams as they are (R158; DESIGN CHOICE, log 81). -/
def Dev.spreadData (d : Dev) (x : Desc) (g : SgRec) (size : Nat) : Dev × List DByte :=
  let t := (d.chan x.ch).txServer
  let p := d.cpath x.ch
  if size ≤ t.fill - p.striped && !t.refilling then
    let (d, _, _) := d.stageDraw x.ch 0 size size
    (d, tagBytes (zeros size))
  else
    let d := d.setChan x.ch ((d.chan x.ch).setStage 0 (t.insert (p.wordHeads g)))
    let (d, _, got) := d.stageDraw x.ch 0 size size
    let p := if got = size then p else { p with srv := [], queues := p.queues.map fun _ => [] }
    let (p, l) := p.stripeWord g
    (d.setCpath x.ch p, l)

/-- The bytes of word `j` of the server stage. -/
def Dev.serverData (d : Dev) (x : Desc) (g : Option SgRec) (j : Nat) : Dev × List DByte :=
  let size := 16 * x.tsCount
  let t := (d.chan x.ch).txServer
  if d.fc < t.first || !x.serverTab.data t.nowCm j then (d, tagBytes (zeros size))
  else
    match g with
    | some g => d.spreadData x g size
    | none =>
      let (d, held, got) := d.stageDraw x.ch 0 size size
      let p := d.cpath x.ch
      (d.setCpath x.ch { p with srv := p.srv.drop got },
       tagBytes (zeros held) ++ p.srv.take got ++ tagBytes (zeros (size - held - got)))

/-- A word leaves as one cell for each of the channel's slots (R152, R175). -/
def Dev.sendWord (x : Desc) (g : Option SgRec) (slots : List XcalEnt) (d : Dev) (j : Nat) : Dev :=
  let (d, l) := d.serverData x g j
  let p := d.cpath x.ch
  d.setCpath x.ch { p with txQ := slots.zipIdx.foldl (fun t e =>
    let b := (l.drop (16 * e.2)).take 16
    Tab.modify [] t e.1.gs (· ++ [.cell { bytes := bytesOf b, poison := b.any badByte, pstart := j == 0 }])) p.txQ }

/-- Words of the period begun before the Beat that carries OMFI `k`. -/
def wordsBefore (k : Nat) : Nat := if k = 0 then 0 else wordsBy (k - 1) 47

/-- Words that begin in TS-cell period `i` of the Beat. -/
def wordsIn (k i : Nat) : List Nat :=
  let a := if i = 0 then wordsBefore k else wordsBy k (i - 1)
  (List.range (wordsBy k i - a)).map (a + ·)

/-! ### Markers (R182) -/

/-- Marker position of each member as the Beat-0 frame begins: the first fragment byte that the frame carries, where a slot
still holds its cell of the last word begun, that cell's. -/
def Dev.markers (d : Dev) (x : Desc) (i : Image) (g : SgRec) : List Nat :=
  let p := d.cpath x.ch
  let j := wordsBefore (d.fc % 20)
  let left := j != 0 && x.serverTab.data (d.chan x.ch).txServer.nowCm (j - 1) && p.frag.any (· != 0)
  g.members.zipIdx.map fun m =>
    let mine := (i.txSlots x.ch).filter fun e => i.memberAt x.ch e.gs == m.2
    let n := p.frag.getD m.2 0
    match (if left then mine.findIdx? fun e => !(Tab.get [] p.txQ e.gs).isEmpty else none) with
    | some r => n - 16 * m.1.weight + 16 * r
    | none => n

/-! ### One Beat of an engine -/

/-- What an engine works on in a Beat: its client's units, and how many words have come. -/
structure EngineInput where
  blocks : List Block66 := []
  bytes : List DByte := []
  words : Nat := 0
  /-- Bytes of frames that a maintenance signal fills in the RX and in the TX flow, for want of input. -/
  blankRx : Nat := 0
  blankTx : Nat := 0

/-- The part of a list that falls into TS-cell period `i`. -/
def shareOf {α : Type} (l : List α) (i : Nat) : List α := (l.drop (l.length * i / tsPeriods)).take (inPeriod l.length i)

/-- The receive side in TS-cell period `i`: the ODU's bytes, which a KIND 2 channel hands to its TX side. -/
def Dev.rxPeriod (d : Dev) (x : Desc) (slots : List (Nat × Nat)) (e : EngineInput) (i : Nat) : Dev × List DByte :=
  let (d, l) := Dev.rxWords x slots (inPeriod e.words i) d
  let blank := inPeriod e.blankRx i
  let own := l.isEmpty && blank != 0
  let l := if own then (d.cpath x.ch).rx.blank blank else l
  let (d, runs) := d.passFlow x.ch x.kind 1 own l.length l
  match x.kind with
  | 0 => ((runs.foldl (fun d r => d.demapRun x r) d).towardClient x i, [])
  | 1 => (d.towardOtu x i (runBytes runs), [])
  | _ => (d, runBytes runs)

/-- The transmit side in TS-cell period `i`; `l` is what a KIND 2 channel's receive side hands over. -/
def Dev.txPeriod (d : Dev) (x : Desc) (img : Image) (e : EngineInput) (l : List DByte) (i : Nat) : Dev :=
  let g := img.sgOf x.ch
  let (d, l, own) :=
    if x.kind = 0 then
      let d := d.clientArrive x (shareOf e.blocks i) (shareOf e.bytes i)
      let d := if x.mapping = 1 || x.mapping = 3 then d.idleIn x i else d
      let rate := perBeat 15_296 x.rate
      let n := inPeriod (perBeatAt rate.1 rate.2 (d.fc - (d.chan x.ch).startFc)) i
      let f := (d.cpath x.ch).tx
      let (d, l) := Dev.originate x (2 * n + 2) n f.pos f.nextMfas d
      (d, l, true)
    else
      let l := if x.kind = 1 then shareOf e.bytes i else l
      let blank := inPeriod e.blankTx i
      if l.isEmpty && blank != 0 then (d, (d.cpath x.ch).tx.blank blank, true) else (d, l, false)
  let (d, runs) := d.passFlow x.ch x.kind 0 own l.length l
  (wordsIn (d.fc % 20) i).foldl (Dev.sendWord x g (img.txSlots x.ch)) (d.serverArrive x g runs)

/-- Idle-adjustment stages of a channel that work in this Beat. -/
def Dev.idleStages (d : Dev) (ch : Nat) : List Nat :=
  [1, 2].filter fun s => let t := (d.chan ch).stage s; t.run && t.idle && t.first ≤ d.fc

/-- Poisoned 16-byte words that the channel's own FIFOs deliver in the Beat (R167). -/
def Dev.poisonFifo (d : Dev) (ch dir n : Nat) : Dev :=
  let p := d.cpath ch
  let bad := fun (l : List DByte) => (l.take (16 * n)).map (fun b => tagByte (byteOf b) true) ++ l.drop (16 * n)
  (d.setCpath ch (if dir = 0 then { p with srv := bad p.srv } else { p with rxBytes := bad p.rxBytes })).poisonedWords ch dir n

/-- One engine in the Beat that ends. -/
def Dev.engineBeat (d : Dev) (r : Nat → ClientRx) (x : Desc) : Dev :=
  let ch := x.ch
  match d.bank (ch / 64) with
  | none => d
  | some img =>
    if !d.engineOn ch then d
    else
      let y := d.rxDesc ch
      let slots := d.rxSlots ch
      let words := (d.cpath ch).wordsReady (slots.map (·.1))
      let rate := perBeat 15_296 x.rate
      let nominal := perBeatAt rate.1 rate.2 (d.fc - (d.chan ch).startFc)
      let c := d.chan ch
      let (d, e) :=
        if x.kind = 0 then let (d, b, l) := d.clientInput x (r x.cp); (d, ({ blocks := b, bytes := l } : EngineInput))
        else if x.kind = 1 then let (d, l) := d.demux x (r x.cp); (d, { bytes := l })
        else (d, {})
      let e := { e with
        words := words, blankRx := if words = 0 && c.signal 1 != 0 then nominal else 0
        blankTx := if x.kind = 1 && e.bytes.isEmpty && c.signal 0 != 0 then nominal else 0 }
      let d := match img.sgOf ch with
        | some g => if d.beat = 0 then d.setCpath ch { d.cpath ch with marks := d.markers x img g } else d
        | none => d
      let idle := d.idleStages ch
      let d := idle.foldl (fun d s => d.idleOpen ch s) d
      let d := (List.range tsPeriods).foldl (fun d i =>
        let (d, l) := match y with | some y => d.rxPeriod y slots e i | none => (d, [])
        d.txPeriod x img e l i) d
      let d := d.setCpath ch ((d.cpath ch).takeMessages (slots.map (·.1)))
      idle.foldl (fun d s => d.idleClose ch s) d

end Sys2Proof.Machine
end

