-- ==== Sys2Proof/Machine/Monitor.lean ====
section
/-! DEFINITION. Path monitors: a channel's ODU demapped from the slots of a group's path, its frame, the overhead of the level that
the group watches, and the APS/PCC bytes at the group's level (R231, R236). -/

namespace Sys2Proof.Machine

open Sys2Proof

/-! ### OTUC and ODU frames as bytes -/

/-- Overhead bytes of a frame: columns 1 to 14 of rows 2 to 4; columns 15 and 16 of every row; the payload. -/
def frameOh (l : List Byte) : List Byte := [1, 2, 3].flatMap fun r => sliceAt l (r * rowBytes) 14
def frameOpu (l : List Byte) : List Byte := [0, 1, 2, 3].flatMap fun r => sliceAt l (r * rowBytes + 14) 2
def framePayload (l : List Byte) : List Byte := [0, 1, 2, 3].flatMap fun r => sliceAt l (r * rowBytes + 16) 3_808

/-! ### Words (R153, R155) -/

/-- The count of the period that begins next, after messages: one whose CRC fails, or that lies outside the window, is passed
over (R155). -/
def nextCount (x : Desc) (old : Option Nat) (l : List (Nat × Bool)) : Option Nat :=
  l.foldl (fun c m => if m.2 && x.serverTab.cmBase ≤ m.1 && m.1 ≤ x.serverTab.hi then some m.1 else c) old

/-- Up to `n` words are demapped. -/
def PathMon.demap (x : Desc) (slots : List Nat) : Nat → PathMon → PathMon
  | 0, m => m
  | n + 1, m =>
    let (p, w) := (m.words.takeMessages slots).takeWord slots
    PathMon.demap x slots n (match w with
      | none => { m with words := p }
      | some cs =>
        let start := cs.any (·.pstart)
        let j := if start then 0 else p.rxWord
        let cm := if start then nextCount x p.rxCm [Tab.get (0, false) p.jc 3] else p.rxCm
        let data := match cm with | some v => x.serverTab.data v j | none => false
        { m with words := { p with rxWord := j + 1, rxCm := cm }
                 buf := if data then m.buf ++ cs.flatMap XCell.data else m.buf })

/-! ### Frames (R231) -/

/-- One more frame in which a defect's condition held or did not hold. -/
def PathMon.observe (m : PathMon) (i : Nat) (raw : Bool) : PathMon :=
  let r := Tab.get (0, 0) m.runs i
  { m with runs := Tab.set m.runs i (if raw then (r.1 + 1, 0) else (0, r.2 + 1)) }

/-- The level's overhead of a frame: STAT, BIP-8 and TTI (R126, R127, R210). -/
def PathMon.readLevel (m : PathMon) (level : Nat) (oh : List Byte) : PathMon :=
  let at_ := fieldOf level
  let stat := (byteAt oh (at_ + 2)).toNat % 8
  let n := if level != 0 && stat = 2 then 0 else violations m.bip.2 (byteAt oh (at_ + 1)).toNat
  let m := (((m.observe 1 (stat == 7)).observe 2 (stat == 5)).observe 3 (stat == 6)).observe 4 (stat == 0)
  let (part, whole) := joinPart m.ttiPart 64 (m.mfas % 64) (byteAt oh at_)
  let m := { m with ttiPart := part, blocks := m.blocks + 1, errored := m.errored + b2n (n != 0) }
  match whole with
  | none => m
  | some l =>
    let run := if m.ttiLatest = l then m.ttiRun + 1 else 1
    { m with ttiLatest := l, ttiRun := run, tti := if 3 ≤ run then l else m.tti }

/-- A frame has ended: read while in frame. `aps` is the group's APS/PCC level. -/
def PathMon.closeFrame (m : PathMon) (level : Option Nat) (aps : Nat) (l : List Byte) : PathMon :=
  let oh := frameOh l
  let read := match level with | some k => m.readLevel k oh | none => m
  let bytes := sliceAt oh 32 4
  let read := if m.mfas % 8 = aps then
      { read with aps := bytes, apsRun := if read.aps = bytes then read.apsRun + 1 else 1 } else read
  { (if m.lock then read else m) with bip := (bip8 (frameOpu l ++ framePayload l), m.bip.1) }

/-- The FAS of a frame: in frame after 2 correct in a row, out of it after 5 errored; while hunting one errored FAS sends the hunt
on. -/
def PathMon.seeFas (m : PathMon) : PathMon :=
  let ok := bytesOf (m.buf.take 6) == fasBytes
  let good := if ok then m.good + 1 else 0
  let bad := if ok then 0 else m.bad + 1
  let m := { m with good, bad, mfas := if ok then (byteOf (m.buf.getD 6 0)).toNat else (m.mfas + 1) % 256 }
  if !ok && (!m.lock || 5 ≤ bad) then { m with lock := false, framed := false, seen := false, buf := m.buf.drop 1 }
  else { m with seen := true, lock := m.lock || 2 ≤ good }

/-- What a monitor has demapped is framed. -/
def PathMon.frames (level : Option Nat) (aps : Nat) : Nat → PathMon → PathMon
  | 0, m => m
  | n + 1, m =>
    if !m.framed then
      let (_, rest) := huntFas m.buf
      if rest.length < 7 then { m with buf := rest }
      else PathMon.frames level aps n { m with buf := rest, framed := true, seen := false, good := 0 }
    else if !m.seen then (if m.buf.length < 7 then m else PathMon.frames level aps n m.seeFas)
    else if m.buf.length < frameBytes then m
    else
      PathMon.frames level aps n
        { m.closeFrame level aps (bytesOf (m.buf.take frameBytes)) with seen := false, buf := m.buf.drop frameBytes }

/-- Cells of a received frame reach the monitors of the groups with a path on the port: `items` are what each line slot of the
frame brings. -/
def Dev.feedMonitors (d : Dev) (i : Image) (p : Nat) (slotsOf : Nat → List Nat) (items : Nat → List LinkItem) : Dev :=
  (i.pgs.filter fun r => (d.pg r.pg).run && (r.wPort == p || r.pPort == p)).foldl (fun d r =>
    match i.desc r.ch with
    | none => d
    | some x =>
      let k := if r.wPort = p then 0 else 1
      let slots := slotsOf r.ch
      let m := d.monitor r.pg k
      let q := slots.foldl (fun t g => let l := items g; if l.isEmpty then t else Tab.modify [] t g (· ++ l)) m.words.rxQ
      let m := PathMon.demap x slots (sum (q.map fun e => e.2.length)) { m with words := { m.words with rxQ := q } }
      let g := d.pg r.pg
      d.setMonitor r.pg k (PathMon.frames (monLevel r.arch g.tcmLevel) (apsLevel r.arch g.tcmLevel) (m.buf.length + 3) m)) d

end Sys2Proof.Machine
end

