-- ==== Sys2Proof/Machine/Slot.lean ====
section
/-! DEFINITION. Slot accounting of a Beat, its two laws at the end of an MF, and the VOID cells of a die link that is down
(R177, R385 to R388). -/

namespace Sys2Proof.Machine

open Sys2Proof

/-! ### Slots of a calendar (R386) -/

/-- UNASSIGNED slots of a calendar, and slots per channel. -/
def LcalRec.tally (r : LcalRec) : Nat × Tab Nat :=
  r.entries.foldl (fun a e =>
    match e / 2 ^ 30 with
    | 2 => (a.1 + 1, a.2)
    | 3 => (a.1, Tab.modify 0 a.2 (e % 256) (· + 1))
    | _ => a) (0, [])

/-- First cell of a category in a port's block and in a channel's (R385): 0 RETIRED, 1 WASTED, 2 STARVED_FRONT,
3 STARVED_BACK, 4 SHED. -/
def portBlock (p dir k : Nat) : Nat := 0x4000 + 32 * p + 16 * dir + 2 * k
def chanBlock (c dir k : Nat) : Nat := 0x3000 + 16 * c + 8 * dir + 2 * k

/-- A channel's slots on a port belong to a Spread group that is not UP, or to a stream that is filling. -/
def Dev.deskewHolds (d : Dev) (p ch : Nat) : Bool :=
  match d.sched.active with
  | none => false
  | some i =>
    (match i.sgOf ch with | some g => (g.members.any fun m => m.port == p) && (d.group g.sg).mode != .up | none => false) ||
      (match i.pgOf ch with
       | some g => let a := (d.pg g.pg).align
                   g.aligned && a.placed && d.fc < a.filledFc
       | none => false)

/-- A unit that a channel's traffic on a port needs is off or failed: port, engine, client port or the Caldera (R28, R29, R432). -/
def Dev.trafficOff (d : Dev) (p ch : Nat) : Bool :=
  !d.portOn p || !d.enginePowered ch || !d.calderaOn ||
    (match d.engine ch with | some x => x.kind != 2 && !d.clientPowered x.cp x.lanes | none => false)

/-- What the port sends is not its TX cells: FRAMER_FAR, or LANE_FAR on a lane it uses (R447). -/
def Dev.loopsBack (d : Dev) (p : Nat) : Bool :=
  (d.port p).loop == 2 || (List.range (d.lanesInUse p)).any fun k => Tab.get 0 d.svc.laneLoop (64 + 8 * p + k) == 2

/-- Step 2 of R386: STARVED_BACK. -/
def Dev.slotStarved (d : Dev) (p dir ch : Nat) : Bool :=
  let x := d.port p
  d.trafficOff p ch || d.preempted ch dir || (dir == 0 && d.loopsBack p) ||
    (dir == 1 && (!x.mfAligned || x.calMismatch || d.deskewHolds p ch || (d.chan ch).rcvServer.isNone))

/-- A client signal or a squelch replaces a channel's output (R170, R216). -/
def Dev.outputReplaced (d : Dev) (x : Desc) : Bool :=
  x.kind != 2 && ((d.client x.cp).output != 0 || 4 ≤ (d.chan x.ch).maintRx.signal)

/-- The selector does not take the path of a port (R176). -/
def Dev.pathUnused (d : Dev) (p ch : Nat) : Bool :=
  match d.sched.active.bind fun i => i.pgOf ch with
  | some g => if d.selects g.pg then p == g.wPort else p == g.pPort
  | none => false

/-- Step 3 of R386: WASTED. -/
def Dev.slotWasted (d : Dev) (p dir : Nat) (x : Desc) : Bool :=
  d.maintInForce x dir != 0 || d.testSignal x.ch p x.cp (if x.kind = 2 then 0 else x.lanes) (d.lanesInUse p) dir || (dir == 1 && (d.outputReplaced x || d.pathUnused p x.ch))

/-- Step 4 of R386: STARVED_FRONT. -/
def Dev.slotFront (d : Dev) (dir : Nat) (x : Desc) : Bool :=
  let c := d.chan x.ch
  if dir = 0 then
    c.txServer.refilling || c.txClient.refilling || (x.kind != 2 && d.inputFailed x.cp) || (c.run && d.fc < c.txServer.first)
  else c.rxDecided.refilling

/-- Slot-Beats of a channel's `q` slots on a port: (category, number), and the stuff accumulator after (R386, step 5). -/
def Dev.slotShare (d : Dev) (p dir ch q : Nat) : List (Nat × Nat) × Option Nat :=
  match (if dir = 0 then d.engine ch else d.rxDesc ch) with
  | none => ([(3, q)], none)
  | some x =>
    if d.slotStarved p dir ch then ([(3, q)], none)
    else if d.slotWasted p dir x then ([(1, q)], none)
    else if d.slotFront dir x then ([(2, q)], none)
    else
      let c := d.chan ch
      let cm := if dir = 0 then c.txServer.nowCm else c.rcvServer.getD 0
      let acc := Tab.get 0 c.stuff (p * 2 + dir) + q * (952 - cm)
      let w := acc / 952
      ([(1, w), (0, q - w)], some (acc - w * 952))

/-- Add slot-Beats to the blocks; a channel that the active image lacks has no block. -/
def Dev.addSlots (d : Dev) (p dir ch : Nat) (l : List (Nat × Nat)) : Dev :=
  let own := (d.desc ch).isSome
  l.foldl (fun d x =>
    let d := d.tick (portBlock p dir x.1) x.2
    if own then d.tick (chanBlock ch dir x.1) x.2 else d) d

/-- The slots of one channel on a port. -/
def Dev.countChannel (d : Dev) (p dir ch q : Nat) : Dev :=
  let (l, acc) := d.slotShare p dir ch q
  let d := d.addSlots p dir ch l
  match acc with
  | some a => let c := d.chan ch; d.setChan ch { c with stuff := Tab.set c.stuff (p * 2 + dir) a }
  | none => d

/-- M of a port's step 0 in the bank that a direction uses. -/
def Dev.stepZeroM (d : Dev) (p dir : Nat) : Nat :=
  match (if dir = 0 then d.bank (p / 2) else d.rxImage p).bind fun i => i.lcalOf p dir 0 with
  | some r => r.m
  | none => 0

/-- One port and direction in a Beat: every available slot in one category, SHED, and the sums of the MF (R387). -/
def Dev.countPort (d : Dev) (p dir : Nat) : Dev :=
  match d.calendar p dir with
  | none => d
  | some r =>
    let (free, chans) := r.tally
    let d := d.tick (portBlock p dir 1) free
    let d := chans.foldl (fun d e => d.countChannel p dir e.1 e.2) d
    let d := d.tick (portBlock p dir 4) (d.stepZeroM p dir - r.m)
    let k := p * 2 + dir
    let s := Tab.get (0, 0) d.cnt.slotSum k
    { d with cnt := { d.cnt with slotSum := Tab.set d.cnt.slotSum k (s.1 + free + sum (chans.map (·.2)), s.2 + r.m) } }

/-- SLOT_ACCOUNTING_BEAT (R386). -/
def Dev.slotBeat (d : Dev) : Dev :=
  ((List.range 8).filter d.lit).foldl (fun d p => (d.countPort p 0).countPort p 1) d

/-- SLOT_BALANCE_CHECK (R387): `fault` names port, direction and difference that a hardware fault has made. -/
def Dev.slotCheck (d : Dev) (fault : List (Nat × Nat × Nat)) : Dev :=
  let d := d.cnt.slotSum.foldl (fun d e =>
    let p := e.1 / 2
    let dir := e.1 % 2
    let extra := sum ((fault.filter fun f => f.1 == p && f.2.1 == dir).map (·.2.2))
    let diff : Int := (e.2.1 : Int) - e.2.2 + extra
    if diff = 0 then d
    else (d.tick 0x5406 1).raise 0x0C02 0 (leBytes 1 p ++ leBytes 1 dir ++ leBytes 4 (unsigned 4 diff))) d
  { d with cnt := { d.cnt with slotSum := [] } }

/-- Check of the Fumarole credits of the slices (R388). -/
def Dev.creditCheck (d : Dev) (l : List (Nat × Nat)) : Dev :=
  (l.filter fun x => x.1 < 4 && x.2 != 0).foldl (fun d x =>
    (d.tick (0x53C0 + 16 * x.1 + 2) 1).raise 0x0C03 (objDie x.1) (leBytes 1 x.1 ++ leBytes 4 x.2)) d

/-! ### Die links that are down (R177) -/

/-- Slice whose rising link an XCAL entry takes (R64). -/
def XcalEnt.rising (e : XcalEnt) : Nat := if e.dir = 0 then e.ch / 64 else e.gs / 640

/-- The Caldera forwards the entry's cell: plain entries, and for a protected channel the selected path's. -/
def Dev.forwards (d : Dev) (e : XcalEnt) : Bool := e.dir == 0 || e.role < 2 || !d.pathUnused (e.gs / 320) e.ch

/-- The slot of an entry carries a channel in the calendar in force. -/
def Dev.slotOn (d : Dev) (e : XcalEnt) : Bool :=
  match d.calendar (e.gs / 320) e.dir with | some r => r.entries.getD (e.gs % 320) 0 / 2 ^ 30 == 3 | none => false

/-- XCAL entries of the receive direction in force, each port's of the bank in use there (R81). -/
def Dev.rxEntries (d : Dev) : List XcalEnt :=
  (List.range 8).flatMap fun p => match d.rxImage p with
    | some i => i.xcal.filter fun e => e.dir == 1 && e.gs / 320 == p
    | none => []

/-- Slice whose descending link an entry takes (R64). -/
def XcalEnt.falling (e : XcalEnt) : Nat := if e.dir = 0 then e.gs / 640 else e.ch / 64

/-- XCAL entries in force: those of the transmit direction as the hub has them, those of the receive direction port by port. -/
def Dev.entries (d : Dev) : List XcalEnt :=
  (match d.sched.active with | some i => i.xcal.filter (·.dir == 0) | none => []) ++ d.rxEntries

/-- VOID cells that the hub sends for a slice's rising link while it is down: at the rate of each available slot. -/
def Dev.voidCells (d : Dev) (s : Nat) : Nat :=
  if d.dieDown s && d.calderaOn then
    sum ((d.entries.filter fun e => e.rising == s && d.forwards e && d.slotOn e).map fun e =>
      (slotBlocks (d.fc % 20) (e.gs % 320 % 20)).length)
  else 0

/-- Count and report the VOID cells of a Beat. -/
def Dev.voidBeat (d : Dev) : Dev :=
  [0, 1, 2, 3].foldl (fun d s =>
    let n := d.voidCells s
    if n = 0 then d else (d.tick (0x53C0 + 16 * s) n).raise 0x060B (objDie s) (leBytes 1 s ++ leBytes 4 n)) d

end Sys2Proof.Machine
end

