-- ==== Sys2Proof/Machine/Fabric.lean ====
section
/-! DEFINITION. The data path outside the engines in one Beat: OTUC frames received and sent, deskew streams, the Caldera, client
ports, and digests (R98, R101, R152, R174 to R177, R186, R191, R194 to R197, R271, R446). -/

namespace Sys2Proof.Machine

open Sys2Proof

/-! ### OTUC frames (R98, R124) -/

/-- The bytes of a frame with correct FAS. -/
def frameOf (mfas : Nat) (sm oh opu payload : List Byte) : List Byte :=
  fasBytes ++ [BitVec.ofNat 8 mfas] ++ padTo 7 sm ++ sliceAt opu 0 2 ++ payload.take 3_808 ++
    [1, 2, 3].flatMap fun r => sliceAt oh (14 * (r - 1)) 14 ++ sliceAt opu (2 * r) 2 ++ (payload.drop (3_808 * r)).take 3_808

/-- A sent frame as a receiver takes it. -/
def LineTx.frame (x : LineTx) (p inst start : Nat) : OhFrame :=
  { obj := objPort p, flow := 1, inst, mfas := (byteAt x.bytes 6).toNat, sm := sliceAt x.bytes 7 7, oh := frameOh x.bytes
    opu := frameOpu x.bytes, payload := framePayload x.bytes, start }

/-- What an instance of a port handed to FlexO adaptation in the last Beat. -/
def Dev.lineTx (d : Dev) (p inst : Nat) : LineTx := Tab.get {} d.path.lines (p * 16 + inst - 1)
def Dev.setLineTx (d : Dev) (p inst : Nat) (x : LineTx) : Dev :=
  { d with path := { d.path with lines := Tab.set d.path.lines (p * 16 + inst - 1) x } }

/-- Frames that a port receives in the Beat: from the line, or its own of the last Beat under FRAMER_NEAR (R446). -/
def Dev.framesIn (d : Dev) (l : List OhFrame) (p : Nat) : List OhFrame :=
  if !d.portOn p || !(d.port p).groupAligned then []
  else
    let all := if (d.port p).loop = 1 then
        ((List.range (d.portN p)).filter fun i => !(d.lineTx p (i + 1)).bytes.isEmpty).map fun i =>
          (d.lineTx p (i + 1)).frame p (i + 1) ((d.fc - 1) * 15_296)
      else l.filter fun f => f.obj == objPort p && f.flow == 1
    all.filter fun f => 1 ≤ f.inst && f.inst ≤ d.portN p

/-- The AIS pattern of an ODUCn: every overhead byte of rows 2 to 4 but FTFL is 0xFF (G.709; PRESUMED, log 80). -/
def OhFrame.isAis (f : OhFrame) : Bool :=
  (List.range 42).all fun k => k == 13 || byteAt f.oh k == 0xFF

/-- What an instance's framer learns from a frame (R95, R98, R99): an instance in multiframe counts on past an errored MFAS. -/
def OtucPos.see (o : OtucPos) (f : OhFrame) (inMf : Bool) : OtucPos :=
  let want := (o.mfas + 1) % 256
  let b3 := (byteAt f.sm 2).toNat
  let iae := bit b3 2
  let n := if iae then 0 else violations o.bip.2 (byteAt f.sm 1).toNat
  { fasGood := if f.fas then o.fasGood + 1 else 0, fasBad := if f.fas then 0 else o.fasBad + 1
    mfas := if inMf then want else f.mfas
    mfGood := if f.mfas = want then o.mfGood + 1 else 0, mfBad := if f.mfas = want then 0 else o.mfBad + 1
    ais := if f.isAis then o.ais + 1 else 0
    bip := (bip8 (f.opu ++ f.payload), o.bip.1), errors := o.errors + n, iae }

/-- A byte of the SM TTI joins its 64-frame multiframe (R98). -/
def LinePort.takeTti (x : LinePort) (f : OhFrame) : LinePort :=
  let (part, whole) := joinPart x.ttiPart 64 (f.mfas % 64) (byteAt f.sm 0)
  match whole with
  | some l => { x with ttiPart := part, ttiLatest := l, ttiRun := if x.ttiLatest = l then x.ttiRun + 1 else 1 }
  | none => { x with ttiPart := part }

/-- SM of a frame of an instance in frame: errors counted, BEI, and the indications that instance 1 carries (R98, R209, R210). -/
def Dev.readSm (d : Dev) (p : Nat) (f : OhFrame) (near : Nat) : Dev :=
  let b3 := (byteAt f.sm 2).toNat
  let o := objPort p
  let r : PmFrame := { obj := o, layer := layOtu, mfas := f.mfas, inst := f.inst, near, far := beiOf b3 }
  let d := { d.tick (lineCell p + 8 * (f.inst - 1) + 6) near with path := { d.path with pmNow := d.path.pmNow ++ [r] } }
  if f.inst != 1 then d
  else
    let d := ((d.observe o layOtu 5 (bit b3 3)).observe o layOtu 7 (bit b3 2)).observe o layOtu 8 (b3 / 16 == 11)
    if bit (d.port p).inMf 0 then d.setPort p ((d.port p).takeTti f) else d

/-- A frame of an OTUC instance has ended: section, and in a port that is aligned the ODUC (R98, R122). -/
def Dev.seeOtuc (d : Dev) (p : Nat) (f : OhFrame) : Dev :=
  let x := d.port p
  let i := f.inst - 1
  let old := x.otucAt f.inst
  let new := old.see f (bit x.inMf i)
  let d := d.setPort p { x with otuc := Tab.set x.otuc f.inst new }
  let d := if bit x.inFrame i then d.readSm p f (new.errors - old.errors) else d
  if x.mfAligned then (d.gccArrive p (sliceAt f.sm 3 2)).endFrame 3 f old.bip.2 [] [] else d

/-! ### Cells of a received frame (R152, R175) -/

/-- What one slot of a frame brings: its cells with their arrivals, and after them the control message of the slot whose
justification control the frame carries (that of slot t stands in the frame of OMFI t, PRESUMED, log 80). -/
def OhFrame.slotItems (f : OhFrame) (t : Nat) : List (LinkItem × Nat) :=
  let k := (byteAt f.opu 7).toNat % 20
  let cells := (slotBlocks k t).map fun j =>
    let w := 20 * j + t - 952 * k
    (LinkItem.cell { bytes := padTo 16 ((f.payload.drop (16 * w)).take 16), poison := f.poison.contains w, pstart := j == 0 },
     f.start + w / 238 * rowBytes + 16 * (w % 238) + 32)
  if k = t then
    let (v, ok) := Config.jcRead (f.opu.take 6)
    cells ++ [(.jc v ok, f.start + 3 * rowBytes + 16)]
  else cells

/-! ### Deskew streams (R186, R191, R194, R195) -/

/-- A deskew stream of a port's receive side: owner and index, its channel, its line slots in ORD order; a Spread member's
buffer holds data words only, a path's every word. -/
structure Stream where
  owner : Nat
  index : Nat
  desc : Desc
  slots : List Nat
  spread : Bool

/-- RX slots of a channel on a port, in ORD order. -/
def Image.portSlots (i : Image) (ch p : Nat) : List Nat :=
  (sortBy (fun e => i.ordAt e.gs 1) (i.xcal.filter fun e => e.ch == ch && e.dir == 1 && e.gs / 320 == p)).map (·.gs)

/-- Deskew streams of a port in an image. -/
def Image.streams (i : Image) (p : Nat) : List Stream :=
  (i.sgmap.filterMap fun g => match g.members.findIdx? (fun m => m.port == p), i.desc g.ch with
    | some k, some x => some { owner := objSpread g.sg, index := k, desc := x, slots := i.portSlots g.ch p, spread := true }
    | _, _ => none) ++
  (i.pgs.filterMap fun g => match (if g.wPort = p then some 0 else if g.pPort = p then some 1 else none), i.desc g.ch with
    | some k, some x => if g.aligned then
        some { owner := objGroup g.pg, index := k, desc := x, slots := i.portSlots g.ch p, spread := false } else none
    | _, _ => none)

/-- Control messages at the head of what a slot has received, and the cell after them. -/
def headItem : List (LinkItem × Nat) → List (Nat × Bool) × Option (XCell × Nat)
  | [] => ([], none)
  | (.cell c, a) :: _ => ([], some (c, a))
  | (.jc v ok, _) :: t => let (m, c) := headItem t; ((v, ok) :: m, c)

/-- The first cell is taken out; the messages before it stay when `keep`. -/
def dropHead (keep : Bool) : List (LinkItem × Nat) → List (LinkItem × Nat)
  | [] => []
  | (.cell _, _) :: t => t
  | (.jc v ok, a) :: t => if keep then (.jc v ok, a) :: dropHead keep t else dropHead keep t

/-- The signature register over a word (R195); at a PSTART word the period before is complete, if it was whole. -/
def DeskewBuf.sign (b : DeskewBuf) (start : Bool) (cm : Option Nat) (at_ : Nat) (bytes : List Byte) : DeskewBuf :=
  let feed := fun (r : Nat) (l : List Byte) => (crcFeedR 32 0x82F6_3B78#32 (BitVec.ofNat 32 r) l).toNat
  if start then
    { b with
      sig := if b.word = 952 then some ((BitVec.ofNat 32 b.crc ^^^ 0xFFFF_FFFF#32).toNat, b.start) else b.sig
      crc := feed 0xFFFF_FFFF (beBytes 4 (cm.getD 0) ++ bytes), start := at_ }
  else { b with crc := feed b.crc bytes }

/-- One word is put together of what a stream's slots have received; none while a slot has no cell. Where some slots begin a
period and others do not yet, those that do not lose their cell. -/
def DeskewBuf.joinWord (s : Stream) (keep : Bool) (b : DeskewBuf) : Option DeskewBuf :=
  let heads := s.slots.map fun g => (g, headItem (Tab.get [] b.cells g))
  if heads.isEmpty || heads.any fun h => h.2.2.isNone then none
  else
    let cs := heads.filterMap fun h => h.2.2
    let start := cs.any (·.1.pstart)
    let take := fun (b : DeskewBuf) (msgs : Bool) (l : List Nat) =>
      { b with cells := l.foldl (fun t g => Tab.modify [] t g (dropHead msgs)) b.cells }
    if start && !cs.all (·.1.pstart) then
      let late := (heads.zip cs).filterMap fun h => if h.2.1.pstart then none else some h.1.1
      some { take b true late with cellsOut := b.cellsOut + late.length }
    else
      let next := nextCount s.desc b.cmNext ((heads.map fun h => h.2.1).headD [])
      let j := if start then 0 else b.word
      let cm := if start then next else b.cm
      let data : Bool := match cm with | some v => s.desc.serverTab.data v j | none => false
      let hold := keep && (data || !s.spread)
      let b := if s.spread then b else b.sign start cm ((cs.map (·.2)).headD 0) (cs.flatMap fun c => bytesOf c.1.data)
      let b := { b with word := j + 1, cm, cmNext := next, count := b.count + b2n data }
      let w : HeldWord :=
        { num := if data then some (b.count - 1) else none, arrived := (cs.map (·.2)).foldl max 0
          items := (heads.zip cs).map fun h => (h.1.1, h.1.2.1.map (fun m => .jc m.1 m.2) ++ [.cell h.2.1]) }
      some { take b (!hold) s.slots with
        held := if hold then b.held ++ [w] else b.held
        cellsOut := if hold then b.cellsOut else b.cellsOut + s.slots.length }

/-- Up to `n` words are put together. -/
def DeskewBuf.joinWords (s : Stream) (keep : Bool) : Nat → DeskewBuf → DeskewBuf
  | 0, b => b
  | n + 1, b => match b.joinWord s keep with | some c => DeskewBuf.joinWords s keep n c | none => b

/-- A stream with no aligned port: what it was putting together is gone (R183). -/
def DeskewBuf.halt (b : DeskewBuf) : DeskewBuf := { out := b.out, cellsIn := 0, cellsOut := 0 }

/-- A stream holds words: the member or the path is placed, or the path is not delayed. -/
def Dev.holds (d : Dev) (s : Stream) : Bool :=
  if s.spread then (d.member (objIndex s.owner) s.index).tier != 0 else true

/-- Greatest time a member's buffer holds a word while its group is not UP (R185, R191). -/
def Dev.holdLimit (d : Dev) (s : Stream) : Nat :=
  let x := d.member (objIndex s.owner) s.index
  if x.tier = 2 then x.alloc else nearMax + reserve

/-- Words older than the limit leave the front. -/
def DeskewBuf.age (b : DeskewBuf) (before : Nat) : DeskewBuf := b.leave (b.held.takeWhile fun w => w.arrived < before).length false

/-- A stream works through what its slots have received. -/
def Dev.runStream (d : Dev) (s : Stream) : Dev :=
  let b := d.stream s.owner s.index
  let b := b.joinWords s (d.holds s) (sum (b.cells.map fun e => e.2.length))
  d.setStream s.owner s.index
    (if s.spread && (d.group (objIndex s.owner)).mode != .up then b.age (d.endOfBeat - d.holdLimit s) else b)

/-! ### Die links (R174 to R177) -/

/-- Items join a position of a die link in the Beat. -/
def Dev.rise (d : Dev) (slice pos : Nat) (l : List LinkItem) : Dev :=
  { d with path := { d.path with up := Tab.modify [] d.path.up (slice * 1_280 + pos) (· ++ l) } }
def Dev.fall (d : Dev) (slice pos : Nat) (l : List LinkItem) : Dev :=
  { d with path := { d.path with down := Tab.modify [] d.path.down (slice * 1_280 + pos) (· ++ l) } }

/-- Cells of a frame that a port receives go to its deskew streams or to the rising link. At the Beat-0 frame a stream notes how
many data words it has seen (R182). -/
def Dev.feedFrame (d : Dev) (p : Nat) (f : OhFrame) : Dev :=
  match d.rxImage p, d.calendar p 1 with
  | some i, some r =>
    let streams := i.streams p
    let base := p * 320 + (f.inst - 1) * 20
    let d := if f.mfas != 0 then d else streams.foldl (fun d s =>
      let b := d.stream s.owner s.index
      if s.slots.any fun g => base ≤ g && g < base + 20 then d.setStream s.owner s.index { b with mark := b.count } else d) d
    let d := (List.range 20).foldl (fun d t =>
      let g := base + t
      match (if r.entries.getD (g % 320) 0 / 2 ^ 30 = 3 then i.xcal.find? fun e => e.gs == g && e.dir == 1 else none) with
      | none => d
      | some e =>
        let l := f.slotItems t
        match streams.find? fun s => s.slots.contains g with
        | some s =>
          let b := d.stream s.owner s.index
          d.setStream s.owner s.index { b with
            cells := Tab.modify [] b.cells g (· ++ l), cellsIn := b.cellsIn + (l.filter (·.1.isCell)).length }
        | none => d.rise (p / 2) e.up (l.map (·.1))) d
    let d := streams.foldl Dev.runStream d
    d.feedMonitors i p (i.portSlots · p) fun g =>
      if base ≤ g && g < base + 20 && r.entries.getD (g % 320) 0 / 2 ^ 30 = 3 then (f.slotItems (g - base)).map (·.1) else []
  | _, _ => d

/-- What a port receives in the Beat. Without alignment, or under an unknown mark, its cells are not taken (R81, R95); under
CALDERA they come from the hub (R446). -/
def Dev.receivePort (d : Dev) (l : List OhFrame) (p : Nat) : Dev :=
  let take := fun (d : Dev) => (d.port p).mfAligned && !(d.port p).calMismatch && (d.port p).loop != 3
  let d := (d.framesIn l p).foldl (fun d f =>
    let d := d.seeOtuc p f
    if take d then d.feedFrame p f else d) d
  if take d then d
  else match d.rxImage p with
    | some i => (i.streams p).foldl (fun d s => d.setStream s.owner s.index (d.stream s.owner s.index).halt) d
    | none => d

/-- The cells of a slot that the hub sends in a Beat in place of missing ones (R174, R177). -/
def voidItems (fc gs : Nat) : List LinkItem :=
  (slotBlocks (fc % 20) (gs % 320 % 20)).map fun j => .cell { bytes := zeros 16, void := true, pstart := j == 0 }

/-- Words of an aligned path whose delay has passed leave for the selector; a path that is not placed has none (R196). -/
def Dev.releasePath (d : Dev) (s : Stream) : Dev :=
  let g := objIndex s.owner
  let (w, q) := d.pathDelays g
  let delay : Int := if !(d.pg g).align.placed then 0 else if s.index = 0 then w else q
  let b := d.stream s.owner s.index
  let due := (b.held.takeWhile fun (h : HeldWord) => (h.arrived : Int) + delay ≤ d.endOfBeat).length
  d.setStream s.owner s.index (b.leave due true)

/-- What a stream releases in the Beat rises to the hub; a member of a group that is not UP gives VOID cells (R188). -/
def Dev.sendStream (d : Dev) (i : Image) (p : Nat) (s : Stream) : Dev :=
  let d := if s.spread then d else d.releasePath s
  let b := d.stream s.owner s.index
  let wait := s.spread && (d.group (objIndex s.owner)).mode != .up
  let d := s.slots.foldl (fun d g => match i.xcal.find? fun e => e.gs == g && e.dir == 1 with
    | some e => d.rise (p / 2) e.up (if wait then voidItems d.fc g else Tab.get [] b.out g)
    | none => d) d
  d.setStream s.owner s.index { b with out := [] }

/-- Every deskew stream of the ports' receive sides sends. -/
def Dev.sendStreams (d : Dev) : Dev :=
  (List.range 8).foldl (fun d p => match d.rxImage p with
    | some i => (i.streams p).foldl (fun d s => d.sendStream i p s) d
    | none => d) d

/-- The Caldera forwards one entry (R176, R177). Under CALDERA the cells that descended in the last Beat toward a port's TX slot
are turned back as its RX slot's, without control messages (R446; DESIGN CHOICE, log 81). -/
def Dev.forwardEntry (turned : Tab (List LinkItem)) (d : Dev) (e : XcalEnt) : Dev :=
  if !d.forwards e || !d.calderaOn then d
  else
    let p := e.gs / 320
    let back := fun (_ : Unit) =>
      match (d.bank (p / 2)).bind fun i => i.xcal.find? fun t => t.dir == 0 && t.gs == e.gs with
      | some t => (Tab.get [] turned (t.falling * 1_280 + t.down)).filter LinkItem.isCell
      | none => []
    let l := if e.dir = 1 && (d.port p).loop = 3 then back ()
      else if d.dieDown e.rising then (if d.slotOn e then voidItems d.fc e.gs else [])
      else Tab.get [] d.path.up (e.rising * 1_280 + e.up)
    d.fall e.falling e.down l

/-- Cells that an engine keeps of a slot while others of the channel's slots bring none: three Beats' (DESIGN CHOICE, log 81). -/
def slotDepth : Nat := 144

/-- What descends reaches the engines' slot queues. -/
def Dev.toEngines (d : Dev) (l : List XcalEnt) : Dev :=
  (l.filter fun e => e.role != 3).foldl (fun d e =>
    if d.engineOn e.ch then
      let p := d.cpath e.ch
      d.setCpath e.ch { p with
        rxQ := Tab.modify [] p.rxQ e.gs fun q => lastN slotDepth (q ++ Tab.get [] d.path.down (e.falling * 1_280 + e.down)) }
    else d) d

/-- TX entries of the image that a slice's engines execute. -/
def Dev.engineEntries (d : Dev) (s : Nat) : List XcalEnt :=
  match d.bank s with | some i => i.xcal.filter fun e => e.dir == 0 && e.ch / 64 == s | none => []

/-- The engines' cells of the Beat rise: a slot's next ones, unless no slot of the bridge is available (R113, R176). -/
def Dev.riseTx (d : Dev) (s : Nat) : Dev :=
  let all := d.engineEntries s
  (all.filter fun e => e.role != 3).foldl (fun d e =>
    let n := (slotBlocks (d.fc % 20) (e.gs % 320 % 20)).length
    let p := d.cpath e.ch
    let q := Tab.get [] p.txQ e.gs
    let d := d.setCpath e.ch { p with txQ := Tab.set p.txQ e.gs (q.drop n) }
    if all.any fun x => x.ch == e.ch && x.up == e.up && d.slotOn x then d.rise s e.up (q.take n) else d) d

/-! ### The TX framer (R98, R120, R124, R131, R152, R176) -/

/-- Payload of a frame of an instance: block j of slot t is the slot's next cell of the Beat; 0x00 where there is none. A
poisoned word leaves unchanged (R167). -/
def Dev.payloadOut (d : Dev) (p inst : Nat) : List Byte :=
  let k := d.fc % 20
  match d.bank (p / 2), d.calendar p 0 with
  | some i, some r =>
    let slots := (List.range 20).map fun t =>
      let g := p * 320 + (inst - 1) * 20 + t
      match (if r.entries.getD (g % 320) 0 / 2 ^ 30 = 3 then i.xcal.find? fun e => e.gs == g && e.dir == 0 else none) with
      | some e => (Tab.get [] d.path.down (e.falling * 1_280 + e.down)).filterMap fun c =>
          match c with | .cell c => some (bytesOf c.data) | .jc _ _ => none
      | none => []
    (List.range 952).flatMap fun w =>
      let g := 952 * k + w
      padTo 16 ((slots.getD (g % 20) []).getD (g / 20 - firstBlock k (g % 20)) [])
  | _, _ => zeros 15_232

/-- OPUC overhead of a frame of an instance: justification control of slot t = OMFI from its channel's decision, PSI, OMFI
(R124, R131, R152, R175). -/
def Dev.opucOut (d : Dev) (p inst : Nat) : List Byte :=
  let k := d.fc % 20
  let mfas := d.fc % 256
  match d.calendar p 0 with
  | some r =>
    let e := r.entries.getD ((inst - 1) * 20 + k) 0
    let t := (d.chan (e % 256)).txServer
    let jc := if e / 2 ^ 30 = 3 && (d.port p).loop != 3 then padTo 6 (Config.jcBytes t.nextCm t.sigma) else zeros 6
    let psi := if mfas = 0 then 0x22 else if msiAt ≤ mfas && mfas < msiAt + 40 then byteAt (r.msi inst) (mfas - msiAt) else 0
    jc ++ [psi, BitVec.ofNat 8 k]
  | none => zeros 7 ++ [BitVec.ofNat 8 k]

/-- SM and GCC0 of a frame of an instance (R98, R120): BEI reports errors not yet reported, up to 8. -/
def Dev.smOut (d : Dev) (p inst : Nat) : Dev × List Byte :=
  let x := d.port p
  let mfas := d.fc % 256
  let x := if mfas % 64 = 0 && inst = 1 then { x with sendTti := x.attr.txTti } else x
  let o := x.otucAt inst
  let n := min 8 o.errors
  let bei := if o.iae then 11 else n
  let bdi := d.bdiAsked (objPort p) layOtu || bit x.attr.force 0
  let iae := x.iaeLeft != 0 || bit x.attr.force 1
  let d := d.setPort p { x with otuc := Tab.set x.otuc inst { o with errors := if o.iae then o.errors else o.errors - n } }
  let (d, g) := d.gccTake p 2
  (d, [byteAt x.sendTti (mfas % 64), BitVec.ofNat 8 (d.lineTx p inst).bip.2, BitVec.ofNat 8 (bei * 16 + b2n bdi * 8 + b2n iae * 4)] ++
    g ++ [0, 0])

/-- The LCC word of a frame joins the CRC over words 0 to 254 of the message (R101, R104). -/
def Dev.feedLcc (d : Dev) (p k : Nat) : Dev :=
  let x := d.port p
  let r := if k = 0 then 0xFFFF else x.lccCrc
  d.setPort p { x with lccCrc := (crcFeed 16 0x1021#16 (BitVec.ofNat 16 r) (beBytes 2 (d.lccWord p k))).toNat }

/-- One instance of a port sends its frame of the Beat; ODUC overhead is that of a flow which the port originates (R122). -/
def Dev.sendInstance (d : Dev) (p inst : Nat) : Dev :=
  let mfas := d.fc % 256
  let last := d.lineTx p inst
  let (d, sm) := d.smOut p inst
  let opu := d.opucOut p inst
  let payload := if (d.port p).loop = 3 then zeros 15_232 else d.payloadOut p inst
  let (d, patch) := d.beginFrame 3 (objPort p) 0 inst mfas last.bip.2
  let d := if inst = 1 then d.feedLcc p mfas else d
  let oh := patch.apply (zeros 42)
  let d := d.endFrame 3 { obj := objPort p, flow := 0, inst, mfas, oh, opu } last.bip.2 oh opu
  d.setLineTx p inst { bytes := frameOf mfas sm oh opu payload, bip := (bip8 (opu ++ payload), last.bip.1) }

/-- A port's frames of the Beat; under FRAMER_FAR the received ones go out again (R446). -/
def Dev.sendPort (d : Dev) (l : List OhFrame) (p : Nat) : Dev :=
  let n := d.portN p
  if !d.portOn p then
    { d with path := { d.path with lines := d.path.lines.filter fun e => e.1 / 16 != p } }
  else if (d.port p).loop = 2 then
    (List.range n).foldl (fun d i => d.setLineTx p (i + 1)
      { d.lineTx p (i + 1) with bytes := match l.find? fun f => f.obj == objPort p && f.flow == 1 && f.inst == i + 1 with
          | some f => frameOf f.mfas f.sm f.oh f.opu (padTo 15_232 f.payload)
          | none => [] }) d
  else (List.range n).foldl (fun d i => d.sendInstance p (i + 1)) d

/-! ### Client ports (R147, R150, R170, R171, R216, R446) -/

/-- What a client port receives: from outside, or what it sent in the last Beat under CLIENT_NEAR (R446). -/
def Dev.clientIn (d : Dev) (l : List ClientRx) (k : Nat) : ClientRx :=
  if (d.client k).loop = 1 then
    let t : ClientTx := Tab.get {} d.path.clients k
    { cp := k, blocks := t.blocks, bytes := t.bytes
      odus := t.odus.map fun e =>
        let x := d.engine e.1
        let c := (d.chan e.1).rxDecided
        { tpn := (x.map (·.loTpn)).getD 0, slots := (x.map clientSlots).getD 0, first := e.2.1, bytes := e.2.2
          jc := some (c.nextCm, true) } }
  else (l.find? fun r => r.cp == k).getD { cp := k }

/-- Slots of a client-side OTU in ascending LO_TPN order, as its MSI names them (R147). -/
def Image.clientMsi (i : Image) (k : Nat) : List Nat :=
  (sortBy (fun x : Desc => x.loTpn) (i.ptab.filter fun x => x.kind == 1 && x.cp == k)).flatMap fun x =>
    List.replicate (clientSlots x) x.loTpn

/-- Client-side overhead that a KIND 1 port sends: TTI 0x00 and BEI, BDI in SM and PM, STAT 001 in PM, and the MSI; its BIP-8
goes with frames whose phase the manual leaves open (R147; DESIGN CHOICE, log 81). -/
def Dev.clientOhOut (d : Dev) (i : Image) (k near : Nat) : ClientOh :=
  let b := min 8 near * 16 + b2n (d.client k).otuBdi * 8
  { sm := [0, BitVec.ofNat 8 b], pm := [0, BitVec.ofNat 8 (b + 1)], msi := i.clientMsi k }

/-- A client port's output as it leaves: a client signal takes the place of what the engine sends; a squelched or disabled
port sends nothing (R170, R171, R216). -/
def Dev.clientOut (d : Dev) (i : Image) (k near : Nat) (t : ClientTx) : ClientTx :=
  match d.clientSends k, i.clientDesc k with
  | 4, _ | _, none => {}
  | s, some x =>
    if x.kind = 1 then { t with oh := d.clientOhOut i k near }
    else
      let rate := if ethernet x.clientType then x.blockRate else perBeat 15_296 (9_953_280, 1)
      let n := perBeatAt rate.1 rate.2 (d.fc - (d.chan x.ch).startFc)
      match s with
      | 1 => { t with blocks := List.replicate n remoteFault }
      | 2 => { t with blocks := List.replicate n localFault }
      | 3 => { t with bytes := bytesOf (replacementBytes x.clientType ((d.fc - (d.chan x.ch).startFc) * rate.1 / rate.2) n) }
      | _ => t

/-- A client port at the end of the Beat; under CLIENT_FAR what it received goes back out (R446). -/
def Dev.sendClient (d : Dev) (r : List ClientRx) (near : Nat → Nat) (i : Image) (k : Nat) : Dev :=
  let t : ClientTx := Tab.get {} d.path.clients k
  let t := if (d.client k).loop = 2 then
      let x := (r.find? fun y => y.cp == k).getD { cp := k }
      { t with blocks := x.blocks, bytes := x.bytes, odus := x.odus.map fun w => (w.tpn, (w.first, w.bytes)) }
    else d.clientOut i k (near k) t
  { d with path := { d.path with clients := Tab.set d.path.clients k t } }

/-! ### Digests (R271) -/

/-- A frame with its GCC0, GCC1 and GCC2 bytes taken as 0x00. -/
def withoutGcc (l : List Byte) : List Byte := putAt (putAt l 10 (zeros 2)) (3 * rowBytes) (zeros 4)

/-- A digest register goes on over bytes; it begins at all ones. -/
def digestFeed (t : Tab Nat) (k : Nat) (l : List Byte) : Tab Nat :=
  if l.isEmpty then t
  else Tab.set t k (crcFeedR 32 0x82F6_3B78#32 (BitVec.ofNat 32 (Tab.get 0xFFFF_FFFF t k)) l).toNat

/-- Bytes of a client port that its digest covers; of a KIND 1 port its overhead and its slots' words stand for the OTU's bytes
(DESIGN CHOICE, log 81). -/
def ClientTx.digestBytes (t : ClientTx) : List Byte :=
  t.blocks.flatMap Block66.digestBytes ++ t.bytes ++ t.oh.sm ++ t.oh.pm ++ t.odus.flatMap (·.2.2)

/-- The Beat's output joins the digests. -/
def Dev.feedDigests (d : Dev) (ports clients : List Nat) : Dev :=
  let p := d.path
  { d with path := { p with
    lpCrc := ports.foldl (fun t k => (List.range (d.portN k)).foldl (fun t i =>
      digestFeed t k (withoutGcc (d.lineTx k (i + 1)).bytes)) t) p.lpCrc
    cpCrc := clients.foldl (fun t k => digestFeed t k (Tab.get ({} : ClientTx) p.clients k).digestBytes) p.cpCrc } }

/-- Slices that a line port's output depends on. -/
def Dev.slicesOf (d : Dev) (p : Nat) : List Nat :=
  p / 2 :: (match d.bank (p / 2) with
    | some i => (i.xcal.filter fun e => e.dir == 0 && e.gs / 320 == p).map (·.ch / 64)
    | none => [])

/-- Slices that a client port's output depends on: its engines', and the line ports' that they receive from. -/
def Dev.clientSlices (d : Dev) (k : Nat) : List Nat :=
  match d.sched.active with
  | some i => (i.ptab.filter fun x => x.kind != 2 && x.cp == k).flatMap fun x => x.ch / 64 :: (i.rxPorts x.ch).map (· / 2)
  | none => []

/-- Digests of the MF that ends, valid for enabled ports whose dies are sound (R271). -/
def Dev.takeDigests (d : Dev) : Dev :=
  let sound := fun (l : List Nat) => l.all fun s => bit d.pair.sliceHealth s
  let lp := (List.range 8).map fun p => (d.port p).enabled && sound (d.slicesOf p)
  let cp := (List.range 64).map fun k => (d.client k).enabled && sound (d.clientSlices k)
  let value := fun (t : Tab Nat) (on : List Bool) (k : Nat) =>
    if on.getD k false then (BitVec.ofNat 32 (Tab.get 0xFFFF_FFFF t k) ^^^ 0xFFFF_FFFF#32).toNat else 0
  let g : Digests :=
    { mfn := d.mfn, lpValid := bitsOf lp, cpValid := bitsOf cp, lp := (List.range 8).map (value d.path.lpCrc lp)
      cp := (List.range 64).map (value d.path.cpCrc cp) }
  { d with pair := { d.pair with ownDigests := some g }, path := { d.path with lpCrc := [], cpCrc := [] } }

/-! ### The Beat -/

/-- Integrators of a client port's layer (R210): dLOS; of a KIND 1 port dLOF, dLOM, dBDI by frames, dMSIM_C by multiframes. -/
def Dev.seeClient (d : Dev) (i : Image) (r : ClientRx) (k : Nat) : Dev :=
  match i.clientDesc k with
  | none => d
  | some x =>
    let o := objClient k
    if !(d.client k).enabled then d
    else
      let d := d.observe o layClientTx 0 (!d.clientUp x)
      if x.kind != 1 then d
      else
        let d := (d.observe o layClientTx 5 (!(d.client k).inFrame)).observe o layClientTx 6 (!(d.client k).inMf)
        let d := r.sm.foldl (fun d b => d.observe o layClientTx 8 (bit b.toNat 3)) d
        if r.mfEnd then d.observe o layClientTx 9 ((d.clientChannels k).any fun c => (d.chan c).msim) else d

/-- The data path in the Beat that ends: received frames, deskew, the Caldera toward the engines, the engines, the Caldera
toward the framers, the framers and the client ports, and the digests. -/
def Dev.dataBeat (d : Dev) (i : BeatInput) : Dev :=
  let turned := d.path.down
  let rx := fun (k : Nat) => d.clientIn i.clients k
  let near := fun (k : Nat) => sum ((i.blocks.filter fun b => b.obj == objClient k && b.layer == layClientTx).map (·.near))
  let ports := (List.range 8).filter d.lit
  let clients := match d.sched.active with | some x => x.clientPorts | none => []
  let d := { d with path := { d.path with up := [], down := [], clients := [] } }
  let d := (ports.foldl (fun d p => d.receivePort i.overhead p) d).sendStreams
  let l := d.rxEntries
  let d := (l.foldl (Dev.forwardEntry turned) d).toEngines l
  let d := d.engines.foldl (fun d x => d.engineBeat rx x) d
  let d := match d.sched.active with | some x => clients.foldl (fun d k => d.seeClient x (rx k) k) d | none => d
  let d := [0, 1, 2, 3].foldl Dev.riseTx d
  let tx := match d.sched.active with | some x => x.xcal.filter fun e : XcalEnt => e.dir == 0 | none => []
  let d := tx.foldl (Dev.forwardEntry []) d
  let d := (List.range 8).foldl (fun d p => d.sendPort i.overhead p) d
  let d := match d.sched.active with | some x => clients.foldl (Dev.sendClient · i.clients near x) d | none => d
  (d.feedDigests ports clients).gccBeat

end Sys2Proof.Machine
end

