-- ==== Sys2Proof/Machine/Mirror.lean ====
section
/-! DEFINITION. What the twins send each other: state-copy records and their correction, mirrored commands, received
frames, digests, resync, and the join (R35, R264 to R275). -/

namespace Sys2Proof.Machine

open Sys2Proof

/-! ### Snapshots and records as sent (R269) -/

/-- The mirrored state as it stands at the start of Beat 0: the end of Beat 255 of the MF before. -/
def Dev.takeSnap (d : Dev) : Snap :=
  { mfn := d.mfn - 1, chans := d.chans, layers := d.layers, pms := d.pms, pgs := d.pgs, ports := d.ports, lanes := d.lanes
    odu := d.odu, clients := d.clients, sgs := d.groups, fumPorts := d.fumPorts, fumSources := d.fumSources
    grants := d.host.mbs.map fun e => (e.1, e.2.grants), arbiter := d.cald.reqs.map fun e => (e.1, e.2.deadline, e.2.burst)
    disc := (d.pair.discMf, d.pair.xstbyN), anchor := d.anchor, pps := d.pps
    timed := d.timedWaiting.filter fun w => !w.job }

/-- Flow and level of a layer that a sink reads; OTU has none of its own. -/
def levelOf (l : Nat) : Nat × Nat := if l = layOduc then (1, 0) else (flowOfLayer l, levelOfLayer l)

/-- BEI that a layer has still to send, by instance (R126). -/
def pendingOf (o : OduState) (x : LinePort) (l : Nat) : Tab Nat :=
  if l = layOtu then x.otuc.map fun e => (e.1, e.2.errors)
  else if l = layOduc || isTcm l || isPmLayer l then
    (List.range 16).filterMap fun i =>
      let n := (o.level (levelOf l).1 (levelOf l).2 (i + 1)).pendingBei
      if n = 0 then none else some (i + 1, n)
  else []

/-- BEI still to be sent, of the device or of a snapshot. -/
def Snap.pending (s : Snap) (obj l : Nat) : Tab Nat := pendingOf (Tab.get {} s.odu obj) (Tab.get {} s.ports (objIndex obj)) l
def Dev.pending (d : Dev) (obj l : Nat) : Tab Nat := pendingOf (d.oduOf obj) (d.port (objIndex obj)) l
def Dev.setPending (d : Dev) (obj l : Nat) (t : Tab Nat) : Dev :=
  t.foldl (fun d e =>
    if l = layOtu then
      let x := d.port (objIndex obj)
      d.setPort (objIndex obj) { x with otuc := Tab.set x.otuc e.1 { x.otucAt e.1 with errors := e.2 } }
    else d.setLevel obj (levelOf l).1 (levelOf l).2 { (d.oduOf obj).level (levelOf l).1 (levelOf l).2 e.1 with pendingBei := e.2 } e.1) d

/-- Records of the data and decision planes. -/
def Snap.stateBodies (s : Snap) (history : Bool) : List GBody :=
  s.chans.flatMap (fun e => [0, 1, 2].filterMap fun k =>
      if (e.2.stage k).run then some (.tracker e.1 k (e.2.stage k)) else none) ++
    s.layers.map (fun e => .defect (e.1 / 256) (e.1 % 256) e.2) ++ s.pms.map (fun e => .pm (e.1 / 256) (e.1 % 256) e.2 (s.pending (e.1 / 256) (e.1 % 256))) ++
    (if history then s.pms.map (fun e => .pmHistory (e.1 / 256) (e.1 % 256) e.2.m15Hist e.2.h24Hist) else []) ++
    s.pgs.map (fun e => .group e.1 e.2) ++ s.pgs.map (fun e => .aligned e.1 e.2.align) ++
    s.ports.map (fun e => .ladder e.1 e.2.ladder) ++ s.sgs.map fun e => .deskew e.1 e.2

/-- Records of attributes. -/
def Snap.attrBodies (s : Snap) : List GBody :=
  let l : List AttrRec := [.anchor s.anchor, .pps s.pps.mode s.pps.lossN s.pps.windowMf] ++
    s.ports.map (fun e => AttrRec.linePort e.1 e.2.enabled e.2.attr) ++ s.lanes.map (fun e => AttrRec.lane e.1 e.2) ++
    s.odu.map (fun e => AttrRec.odu e.1 e.2) ++ s.clients.map (fun e => AttrRec.client e.1 e.2) ++
    s.chans.map (fun e => AttrRec.maint e.1 e.2.maintTx e.2.maintRx) ++
    s.layers.map (fun e => AttrRec.layer (e.1 / 256) (e.1 % 256) e.2.mask e.2.degmNext e.2.degthrNext) ++
    s.pgs.map (fun e => AttrRec.group e.1 e.2.holdoffSet e.2.wtrSet e.2.tcmLevel) ++
    s.fumPorts.map (fun e => AttrRec.fumPort e.1 e.2.attr) ++ s.fumSources.map (fun e => AttrRec.fumBind e.1 e.2.bind) ++
    s.grants.map (fun e => AttrRec.grants e.1 e.2) ++ s.arbiter.map (fun e => AttrRec.arbiter e.1 e.2.1 e.2.2) ++
    [.discrepancy s.disc.1 s.disc.2]
  l.map .attr

/-- Records of queues and of time. -/
def Snap.queueBodies (s : Snap) : List GBody :=
  s.fumPorts.map (fun e => .fumQueue e.1 e.2.expFill e.2.impFill e.2.itemsOut e.2.sent) ++ [.timed s.timed, .time s.pps]

/-- Beat 0 of a copy cycle: both devices take a snapshot, and the ACTIVE one sends its records (R269). -/
def Dev.copyCycle (d : Dev) : Dev :=
  if d.mfn % 16 != 0 || d.mfn = 0 || d.pair.link != 2 then d
  else
    let s := d.takeSnap
    let d := d.setPair { d.pair with snaps := (s :: d.pair.snaps).take 2 }
    let send := fun (l : List GBody) => d.setPair { d.pair with
      txRecs := d.pair.txRecs ++ l.map fun b => { snapMfn := s.mfn, body := b } }
    if d.pair.role != .active then d
    else if d.twinFollows then
      let history := d.twinRole == some .joining || d.pair.agree.any fun a => a.2.badRun != 0 && a.2.disc ≤ a.2.badRun
      send (s.stateBodies history ++ s.attrBodies ++ s.queueBodies)
    else if d.twinRole == some .joining && (match d.pair.rxHead with | some h => 1 ≤ h.joinPhase && h.joinPhase ≤ 3 | none => false) then
      send [.image true d.sched.active d.sched.shadow]
    else d

/-! ### Correction (R269) -/

/-- A count is corrected by the difference of the snapshots. -/
def corI (own act cur : Int) : Int := cur + (act - own)
def corN (own act cur : Nat) : Nat := (corI own act cur).toNat

/-- Any other field that differs is set to the active's value. -/
def corV {α : Type} [DecidableEq α] (own act cur : α) : α := if own = act then cur else act

/-- A running count that may be absent. -/
def corO (own act cur : Option Nat) : Option Nat :=
  match own, act, cur with | some o, some a, some c => some (corN o a c) | _, _, _ => corV own act cur

def Tracker.correct (own act cur : Tracker) : Tracker :=
  { cur with integ := corI own.integ act.integ cur.integ, acc := corI own.acc act.acc cur.acc
             carry := corI own.carry act.carry cur.carry }

/-- A count of a table. -/
def corT (own act cur : Tab Nat) : Tab Nat :=
  act.foldl (fun t e => Tab.set t e.1 (corN (Tab.get 0 own e.1) e.2 (Tab.get 0 cur e.1))) cur

def Layer.correct (own act cur : Layer) : Layer :=
  { cur with runs := act.runs.foldl (fun t e =>
      let o := Tab.get (0, 0) own.runs e.1
      let c := Tab.get (0, 0) cur.runs e.1
      Tab.set t e.1 (corN o.1 e.2.1 c.1, corN o.2 e.2.2 c.2)) cur.runs
             inputs := corV own.inputs act.inputs cur.inputs, reported := corV own.reported act.reported cur.reported
             vector := corV own.vector act.vector cur.vector, output := corV own.output act.output cur.output }

def PmCounts.correct (own act cur : PmCounts) : PmCounts :=
  { bbe := corN own.bbe act.bbe cur.bbe, es := corN own.es act.es cur.es, ses := corN own.ses act.ses cur.ses
    uas := corN own.uas act.uas cur.uas }

def PmBin.correct (own act cur : PmBin) : PmBin :=
  { holds := corV own.holds act.holds cur.holds, suspect := corV own.suspect act.suspect cur.suspect
    closed := corV own.closed act.closed cur.closed, startPms := corV own.startPms act.startPms cur.startPms
    seconds := corN own.seconds act.seconds cur.seconds, near := own.near.correct act.near cur.near
    far := own.far.correct act.far cur.far, crossed := corV own.crossed act.crossed cur.crossed }

def PmSecond.correct (own act cur : PmSecond) : PmSecond :=
  { pms := corV own.pms act.pms cur.pms, blocks := corN own.blocks act.blocks cur.blocks
    nearErr := corN own.nearErr act.nearErr cur.nearErr, farErr := corN own.farErr act.farErr cur.farErr
    nearDefect := corV own.nearDefect act.nearDefect cur.nearDefect, farDefect := corV own.farDefect act.farDefect cur.farDefect
    irregular := corV own.irregular act.irregular cur.irregular }

def PmEntity.correct (own act cur : PmEntity) : PmEntity :=
  { cur with
    run := corV own.run act.run cur.run, cur := own.cur.correct act.cur cur.cur, last := corV own.last act.last cur.last
    pending := corV own.pending act.pending cur.pending, m15 := own.m15.correct act.m15 cur.m15
    h24 := own.h24.correct act.h24 cur.h24, nearUnavail := corV own.nearUnavail act.nearUnavail cur.nearUnavail
    farUnavail := corV own.farUnavail act.farUnavail cur.farUnavail, badRun := corN own.badRun act.badRun cur.badRun
    goodRun := corN own.goodRun act.goodRun cur.goodRun, thresholds := corV own.thresholds act.thresholds cur.thresholds
    uasNext := corV own.uasNext act.uasNext cur.uasNext }

def PgPath.correct (own act cur : PgPath) : PgPath :=
  { cur with actual := corV own.actual act.actual cur.actual, presented := corV own.presented act.presented cur.presented
             holdoff := corO own.holdoff act.holdoff cur.holdoff }

def PgState.correct (own act cur : PgState) : PgState :=
  { cur with
    state := corV own.state act.state cur.state, w := own.w.correct act.w cur.w, p := own.p.correct act.p cur.p
    held := corV own.held act.held cur.held, wtrLeft := corO own.wtrLeft act.wtrLeft cur.wtrLeft
    rxAps := corV own.rxAps act.rxAps cur.rxAps, remoteReq := corV own.remoteReq act.remoteReq cur.remoteReq
    remoteR := corV own.remoteR act.remoteR cur.remoteR }

def Ladder.correct (own act cur : Ladder) : Ladder :=
  { cur with
    txStep := corV own.txStep act.txStep cur.txStep, rxStep := corV own.rxStep act.rxStep cur.rxStep
    announce := corV own.announce act.announce cur.announce
    pendingChange := corV own.pendingChange act.pendingChange cur.pendingChange
    waitingChange := corV own.waitingChange act.waitingChange cur.waitingChange
    lastTxMfn := corV own.lastTxMfn act.lastTxMfn cur.lastTxMfn, lastRxMfn := corV own.lastRxMfn act.lastRxMfn cur.lastRxMfn
    annSeq := corV own.annSeq act.annSeq cur.annSeq, reqOut := corV own.reqOut act.reqOut cur.reqOut
    reqStep := corV own.reqStep act.reqStep cur.reqStep, reqSeq := corV own.reqSeq act.reqSeq cur.reqSeq
    reqStart := corV own.reqStart act.reqStart cur.reqStart, lastReqSeq := corV own.lastReqSeq act.lastReqSeq cur.lastReqSeq
    fallenBack := corV own.fallenBack act.fallenBack cur.fallenBack, dLccf := corV own.dLccf act.dLccf cur.dLccf }

def Pps.correct (own act cur : Pps) : Pps :=
  { cur with
    state := corV own.state act.state cur.state, pmsMfn := corV own.pmsMfn act.pmsMfn cur.pmsMfn
    pmsAge := corN own.pmsAge act.pmsAge cur.pmsAge, pmSeconds := corV own.pmSeconds act.pmSeconds cur.pmSeconds
    irregular := corV own.irregular act.irregular cur.irregular, accepted := corN own.accepted act.accepted cur.accepted
    since := corN own.since act.since cur.since, lastFc := corV own.lastFc act.lastFc cur.lastFc
    lastByte := corV own.lastByte act.lastByte cur.lastByte }

/-- Commanded attributes of an object's overhead. -/
def OduState.correct (own act cur : OduState) : OduState :=
  { cur with
    attrs := corV own.attrs act.attrs cur.attrs, backCh := corV own.backCh act.backCh cur.backCh
    rawExp := corV own.rawExp act.rawExp cur.rawExp, rawRes := corV own.rawRes act.rawRes cur.rawRes
    rawAps := corV own.rawAps act.rawAps cur.rawAps, rawFtfl := corV own.rawFtfl act.rawFtfl cur.rawFtfl
    delay := (List.range 7).foldl (fun t k =>
      let m := corV (own.dm k).mode (act.dm k).mode (cur.dm k).mode
      if m = (cur.dm k).mode then t else Tab.set t k { cur.dm k with mode := m }) cur.delay }

/-- A correction counts where it changed something. -/
def Dev.corrected (d : Dev) (b : Bool) : Dev :=
  if b then (d.setPair { d.pair with correctionsN := satAdd max32 d.pair.correctionsN 1 }).tick 0x5323 1 else d

/-- An attribute record; `s` is the device's own snapshot of the same MF. -/
def Dev.correctAttr (d : Dev) (s : Snap) (a : AttrRec) : Dev :=
  match a with
  | .anchor act =>
    let b := d.anchor
    let o := s.anchor
    let n := { b with source := corV o.source act.source b.source, failover := corV o.failover act.failover b.failover
                      lossMf := corV o.lossMf act.lossMf b.lossMf, offset := corV o.offset act.offset b.offset }
    { d with anchor := n }.corrected (n != b)
  | .pps m l w =>
    let n := { d.pps with mode := corV s.pps.mode m d.pps.mode, lossN := corV s.pps.lossN l d.pps.lossN
                          windowMf := corV s.pps.windowMf w d.pps.windowMf }
    { d with pps := n }.corrected (n != d.pps)
  | .linePort p en act =>
    let o : LinePort := Tab.get {} s.ports p
    let x := d.port p
    let e := corV o.enabled en x.enabled
    let n := corV o.attr act x.attr
    let d := d.setPort p { x with attr := n }
    (if e = x.enabled then d else if e then d.enablePort p else d.disablePort p).corrected (n != x.attr || e != x.enabled)
  | .lane l act =>
    let n := corV (Tab.get {} s.lanes l) act (d.lane l)
    (d.setLane l n).corrected (n != d.lane l)
  | .odu o act =>
    let n := (Tab.get {} s.odu o : OduState).correct act (d.oduOf o)
    (d.setOdu o n).corrected (n != d.oduOf o)
  | .client k act =>
    let o : ClientPort := Tab.get {} s.clients k
    let x := d.client k
    let n := { x with enabled := corV o.enabled act.enabled x.enabled, fec := corV o.fec act.fec x.fec }
    ((d.setClient k n).noteInput (objClient k) layClientTx 10 (!n.enabled)).corrected (n != x)
  | .maint c tx rx =>
    let o : Channel := Tab.get {} s.chans c
    let x := d.chan c
    let n := { x with maintTx := corV o.maintTx tx x.maintTx, maintRx := corV o.maintRx rx x.maintRx }
    (d.setChan c n).corrected (n != x)
  | .layer o l m a b =>
    let w : Layer := Tab.get {} s.layers (layerKey o l)
    let x := d.layer o l
    let n := { x with mask := corV w.mask m x.mask, degmNext := corV w.degmNext a x.degmNext
                      degthrNext := corV w.degthrNext b x.degthrNext }
    (d.setLayer o l n).corrected (n != x)
  | .group g h w t =>
    let o : PgState := Tab.get {} s.pgs g
    let x := d.pg g
    let n := { x with holdoffSet := corV o.holdoffSet h x.holdoffSet, wtrSet := corV o.wtrSet w x.wtrSet
                      tcmLevel := corV o.tcmLevel t x.tcmLevel }
    (d.setPg g n).corrected (n != x)
  | .fumPort p act =>
    let n := corV (Tab.get {} s.fumPorts p : FumPort).attr act (d.fum p).attr
    (d.setFum p { d.fum p with attr := n }).corrected (n != (d.fum p).attr)
  | .fumBind c b =>
    let n := corV (Tab.get {} s.fumSources c : FumSource).bind b (d.source c).bind
    let x := d.source c
    (d.setSource c { x with bind := n, rx := if n = x.bind then x.rx else {} }).corrected (n != x.bind)
  | .grants m g =>
    let n := corV (Tab.get [] s.grants m) g (d.mb m).grants
    (d.setMb m { d.mb m with grants := n }).corrected (n != (d.mb m).grants)
  | .arbiter r dl bu =>
    let o := Tab.get ((reqDefault r).deadline, (reqDefault r).burst) s.arbiter r
    let x := d.req r
    let n := { x with deadline := corV o.1 dl x.deadline, burst := corV o.2 bu x.burst }
    (d.setReq r n).corrected (n != x)
  | .discrepancy a b =>
    let x := (d.pair.discMf, d.pair.xstbyN)
    let n := (corV s.disc.1 a x.1, corV s.disc.2 b x.2)
    if n = x then d
    else
      let d := d.setDisc n
      (d.sinterPut 65 (leNat (discBlock d.pair))).corrected true

/-- Timed commands that wait follow the active's queue (R269): what it no longer holds goes, what it holds is taken. -/
def Dev.syncTimed (d : Dev) (own act : List Waiting) : Dev :=
  let same := fun (a b : Waiting) => a.cmd.mb == b.cmd.mb && a.cmd.seq == b.cmd.seq && a.target == b.target
  let keep := d.host.waiting.filter fun w => !(w.fromTwin && own.any (same w) && !act.any (same w))
  let new := act.filter fun w => !own.any (same w) && !keep.any (same w) &&
    (match w.target with | some t => d.mfn < t | none => false)
  let n := keep.length != d.host.waiting.length || !new.isEmpty
  let d := { d with host := { d.host with waiting := keep } }
  (new.foldl (fun d w => d.hold { w with core := none, order := d.host.nextOrder, fromTwin := true, job := false, listed := true }) d).corrected n

/-- Deskew placements are adopted by value, with the streams that they admit (R269). -/
def Dev.adoptDeskew (d : Dev) (g : Nat) (act : Spread) : Dev :=
  let x := d.group g
  let ms := (x.members.zip act.members).map fun p =>
    { p.1 with mState := p.2.mState, reason := p.2.reason, tier := p.2.tier, alloc := p.2.alloc, skew := p.2.skew }
  let n := { x with mode := act.mode, rxGen := act.rxGen, nearSkew := act.nearSkew, members := ms }
  let d := { d with cald := { d.cald with streams := d.cald.streams.filter fun s => s.owner != objSpread g } }
  let streams : List FarStream := ms.zipIdx.filterMap fun p =>
    if p.1.tier = 2 then
      some { owner := objSpread g, index := p.2, ready := act.mode == .up, alloc := p.1.alloc
             slots := match d.sgRec g with | some r => (match r.members[p.2]? with | some m => m.weight | none => 0) | none => 0 }
    else none
  let d := match n.mode == .up && x.mode != .up, d.sgRec g, d.firstWord g with
    | true, some r, some w => d.alignWords g r w
    | _, _, _ => d
  let d := { d.putGroup g n with cald := { d.cald with streams := d.cald.streams ++ streams } }
  d.corrected (n != x)

/-- The same for the two paths of an aligned group. -/
def Dev.adoptAligned (d : Dev) (g : Nat) (act : Aligned) : Dev :=
  let a := (d.pg g).align
  let n := { a with placed := act.placed, aligned := act.aligned, ordinary := act.ordinary, wTier := act.wTier
                    pTier := act.pTier, wAlloc := act.wAlloc, pAlloc := act.pAlloc, filledFc := act.filledFc }
  let d := { d with cald := { d.cald with streams := d.cald.streams.filter fun s => s.owner != objGroup g } }
  let slots := match d.pgRec g with | some r => d.pgSlots r | none => 0
  let one := fun (k tier alloc : Nat) => if tier = 2 then [FarStream.mk (objGroup g) k act.aligned slots alloc] else []
  ({ d.setAlign g n with cald := { d.cald with
    streams := d.cald.streams ++ one 0 n.wTier n.wAlloc ++ one 1 n.pTier n.pAlloc } }).corrected (n != a)

/-- The active's banks fill the joiner's (R274, phase IMAGE): its active image is swapped in now. -/
def Dev.adoptImages (d : Dev) (a s : Option Image) : Dev :=
  let d := if a = d.sched.active then d
    else
      let i := a.getD Image.empty
      let d := { d with sched := d.sched.setShadow (some i) }.swapTo { order := none, expectGen := 0, target := d.mfn } i 0xF
      { d with sched := { d.sched with active := a } }
  { d with sched := d.sched.setShadow s, pair := { d.pair with banksCame := true } }

/-- A record of the active fills the shadow bank (R85, R90). -/
def Dev.fillBank (d : Dev) (s : Option Image) : Dev :=
  let d := { d with sched := d.sched.setShadow s }
  match s with | some i => d.raise 0x0201 0 (leBytes 4 i.gen ++ leBytes 4 i.imgCrc) | none => d

/-- One record is compared and its correction applied (R269). Fills are kept for an alignment (R273). -/
def Dev.correct (d : Dev) (r : GRec) : Dev :=
  let s := (d.pair.snaps.find? fun x => x.mfn == r.snapMfn).getD d.takeSnap
  match r.body with
  | .tracker c k act =>
    let x := (d.chan c).stage k
    let own := (Tab.get {} s.chans c : Channel).stage k
    let n := own.correct act x
    let d := (d.setChan c ((d.chan c).setStage k n)).corrected (n != x)
    d.setPair { d.pair with fills := Tab.set d.pair.fills (c * 4 + k) ((own.fill : Int) - act.fill) }
  | .defect o l act =>
    let n := (Tab.get {} s.layers (layerKey o l) : Layer).correct act (d.layer o l)
    (d.setLayer o l n).corrected (n != d.layer o l)
  | .pm o l act bei =>
    let n := (Tab.get {} s.pms (layerKey o l) : PmEntity).correct act (d.pm o l)
    let b := corT (s.pending o l) bei (d.pending o l)
    ((d.setPm o l n).setPending o l b).corrected (n != d.pm o l || b != d.pending o l)
  | .pmHistory o l m15 h24 =>
    let x := d.pm o l
    let n := { x with m15Hist := m15, h24Hist := h24 }
    (d.setPm o l n).corrected (n != x)
  | .group g act =>
    let n := (Tab.get {} s.pgs g : PgState).correct act (d.pg g)
    (d.setPg g n).corrected (n != d.pg g)
  | .attr a => d.correctAttr s a
  | .fumQueue p _ _ out sent =>
    let x := d.fum p
    let o : FumPort := Tab.get {} s.fumPorts p
    let n : FumPort := { x.skip (out - o.itemsOut) with itemsOut := corN o.itemsOut out x.itemsOut }
    let n := if n.readBank = x.readBank then { n with sent := corN o.sent sent x.sent } else n
    (d.setFum p n).corrected (n != x)
  | .timed l => d.syncTimed s.timed l
  | .time act =>
    let n := s.pps.correct act d.pps
    { d with pps := n }.corrected (n != d.pps)
  | .ladder p act =>
    let n := (Tab.get {} s.ports p : LinePort).ladder.correct act (d.ladder p)
    (d.setLadder p n).corrected (n != d.ladder p)
  | .deskew g act => d.adoptDeskew g act
  | .aligned g act => d.adoptAligned g act
  | .image true a s => d.adoptImages a s
  | .image false _ s => d.fillBank s
  | .sinter w v => d.setPair { d.pair with twinWords := d.pair.twinWords ++ [(w, v)] }

/-- A whole copy cycle is among these records. -/
def wholeCycle (l : List GRec) : Bool := l.any fun r => match r.body with | .time _ => true | _ => false

/-- Resyncs that waited for a copy cycle align at the second MF after it (R273). -/
def Dev.resyncTaken (d : Dev) : Dev :=
  d.setPair { d.pair with agree := d.pair.agree.map fun e =>
    if e.2.resync = 1 then (e.1, { e.2 with resync := 2, resyncStart := d.mfn, alignAt := some (d.mfn + 1) }) else e }

/-- Records complete before this MF began. -/
def Dev.dueRecords (d : Dev) : List GRec := d.pair.corrections.filter fun r => r.snapMfn + 1 < d.mfn

/-- STATE_CORRECTION_APPLY (R269): Beat 0. -/
def execStateCorrectionApply (s : State) : Host.Outcome State Fault Refusal :=
  s.runIf (fun d => d.beat == 0 && !d.dueRecords.isEmpty) fun d =>
    let l := d.dueRecords
    let d := d.setPair { d.pair with corrections := d.pair.corrections.filter fun r => !(r.snapMfn + 1 < d.mfn) }
    let d := d.asTwin fun d => l.foldl Dev.correct d
    if wholeCycle l then
      let d := d.resyncTaken
      if d.pair.role == .joining && d.pair.joinPhase = 4 then d.setPair { d.pair with copied := true } else d
    else d

/-! ### Mirrored commands as received (R268) -/

/-- Distance of one MIRROR_ID after another. -/
def idAfter (a b : Nat) : Nat := (b + 2 ^ 16 - a % 2 ^ 16) % 2 ^ 16

/-- The standby takes the next mirrored command; ARB_DEADLINE_SET acts on receipt (R200). -/
def Dev.takeMirrored (d : Dev) (e : MirrorEntry) : Dev :=
  if !d.pair.cmdFresh && idAfter d.pair.cmdAck e.id != 1 then d
  else
    let c := Cmd.ofSlot e.mb e.slot
    let d := d.setPair { d.pair with cmdAck := e.id, cmdFresh := false }
    if c.opcode = 0x0604 then d.asTwin fun d => (applyArbDeadlineSet d c).1
    else
      let t := d.extendMfn e.target
      d.hold { cmd := c, core := none, target := some t, effectFc := fcOf t, order := d.host.nextOrder, mirror := some e.id
               acked := true, fromTwin := true, job := false, listed := true }

/-- CMD_ACK covers mirrored commands that this device sent. -/
def Dev.takeAck (d : Dev) (ack : Nat) : Dev :=
  let covered := fun (id : Nat) => idAfter id ack < 2 ^ 15
  let ids := (d.pair.unacked.filter fun e => covered e.id).map (·.id)
  { d with
    pair := { d.pair with unacked := d.pair.unacked.filter fun e => !covered e.id }
    host := { d.host with waiting := d.host.waiting.map fun w =>
      if !w.fromTwin && (match w.mirror with | some id => ids.contains id | none => false) then { w with acked := true } else w } }

/-- MIRROR_ACK_TIMEOUT (R268): Beat 248 of the MF before the target; the commands apply on this device only. -/
def execMirrorAckTimeout (s : State) : Host.Outcome State Fault Refusal :=
  let late := fun (d : Dev) (w : Waiting) => !w.fromTwin && w.mirror.isSome && !w.acked &&
    (match w.target with | some t => fcOf t ≤ d.fc + 8 | none => false)
  s.runIf (fun d => d.host.waiting.any (late d)) fun d =>
    let l := d.host.waiting.filter (late d)
    let d := { d with
      pair := { d.pair with unacked := d.pair.unacked.filter fun e => !l.any fun w => w.mirror == some e.id }
      host := { d.host with waiting := d.host.waiting.map fun w => if late d w then { w with mirror := none } else w } }
    l.foldl (fun d w => d.raise 0x090C 0 (leBytes 2 w.cmd.opcode ++ leBytes 2 w.cmd.seq)) d

/-! ### Received frames (R262 to R267, R274, R275) -/

/-- One-way latency in byte positions: half of the echo's round trip less its hold (R265). -/
def Dev.oneWayOf (d : Dev) (h : GHead) (pos : Nat) : Nat :=
  (((d.fc + 2 ^ 16 + 1 - h.echoSeq) % 2 ^ 16) * 15_296 + pos - h.echoHold) / 2

/-- What every valid frame brings. -/
def Dev.takeHead (d : Dev) (f : GFrame) : Dev :=
  let h := f.head
  let p := d.pair
  let d := d.setPair { p with
    noFrame := 0, goodFrames := p.goodFrames + 1, rxHead := some h, rxFc := d.fc, rxPos := f.pos, twinFc := h.fc + 1
    lastEchoSeq := h.tokSeq, oneWay := d.oneWayOf h f.pos
    twinDigests := if f.digests.isSome then f.digests else p.twinDigests
    twinActiveMfn := if h.role = 4 then d.mfn else p.twinActiveMfn }
  (if p.aliveIn then d else d.aliveFault).takeAck h.cmdAck

/-- Tokens: for this Beat they act now, for the next they wait (R267). -/
def Dev.takeTokens (d : Dev) (f : GFrame) : Dev :=
  if !d.followsTokens then d
  else if f.head.tokSeq = d.fc % 2 ^ 16 then d.useReceived f.tokens
  else if f.head.tokSeq = (d.fc + 1) % 2 ^ 16 then d.setPair { d.pair with rxTokens := f.tokens }
  else d

/-- Records: twin words and shadow images at once, others at Beat 0 of the next MF. -/
def Dev.takeRecord (d : Dev) (r : GRec) : Dev :=
  match r.body with
  | .sinter _ _ => if d.followsTokens then d.correct r else d
  | .image false _ _ => if d.followsTokens then d.correct r else d
  | .image true a s =>
    if d.pair.role != .joining then d
    else if d.pair.joinPhase = 3 then d.setPair { d.pair with corrections := d.pair.corrections ++ [r] }
    else if d.pair.joinPhase < 3 then
      d.setPair { d.pair with banksCame := !d.pair.joinFull && decide (a = d.sched.active) && decide (s = d.sched.shadow) }
    else d
  | _ => if d.followsTokens then d.setPair { d.pair with corrections := d.pair.corrections ++ [r] } else d

/-- Mirrored commands, cancelled ones, records and discrepancy times of a frame. -/
def Dev.takeBody (d : Dev) (f : GFrame) : Dev :=
  let d := if d.followsTokens then
      let d := (sortBy (fun e => idAfter d.pair.cmdAck e.id) f.cmds).foldl Dev.takeMirrored d
      { d with host := { d.host with waiting := d.host.waiting.filter fun w =>
        !(w.fromTwin && (match w.mirror with | some id => f.cancels.contains id | none => false)) } }
    else d
  let d := f.recs.foldl Dev.takeRecord d
  let c := d.pair.credits
  let d := d.setPair { d.pair with credits := (c.1 + f.cmds.length, c.2 + f.recs.length) }
  match f.disc with
  | some x =>
    let d := d.setDisc x
    d.sinterPut 65 (leNat (discBlock d.pair))
  | none => d

/-- SWAP_OP on a device that follows (R75). -/
def Dev.takeSwapOp (d : Dev) (h : GHead) : Dev :=
  if !d.followsTokens then d
  else
    match h.swapOp, d.sched.swap with
    | 1, none =>
      if d.shadowGen = h.swapGen && crcOf d.sched.shadow = h.swapCrc && d.sched.shadow.isSome then
        (d.setSwap (some { order := none, expectGen := h.swapGen, target := d.mfn + 1, phase := 1 })).sendSwapOp 2 h.swapGen
          h.swapCrc
      else d
    | 3, some j => if j.phase = 1 then d.setSwap (some { j with phase := 2 }) else d
    | 4, some _ => d.setSwap none
    | _, _ => d

/-- The MFN of the FC adoption: named by the ACTIVE device for a twin in phase TIME, read by the joiner (R274). -/
def Dev.takeJoin (d : Dev) (h : GHead) : Dev :=
  if d.pair.role == .active then
    if h.role = 2 && h.joinPhase = 2 then
      match d.pair.joinAdopt with
      | some m => if m < d.mfn then d.setPair { d.pair with joinAdopt := some (d.mfn + 9) } else d
      | none => d.setPair { d.pair with joinAdopt := some (d.mfn + 9) }
    else d.setPair { d.pair with joinAdopt := none }
  else if d.pair.role == .joining && d.pair.joinPhase = 2 && h.role = 4 then
    let m := h.fc / 256
    let t := m + (h.xferMfn + 2 ^ 32 - m % 2 ^ 32) % 2 ^ 32
    d.setPair { d.pair with joinAdopt := if h.xferMfn != 0 && t < m + 2 ^ 31 && m < t then some t else none }
  else d

/-- A twin that has left the pair: a device that followed it waits (R262). -/
def Dev.takeRole (d : Dev) (h : GHead) : Dev :=
  if h.role = 0 && (d.pair.role == .standby || d.pair.role == .joining) then d.becomeWaiting
  else if h.role = 4 then d.autoJoin
  else d

/-- A valid frame. -/
def Dev.takeFrame' (d : Dev) (f : GFrame) : Dev :=
  let d := ((d.takeHead f).takeTokens f).takeBody f
  ((((d.takeSwapOp f.head).takeXfer f).takeJoin f.head).takeRole f.head).settleCopy

/-- GALULO_FRAME_RECEIVED (R264): an invalid frame is discarded whole, and the Beat runs on the device's own tokens. -/
def execGaluloFrameReceived (frame : GWire) (s : State) : Host.Outcome State Fault Refusal :=
  s.runIf (fun d => d.pair.link == 2 && d.domOn domGalulo) fun d =>
    match frame.read with
    | some f => d.takeFrame' f
    | none =>
      let d := (d.setPair { d.pair with goodFrames := 0 }).tick 0x5326 1
      if d.followsTokens then d.useOwn 0 else d

/-! ### Digests (R271, R272) -/

/-- Digest of a port, if valid: line ports 0 to 7, client ports 8 + first lane. -/
def Digests.of (g : Digests) (k : Nat) : Option Nat :=
  if k < 8 then (if bit g.lpValid k then some (g.lp.getD k 0) else none)
  else if bit g.cpValid (k - 8) then some (g.cp.getD (k - 8) 0) else none

/-- Set the agreement of one port. -/
def Dev.setAgree (d : Dev) (k : Nat) (a : PortAgree) : Dev := d.setPair { d.pair with agree := Tab.set d.pair.agree k a }

/-- A run of mismatches ends: a short one counts once in the mismatch cell. -/
def Dev.endRun (d : Dev) (a : PortAgree) : Dev := if a.badRun != 0 && a.badRun < a.disc then d.tick 0x5322 1 else d

/-- Digests of a port agree. -/
def Dev.digestAgrees (d : Dev) (k : Nat) : Dev :=
  let a : PortAgree := Tab.get {} d.pair.agree k
  let d := d.endRun a
  let a := { a with badRun := 0, goodRun := a.goodRun + 1 }
  let done := a.resync != 0 && 16 ≤ a.goodRun
  let clear := a.diverged && 256 ≤ a.goodRun
  let d := d.setAgree k { a with resync := if done then 0 else a.resync, alignAt := if done then none else a.alignAt
                                 diverged := a.diverged && !clear }
  let d := if done then d.raise 0x0907 (agreeObj k) (leBytes 4 (agreeObj k) ++ leBytes 1 0) else d
  if clear then d.raise 0x0908 (agreeObj k) (leBytes 4 (agreeObj k) ++ leBytes 1 0) else d

/-- Digests of a port disagree: at DISC_MF the STANDBY device declares divergence and starts a resync, and the ACTIVE device only
counts the run (R272; DEDUCED, log 89). -/
def Dev.digestDiffers (d : Dev) (k : Nat) : Dev :=
  let a : PortAgree := Tab.get {} d.pair.agree k
  let a := { a with badRun := a.badRun + 1, goodRun := 0, disc := if a.badRun = 0 then d.pair.discMf else a.disc }
  if a.badRun = a.disc && d.pair.role == .standby then
    let d := d.raise 0x0906 (agreeObj k) (leBytes 4 (agreeObj k))
    if a.resync != 0 then d.setAgree k a
    else (d.setAgree k { a with resync := 1, resyncStart := d.mfn }).raise 0x0907 (agreeObj k)
      (leBytes 4 (agreeObj k) ++ leBytes 1 1)
  else (if a.badRun = a.disc && d.pair.role == .active then d.tick 0x5322 1 else d).setAgree k a

/-- Digests of a port do not compare: its run ends. -/
def Dev.digestMissing (d : Dev) (k : Nat) : Dev :=
  let a : PortAgree := Tab.get {} d.pair.agree k
  if a.badRun = 0 && a.goodRun = 0 then d else (d.endRun a).setAgree k { a with badRun := 0, goodRun := 0 }

/-- Compare one port. -/
def Dev.compareDigest (d : Dev) (own twin : Digests) (k : Nat) : Dev :=
  match own.of k, twin.of k with
  | some x, some y => if x = y then d.digestAgrees k else d.digestDiffers k
  | _, _ => d.digestMissing k

/-- Both digests of the MF before are here and not compared yet. -/
def Dev.digestsDue (d : Dev) : Option (Digests × Digests) :=
  match d.pair.ownDigests, d.pair.twinDigests with
  | some a, some b =>
    if 1 ≤ d.beat && a.mfn + 1 = d.mfn && b.mfn = a.mfn % 2 ^ 32 && d.pair.comparedMfn != some a.mfn && d.pair.link = 2 then some (a, b)
    else none
  | _, _ => none

/-- DIGEST_COMPARE (R272). -/
def execDigestCompare (s : State) : Host.Outcome State Fault Refusal :=
  s.runIf (fun d => d.digestsDue.isSome) fun d =>
    match d.digestsDue with
    | none => d
    | some (a, b) =>
      let bad := (List.range 72).any fun k => match a.of k, b.of k with | some x, some y => x != y | _, _ => false
      let d := (List.range 72).foldl (fun d k => d.compareDigest a b k) d
      let p := d.pair
      d.setPair { p with comparedMfn := some a.mfn, mismatchMf := if bad then satAdd max32 p.mismatchMf 1 else p.mismatchMf
                         checkRun := if bad then 0 else p.checkRun + 1 }

/-! ### Resync (R273) -/

/-- Channels that feed a port's output. -/
def Dev.feeding (d : Dev) (k : Nat) : List Nat :=
  match d.sched.active with
  | none => []
  | some i =>
    if k < 8 then (i.ptab.filter fun x => i.slotsOn x.ch k 0).map (·.ch)
    else (i.ptab.filter fun x => x.kind != 2 && x.cp == k - 8).map (·.ch)

/-- The read position of a stage FIFO advances by `n` units. -/
def ChanPath.advance (p : ChanPath) (t : Tracker) (stage n : Nat) : ChanPath :=
  match stage with
  | 0 => { p with srv := p.srv.drop n }
  | 1 => if t.idle then { p with txBlocks := p.txBlocks.drop n } else { p with txBytes := p.txBytes.drop n }
  | _ => if t.idle then { p with rxBlocks := p.rxBlocks.drop n } else { p with rxBytes := p.rxBytes.drop n }

/-- The data path of a channel is aligned: units are dropped or withheld. -/
def Dev.alignChannel (d : Dev) (c : Nat) : Dev :=
  let d := [0, 1, 2].foldl (fun (d : Dev) k =>
    let t := (d.chan c).stage k
    let x := Tab.get 0 d.pair.fills (c * 4 + k)
    if !t.run then d
    else if 0 ≤ x then
      let n := min t.fill x.toNat
      (d.setChan c ((d.chan c).setStage k { t with fill := t.fill - n, mfDiscard := t.mfDiscard + n })).setCpath c ((d.cpath c).advance t k n)
    else d.setChan c ((d.chan c).setStage k { t with withhold := t.withhold + (-x).toNat })) d
  d.setPair { d.pair with fills := [0, 1, 2].foldl (fun t k => Tab.drop t (c * 4 + k)) d.pair.fills }

/-- The device owns a port. -/
def Dev.ownsPort (d : Dev) (k : Nat) : Bool := if k < 8 then bit d.pair.ownLp k else bit d.pair.ownCp (k - 8)

/-- RESYNC_ALIGN (R273): `port` is a line port, or 8 + the first lane of a client port. -/
def execResyncAlign (port : Nat) (s : State) : Host.Outcome State Fault Refusal :=
  s.runIf (fun d => port < 72 && d.beat == 0 &&
      (match (Tab.get {} d.pair.agree port : PortAgree).alignAt with | some m => m ≤ d.mfn | none => false)) fun d =>
    let d := if d.ownsPort port then d else (d.feeding port).foldl Dev.alignChannel d
    d.setAgree port { (Tab.get {} d.pair.agree port : PortAgree) with alignAt := none }

/-- RESYNC_TIMEOUT (R273): no agreement within 256 MF after the records were taken. -/
def execResyncTimeout (port : Nat) (s : State) : Host.Outcome State Fault Refusal :=
  s.runIf (fun d => port < 72 &&
      (let a : PortAgree := Tab.get {} d.pair.agree port
       a.resync == 2 && a.resyncStart + 256 ≤ d.mfn)) fun d =>
    let a : PortAgree := Tab.get {} d.pair.agree port
    (d.setAgree port { a with resync := 0, alignAt := none, diverged := true }).raise 0x0908 (agreeObj port)
      (leBytes 4 (agreeObj port) ++ leBytes 1 1)

/-! ### FC adoption (R35) -/

/-- A point of Line Time moved with FC. -/
def shiftFc (by_ : Int) (fc : Nat) : Nat := ((fc : Int) + by_).toNat
def shiftMfn (by_ : Int) (mfn : Nat) : Nat := ((mfn : Int) + by_ / 256).toNat

/-- A tracker that counts its periods from its start. -/
def Tracker.shift (t : Tracker) (by_ : Int) (server : Bool) : Tracker :=
  { t with origin := if server then t.origin else shiftFc by_ t.origin, first := shiftFc by_ t.first
           ranFc := t.ranFc.map (shiftFc by_) }

def Maint.shift (m : Maint) (by_ : Int) : Maint := { m with expiry := m.expiry.map (shiftMfn by_) }

def Channel.shift (c : Channel) (by_ : Int) : Channel :=
  { c with startFc := shiftFc by_ c.startFc, maintTx := c.maintTx.shift by_, maintRx := c.maintRx.shift by_
           txServer := c.txServer.shift by_ true, txClient := c.txClient.shift by_ false
           rxDecided := c.rxDecided.shift by_ false }

def StepChange.shift (c : StepChange) (by_ : Int) : StepChange := { c with start := shiftMfn by_ c.start }

def Ladder.shift (l : Ladder) (by_ : Int) : Ladder :=
  { l with
    announce := l.announce.map fun a => { a with start := shiftMfn by_ a.start }
    pendingChange := l.pendingChange.map (·.shift by_), waitingChange := l.waitingChange.map (·.shift by_)
    lastTxMfn := l.lastTxMfn.map (shiftMfn by_), lastRxMfn := l.lastRxMfn.map (shiftMfn by_), reqStart := shiftFc by_ l.reqStart
    cmdTaken := l.cmdTaken.map fun t => (shiftFc by_ t.1, t.2), rxMfFc := shiftFc by_ l.rxMfFc }

/-- An arrival, in byte positions since FC 0, moved with FC. -/
def shiftPos (by_ : Int) (t : Nat) : Nat := shiftFc (by_ * 15_296) t

def LinePort.shift (x : LinePort) (by_ : Int) : LinePort :=
  { x with ladder := x.ladder.shift by_, flexo := x.flexo.map fun e => (e.1, { e.2 with start := shiftPos by_ e.2.start }) }

def LevelState.shift (x : LevelState) (by_ : Int) : LevelState :=
  { x with fresh := x.fresh.map fun e => (shiftFc by_ e.1, e.2) }

def DeskewBuf.shift (x : DeskewBuf) (by_ : Int) : DeskewBuf :=
  { x with
    cells := x.cells.map fun e => (e.1, e.2.map fun c => (c.1, shiftPos by_ c.2))
    held := x.held.map fun w => { w with arrived := shiftPos by_ w.arrived }
    start := shiftPos by_ x.start, sig := x.sig.map fun s => (s.1, shiftPos by_ s.2) }

def Spread.shift (x : Spread) (by_ : Int) : Spread :=
  { x with members := x.members.map fun m =>
      { m with arrT := shiftPos by_ m.arrT, history := m.history.map fun h => (shiftPos by_ h.1, h.2) } }

def Aligned.shift (a : Aligned) (by_ : Int) : Aligned :=
  { a with filledFc := shiftFc by_ a.filledFc, wSigs := a.wSigs.map fun s => (s.1, shiftPos by_ s.2)
           pSigs := a.pSigs.map fun s => (s.1, shiftPos by_ s.2) }

def PortAgree.shift (a : PortAgree) (by_ : Int) : PortAgree :=
  { a with resyncStart := shiftMfn by_ a.resyncStart, alignAt := a.alignAt.map (shiftMfn by_) }

/-- Timers and intervals that are held as points of Line Time keep their length. -/
def Dev.shiftTimers (d : Dev) (b : Int) : Dev :=
  { d with
    chans := d.chans.map fun e => (e.1, e.2.shift b)
    ports := d.ports.map fun e => (e.1, e.2.shift b)
    odu := d.odu.map fun e => (e.1, { e.2 with levels := e.2.levels.map fun x => (x.1, x.2.shift b) })
    groups := d.groups.map fun e => (e.1, e.2.shift b)
    pgs := d.pgs.map fun e => (e.1, { e.2 with align := e.2.align.shift b })
    path := { d.path with deskew := d.path.deskew.map fun e => (e.1, e.2.shift b) }
    tokens := d.tokens.map fun t => { t with stamp := shiftFc b t.stamp }
    evalFc := d.evalFc.map (shiftFc b)
    anchor := { d.anchor with stepAt := d.anchor.stepAt.map (shiftFc b) }
    sched := { d.sched with swap := d.sched.swap.map fun j => { j with target := shiftMfn b j.target } }
    pps := { d.pps with lastFc := shiftFc b d.pps.lastFc, pmsMfn := shiftMfn b d.pps.pmsMfn }
    host := { d.host with waiting := d.host.waiting.map fun w => { w with effectFc := shiftFc b w.effectFc } }
    pwr := { d.pwr with
      domains := d.pwr.domains.map fun e => (e.1, { e.2 with risingMfn := shiftMfn b e.2.risingMfn })
      risingMfn := shiftMfn b d.pwr.risingMfn, autoOffAt := d.pwr.autoOffAt.map (shiftMfn b)
      dormant := d.pwr.dormant.map fun t => (shiftMfn b t.1, t.2)
      activation := d.pwr.activation.map fun a => { a with target := shiftMfn b a.target, pauseFc := a.pauseFc.map (shiftFc b) }
      trial := d.pwr.trial.map fun t => (shiftMfn b t.1, t.2) }
    svc := { d.svc with lock := { d.svc.lock with
      nonceMfn := shiftMfn b d.svc.lock.nonceMfn, backoffEnd := d.svc.lock.backoffEnd.map (shiftMfn b)
      session := d.svc.lock.session.map (shiftMfn b) } }
    pair := { d.pair with
      waitStart := shiftMfn b d.pair.waitStart, twinActiveMfn := shiftMfn b d.pair.twinActiveMfn
      joinStart := shiftMfn b d.pair.joinStart, rxFc := shiftFc b d.pair.rxFc, snaps := [], corrections := []
      agree := d.pair.agree.map fun e => (e.1, e.2.shift b)
      handover := d.pair.handover.map fun h => { h with target := shiftMfn b h.target }
      ownDigests := none, comparedMfn := none } }

/-- FC of the ACTIVE twin in this Beat. -/
def Dev.twinNow (d : Dev) : Nat := d.pair.twinFc + (d.fc - d.pair.rxFc)

/-- A waiting timed command is withdrawn with what it started (R35): its swap, activation or move. -/
def Dev.withdraw (d : Dev) (w : Waiting) : Dev :=
  { d with
    sched := if w.cmd.opcode = 0x0203 then { d.sched with swap := none } else d.sched
    pwr := if w.cmd.opcode = 0x0011 || w.cmd.opcode = 0x0012 then { d.pwr with activation := none } else d.pwr
    pair := if w.cmd.opcode = 0x0904 || w.cmd.opcode = 0x0905 then { d.pair with handover := none } else d.pair }.finish
      w stCancelled []

/-- The adoption of the active's FC. -/
def Dev.adoptFc (d : Dev) (m : Nat) : Dev :=
  let old := d.fc
  let d := (d.shiftTimers ((fcOf m : Int) - old))
  let d := { d with fc := fcOf m, pair := { d.pair with adopted := true } }
  let d := d.timedWaiting.foldl Dev.withdraw d
  (d.raise 0x010B 0 (leBytes 8 old)).nextEpoch

/-- FC_ADOPTION (R35, R274): Beat 0 of the MF that the ACTIVE twin named. -/
def execFcAdoption (s : State) : Host.Outcome State Fault Refusal :=
  s.runIf (fun d => d.pair.role == .joining && d.pair.joinPhase == 2 && !d.pair.adopted && d.beat == 0 &&
      d.anchor.inUse == 2 && d.anchor.mode == .locked &&
      (match d.pair.joinAdopt with | some m => d.twinNow == fcOf m | none => false)) fun d =>
    match d.pair.joinAdopt with
    | some m => d.adoptFc m
    | none => d

/-! ### The join (R274) -/

/-- The current phase is complete. -/
def Dev.phaseDone (d : Dev) : Bool :=
  let p := d.pair
  match p.joinPhase with
  | 1 => p.link == 2 && 64 ≤ p.goodFrames && p.rxHead.isSome
  | 2 => p.adopted
  | 3 => p.banksCame
  | 4 => p.copied
  | 5 => p.agree.all (fun a => a.2.alignAt.isNone) &&
      (match d.sched.active with | some i => i.sgmap.all fun g => (d.group g.sg).mode == .up | none => true)
  | 6 => 16 ≤ p.checkRun
  | _ => false

/-- Phase ALIGN begins: every channel's data path is aligned at the second MF after the copy cycle. -/
def Dev.beginAlign (d : Dev) : Dev :=
  let ports := (List.range 8).filter d.lit ++
    (match d.sched.active with | some i => i.clientPorts.map (8 + ·) | none => [])
  ports.foldl (fun d k => d.setAgree k { alignAt := some (d.mfn + 1) }) d

/-- The next phase begins (IMAGE is skipped where a join without FULL has found both banks to match), or the joiner becomes
STANDBY. -/
def Dev.nextPhase (d : Dev) : Dev :=
  let ph := d.pair.joinPhase
  let d := d.raise 0x090D 0 (leBytes 1 ph ++ leBytes 1 0)
  if ph = 6 then
    let d := d.setRole .standby
    let d := d.setPair { d.pair with
      joinPhase := 0, mismatchMf := 0, tokenMismatch := 0, tokenOwn := 0, correctionsN := 0 }
    if d.sinter.read 66 = Config.twinUnitId.toNat then d else d.sinterPut 66 Config.twinUnitId.toNat
  else
    let next := if ph = 2 && d.pair.banksCame then 4 else ph + 1
    let d := d.setPair { d.pair with joinPhase := next, joinStart := d.mfn, checkRun := 0 }
    if ph = 1 then { d with anchor := { d.anchor with source := 2, seen := false } }.acquire 2
    else if ph = 4 then d.beginAlign
    else d

/-- JOIN_PHASE_COMPLETE (R274). -/
def execJoinPhaseComplete (s : State) : Host.Outcome State Fault Refusal :=
  s.runIf (fun d => d.pair.role == .joining && d.phaseDone) Dev.nextPhase

/-- JOIN_PHASE_TIMEOUT (R274): 4,096 MF have passed. -/
def execJoinPhaseTimeout (s : State) : Host.Outcome State Fault Refusal :=
  s.runIf (fun d => d.pair.role == .joining && d.pair.joinStart + 4_096 ≤ d.mfn) fun d =>
    let d := d.raise 0x090D 0 (leBytes 1 d.pair.joinPhase ++ leBytes 1 1)
    let d := d.becomeWaiting
    d.setPair { d.pair with joinRetry := some (d.mfn + 1_024) }

/-- JOIN_RETRY (R274). -/
def execJoinRetry (s : State) : Host.Outcome State Fault Refusal :=
  s.runIf (fun d => d.pair.role == .waiting && (match d.pair.joinRetry with | some m => m ≤ d.mfn | none => false)) fun d =>
    (d.setPair { d.pair with joinRetry := none }).autoJoin

end Sys2Proof.Machine
end

