-- ==== Sys2Proof/Machine/Beat.lean ====
section
/-! DEFINITION. The Beat boundary: what the Beat that ends has done, the close of a multiframe, and what the Beat that
begins takes up (R19 to R27, R34, R46, R264, R386). -/

namespace Sys2Proof.Machine

open Sys2Proof

/-! ### What the Beat that ends counted (R97, R381, R384) -/

/-- FlexO FEC counts of one instance (R97). -/
def Dev.fecBeat (d : Dev) (x : FecCount) : Dev :=
  if x.port < 8 && (d.port x.port).enabled && 1 ≤ x.inst && x.inst ≤ d.portN x.port then
    let c := lineCell x.port + 8 * (x.inst - 1)
    ((d.tick c x.symbols).tick (c + 2) x.codewords).tick (c + 4) x.uncorrectable
  else d

/-- Uncorrectable codewords of a port in the Beat: the window of SG_FEC (R99) and the sum of the MF (R101). -/
def Dev.fecPort (d : Dev) (l : List FecCount) (p : Nat) : Dev :=
  let x := d.port p
  if x.enabled then
    let n := sum ((l.filter fun f => f.port == p && 1 ≤ f.inst && f.inst ≤ d.portN p).map (·.uncorrectable))
    let x := { x with fecWindow := (n :: x.fecWindow).take 8, ucwMf := x.ucwMf + n }
    d.setPort p { x with fecBelow := if x.fecCount < x.attr.sgfecThr then min 8 (x.fecBelow + 1) else 0 }
  else d

/-- Beats with a switch-grade indication (R381). -/
def Dev.sgBeat (d : Dev) (p : Nat) : Dev :=
  let x := d.port p
  if x.enabled then
    [0, 1, 2, 3].foldl (fun d k => d.tick (lineCell p + 128 + k) (b2n (bit x.sgBits k))) d
  else d

/-- Beats with a maintenance signal in a flow (R381). -/
def Dev.maintBeat (d : Dev) (x : Desc) : Dev :=
  (d.tick (chanCell x.ch + 12) (b2n (d.maintInForce x 0 != 0))).tick (chanCell x.ch + 29) (b2n (d.maintInForce x 1 != 0))

/-- Beats in which an input has failed and the replacement signal is fed (R158, R381). -/
def Dev.inputBeat (d : Dev) (k : Nat) : Dev := d.tick (clientCell k + 5) (b2n (d.inputFailed k))

/-- Cells whose events no other operand carries: memories, PCS blocks and codewords. -/
def outsideCell (c : Nat) : Bool :=
  (0x4200 ≤ c && c < 0x4400 && c % 16 < 3 &&
    (let i := (c - 0x4200) / 16
     (i < 3 || (4 ≤ i && i ≤ 28)) && !(20 ≤ i && i < 28 && c % 16 == 0) && !(i == 1 && c % 16 == 1))) ||
  (0x2800 ≤ c && c < 0x3000 && [0, 2, 4, 6].contains (c % 32))

/-- Cells of a list that may be counted from outside; the uncorrectable words of the HBM stack among them are those of the MF
(R193, R384). -/
def Dev.cellBeat (d : Dev) (l : List (Nat × Nat)) : Dev :=
  let n := sum ((l.filter fun x => x.1 == 0x4221).map (·.2))
  (l.filter fun x => outsideCell x.1).foldl (fun d x => d.tick x.1 x.2)
    { d with cald := { d.cald with hbmWords := d.cald.hbmWords + n } }

/-- Cells that a buffer holds. -/
def DeskewBuf.occupancy (b : DeskewBuf) : Nat :=
  sum (b.cells.map fun e => (e.2.filter (·.1.isCell)).length) + sum (b.held.map HeldWord.cells)

/-- The difference of a stream's books: the cells received and not yet released, less those its buffer holds, with what a
hardware fault has made of them (R194). -/
def Dev.booksOff (d : Dev) (fault : List (Nat × Nat × Nat)) (s : Stream) : Nat :=
  let b := d.stream s.owner s.index
  let got := b.cellsIn - b.cellsOut
  (if got < b.occupancy then b.occupancy - got else got - b.occupancy) +
    sum ((fault.filter fun x => x.1 == s.owner && x.2.1 == s.index).map (·.2.2))

/-- A ready stream checks its books, within one cell per slot: where they fail the group realigns, a protection group leaves
aligned mode (R194). -/
def Dev.checkBooks (d : Dev) (fault : List (Nat × Nat × Nat)) (s : Stream) : Dev :=
  let g := objIndex s.owner
  let n := d.booksOff fault s
  if n ≤ s.slots.length then d
  else
    let report := fun (d : Dev) => d.raise 0x060A s.owner (leBytes 4 s.owner ++ leBytes 1 s.index ++ leBytes 4 n)
    if s.spread then (if (d.group g).mode == .up then (report d).realign g s.index 9 else d)
    else if (d.pg g).align.aligned then (report d).unalign g 5 else d

/-- Every deskew stream checks its books (R194). -/
def Dev.booksCheck (d : Dev) (fault : List (Nat × Nat × Nat)) : Dev :=
  (List.range 8).foldl (fun d p => match d.rxImage p with
    | some i => (i.streams p).foldl (fun d s => d.checkBooks fault s) d
    | none => d) d

/-- Everything the Beat that ends brought, and the samples of the evaluators at its end (R19, R100, R212, R239). -/
def Dev.endBeat (d : Dev) (i : BeatInput) : Dev :=
  let ports := (List.range 8).filter d.lit
  let chans := match d.sched.active with | some x => x.ptab | none => []
  let clients := match d.sched.active with | some x => x.clientPorts | none => []
  let d := i.poison.foldl (fun d x => d.poisonFifo x.1 x.2.1 x.2.2) (d.farPoison (i.farPoison.filter fun x => objType x.1 == 6))
  let d := (d.prbsBeat i).fumBeat i
  let d := (List.range 8).foldl (fun d p => d.seeLine i.lines p) (d.seeGalulo i.galulo)
  let d := (d.dataBeat i).placeBeat
  let d := i.fec.foldl Dev.fecBeat d
  let d := ports.foldl (fun d p => (d.fecPort i.fec p).sgBeat p) d
  let d := (d.pmFrames i.blocks).cellBeat i.cells
  let d := chans.foldl Dev.maintBeat d
  let d := clients.foldl Dev.inputBeat d
  let d := d.voidBeat.slotBeat.pmDefects
  let d := d.sampleLayers.samplePgs.countPgs
  let d := if i.hubFault then d.setPair { d.pair with hubFault := true } else d
  if d.followsTokens then d.useOwn 1 else d

/-! ### The end of a multiframe (R46, R162, R194, R387) -/

/-- The anchor at the end of an MF (R37, R40). -/
def Anchor.closeMf (a : Anchor) : Anchor :=
  { a with missedMf := if a.gotThisMf then 0 else a.missedMf + 1, gotThisMf := false
           holdoverMf := if a.mode == .holdover then satAdd max32 a.holdoverMf 1 else a.holdoverMf }

/-- A port at the end of an MF: the sum of FE_UCW, and an LCC that is sent again (R101, R105). -/
def Dev.closePort (d : Dev) (p : Nat) : Dev :=
  let x := (d.port p).resumeLcc
  d.setPort p { x with ucwLast := x.ucwMf, ucwMf := 0 }

/-- A group whose paths have no unique match counts the MF (R196). -/
def Dev.closeMatch (d : Dev) (r : PgRec) : Dev :=
  let a := (d.pg r.pg).align
  if r.aligned then d.setAlign r.pg { a with noMatchMf := a.noMatchMf + 1 } else d

/-- Cut-offs and uncorrectable words of the MF (R193, R199). -/
def Caldera.closeMf (c : Caldera) : Caldera :=
  { c with
    reqs := c.reqs.map fun r : Nat × Requester => (r.1, { r.2 with cutoffsLast := r.2.cutoffs, cutoffs := 0 })
    hbmWords := 0, hbmRun := if 1 < c.hbmWords then c.hbmRun + 1 else 0 }

/-- The MF that ends is closed. -/
def Dev.endMf (d : Dev) (i : BeatInput) : Dev :=
  let groups := match d.sched.active with | some x => x.pgs | none => []
  let d := { d with log := d.log.closeMf }
  let d := d.engines.foldl (fun d x => d.closeChannel x.ch i.gmp) d
  let d := ((d.slotCheck i.slotFault).creditCheck i.credits).booksCheck i.books
  let d := ((List.range 8).filter d.lit).foldl Dev.closePort d
  let d := groups.foldl Dev.closeMatch d
  let d := d.takeDigests.latchCells
  { d with
    anchor := d.anchor.closeMf
    pps := { d.pps with pmsAge := d.pps.pmsAge + 1 }
    host := { d.host with missSeen := [] }
    pair := { d.pair with swapOp := 0 }
    cald := d.cald.closeMf }

/-! ### Tokens of the Beat that begins (R20, R21, R267) -/

/-- TYPE of a missed token. -/
def MissedToken.type (m : MissedToken) : Nat := if m.key < 0x1000 then m.key / 256 else m.key / 4096

/-- Destination that misses it: an engine, or 256 + die. -/
def MissedToken.dest (m : MissedToken) : Nat := if m.ch < 256 then m.ch else 256 + m.die

/-- Die of the destination. -/
def MissedToken.at (m : MissedToken) : Nat := if m.ch < 256 then m.ch / 64 else m.die

/-- Cell that counts the miss (R381, R384). -/
def MissedToken.cell (m : MissedToken) : Nat :=
  if m.ch < 256 then chanCell m.ch + 11 else if m.die < 4 then 0x53C0 + 16 * m.die + 4 else 0x5362

/-- The miss is one of the destination that applies token `t`; at any other die it is only counted (R21, R266). -/
def MissedToken.hits (m : MissedToken) (t : Token) : Bool :=
  m.key == t.key && m.at == t.die && (256 ≤ m.ch || m.ch == t.ch || 5 < t.word / 2 ^ 60)

/-- A ladder token missed a port's data path, which stays at its step for the Beat (R21). -/
def Dev.holdStep (d : Dev) (m : MissedToken) : Dev :=
  if m.type = 10 && m.at == m.key % 8 / 2 then let p := m.key % 8; d.setLadder p { d.ladder p with tokenMissed := true } else d

/-- A token missed its destination (R21): counted, and reported once per destination in an MF. -/
def Dev.noteMissed (d : Dev) (m : MissedToken) : Dev :=
  let d := (d.holdStep m).tick m.cell 1
  if d.host.missSeen.contains m.dest then d
  else
    { d with host := { d.host with missSeen := m.dest :: d.host.missSeen } }.raise 0x1007 (objDie m.at)
      (leBytes 1 m.at ++ leBytes 1 m.type ++ leBytes 2 d.fc)

/-- Tokens as their destinations take them: in place of a missed one the previous decision stands (R21). -/
def Dev.arrived (d : Dev) (missed : List MissedToken) (l : List Token) : List Token :=
  l.filterMap fun t =>
    if missed.any fun m => m.hits t then
      if t.word / 2 ^ 60 ≤ 5 then
        some { t with word := t.word - t.value + ((d.chan t.ch).stage (stageOfType (t.word / 2 ^ 60))).nextCm }
      else none
    else some t

/-- The tokens stamped for the Beat that begins take effect. -/
def Dev.beginTokens (d : Dev) (missed : List MissedToken) : Dev :=
  let own := d.tokens.filter fun t => t.stamp ≤ d.fc
  let recv := if d.followsTokens then d.pair.rxTokens else []
  let l := if d.followsTokens then recv else own
  let m := missed.filter fun m => (m.ch < 256 || m.die < 5) && (m.type == 10 || l.any fun t => t.key == m.key)
  let d := m.foldl Dev.noteMissed (d.setPair { d.pair with rxTokens := [] })
  if d.followsTokens then
    if !recv.isEmpty then d.useReceived (d.arrived m recv)
    else if d.pair.link != 2 then d.useOwn 1 else d
  else (d.applyTokens (d.arrived m own) false).dropTokens

/-! ### The Beat that begins -/

/-- A line port at the start of a Beat: LPx_STEP sampled (R108), LPx_STEP_ACK driven (R111), IAE frames (R98). -/
def Dev.beginPort (d : Dev) (stepPins p : Nat) : Dev :=
  let x := d.port p
  d.setPort p { x with
    iaeLeft := x.iaeLeft - 1
    stepAck := x.ladder.ackPin d.mfn d.beat
    ladder := { x.ladder with pinRun := if bit stepPins p then x.ladder.pinRun + 1 else 0, tokenMissed := false } }

/-- AUTO_OFF at Beat 0 of its MF (R417). -/
def Dev.autoSwitchOff (d : Dev) : Dev :=
  match d.pwr.autoOffAt with
  | some m =>
    if m ≤ d.mfn then d.autoOffDomains.foldl Dev.switchOff { d with pwr := { d.pwr with autoOffAt := none } } else d
  | none => d

/-- A requester is barred for the rest of its Beat only (R199). -/
def Caldera.unbar (c : Caldera) : Caldera :=
  { c with reqs := c.reqs.map fun r : Nat × Requester => (r.1, { r.2 with barred := false }) }

/-- The new Beat begins. -/
def Dev.beginBeat (d : Dev) (i : BeatInput) : Dev :=
  let d := d.nextRole
  let d := { d with
    pps := { d.pps with since := d.pps.since + 1 }
    host := { d.host with sentThisBeat := 0 }
    pair := { d.pair with noFrame := d.pair.noFrame + 1 }
    cald := d.cald.unbar }
  let d := ((List.range 8).filter d.lit).foldl (fun d p => d.beginPort i.stepPins p) d
  let d := d.beginTokens i.missed
  let d := (List.range 8).foldl Dev.driveLanes d.autoSwitchOff
  d.actAll.settleOwned.pairOutputs.settleCopy

/-- FC moves to `fc`: the Beat ends, the MF with it at Beat 0, and the new Beat begins (R34, R38, R46). -/
def Dev.enterBeat (d : Dev) (fc : Nat) (i : BeatInput) : Dev :=
  let newMf := fc % 256 = 0
  let d := d.endBeat i
  let d := if newMf then d.endMf i else d
  let epoch := fc / 2 ^ 48 != d.fc / 2 ^ 48
  let d := { d with fc := fc }
  let d := if epoch then d.nextEpoch else d
  let d := if newMf then d.copyCycle.xstbyAct else d
  { d.beginBeat i with fc := fc }

/-- Some reference clock works: without one no Beat exists (R26). -/
def Dev.clocked (d : Dev) : Bool := d.pwr.refA || d.pwr.refB

end Sys2Proof.Machine
end

