-- ==== Sys2Proof/Machine/Time.lean ====
section
/-! DEFINITION. The anchor timing unit, PPS, and the TIME_* commands (R36 to R54). -/

namespace Sys2Proof.Machine

open Sys2Proof

/-! ### The anchor (R36 to R40) -/

/-- A phase as a signed number of byte positions, −128 to +127 Beats (R36). -/
def wrapPhase (x : Int) : Int := (x + 1_957_888) % 3_915_776 - 1_957_888

/-- Within ±64 byte positions (R37). -/
def nearPhase (x : Int) : Bool := -64 ≤ x && x ≤ 64

/-- Byte positions from the signal of a source to the boundary it marks (R36): ANCHOR_OFFSET after a FRAME_ANCHOR pulse,
the one-way latency before the arrival of the twin's boundary. -/
def Dev.anchorShift (d : Dev) (source : Nat) : Int :=
  if source = 0 then d.anchor.offset else if source = 2 then -(d.pair.oneWay : Int) else 0

/-- Phase error of a reference boundary at byte position `pos` of this Beat (R36): positive when it lies later. -/
def Dev.phaseError (d : Dev) (source pos : Nat) : Int :=
  wrapPhase ((d.beat * 15_296 + pos : Nat) + d.anchorShift source)

/-- The anchor enters LOCKED. -/
def Dev.lockAnchor (d : Dev) : Dev :=
  { d with anchor := { d.anchor with mode := .locked, offPhase := 0 } }.raise 0x0101 0 []

/-- Acquisition ends off phase with a line port enabled: SLEW (R39). -/
def Dev.slewAnchor (d : Dev) : Dev :=
  { d with anchor := { d.anchor with mode := .slew, stepAt := none } }.raise 0x0105 0 (leBytes 4 (unsigned 4 d.anchor.phaseErr))

/-- The anchor steps in this Beat (R38): the MF in progress ends, and FC jumps to the next multiple of 256. -/
def Dev.stepAnchor (d : Dev) (i : BeatInput) : Dev :=
  let next := fcOf (d.mfn + 1)
  let skipped := next - d.fc - 1
  let d := ({ d with anchor := { d.anchor with stepAt := none } }.enterBeat next i).raise 0x0104 0 (leBytes 4 skipped)
  { d with anchor := { d.anchor with phaseErr := 0 } }.lockAnchor

/-- Some line port is enabled, so that the anchor may not step (R38). -/
def Dev.anyEnabled (d : Dev) : Bool := d.ports.any fun p => p.2.enabled

/-- FC of the Beat in which the boundary falls that a signal at byte position `pos` of this Beat marks: at the signal or
within the MF after it (R36, R38). -/
def Dev.boundaryBeat (d : Dev) (source pos : Nat) : Nat :=
  d.fc + (pos + (d.anchorShift source % 3_915_776).toNat) / 15_296

/-- BEAT_BOUNDARY (R34): FC moves by 1, or the anchor steps where its boundary fell in the Beat that ends (R38). -/
def execBeatBoundary (i : BeatInput) (s : State) : Host.Outcome State Fault Refusal :=
  s.runIf Dev.clocked fun d =>
    if d.anchor.stepAt = some d.fc then
      if d.anyEnabled then (d.enterBeat (d.fc + 1) i).slewAnchor else d.stepAnchor i
    else d.enterBeat (d.fc + 1) i

/-- Acquisition ends: on phase LOCKED, else a step with no line port enabled, else SLEW (R37 to R39). A boundary that
ANCHOR_OFFSET or the link latency puts into a later Beat is stepped to when that Beat ends. -/
def Dev.endAcquire (d : Dev) (source pos : Nat) : Dev :=
  if nearPhase d.anchor.phaseErr then d.lockAnchor
  else if d.anyEnabled then d.slewAnchor
  else if d.boundaryBeat source pos = d.fc then d.stepAnchor {}
  else { d with anchor := { d.anchor with stepAt := some (d.boundaryBeat source pos) } }

/-- A boundary of the source in use, or of the selected source in HOLDOVER (R37). Only in LOCKED is a boundary that is off
phase or not consistent counted and reported (DESIGN CHOICE: R37 speaks of LOCKED, log 75). -/
def Dev.boundary (d : Dev) (source pos : Nat) : Dev :=
  let a := d.anchor
  let e := d.phaseError source pos
  let same := !a.seen || nearPhase (wrapPhase (e - a.phaseErr))
  let run := if same then a.consistent + 1 else 1
  let d := { d with anchor :=
    { a with phaseErr := e, seen := true, gotThisMf := a.gotThisMf || same, consistent := run } }
  match a.mode with
  | .free => d
  | .acquire => if 3 ≤ run then { d with anchor := { d.anchor with consistent := 0 } }.endAcquire source pos else d
  | .slew => if nearPhase e then d.lockAnchor else d
  | .locked =>
    let off := if same && !nearPhase e then a.offPhase + 1 else 0
    let d := { d with anchor := { d.anchor with offPhase := off } }
    let d := if same && nearPhase e then d else (d.tick 0x5360 1).raise 0x0108 0 []
    if 3 ≤ off then d.acquire d.anchor.inUse else d
  | .holdover => if 3 ≤ run then { d with anchor := { d.anchor with inUse := a.source } }.acquire a.source else d

/-- ANCHOR_REFERENCE_BOUNDARY (R37): from the source in use; FRAME_ANCHOR that returns while TWIN serves by failover
takes the anchor back to EXTERNAL (R40). -/
def execAnchorReferenceBoundary (source pos : Nat) (s : State) : Host.Outcome State Fault Refusal :=
  s.runIf (fun _ => (source = 0 || source = 2) && pos < 15_296) fun d =>
    let a := d.anchor
    if a.inUse = source || (a.mode == .holdover && a.source = source) then d.boundary source pos
    else if source = 0 && a.source = 0 && a.inUse = 2 then
      let d := d.acquire 0
      { d with anchor := { d.anchor with seen := false } }.boundary 0 pos
    else d

/-- The twin reports its anchor LOCKED (R40, R265). -/
def Dev.twinLocked (d : Dev) : Bool :=
  d.pair.link == 2 && (match d.pair.rxHead with | some h => bit h.health 5 | none => false)

/-- ANCHOR_REFERENCE_LOST (R40): LOSS_MF consecutive MF without a consistent boundary. -/
def execAnchorReferenceLost (s : State) : Host.Outcome State Fault Refusal :=
  s.runIf (fun d => (d.anchor.mode == .acquire || d.anchor.mode == .slew || d.anchor.mode == .locked) &&
      d.anchor.lossMf ≤ d.anchor.missedMf) fun d =>
    let d := d.raise 0x0102 0 []
    if d.anchor.inUse = 0 && d.anchor.failover && d.twinLocked then
      let d := d.acquire 2
      { d with anchor := { d.anchor with seen := false } }
    else d.holdover

/-! ### PPS (R43) -/

/-- An edge is accepted: it is the new reference for the next (R43, R44). -/
def Dev.acceptPps (d : Dev) (pos : Nat) : Dev :=
  let p := d.pps
  let d := { d with pps :=
    { p with lastFc := d.fc, lastByte := pos, since := 0, accepted := p.accepted + 1, missed := 0 } }
  match p.state with
  | .valid => { d with pps := { d.pps with edgeWaits := true } }
  | _ =>
    if p.accepted = 0 then d
    else { d with pps := { d.pps with state := .valid, edgeWaits := 1680 ≤ p.pmsAge + 1 } }.raise 0x0107 0 []

/-- Whether an edge at byte position `pos` falls in the window after the last accepted edge. -/
def Dev.ppsInWindow (d : Dev) (pos : Nat) : Bool :=
  let p := d.pps
  let dist := p.since * 15_296 + pos
  (3360 - p.windowMf) * 3_915_776 + p.lastByte ≤ dist && dist ≤ (3361 + p.windowMf) * 3_915_776 + p.lastByte

/-- PPS_EDGE (R43): an edge outside the window is discarded and counted; while PPS is not valid the next edge is then
a first one. -/
def execPpsEdge (rising : Bool) (pos : Nat) (s : State) : Host.Outcome State Fault Refusal :=
  s.runIf (fun d => pos < 15_296 && ((d.pps.mode = 1 && rising) || (d.pps.mode = 2 && !rising))) fun d =>
    if (d.pps.state != .valid && d.pps.accepted = 0) || d.ppsInWindow pos then d.acceptPps pos
    else
      let d := d.tick 0x5361 1
      if d.pps.state == .valid then d else { d with pps := { d.pps with accepted := 0 } }

/-- PPS_LOST (R43): the PPS_LOSS-th expected edge in a row is missing or was discarded. -/
def execPpsLost (s : State) : Host.Outcome State Fault Refusal :=
  s.runIf (fun d => d.pps.state == .valid &&
      (3361 * d.pps.lossN + d.pps.windowMf) * 256 < d.pps.since) fun d =>
    { d with pps := { d.pps with state := .lost, accepted := 0, missed := d.pps.lossN } }.raise 0x0106 0 []

/-! ### TIME_ANCHOR_SET (R50) -/

/-- The attributes that a TIME_ANCHOR_SET writes. -/
def anchorOf (a : Anchor) (c : Cmd) : Anchor :=
  { a with source := fallback 2 0 (c.field 0 1), failover := bit (c.field 1 1) 0, lossMf := clamp 2 16 (c.field 2 2)
           offset := clampI (-1_957_888) 1_957_887 (signed 4 (c.field 4 4)) }

/-- A change of SOURCE or ANCHOR_OFFSET restarts acquisition (R50). -/
def Dev.restartAnchor (d : Dev) : Dev :=
  if d.anchor.source = 1 then
    let d := d.useSource 1
    { d with anchor := { d.anchor with mode := .free, consistent := 0, seen := false, missedMf := 0, holdoverMf := 0, stepAt := none } }
  else
    let d := d.acquire d.anchor.source
    { d with anchor := { d.anchor with seen := false } }

/-- Effect of TIME_ANCHOR_SET. -/
def applyTimeAnchorSet (d : Dev) (c : Cmd) : Applied :=
  let a := anchorOf d.anchor c
  let e := { d with anchor := a }
  okWith (if a.source != d.anchor.source || a.offset != d.anchor.offset then e.restartAnchor else e)

/-- Parameter block of TIME_ANCHOR_SET. -/
def anchorBlock (a : Anchor) : List Byte :=
  leBytes 1 a.source ++ leBytes 1 (b2n a.failover) ++ leBytes 2 a.lossMf ++ leBytes 4 (unsigned 4 a.offset) ++ zeros 8

/-- TIME_ANCHOR_SET (R50). -/
def execTimeAnchorSet (core : Nat) (s : State) : Host.Outcome State Fault Refusal :=
  s.run fun d => d.serveChange core 0x0101 fun _ _ => none

/-! ### TIME_READ (R51) -/

/-- Code of a PPS state (R51). -/
def PpsMode.code : PpsMode → Nat
  | .disabled => 0 | .acquiring => 1 | .valid => 2 | .lost => 3

/-- TIME_READ's response (R51). -/
def timeRead (d : Dev) (c : Cmd) : Nat × List Byte :=
  if objType c.object = 0 then
    let a := d.anchor
    let p := d.pps
    (stOk, leBytes 8 d.fc ++ leBytes 1 a.mode.code ++ leBytes 1 a.inUse ++ leBytes 2 0 ++
      leBytes 4 (unsigned 4 a.phaseErr) ++ leBytes 4 (if a.mode == .holdover then a.holdoverMf else 0) ++
      leBytes 1 p.state.code ++ leBytes 1 0 ++ leBytes 2 p.lastByte ++ leBytes 8 p.lastFc ++ leBytes 8 p.pmsMfn ++
      leBytes 4 p.pmSeconds)
  else if !(d.port c.index).enabled then (stNoObject, [])
  else
    let a := (d.port c.index).arrival
    (stOk, leBytes 8 d.fc ++ leBytes 1 (b2n a.valid) ++ leBytes 1 a.beats ++ leBytes 2 a.bytes ++
      leBytes 4 (unsigned 4 a.delta) ++ leBytes 8 a.measFc)

/-- TIME_READ (R51). -/
def execTimeRead (core : Nat) (s : State) : Host.Outcome State Fault Refusal :=
  s.run fun d => d.serveRead core [0x0102] timeRead

/-! ### TIME_PPS_SET (R52) -/

/-- Effect of TIME_PPS_SET: a change of PPS_MODE restarts acquisition. -/
def applyTimePpsSet (d : Dev) (c : Cmd) : Applied :=
  let m := fallback 2 1 (c.field 0 1)
  let p := { d.pps with mode := m, lossN := clamp 1 8 (c.field 1 1), windowMf := clamp 1 40 (c.field 2 2) }
  if m = d.pps.mode then okWith { d with pps := p }
  else okWith { d with pps :=
    { p with state := if m = 0 then .disabled else .acquiring, accepted := 0, missed := 0, edgeWaits := false } }

/-- Parameter block of TIME_PPS_SET. -/
def ppsBlock (p : Pps) : List Byte := leBytes 1 p.mode ++ leBytes 1 p.lossN ++ leBytes 2 p.windowMf ++ zeros 4

/-- TIME_PPS_SET (R52). -/
def execTimePpsSet (core : Nat) (s : State) : Host.Outcome State Fault Refusal :=
  s.run fun d => d.serveChange core 0x0103 fun _ _ => none

/-! ### TIME_PENDING (R53) -/

/-- Bytes of a listed waiting command. -/
def pendingEntry (w : Waiting) : List Byte :=
  leBytes 4 (w.target.getD 0) ++ leBytes 2 w.cmd.opcode ++ leBytes 2 w.cmd.seq ++ leBytes 1 w.cmd.mb ++ zeros 3

/-- TIME_PENDING's response: in order of target, then acceptance. -/
def timePending (d : Dev) (c : Cmd) : Nat × List Byte :=
  let mine := d.timedWaiting.filter fun w => objType c.object == 0 || w.cmd.mb == c.index
  let l := sortBy (fun w => w.target.getD 0) (sortBy (fun w => w.order) mine)
  let start := clamp 0 255 (c.field 0 2)
  let shown := (l.drop start).take 18
  (stOk, leBytes 2 l.length ++ leBytes 2 start ++ leBytes 1 shown.length ++ zeros 3 ++
    (shown.map pendingEntry).flatten)

/-- TIME_PENDING (R53). -/
def execTimePending (core : Nat) (s : State) : Host.Outcome State Fault Refusal :=
  s.run fun d => d.serveRead core [0x0104] timePending

end Sys2Proof.Machine
end

