-- ==== Sys2Proof/Machine/Firmware.lean ====
section
/-! DEFINITION. Firmware images, staging, activation, trials and warm restarts (R416, R422 to R428, R439, R440). -/

namespace Sys2Proof.Machine

open Sys2Proof

/-! ### Images (R422, R423) -/

/-- Bytes of a flash bank (R418). -/
def bankSize : Nat := 0x80_0000

/-- CHECK of R423: the first check that fails, 0 when all pass. `room` is the length of the bank, or the bytes read.
An erased bank has no header. -/
def fwCheck (i : Option FwImage) (room minSvn : Nat) : Nat :=
  match i with
  | none => 1
  | some x =>
    if !x.magicOk then 1
    else if x.devType != 0x0256 || x.ifMajor != 1 then 2
    else if x.bodyLen % 64 != 0 || x.bodyLen < 64 || 2_097_152 < x.bodyLen || min room x.present < 256 + x.bodyLen then 3
    else if !x.bodyCrcOk then 4
    else if !x.keyOk then 5
    else if !x.sigOk then 6
    else if x.svn < minSvn then 7
    else 0

/-- Status of a failing check (R423). -/
def fwStatus (check : Nat) : Nat := if check = 0 then stOk else if check = 2 || check = 7 then stConstraint else stIntegrity

/-- Image of a flash bank: 0 A, 1 B. -/
def Power.bank (p : Power) (b : Nat) : Option FwImage := if b = 0 then p.bankA else p.bankB

def Power.setBank (p : Power) (b : Nat) (i : Option FwImage) : Power :=
  if b = 0 then { p with bankA := i } else { p with bankB := i }

/-- CHECK of the image in a bank. -/
def Dev.bankCheck (d : Dev) (b : Nat) : Nat := fwCheck (d.pwr.bank b) bankSize d.minSvn

/-- The inactive bank: the one that FW_BANK does not name. -/
def Dev.inactiveBank (d : Dev) : Nat := 1 - d.fwBank

/-- FW_VERSION of an image; 0 when there is none. -/
def versionOf (i : Option FwImage) : Nat := match i with | some x => x.version | none => 0

/-- Boot word 1 takes FW_BANK and TRIAL. -/
def Dev.putBank (d : Dev) (bank : Nat) (trial : Bool) : Dev := d.sinterField 1 1 0 (bank + 2 * b2n trial)

/-! ### FW_STAGE (R424, R439) -/

def stageSource (c : Cmd) : Nat := fallback 2 0 (c.field 0 1)
def stageDest (c : Cmd) : Nat := fallback 1 0 (c.field 1 1)
def stageLength (c : Cmd) : Nat := clamp 320 2_097_408 (c.field 4 4)
def stageAddress (c : Cmd) : Nat := c.field 8 8 / 64 * 64

/-- Checks of FW_STAGE: the boot ROM accepts a host load into the running region only (R419). -/
def checkFwStage (d : Dev) (c : Cmd) : Check :=
  if d.pwr.fwState = 0 then
    firstRefusal [refuseIf (stageSource c != 0 || stageDest c != 1) stBadOpcode, refuseIf d.fwBusy stBusy]
  else
    firstRefusal [refuseIf d.fwBusy stBusy, refuseIf (stageDest c == 1 || stageSource c == 1 + d.inactiveBank) stConstraint]

/-- Bank that a stage writes; 0xFF for RUN. -/
def Dev.stageBank (d : Dev) (g : Stage) : Nat := if g.dest = 1 then 0xFF else d.inactiveBank

/-- The header fields that a stage reports: CHECK, SVN, FW_VERSION, BODY_LEN; of an absent header nothing is known. -/
def Dev.stageHeader (d : Dev) (i : Option FwImage) : (Nat × Nat × Nat) × Dev :=
  match i with
  | some x => ((x.svn, x.version, x.bodyLen), d)
  | none =>
    let (a, d) := d.draw
    let (b, d) := d.draw
    let (c, d) := d.draw
    ((a % 2 ^ 16, b % 2 ^ 32, c % 2 ^ 32), d)

/-- The stage's transfer fails (R314): WRITE_FAULT; the bank stays without a header. -/
def Dev.stageFails (d : Dev) (g : Stage) : Dev :=
  let d := { d with pwr := { d.pwr with stage := none } }.transferFailed 0x0010 g.address
  let (check, d) := d.draw
  let (version, d) := d.draw
  (d.raise 0x0010 0 (leBytes 1 (d.stageBank g) ++ leBytes 1 check ++ leBytes 4 version)).finishOrder g.order stWriteFault []

/-- The transfer starts: the inactive bank is erased first (R424). -/
def Dev.beginStage (d : Dev) (c : Cmd) : Dev :=
  let g : Stage :=
    { order := d.host.nextOrder, source := stageSource c, dest := stageDest c, length := stageLength c
      address := stageAddress c }
  let d := d.acceptJob c none false
  let p := if g.dest = 0 then d.pwr.setBank d.inactiveBank none else d.pwr
  let d := { d with pwr := { p with stage := some g } }
  if g.source = 0 && !d.dmaReady then d.stageFails g else d

/-- FW_STAGE (R424, R439). -/
def execFwStage (core : Nat) (s : State) : Host.Outcome State Fault Refusal :=
  s.run fun d => d.serve core [0x0010] checkFwStage fun e _ c => e.beginStage c

/-! ### Profile and start of firmware (R84, R365, R415, R419, R453) -/

/-- A boot-profile word as a command's block; none when unset. -/
def Dev.word (d : Dev) (w : Nat) : Option Nat := if d.sinter.read w = unset then none else some (d.sinter.read w)

/-- EVT_MASK words 6 to 23: byte 0 is read as the area. -/
def Dev.profileMasks (d : Dev) : Dev :=
  (List.range 18).foldl (fun d a =>
    match d.word (6 + a) with
    | some v => { d with log := { d.log with
        irqMin := Tab.set d.log.irqMin a (clamp 0 4 (bits v 15 8)), bbMin := Tab.set d.log.bbMin a (clamp 0 4 (bits v 23 16)) } }
    | none => d) d

/-- Arbiter words 40 to 55. -/
def Dev.profileArbiter (d : Dev) : Dev :=
  (List.range 16).foldl (fun d r =>
    match d.word (40 + r) with
    | some v => d.setReq r { d.req r with deadline := clamp 1_912 3_915_776 (bits v 31 0), burst := clamp 8 4_096 (bits v 47 32) }
    | none => d) d

/-- Pair words 64 and 65: a paired device waits from here on, and enters WAITING by R262. -/
def Dev.profilePair (d : Dev) : Dev :=
  let d := match d.word 64 with
    | some v =>
      let p := d.pair.setValues (Cmd.ofWord 0x0901 0 v)
      if p.paired then (d.setPair { p with role := .waiting }).own 0 0 else d.setPair p
    | none => d
  match d.word 65 with
  | some v => d.setDisc (discOf (Cmd.ofWord 0x0906 0 v))
  | none => d

/-- PM origin words (R365): the lowest applies. -/
def Dev.profileOrigin (d : Dev) : Dev :=
  (d.pmWords.filter fun c => fallback 4 0 (c.field 0 1) == 1).foldl (fun d c =>
    { d with pmDev := { origin := c.field 4 4, originNext := c.field 4 4 } }) d

/-- Subsystem IDs (R313), word 3. -/
def Dev.profileIds (d : Dev) : Dev :=
  { d with host := { d.host with subsystem := match d.word 3 with | some v => bits v 31 0 | none => 0 } }

/-- Identity that configuration space presents (R313): vendor and device ID, revision, class code, subsystem vendor and
subsystem ID. -/
def Dev.identity (d : Dev) : Nat × Nat × Nat × Nat × Nat × Nat :=
  (0x1F9C, 0x0256, 0xB1, 0x02_8000, d.host.subsystem % 2 ^ 16, d.host.subsystem / 2 ^ 16)

/-- Startup slot named by the profile (R84): 0 none, 1 A, 2 B. -/
def Dev.startupSlot (d : Dev) : Nat := fallback 2 1 (d.sinter.profile 0 1 0 1)

/-- The first startup image that passes, with event 0x0209 for each slot that fails (R84). -/
def Dev.startupImage : Dev → List Nat → Dev × Option Image
  | d, [] => (d, none)
  | d, n :: t =>
    match readImage (flashRead (d.sched.slot n)) with
    | (_, some i) => (d, some i)
    | (out, none) => Dev.startupImage ((d.rejected out).raise 0x0209 0 (leBytes 1 n ++ leBytes 1 out.rule)) t

/-- The startup image goes to the shadow bank, and its swap waits; a device without one enters WAITING at once (R84, R262). -/
def Dev.startup (d : Dev) : Dev :=
  let n := d.startupSlot
  let (d, i) := if n = 0 then (d, none) else d.startupImage [n, 3 - n]
  match i with
  | some i =>
    { d with sched := { d.sched.setShadow (some i) with
      swap := some { order := none, expectGen := 0, target := d.refMfn } } }.raise 0x0201 0
        (leBytes 4 i.gen ++ leBytes 4 i.imgCrc)
  | none => if d.pair.paired then d.enterWaiting else d

/-- The backoff for the stored FAILS runs again in full (R453). -/
def Dev.resumeBackoff (d : Dev) : Dev :=
  if d.fails = 0 then d else d.setLock { d.svc.lock with backoffEnd := some (d.mfn + backoffMf d.fails) }

/-- The rail fault before this boot is recorded (R415). -/
def Dev.recordRailFault (d : Dev) : Dev :=
  let k := d.pwr.faultOrder
  if k = 0 then d
  else
    let n := satAdd 0xFF (d.sinter.profile 57 15 8 0) 1
    let d := (d.sinterField 57 15 0 (k + 256 * n))
    { d with pwr := { d.pwr with faultOrder := 0 } }.raise 0x0E02 0 (leBytes 1 k ++ leBytes 1 n)

/-- Firmware starts from an image: it applies the profile, then the startup image (R419, step 5). -/
def Dev.startFirmware (d : Dev) (i : FwImage) (source : Nat) : Dev :=
  let d := { d with pwr := { d.pwr with
    mode := .running, running := some i, fwSource := source, fwState := 2
    coresUp := bitsOf ((List.range 4).map fun n => d.domOn (domCore n)) } }
  let d := match d.word 4 with | some v => (applyTimeAnchorSet d (Cmd.ofWord 0x0101 0 v)).1 | none => d
  let d := match d.word 5 with | some v => (applyTimePpsSet d (Cmd.ofWord 0x0103 0 v)).1 | none => d
  let d := d.profileMasks.profileArbiter.profilePair.profileOrigin.profileIds
  (d.recordRailFault.resumeBackoff).startup

/-! ### End of a stage (R419, R424) -/

/-- The source has been read and checked: the body and then the header stand in the bank, or the host's image runs. -/
def Dev.stageRead (d : Dev) (g : Stage) (i : Option FwImage) : Dev :=
  let room := if g.source = 0 then g.length else bankSize
  let check := fwCheck i room d.minSvn
  let bank := d.stageBank g
  let (h, d) := d.stageHeader i
  let d := { d with pwr := { d.pwr with stage := none } }
  let d := if check = 0 && g.dest = 0 then
      { d with pwr := d.pwr.setBank bank (i.map fun x => { x with present := 256 + x.bodyLen }) } else d
  let d := d.raise 0x0010 0 (leBytes 1 bank ++ leBytes 1 check ++ leBytes 4 h.2.1)
  let d := d.finishOrder g.order (fwStatus check)
    (leBytes 1 check ++ leBytes 1 bank ++ leBytes 2 h.1 ++ leBytes 4 h.2.1 ++ leBytes 4 h.2.2)
  match i with
  | some x => if check = 0 && g.dest = 1 then d.startFirmware x 2 else d
  | none => d

/-- FW_STAGE_COMPLETE (R424): `image` is what a transfer from host memory brought. -/
def execFwStageComplete (image : Option FwImage) (s : State) : Host.Outcome State Fault Refusal :=
  s.run fun d =>
    match d.pwr.stage with
    | none => d
    | some g => d.stageRead g (if g.source = 0 then image else d.pwr.bank (g.source - 1))

/-! ### Activation (R425 to R428, R440) -/

/-- What makes FW_ACTIVATE and FW_ROLLBACK end BUSY (R428). -/
def Dev.activationBusy (d : Dev) : Bool := d.fwBusy || d.sched.swap.isSome || d.sched.load.isSome || d.joinOrResync

/-- Checks of FW_ACTIVATE: the inactive bank's image under R423. -/
def checkFwActivate (d : Dev) (_ : Cmd) : Check :=
  firstRefusal
    [refuseIf d.activationBusy stBusy,
     refuseIf (d.bankCheck d.inactiveBank != 0) (fwStatus (d.bankCheck d.inactiveBank))]

/-- Checks of FW_ROLLBACK: in a trial the old image stands in the preload region (R426, R427). -/
def checkFwRollback (d : Dev) (c : Cmd) : Check :=
  if d.pwr.trial.isSome then refuseIf d.activationBusy stBusy else checkFwActivate d c

/-- The activation waits for its effect MF; the image goes to the preload region. -/
def Dev.startActivation (d : Dev) (c : Cmd) (restore : Option Nat) : Dev :=
  let (t, dflt) := if c.timed then resolveTarget d.refMfn c.applyAt else (d.refMfn, false)
  if c.timed && !d.timedRoom t then d.answer c stNoResource []
  else
    let a : Activation :=
      { order := some d.host.nextOrder, target := t, trial := c.opcode == 0x0011 && bit (c.field 0 1) 0
        trialMf := clamp 64 65_535 (c.field 2 2), restore := restore, oldVersion := versionOf d.pwr.running }
    let d := d.acceptJob c (if c.timed then some t else none) c.timed
    let p := if restore.isSome then d.pwr else { d.pwr with preload := d.pwr.bank d.inactiveBank }
    let d := { d with pwr := { p with activation := some a } }
    if dflt then d.raise 0x0109 0 (leBytes 2 c.opcode ++ leBytes 2 c.seq ++ leBytes 4 c.applyAt) else d

/-- FW_ACTIVATE (R425). -/
def execFwActivate (core : Nat) (s : State) : Host.Outcome State Fault Refusal :=
  s.run fun d => d.serve core [0x0011] checkFwActivate fun e _ c => e.startActivation c none

/-- FW_ROLLBACK (R427). -/
def execFwRollback (core : Nat) (s : State) : Host.Outcome State Fault Refusal :=
  s.run fun d => d.serve core [0x0012] checkFwRollback fun e _ c =>
    e.startActivation c (if e.pwr.trial.isSome then some 3 else none)

/-- The pause begins: the regions exchange roles, and the cores take no command. -/
def Dev.exchange (d : Dev) (a : Activation) : Dev :=
  let d := match a.order with | some o => d.makeJob o | none => d
  { d with pwr := { d.pwr with
    running := d.pwr.preload, preload := d.pwr.running, fwState := 3, activation := some { a with pauseFc := some d.fc } } }

/-- The old image is restored: boot word 1 too, and event 0x0012 (R426). Causes: 0 pause, 1 halt, 2 watchdog, 3 rollback,
4 abandoned at boot. -/
def Dev.restoreOld (d : Dev) (bankBefore cause : Nat) : Dev :=
  let bad := d.fwBank
  ({ d with pwr := { d.pwr with trial := none } }.putBank bankBefore false).raise 0x0012 0 (leBytes 1 bad ++ leBytes 1 cause)

/-- No core executes a command. -/
def Dev.coresIdle (d : Dev) : Bool := !d.host.waiting.any fun w => w.core.isSome

/-- The effect MF of an activation has come, and no command executes (R425). -/
def Dev.pauseDue (d : Dev) : Bool :=
  match d.pwr.activation with
  | some a => a.pauseFc.isNone && a.target ≤ d.mfn && d.coresIdle
  | none => false

/-- FW_PAUSE_BEGIN (R425, R427). -/
def execFwPauseBegin (s : State) : Host.Outcome State Fault Refusal :=
  s.runIf Dev.pauseDue fun d =>
    match d.pwr.activation with
    | none => d
    | some a =>
      match a.restore, d.pwr.trial with
      | some cause, some (_, _, _, b) => (d.exchange a).restoreOld b cause
      | _, _ => ({ d with pwr := { d.pwr with trial := none } }.exchange a).putBank d.inactiveBank a.trial

/-- Beats that a pause has lasted. -/
def Dev.pauseBeats (d : Dev) : Nat :=
  match d.pwr.activation with | some a => (match a.pauseFc with | some f => d.fc - f | none => 0) | none => 0

/-- The pause of a trial has lasted more than 50 ms, 43,009 Beats (R426). -/
def Dev.trialPauseOver (d : Dev) : Bool :=
  match d.pwr.activation with | some a => a.trial && a.pauseFc.isSome && 43_009 < d.pauseBeats | none => false

/-- FW_PAUSE_END (R425, R440): the new firmware dequeues its first command, and writes the response. -/
def execFwPauseEnd (s : State) : Host.Outcome State Fault Refusal :=
  s.runIf (fun d => d.paused && !d.trialPauseOver) fun d =>
    match d.pwr.activation with
    | none => d
    | some a =>
      let us := nsOf (d.pauseBeats * 15_296) / 1000
      let new := versionOf d.pwr.running
      let bank := d.fwBank
      let trial := if a.trial then some (d.mfn, a.trialMf, 0, 1 - bank) else none
      let d := { d with pwr := { d.pwr with activation := none, fwState := 2, fwSource := bank, trial := trial } }
      let d := if a.restore.isSome then d
        else d.raise 0x0011 0 (leBytes 4 a.oldVersion ++ leBytes 4 new ++ leBytes 1 (b2n a.trial))
      match a.order with
      | some o => d.finishOrder o stOk (leBytes 4 a.oldVersion ++ leBytes 4 new ++ leBytes 4 us ++ leBytes 1 bank ++ zeros 3)
      | none => d

/-- FW_TRIAL_SUCCESS (R426): TRIAL_MF MF have passed since the pause. -/
def execFwTrialSuccess (s : State) : Host.Outcome State Fault Refusal :=
  s.runIf (fun d => !d.paused && (match d.pwr.trial with | some (m, n, k, _) => m + n ≤ d.mfn && k ≤ 3 | none => false)) fun d =>
    { d.putBank d.fwBank false with pwr := { d.pwr with trial := none } }.raise 0x0011 0
      (leBytes 4 (versionOf d.pwr.preload) ++ leBytes 4 (versionOf d.pwr.running) ++ leBytes 1 2)

/-- Commands that cores were executing return to the heads of their classes (R323). -/
def Dev.requeue (d : Dev) : Dev :=
  let back := (d.host.waiting.filter fun w => w.core.isSome).map (·.cmd)
  { d with host := { d.host with
    queue := back ++ d.host.queue, waiting := d.host.waiting.filter fun w => w.core.isNone } }

/-- The pause in progress puts a bank on trial. -/
def Dev.trialPause (d : Dev) : Bool :=
  d.paused && (match d.pwr.activation with | some a => a.trial | none => false)

/-- Whether a trial fails for a cause (R426): 0 the pause is too long, 1 every core halts, 2 more than 3 trips. -/
def Dev.trialFails (d : Dev) (cause : Nat) : Bool :=
  match cause with
  | 0 => d.trialPauseOver
  | 1 => (d.pwr.trial.isSome && !d.paused) || d.trialPause
  | 2 => !d.paused && (match d.pwr.trial with | some (_, _, k, _) => 3 < k | none => false)
  | _ => false

/-- FW_TRIAL_FAILURE (R426): a pause restores the old image. An activation that waited ends BUSY. -/
def execFwTrialFailure (cause : Nat) (s : State) : Host.Outcome State Fault Refusal :=
  s.runIf (fun d => d.trialFails cause) fun d =>
    let order := match d.pwr.activation with | some a => a.order | none => none
    let bank := match d.pwr.trial with | some (_, _, _, b) => b | none => 1 - d.fwBank
    let own := d.paused
    let d := if own then d else match order with | some o => d.finishOrder o stBusy [] | none => d
    let a : Activation :=
      { order := if own then order else none, target := d.mfn, trial := false, trialMf := 0, restore := some cause
        oldVersion := versionOf d.pwr.running }
    (d.requeue.exchange a).restoreOld bank cause

/-! ### All cores halted (R416) -/

/-- The bank that boots: FW_BANK, or the other with event 0x0013; none when neither passes (R419, step 3). -/
def Dev.bootBank (d : Dev) : Dev × Option Nat :=
  let b := d.fwBank
  let c := d.bankCheck b
  if c = 0 then (d, some b)
  else
    let d := d.raise 0x0013 0 (leBytes 1 b ++ leBytes 1 c)
    (d, if d.bankCheck (1 - b) = 0 then some (1 - b) else none)

/-- No image passes: the boot ROM on QC0 serves MB0 (R419). -/
def Dev.romMode (d : Dev) : Dev := { d with pwr := { d.pwr with mode := .running, fwState := 0, running := none, coresUp := 1 } }

/-- ALL_CORES_HALTED (R416): firmware restarts from FW_BANK; in a trial, FW_TRIAL_FAILURE comes in its place. -/
def execAllCoresHalted (s : State) : Host.Outcome State Fault Refusal :=
  s.runIf (fun d => (d.pwr.fwState == 2 || d.pwr.fwState == 3) && d.pwr.trial.isNone && !d.trialPause) fun d =>
    let d := d.requeue.raise 0x0014 0 (leBytes 1 0xFF ++ leBytes 1 1)
    match d.bootBank with
    | (d, some b) => { d with pwr := { d.pwr with running := d.pwr.bank b, fwSource := b } }
    | (d, none) => d.romMode

end Sys2Proof.Machine
end

