-- ==== Sys2Proof/Machine/Boot.lean ====
section
/-! DEFINITION. Boot (R84, R374, R405, R415 to R419). -/

namespace Sys2Proof.Machine

open Sys2Proof

/-- What an external programmer has put into the flash (R418). -/
def Dev.program (d : Dev) (f : Option FlashInput) : Dev :=
  match f with
  | some x =>
    { d with
      pwr := { d.pwr with bankA := x.bankA, bankB := x.bankB }, sched := { d.sched with slotA := x.slotA, slotB := x.slotB } }
  | none => d

/-- The log starts: in the spare region once word 56 is set; its first record is LOG_STARTED (R405, R406). -/
def Dev.startLog (d : Dev) : Dev :=
  let region := if d.sinter.read 56 = unset then 0 else 1
  let e : Event :=
    { fc := d.fc, code := 0x1101, sev := 0, obj := 0, data := padTo 12 (leBytes 1 region ++ leBytes 1 (b2n d.pwr.wakeBy.isSome)) }
  { d with log := { d.log with region := region }.writeRing e.record }

/-- The black-box writer continues after the newest valid record (R374). -/
def Dev.resumeBlackBox (d : Dev) : Dev :=
  { d with log := { d.log with bbNext := match d.sinter.bbNewest with | some k => (k + 1) % 512 | none => 0 } }

/-- Event 0x0E04 after a wake. -/
def Dev.noteWake (d : Dev) : Dev :=
  match d.pwr.wakeBy with
  | some t => { d with pwr := { d.pwr with wakeBy := none } }.raise 0x0E04 0 (leBytes 1 t)
  | none => d

/-- The boot ROM abandons a trial bank (R419, step 2). -/
def Dev.abandonTrial (d : Dev) : Dev := if d.fwTrial then d.restoreOld (1 - d.fwBank) 4 else d

/-- Boot (R419). -/
def Dev.boot (d : Dev) (f : Option FlashInput) : Dev :=
  let d := ((d.program f).startLog.resumeBlackBox.nextEpoch).noteWake.abandonTrial
  match d.bootBank with
  | (d, some b) => match d.pwr.bank b with | some i => d.startFirmware i b | none => d.romMode
  | (d, none) => d.romMode

/-- BOOT (R419): at the later of RESET_N release and the end of the up-sequence, once a reference clock is present. -/
def execBoot (flash : Option FlashInput) (s : State) : Host.Outcome State Fault Refusal :=
  s.inOrder (fun d => d.pwr.mode == .booting && d.clocked) fun d => d.boot flash

end Sys2Proof.Machine
end

