-- ==== Sys2Proof/Machine/HostWindow.lean ====
section
/-! DEFINITION. Host windows and the internal address map (R326 to R329, R364, R459). -/

namespace Sys2Proof.Machine

open Sys2Proof

/-- Target port of an internal address, with the offset within its range (R328). -/
inductive Target where
  | sram (a : Nat)
  | hub (o : Nat)
  | sinter (o : Nat)
  | slice (s o : Nat)
  | vendor (o : Nat)
  | hbm (a : Nat)
  deriving DecidableEq, Repr

/-- Decode an internal address for the host windows; `none` is undecoded (R328). Outbound host memory is for masters 1
and 6 only. The black-box half of the Sinter range is reached through commands only. -/
def targetOf (a : Nat) : Option Target :=
  if a < 0x80_0000 then some (.sram a)
  else if 0x2000_0000 ≤ a && a < 0x3000_0000 then some (.hub (a - 0x2000_0000))
  else if 0x3000_0000 ≤ a && a < 0x3000_8000 then some (.sinter (a - 0x3000_0000))
  else if 0x4000_0000 ≤ a && a < 0x8000_0000 then some (.slice ((a - 0x4000_0000) / 0x1000_0000) (a % 0x1000_0000))
  else if 0xF000_0000 ≤ a && a < 0x1_0000_0000 then some (.vendor (a - 0xF000_0000))
  else if 0x4_0000_0000 ≤ a && a < 0x8_0000_0000 then some (.hbm a)
  else none

/-- Internal address that a BAR2 offset reaches, and whether its window may carry the access (R326). -/
def Dev.windowAddress (d : Dev) (off : Nat) (write : Bool) : Nat × Bool :=
  let w : Window := Tab.get {} d.host.wins (off / 0x2000_0000)
  (w.base + off % 0x2000_0000, w.enabled && !(write && w.readOnly))

/-- Target of a host-window access; `none` is a decode error. -/
def Dev.windowTarget (d : Dev) (off : Nat) (write : Bool) : Option Target :=
  let (a, ok) := d.windowAddress off write
  if !ok || 0xFF_FFFF_FFFF < a then none
  else
    match targetOf a with
    | some (.vendor o) => if d.locked then none else some (.vendor o)
    | some (.sinter o) => if write then none else some (.sinter o)
    | t => t

/-- Address lies in the BAR1 rings' part of hub SRAM. -/
def ringOffset (a : Nat) : Option Nat :=
  let b := Config.bar1Base.toNat
  if b ≤ a && a < b + 0x4_0000 then some (a - b) else none

/-- A byte of hub SRAM. -/
def State.sramByte (s : State) (a : Nat) : Byte :=
  match ringOffset a with | some o => s.bar1.read o | none => s.mem.read a

/-- Write a byte of hub SRAM. -/
def State.sramWrite (s : State) (a : Nat) (b : Byte) : State :=
  match ringOffset a with
  | some o => { s with bar1 := s.bar1.write o b }
  | none => { s with mem := s.mem.write a b }

/-- Place of an address of a slice's range in the slice's near-deskew SRAM of 10 MiB (R14, R328). -/
def nearOffset (o : Nat) : Option Nat :=
  let b := Config.nearBase.toNat
  if b ≤ o && o < b + 0xA0_0000 then some (o - b) else none

/-- A slice answers: not failed, its die link up, its near-deskew SRAM powered (R330). -/
def Dev.nearReached (d : Dev) (k : Nat) : Bool := !d.dieDown k && d.domOn (domNear k)

/-- A value that the manual does not give, for each byte of a range; the next read draws afresh. -/
def Dev.peek (d : Dev) (a n : Nat) : List Byte × Dev :=
  ((List.range n).map fun i => Config.slicePeek (a + i) d.free, { d with free := d.free + 1 })

/-- VALUE or RESULT of a context that the engine feeds: its running value, which the manual leaves open (R306). -/
def Dev.engineFeeds (d : Dev) (o : Nat) : Bool :=
  0x4_0000 ≤ o && o < 0x4_0300 && (o % 0x100 == 0x14 || o % 0x100 == 0x18) && d.crcHeld ((o - 0x4_0000) / 0x100)

/-- A 32-bit read of a hub register: check-value units, UART and PMB registers (R304, R459). -/
def Dev.hubRead (d : Dev) (o : Nat) : List Byte × Dev :=
  if d.engineFeeds o then d.peek (0x2000_0000 + o) 4
  else if 0x4_0000 ≤ o && o < 0x4_0300 then (leBytes 4 (d.crcRead ((o - 0x4_0000) / 0x100) (o % 0x100)), d)
  else if o = 0x6_0000 then let (v, d) := d.uartRead; (leBytes 4 v, d)
  else if 0x6_0100 ≤ o && o < 0x6_0300 then (leBytes 4 ((d.pmb ((o - 0x6_0100) / 0x100)).register (o % 0x100)), d)
  else d.peek (0x2000_0000 + o) 4

/-- A 32-bit write of a hub register; other hub registers have no meaning for a host. -/
def Dev.hubWrite (d : Dev) (o v : Nat) : Dev :=
  if 0x4_0000 ≤ o && o < 0x4_0300 then d.crcRegister ((o - 0x4_0000) / 0x100) (o % 0x100) v
  else if 0x6_0100 ≤ o && o < 0x6_0300 then
    let u := (o - 0x6_0100) / 0x100
    d.setPmb u ((d.pmb u).write (o % 0x100) v)
  else d

/-- Read hub register words from offset `o`, a multiple of 4. -/
def Dev.hubWords : Nat → Dev → Nat → List Byte × Dev
  | 0, d, _ => ([], d)
  | n + 1, d, o =>
    let (w, d) := d.hubRead o
    let (l, d) := Dev.hubWords n d (o + 4)
    (w ++ l, d)

/-- Write hub register words from offset `o`, a multiple of 4. -/
def Dev.hubPuts : Nat → Dev → Nat → List Byte → Dev
  | 0, d, _, _ => d
  | n + 1, d, o, l => Dev.hubPuts n (d.hubWrite o (fieldAt l 0 4)) (o + 4) (l.drop 4)

/-- Read `n` bytes at a target. -/
def State.readTarget (s : State) (t : Target) (n : Nat) : List Byte × State :=
  match t with
  | .sram a => ((List.range n).map fun i => s.sramByte (a + i), s)
  | .hub o =>
    let (l, d) := s.dev.hubWords ((o % 4 + n + 3) / 4) (o / 4 * 4)
    ((l.drop (o % 4)).take n, { s with dev := d })
  | .sinter o => ((List.range n).map fun i => byteAt (leBytes 8 (s.dev.sinter.read ((o + i) / 8))) ((o + i) % 8), s)
  | .slice k o =>
    let a := 0x4000_0000 + 0x1000_0000 * k + o
    let (l, d) := s.dev.peek a n
    let here := fun (i : Nat) => s.dev.nearReached k && (nearOffset (o + i)).isSome
    if (List.range n).all here then (s.mem.readBytes a n, s)
    else ((List.range n).map fun i => if here i then s.mem.read (a + i) else byteAt l i, { s with dev := d })
  | .vendor o => let (l, d) := s.dev.peek (0xF000_0000 + o) n; (l, { s with dev := d })
  | .hbm a =>
    if s.dev.domOn domHbm then (s.mem.readBytes a n, s)
    else let (l, d) := s.dev.peek a n; (l, { s with dev := d })

/-- Write bytes at a target. A write that a slice refuses is reported later (R330). A write to part of a hub register's 32 bits
writes 0 to the rest of it (DESIGN CHOICE, log 57). -/
def State.writeTarget (s : State) (t : Target) (l : List Byte) : State :=
  match t with
  | .sram a => l.zipIdx.foldl (fun s x => s.sramWrite (a + x.2) x.1) s
  | .hub o => { s with dev := Dev.hubPuts ((o % 4 + l.length + 3) / 4) s.dev (o / 4 * 4) (zeros (o % 4) ++ l) }
  | .sinter _ | .vendor _ => s
  | .slice k o =>
    if s.dev.nearReached k then
      { s with mem := l.zipIdx.foldl (fun m x =>
          if (nearOffset (o + x.2)).isSome then m.write (0x4000_0000 + 0x1000_0000 * k + o + x.2) x.1 else m) s.mem }
    else s
  | .hbm a => if s.dev.domOn domHbm then { s with mem := s.mem.writeBytes a l } else s

/-- Class of a transaction (R383): 0 read, 1 write, 2 posted write to a slice bridge. -/
def Target.cls (t : Target) (write : Bool) : Nat :=
  match t with
  | .slice _ _ => if write then 2 else 0
  | _ => b2n write

/-- An access cut into transactions of at most 256 bytes (R327), which never cross a range or a window. -/
def transactions : Nat → Nat → Nat → List (Nat × Nat)
  | 0, _, _ => []
  | f + 1, off, len =>
    if len = 0 then []
    else let n := min len (256 - off % 256); (off, n) :: transactions f (off + n) (len - n)

/-- One read transaction of the host windows. -/
def State.windowRead (s : State) (off n : Nat) : State :=
  let a := (s.dev.windowAddress off false).1
  let (l, s, cls) := match s.dev.windowTarget off false with
    | none => (zeros n, { s with dev := s.dev.decodeError 7 a }, 3)
    | some t => let (l, s) := s.readTarget t n; (l, s, 0)
  let d := s.dev.transaction 7 true cls a n
  { s with dev := { d with host := { d.host with readData := d.host.readData ++ l } } }

/-- One write transaction of the host windows. -/
def State.windowWrite (s : State) (off : Nat) (l : List Byte) : State :=
  let a := (s.dev.windowAddress off true).1
  let (s, cls) := match s.dev.windowTarget off true with
    | none => ({ s with dev := s.dev.decodeError 7 a }, 3)
    | some t => (s.writeTarget t l, t.cls true)
  { s with dev := s.dev.transaction 7 true cls a l.length }

/-- HOST_WINDOW_ACCESS (R326 to R329). -/
def execHostWindowAccess (off : Nat) (a : WinAccess) (s : State) : Host.Outcome State Fault Refusal :=
  match a with
  | .read n =>
    if 2 ^ 32 < off + n then .fault .outsideBar
    else s.runMem fun s =>
      if !s.dev.host.linkUp then s
      else
        let s := { s with dev := { s.dev with host := { s.dev.host with readData := [] } } }
        (transactions (n / 256 + 2) off n).foldl (fun s x => s.windowRead x.1 x.2) s
  | .write l =>
    if 2 ^ 32 < off + l.length then .fault .outsideBar
    else s.runMem fun s =>
      if !s.dev.host.linkUp then s
      else (transactions (l.length / 256 + 2) off l.length).foldl
        (fun s x => s.windowWrite x.1 ((l.drop (x.1 - off)).take x.2)) s

end Sys2Proof.Machine
end

