-- ==== Sys2Proof/Machine/Effects.lean ====
section
/-! DEFINITION. The Beat in which accepted commands take effect, the readback of settings, and host transfers that
fail (R45 to R49, R314, R342, R350, R356). -/

namespace Sys2Proof.Machine

open Sys2Proof

/-! ### Effects by opcode (R45, R351) -/

/-- Effects of the commands of chapters 2 to 8. -/
def applyLow (d : Dev) (c : Cmd) : Option Applied :=
  match c.opcode with
  | 0x0005 => some (applySysMbxGrant d c)
  | 0x0101 => some (applyTimeAnchorSet d c)
  | 0x0103 => some (applyTimePpsSet d c)
  | 0x0205 => some (applySchedDiscard d c)
  | 0x0301 => some (applyLpEnable d c)
  | 0x0303 => some (applyLpLaneSet d c)
  | 0x0304 => some (applyLpLadderPolicy d c)
  | 0x0305 => some (applyLpLadderStep d c)
  | 0x0306 => some (applyLpOtuOhSet d c)
  | 0x0401 => some (applyOduTtiSet d c)
  | 0x0402 => some (applyOduTcmSet d c)
  | 0x0403 => some (applyOduOhWrite d c)
  | 0x0502 => some (applyChMaint d c)
  | 0x0503 => some (applyCpConfig d c)
  | 0x0604 => some (applyArbDeadlineSet d c)
  | 0x0702 => some (applyDefMask d c)
  | 0x0703 => some (applyDefDegSet d c)
  | 0x0705 => some (applyPmBinSet d c)
  | _ => none

/-- Effects of the commands of chapters 9 to 18; the order names a command that a hub unit carries on. -/
def applyHigh (d : Dev) (c : Cmd) (order : Nat) : Option Applied :=
  match c.opcode with
  | 0x0801 => some (applyPgCommand d c)
  | 0x0803 => some (applyPgTimers d c)
  | 0x0902 => some (applyPairJoin d c)
  | 0x0A01 => some (applyFumPortSet d c)
  | 0x0A02 => some (applyFumBind d c)
  | 0x0A03 => some (applyFumUnbind d c)
  | 0x0B02 => some (applySinterWrite d c order)
  | 0x0C02 => some (applyCntChainSet d c)
  | 0x0C03 => some (applyCntFilterSet d c)
  | 0x0C04 => some (applyGeyserSet d c)
  | 0x0C05 => some (applyGeyserPost d c)
  | 0x0D02 => some (applyEvtMask d c)
  | 0x0E01 => some (applyPwrDomainSet d c order)
  | 0x0F01 => some (applyPrbsSet d c)
  | 0x0F03 => some (applyLoopSet d c)
  | 0x0F10 => some (applyLockChallenge d c)
  | 0x0F11 => some (applyLockRespond d c)
  | 0x0F12 => some (applyLockPassword d c)
  | 0x0F13 => some (applyLockClose d c)
  | 0x0F14 => some (applyLockPasswordSet d c)
  | _ => none

/-- Effect of a waiting command. An object that a swap has ended meanwhile gives NO_OBJECT. -/
def Dev.applyCmd (d : Dev) (c : Cmd) (order : Nat) : Applied :=
  if !d.objExists c.object then (d, stNoObject, [])
  else
    match applyLow d c with
    | some r => r
    | none => (applyHigh d c order).getD (okWith d)

/-- A waiting command takes effect and is answered; one that a hub unit carries on stays as a job. -/
def Dev.effectOf (d : Dev) (w : Waiting) : Dev :=
  let (d, st, pl) := d.applyCmd w.cmd w.order
  if st = stGoesOn then d.makeJob w.order else d.finish w st pl

/-- The effect of a waiting command; what a command that the twin mirrored here raises is marked so (R398). -/
def Dev.effect (d : Dev) (w : Waiting) : Dev :=
  if w.fromTwin then d.asTwin fun d => d.effectOf w else d.effectOf w

/-- The waiting command that was accepted first, among those that a test picks. -/
def firstOf (p : Waiting → Bool) : List Waiting → Option Waiting
  | [] => none
  | w :: t =>
    match firstOf p t with
    | none => if p w then some w else none
    | some b => if p w && w.order ≤ b.order then some w else some b

/-- The untimed command whose Beat has come (R45). -/
def Dev.untimedDue (d : Dev) : Option Waiting :=
  firstOf (fun w => !w.job && w.target.isNone && w.effectFc ≤ d.fc) d.host.waiting

/-- The timed command whose target MF has come, after swap and ladder steps (R46, R48, R49). -/
def Dev.timedNext (d : Dev) : Option Waiting :=
  if d.swapDue || d.ladderDue then none
  else firstOf (fun w => !w.job && (match w.target with | some t => fcOf t ≤ d.fc | none => false)) d.host.waiting

/-- UNTIMED_COMMAND_EFFECT (R45). -/
def execUntimedCommandEffect (s : State) : Host.Outcome State Fault Refusal :=
  s.run fun d => match d.untimedDue with | some w => d.effect w | none => d

/-- TIMED_COMMAND_APPLY (R46, R48, R49). -/
def execTimedCommandApply (s : State) : Host.Outcome State Fault Refusal :=
  s.run fun d => match d.timedNext with | some w => d.effect w | none => d

/-! ### Readback (R350, R356) -/

/-- Values in force that ODU_OH_WRITE set (R138, R350): OP 0 and the raw value, or OP 1 and zeros. -/
def ohWriteBlock (o : OduState) (c : Cmd) : List Byte :=
  let f := fallback 4 0 (c.field 0 1)
  let level := clamp 0 7 (c.field 2 1)
  let part := clamp 0 1 (c.field 3 1)
  let has := fun (t : Tab (List Byte)) (k : Nat) => (t.find? fun e => e.1 == k).map (·.2)
  let (raw, n) := match f with
    | 1 => (o.rawExp, 2) | 2 => (o.rawRes, 9) | 3 => (has o.rawAps level, 4) | 4 => (has o.rawFtfl part, 128)
    | _ => (none, 0)
  leBytes 1 f ++ leBytes 1 (b2n raw.isNone) ++ leBytes 1 level ++ leBytes 1 part ++ zeros 4 ++ padTo n (raw.getD [])

/-- Level and flow of a key of ODU_TTI_SET and ODU_TCM_SET. -/
def keyLevel (c : Cmd) : Nat := clamp 0 6 (c.field 0 1)
def keyFlow (c : Cmd) : Nat := fallback 1 0 (c.field 1 1)

/-- A block, or NO_OBJECT where a key field names nothing. -/
def keyed (ok : Bool) (l : List Byte) : Nat × List Byte := if ok then (stOk, l) else (stNoObject, [])

/-- Readback of the setters of chapters 2 to 8, and of the grants and windows. -/
def readLow (d : Dev) (c : Cmd) : Option (Nat × List Byte) :=
  let k := c.index
  match c.opcode with
  | 0x0005 =>
    if k = 0 then some (stConstraint, []) else some (stOk, grantList (d.mb k).grants (clamp 0 31 (c.field 1 1)))
  | 0x0006 => some (keyed (c.field 0 1 < 8) (windowBytes (c.field 0 1) (Tab.get {} d.host.wins (c.field 0 1))))
  | 0x0101 => some (stOk, anchorBlock d.anchor)
  | 0x0103 => some (stOk, ppsBlock d.pps)
  | 0x0301 => some (stOk, enableBlock (d.port k))
  | 0x0303 => some (stOk, laneBlock (d.lane k))
  | 0x0304 => some (stOk, policyBlock (d.port k).attr)
  | 0x0306 => some (stOk, otuOhBlock (d.port k).attr)
  | 0x0401 => some (stOk, ttiBlock (d.oduOf c.object) (keyFlow c) (keyLevel c))
  | 0x0402 => some (stOk, tcmBlock (d.oduOf c.object) (keyFlow c) (keyLevel c))
  | 0x0403 => some (stOk, ohWriteBlock (d.oduOf c.object) c)
  | 0x0502 =>
    let flow := fallback 1 0 (c.field 0 1)
    some (stOk, maintBlock (if flow = 0 then (d.chan k).maintTx else (d.chan k).maintRx) flow d.mfn)
  | 0x0503 => some (stOk, d.cpReadback k (c.field 2 1))
  | 0x0604 => some (keyed (c.field 0 1 < 16) (arbBlock d (c.field 0 1)))
  | 0x0702 => some (keyed (d.hasLayer c.object (c.field 0 1)) (maskBlock (d.layer c.object (c.field 0 1)) (c.field 0 1)))
  | 0x0703 =>
    some (keyed (d.hasLayer c.object (c.field 0 1) && (degBit (c.field 0 1)).isSome)
      (degBlock (d.layer c.object (c.field 0 1)) (c.field 0 1)))
  | 0x0705 => some (keyed (checkPmBinSet d c).isNone (d.pmBlock c))
  | _ => none

/-- Readback of the setters of chapters 9 to 18. -/
def readHigh (d : Dev) (c : Cmd) : Option (Nat × List Byte) :=
  let k := c.index
  match c.opcode with
  | 0x0803 => some (stOk, timersBlock (d.pg k))
  | 0x0901 => some (stOk, pairBlock d.pair)
  | 0x0906 => some (stOk, discBlock d.pair)
  | 0x0A01 => some (stOk, fumPortBlock (d.fum k).attr)
  | 0x0A02 => some (stOk, fumBindBlock (d.source k).bind)
  | 0x0C02 => some (if k % 2 = 1 then (stConstraint, []) else (stOk, cntChainBlock d k))
  | 0x0C03 =>
    some (if filterCell k then (stOk, filterBlock (Tab.get {} d.cnt.filters ((k - 0x4100) / 4))) else (stConstraint, []))
  | 0x0C04 => some (stOk, geyserBlock d.cnt)
  | 0x0D02 => some (keyed (c.field 0 1 < 0x12) (evtMaskBlock d (c.field 0 1)))
  | 0x0E01 => some (stOk, domainBlock d k)
  | 0x0F01 => some (stOk, prbsBlock (Tab.get {} d.svc.prbs c.object))
  | 0x0F03 => some (stOk, leBytes 1 (d.loopAt c.object) ++ zeros 7)
  | _ => none

/-- SYS_STATUS's response: the device summary, or the block of a setter with its key fields (R350, R356). -/
def sysStatus (d : Dev) (c : Cmd) : Nat × List Byte :=
  if fallback 1 0 (c.field 0 1) = 0 then (stOk, sysDevice d c)
  else
    match opRow (c.field 2 2) with
    | none => (stBadOpcode, [])
    | some r =>
      if !r.setter then (stConstraint, [])
      else
        let k := { c with opcode := r.op, payload := sliceAt c.payload 8 16 }
        match readLow d k with
        | some x => x
        | none => (readHigh d k).getD (stConstraint, [])

/-- SYS_STATUS (R350, R356). -/
def execSysStatus (core : Nat) (s : State) : Host.Outcome State Fault Refusal :=
  s.run fun d => d.serveRead core [0x0002] sysStatus

/-! ### Transfers from and to host memory that fail (R314) -/

/-- A schedule load's transfer fails: WRITE_FAULT. -/
def Dev.loadFails (d : Dev) (j : LoadJob) : Dev :=
  ({ d with sched := { d.sched with load := none } }.transferFailed 0x0201 j.address).finishOrder j.order stWriteFault []

/-- DMA_TRANSFER_FAILED (R314, R391). -/
def execDmaTransferFailed (user : DmaUser) (s : State) : Host.Outcome State Fault Refusal :=
  s.run fun d =>
    match user with
    | .load => match d.sched.load with | some j => if j.source = 0 && j.copy.isNone then d.loadFails j else d | none => d
    | .geyser => if d.cnt.slots = 0 then d else d.dumpFails
    | .stage => match d.pwr.stage with | some g => if g.source = 0 then d.stageFails g else d | none => d

end Sys2Proof.Machine
end

