-- ==== Sys2Proof/Machine/Dispatch.lean ====
section
/-! DEFINITION. One arm per command: the direct call of its meaning. -/

namespace Sys2Proof.Machine

open Sys2Proof

/-- The effect of a command on everything but the queue. -/
def exec (i : Instr) (s : State) : Host.Outcome State Fault Refusal :=
  match i with
  | .beatBoundary x => Sys2Proof.Machine.execBeatBoundary x s
  | .coalescedSummaryStaged => Sys2Proof.Machine.execCoalescedSummaryStaged s
  | .anchorReferenceBoundary source pos => Sys2Proof.Machine.execAnchorReferenceBoundary source pos s
  | .anchorReferenceLost => Sys2Proof.Machine.execAnchorReferenceLost s
  | .ppsEdge rising pos => Sys2Proof.Machine.execPpsEdge rising pos s
  | .ppsLost => Sys2Proof.Machine.execPpsLost s
  | .pmSecondBoundary => Sys2Proof.Machine.execPmSecondBoundary s
  | .untimedCommandEffect => Sys2Proof.Machine.execUntimedCommandEffect s
  | .timedCommandApply => Sys2Proof.Machine.execTimedCommandApply s
  | .doorbell mb => Sys2Proof.Machine.execDoorbell mb s
  | .rspConsWrite mb value => Sys2Proof.Machine.execRspConsWrite mb value s
  | .announcedCommandAcknowledged mb => Sys2Proof.Machine.execAnnouncedCommandAcknowledged mb s
  | .coreWatchdogExpiry core => Sys2Proof.Machine.execCoreWatchdogExpiry core s
  | .allCoresHalted => Sys2Proof.Machine.execAllCoresHalted s
  | .sysIdentify core => Sys2Proof.Machine.execSysIdentify core s
  | .sysStatus core => Sys2Proof.Machine.execSysStatus core s
  | .sysCancel core => Sys2Proof.Machine.execSysCancel core s
  | .sysEcho core => Sys2Proof.Machine.execSysEcho core s
  | .sysMbxGrant core => Sys2Proof.Machine.execSysMbxGrant core s
  | .sysWindowSet core => Sys2Proof.Machine.execSysWindowSet core s
  | .fwStage core => Sys2Proof.Machine.execFwStage core s
  | .fwStageComplete image => Sys2Proof.Machine.execFwStageComplete image s
  | .fwActivate core => Sys2Proof.Machine.execFwActivate core s
  | .fwRollback core => Sys2Proof.Machine.execFwRollback core s
  | .fwPauseBegin => Sys2Proof.Machine.execFwPauseBegin s
  | .fwPauseEnd => Sys2Proof.Machine.execFwPauseEnd s
  | .fwTrialSuccess => Sys2Proof.Machine.execFwTrialSuccess s
  | .fwTrialFailure cause => Sys2Proof.Machine.execFwTrialFailure cause s
  | .timeAnchorSet core => Sys2Proof.Machine.execTimeAnchorSet core s
  | .timeRead core => Sys2Proof.Machine.execTimeRead core s
  | .timePpsSet core => Sys2Proof.Machine.execTimePpsSet core s
  | .timePending core => Sys2Proof.Machine.execTimePending core s
  | .schedLoad core => Sys2Proof.Machine.execSchedLoad core s
  | .schedStoreDone ok => Sys2Proof.Machine.execSchedStoreDone ok s
  | .schedVerify core read => Sys2Proof.Machine.execSchedVerify core read s
  | .schedSwap core => Sys2Proof.Machine.execSchedSwap core s
  | .schedStatus core => Sys2Proof.Machine.execSchedStatus core s
  | .schedDiscard core => Sys2Proof.Machine.execSchedDiscard core s
  | .swapArm => Sys2Proof.Machine.execSwapArm s
  | .swapCommitDecision acks twinAck => Sys2Proof.Machine.execSwapCommitDecision acks twinAck s
  | .swapEffect latched => Sys2Proof.Machine.execSwapEffect latched s
  | .standbyCommitMissing => Sys2Proof.Machine.execStandbyCommitMissing s
  | .lpEnable core => Sys2Proof.Machine.execLpEnable core s
  | .lpStatus core => Sys2Proof.Machine.execLpStatus core s
  | .lpLaneSet core => Sys2Proof.Machine.execLpLaneSet core s
  | .lpLadderPolicy core => Sys2Proof.Machine.execLpLadderPolicy core s
  | .lpLadderStep core => Sys2Proof.Machine.execLpLadderStep core s
  | .lpOtuOhSet core => Sys2Proof.Machine.execLpOtuOhSet core s
  | .laneUp lane => Sys2Proof.Machine.execLaneUp lane s
  | .laneDown lane => Sys2Proof.Machine.execLaneDown lane s
  | .flexoFrameStateChange port inst state => Sys2Proof.Machine.execFlexoFrameStateChange port inst state s
  | .flexoGroupStateChange port aligned => Sys2Proof.Machine.execFlexoGroupStateChange port aligned s
  | .otucFrameStateChange port inst inFrame => Sys2Proof.Machine.execOtucFrameStateChange port inst inFrame s
  | .otucMultiframeStateChange port inst inMf => Sys2Proof.Machine.execOtucMultiframeStateChange port inst inMf s
  | .portMultiframeAligned port => Sys2Proof.Machine.execPortMultiframeAligned port s
  | .portMultiframeLost port => Sys2Proof.Machine.execPortMultiframeLost port s
  | .sgIndicationAsserted port which => Sys2Proof.Machine.execSgIndicationAsserted port which s
  | .sgIndicationCleared port which => Sys2Proof.Machine.execSgIndicationCleared port which s
  | .ttiAccepted site tti => Sys2Proof.Machine.execTtiAccepted site tti s
  | .rxMfStart port pos unavailable => Sys2Proof.Machine.execRxMfStart port pos unavailable s
  | .rxGenerationMark port mark => Sys2Proof.Machine.execRxGenerationMark port mark s
  | .lccReqReceived port word inverse => Sys2Proof.Machine.execLccReqReceived port word inverse s
  | .lccAnnReceived port word inverse => Sys2Proof.Machine.execLccAnnReceived port word inverse s
  | .lccMessageReceived port words => Sys2Proof.Machine.execLccMessageReceived port words s
  | .lccFallback port => Sys2Proof.Machine.execLccFallback port s
  | .rxStepApply port => Sys2Proof.Machine.execRxStepApply port s
  | .rxStepResync port => Sys2Proof.Machine.execRxStepResync port s
  | .stepPinQualified port => Sys2Proof.Machine.execStepPinQualified port s
  | .ladderRequestTimeout port => Sys2Proof.Machine.execLadderRequestTimeout port s
  | .ladderAnnounceStart port => Sys2Proof.Machine.execLadderAnnounceStart port s
  | .ladderStepApply port => Sys2Proof.Machine.execLadderStepApply port s
  | .oduTtiSet core => Sys2Proof.Machine.execOduTtiSet core s
  | .oduTcmSet core => Sys2Proof.Machine.execOduTcmSet core s
  | .oduOhWrite core => Sys2Proof.Machine.execOduOhWrite core s
  | .oduOhRead core => Sys2Proof.Machine.execOduOhRead core s
  | .dmMeasureDone obj level => Sys2Proof.Machine.execDmMeasureDone obj level s
  | .chStatus core => Sys2Proof.Machine.execChStatus core s
  | .chMaint core => Sys2Proof.Machine.execChMaint core s
  | .chMaintExpiry ch flow => Sys2Proof.Machine.execChMaintExpiry ch flow s
  | .cpConfig core => Sys2Proof.Machine.execCpConfig core s
  | .chRateRead core => Sys2Proof.Machine.execChRateRead core s
  | .rateTrackerPeriod ch stage => Sys2Proof.Machine.execRateTrackerPeriod ch stage s
  | .receivedCount ch stage value crcOk => Sys2Proof.Machine.execReceivedCount ch stage value crcOk s
  | .rampStateEnd ch => Sys2Proof.Machine.execRampStateEnd ch s
  | .blockLockGained ch => Sys2Proof.Machine.execBlockLockGained ch s
  | .blockLockLost ch => Sys2Proof.Machine.execBlockLockLost ch s
  | .sgStatus core => Sys2Proof.Machine.execSgStatus core s
  | .skewRead core => Sys2Proof.Machine.execSkewRead core s
  | .farBudgetRead core => Sys2Proof.Machine.execFarBudgetRead core s
  | .arbDeadlineSet core => Sys2Proof.Machine.execArbDeadlineSet core s
  | .dieLinkDown slice => Sys2Proof.Machine.execDieLinkDown slice s
  | .sliceFailureDeclared slice report => Sys2Proof.Machine.execSliceFailureDeclared slice report s
  | .deskewRelease sg words poisoned => Sys2Proof.Machine.execDeskewRelease sg words poisoned s
  | .sgUp sg => Sys2Proof.Machine.execSgUp sg s
  | .farDeskewUnavailable cause => Sys2Proof.Machine.execFarDeskewUnavailable cause s
  | .alignedSignaturePeriod pg wSig pSig wArrival pArrival => Sys2Proof.Machine.execAlignedSignaturePeriod pg wSig pSig wArrival pArrival s
  | .alignedMatchTimeout pg => Sys2Proof.Machine.execAlignedMatchTimeout pg s
  | .arbiterGrant resource requests => Sys2Proof.Machine.execArbiterGrant resource requests s
  | .arbCutoff requester => Sys2Proof.Machine.execArbCutoff requester s
  | .farReadDeadlineMiss owner index cells => Sys2Proof.Machine.execFarReadDeadlineMiss owner index cells s
  | .defRead core => Sys2Proof.Machine.execDefRead core s
  | .defMask core => Sys2Proof.Machine.execDefMask core s
  | .defDegSet core => Sys2Proof.Machine.execDefDegSet core s
  | .pmRead core => Sys2Proof.Machine.execPmRead core s
  | .pmBinSet core => Sys2Proof.Machine.execPmBinSet core s
  | .defectRaised obj layer defect => Sys2Proof.Machine.execDefectRaised obj layer defect s
  | .defectCleared obj layer defect => Sys2Proof.Machine.execDefectCleared obj layer defect s
  | .consequentActionEvaluation => Sys2Proof.Machine.execConsequentActionEvaluation s
  | .holdoffExpiry pg path => Sys2Proof.Machine.execHoldoffExpiry pg path s
  | .wtrExpiry pg => Sys2Proof.Machine.execWtrExpiry pg s
  | .apsAccepted pg aps => Sys2Proof.Machine.execApsAccepted pg aps s
  | .pathMonitorFrameChange pg path inFrame => Sys2Proof.Machine.execPathMonitorFrameChange pg path inFrame s
  | .dfopNrTimeout pg => Sys2Proof.Machine.execDfopNrTimeout pg s
  | .pgCommand core => Sys2Proof.Machine.execPgCommand core s
  | .pgStatus core => Sys2Proof.Machine.execPgStatus core s
  | .pgTimers core => Sys2Proof.Machine.execPgTimers core s
  | .galuloFrameReceived frame => Sys2Proof.Machine.execGaluloFrameReceived frame s
  | .stateCorrectionApply => Sys2Proof.Machine.execStateCorrectionApply s
  | .sinterTwinCommit => Sys2Proof.Machine.execSinterTwinCommit s
  | .mirrorAckTimeout => Sys2Proof.Machine.execMirrorAckTimeout s
  | .digestCompare => Sys2Proof.Machine.execDigestCompare s
  | .resyncAlign port => Sys2Proof.Machine.execResyncAlign port s
  | .resyncTimeout port => Sys2Proof.Machine.execResyncTimeout port s
  | .galuloLinkUp => Sys2Proof.Machine.execGaluloLinkUp s
  | .galuloLinkDown lanes => Sys2Proof.Machine.execGaluloLinkDown lanes s
  | .galuloFrameTimeout => Sys2Proof.Machine.execGaluloFrameTimeout s
  | .pairAliveInLow => Sys2Proof.Machine.execPairAliveInLow s
  | .keepaliveWatchdogExpiry => Sys2Proof.Machine.execKeepaliveWatchdogExpiry s
  | .failureTakeover => Sys2Proof.Machine.execFailureTakeover s
  | .xstbySample a b => Sys2Proof.Machine.execXstbySample a b s
  | .xstbyDiscrepancy => Sys2Proof.Machine.execXstbyDiscrepancy s
  | .waitTimeoutActive => Sys2Proof.Machine.execWaitTimeoutActive s
  | .fcAdoption => Sys2Proof.Machine.execFcAdoption s
  | .joinPhaseComplete => Sys2Proof.Machine.execJoinPhaseComplete s
  | .joinPhaseTimeout => Sys2Proof.Machine.execJoinPhaseTimeout s
  | .joinRetry => Sys2Proof.Machine.execJoinRetry s
  | .handoverEffect => Sys2Proof.Machine.execHandoverEffect s
  | .handoverNoAnswer => Sys2Proof.Machine.execHandoverNoAnswer s
  | .pairSet core => Sys2Proof.Machine.execPairSet core s
  | .pairJoin core => Sys2Proof.Machine.execPairJoin core s
  | .pairStatus core => Sys2Proof.Machine.execPairStatus core s
  | .pairTakeover core => Sys2Proof.Machine.execPairTakeover core s
  | .pairYield core => Sys2Proof.Machine.execPairYield core s
  | .pairDiscrepancySet core => Sys2Proof.Machine.execPairDiscrepancySet core s
  | .fumPortSet core => Sys2Proof.Machine.execFumPortSet core s
  | .fumBind core => Sys2Proof.Machine.execFumBind core s
  | .fumUnbind core => Sys2Proof.Machine.execFumUnbind core s
  | .fumUnbindComplete src => Sys2Proof.Machine.execFumUnbindComplete src s
  | .fumStatus core => Sys2Proof.Machine.execFumStatus core s
  | .fumPeek core => Sys2Proof.Machine.execFumPeek core s
  | .gccLineFrameReceived src bytes aborted => Sys2Proof.Machine.execGccLineFrameReceived src bytes aborted s
  | .fumPortFrameReceived port bytes aborted => Sys2Proof.Machine.execFumPortFrameReceived port bytes aborted s
  | .fumItemBoundary port => Sys2Proof.Machine.execFumItemBoundary port s
  | .fumBankExchange port => Sys2Proof.Machine.execFumBankExchange port s
  | .fumUnderrun port => Sys2Proof.Machine.execFumUnderrun port s
  | .fumImportFrameSent src => Sys2Proof.Machine.execFumImportFrameSent src s
  | .crcCtxSelWrite unit value => Sys2Proof.Machine.execCrcCtxSelWrite unit value s
  | .crcCfgWrite unit value => Sys2Proof.Machine.execCrcCfgWrite unit value s
  | .crcDataBWrite unit value => Sys2Proof.Machine.execCrcDataBWrite unit value s
  | .crcDataHWrite unit value => Sys2Proof.Machine.execCrcDataHWrite unit value s
  | .crcDataWWrite unit value => Sys2Proof.Machine.execCrcDataWWrite unit value s
  | .crcValueWrite unit value => Sys2Proof.Machine.execCrcValueWrite unit value s
  | .fcLoRead => Sys2Proof.Machine.execFcLoRead s
  | .lwfLostRead => Sys2Proof.Machine.execLwfLostRead s
  | .lwfPop value => Sys2Proof.Machine.execLwfPop value s
  | .registerWrite w => Sys2Proof.Machine.execRegisterWrite w s
  | .hostWindowAccess off a => Sys2Proof.Machine.execHostWindowAccess off a s
  | .lateWriteFault master id addr win cause => Sys2Proof.Machine.execLateWriteFault master id addr win cause s
  | .dmaTransferFailed user => Sys2Proof.Machine.execDmaTransferFailed user s
  | .perstNAsserted => Sys2Proof.Machine.execPerstNAsserted s
  | .pcieLinkChange up hot width speed => Sys2Proof.Machine.execPcieLinkChange up hot width speed s
  | .pcieFlr => Sys2Proof.Machine.execPcieFlr s
  | .sinterRead core => Sys2Proof.Machine.execSinterRead core s
  | .sinterWrite core => Sys2Proof.Machine.execSinterWrite core s
  | .sinterWear core => Sys2Proof.Machine.execSinterWear core s
  | .sinterBar0Write off width value => Sys2Proof.Machine.execSinterBar0Write off width value s
  | .sinterCommit second ok => Sys2Proof.Machine.execSinterCommit second ok s
  | .cntRead core => Sys2Proof.Machine.execCntRead core s
  | .cntChainSet core => Sys2Proof.Machine.execCntChainSet core s
  | .cntFilterSet core => Sys2Proof.Machine.execCntFilterSet core s
  | .geyserSet core => Sys2Proof.Machine.execGeyserSet core s
  | .geyserPost core => Sys2Proof.Machine.execGeyserPost core s
  | .geyserSnapshot => Sys2Proof.Machine.execGeyserSnapshot s
  | .geyserDumpWritten => Sys2Proof.Machine.execGeyserDumpWritten s
  | .evtRead core => Sys2Proof.Machine.execEvtRead core s
  | .evtMask core => Sys2Proof.Machine.execEvtMask core s
  | .evtBlackboxRead core => Sys2Proof.Machine.execEvtBlackboxRead core s
  | .eventStaged => Sys2Proof.Machine.execEventStaged s
  | .tephraRecordWrite => Sys2Proof.Machine.execTephraRecordWrite s
  | .overflowSummaryStaged => Sys2Proof.Machine.execOverflowSummaryStaged s
  | .logMemoryFault slot onWrite => Sys2Proof.Machine.execLogMemoryFault slot onWrite s
  | .pwrDomainSet core => Sys2Proof.Machine.execPwrDomainSet core s
  | .pwrStatus core => Sys2Proof.Machine.execPwrStatus core s
  | .pwrDormant core => Sys2Proof.Machine.execPwrDormant core s
  | .domainRisingStart domain => Sys2Proof.Machine.execDomainRisingStart domain s
  | .domainReady domain => Sys2Proof.Machine.execDomainReady domain s
  | .vaonApplied => Sys2Proof.Machine.execVaonApplied s
  | .railReached ok => Sys2Proof.Machine.execRailReached ok s
  | .railFault order => Sys2Proof.Machine.execRailFault order s
  | .railFaultRestart => Sys2Proof.Machine.execRailFaultRestart s
  | .resetN => Sys2Proof.Machine.execResetN s
  | .boot flash => Sys2Proof.Machine.execBoot flash s
  | .refclkBad b => Sys2Proof.Machine.execRefclkBad b s
  | .refclkGood b => Sys2Proof.Machine.execRefclkGood b s
  | .dormReq wakeLow => Sys2Proof.Machine.execDormReq wakeLow s
  | .dormantEntry => Sys2Proof.Machine.execDormantEntry s
  | .wake => Sys2Proof.Machine.execWake s
  | .prbsSet core => Sys2Proof.Machine.execPrbsSet core s
  | .prbsRead core => Sys2Proof.Machine.execPrbsRead core s
  | .prbsSyncChange obj sync => Sys2Proof.Machine.execPrbsSyncChange obj sync s
  | .loopSet core => Sys2Proof.Machine.execLoopSet core s
  | .lockChallenge core => Sys2Proof.Machine.execLockChallenge core s
  | .lockRespond core => Sys2Proof.Machine.execLockRespond core s
  | .lockPassword core => Sys2Proof.Machine.execLockPassword core s
  | .lockClose core => Sys2Proof.Machine.execLockClose core s
  | .lockPasswordSet core => Sys2Proof.Machine.execLockPasswordSet core s
  | .vendorDiagnostic core => Sys2Proof.Machine.execVendorDiagnostic core s
  | .nonceExpiry => Sys2Proof.Machine.execNonceExpiry s
  | .lockBackoffEnd => Sys2Proof.Machine.execLockBackoffEnd s
  | .lockSessionExpiry => Sys2Proof.Machine.execLockSessionExpiry s
  | .jtagInstruction x => Sys2Proof.Machine.execJtagInstruction x s
  | .uartCharacterReceived byte stop => Sys2Proof.Machine.execUartCharacterReceived byte stop s
  | .uartCounterRead => Sys2Proof.Machine.execUartCounterRead s
  | .pmbStart unit => Sys2Proof.Machine.execPmbStart unit s
  | .pmbArbitrationLost unit => Sys2Proof.Machine.execPmbArbitrationLost unit s
  | .pmbRetry unit => Sys2Proof.Machine.execPmbRetry unit s
  | .pmbTransactionDone unit nack data => Sys2Proof.Machine.execPmbTransactionDone unit nack data s
  | .schedLoadComplete read => Sys2Proof.Machine.execSchedLoadComplete read s
  | .domainOff domain => Sys2Proof.Machine.execDomainOff domain s
  | .dieLinkUp slice => Sys2Proof.Machine.execDieLinkUp slice s
  | .powerRemoved committed => Sys2Proof.Machine.execPowerRemoved committed s
  | .pairAliveInHigh => Sys2Proof.Machine.execPairAliveInHigh s
  | .fumTransparentByteReceived port byte => Sys2Proof.Machine.execFumTransparentByteReceived port byte s
  | .clientLaneDown lane => Sys2Proof.Machine.execClientLaneDown lane s
  | .clientLaneUp lane => Sys2Proof.Machine.execClientLaneUp lane s
  | .clientOtuFrameStateChange lane inFrame inMf => Sys2Proof.Machine.execClientOtuFrameStateChange lane inFrame inMf s

end Sys2Proof.Machine
end

