-- ==== Sys2Proof/Safety.lean ====
section
/-! DEFINITION. The words in which claims about the block are said: the canonical form of the memories, a core that is
about to take a command, a command whose moment has come, and the answer a command gets. -/

namespace Sys2Proof.Machine

open Sys2Proof

/-! ### The whole state -/

/-- Both memories of a state stand in their canonical form. -/
def State.memWf (s : State) : Bool := s.mem.wf && s.bar1.wf

/-- No response slot waits to be written: every step leaves it so. -/
def State.handedOver (s : State) : Bool := s.dev.host.out.isEmpty

/-- The device has power and is out of reset, and no response slot waits. -/
def State.live (s : State) : Bool := s.dev.powered && s.handedOver

/-- The byte of the BAR1 rings at an offset. -/
def State.ringByte (s : State) (a : Nat) : Byte := s.bar1.read a

/-! ### Events -/

/-- The event of a code, about an object, in the Beat in progress (R398). -/
def Dev.eventOf (d : Dev) (code obj : Nat) (data : List Byte) : Event :=
  { fc := d.fc, code := code, sev := sevOf code, obj := obj, data := padTo 12 data, fromTwin := false }

/-- One event arises in a step. -/
def State.raisesOne (s t : State) (code obj : Nat) (data : List Byte) : Prop :=
  t.dev.log.arising = s.dev.log.arising ++ [s.dev.eventOf code obj data]

/-- No event arises in a step. -/
def State.raisesNone (s t : State) : Prop := t.dev.log.arising = s.dev.log.arising

/-! ### Commands of the command interface -/

/-- Core `core` is free, and the sequencer's next command is `c`, of opcode `op`, which passes the checks 1 to 8 that
every command goes through (R322, R342). -/
def Dev.offers (d : Dev) (core op : Nat) (c : Cmd) : Bool :=
  d.coreFree core && d.pwr.fwState == 2 && bestOf d.host.queue == some c && (opRow op).isSome && c.opcode == op &&
    ((d.unqueue c).precheck c).isNone

/-- Offset in BAR1 of the response slot that mailbox `mb` fills next (R317, R321). -/
def Dev.rspSlot (d : Dev) (mb : Nat) : Nat := 0x8000 * mb + 0x4000 + 0x100 * ((d.mb mb).rspProd % 64)

/-- The response slot that a command answered in this Beat gets (R337, R340). -/
def Dev.slotOf (d : Dev) (c : Cmd) (st : Nat) (pl : List Byte) : List Byte :=
  let r : Rsp := { opcode := c.opcode, runFlags := c.cls, status := st, seq := c.seq, tag := c.tag, mailbox := c.mb
                   object := c.object, doneFc := d.fc, target := 0, payload := pl.take 224 }
  r.bytes

/-- The step answers command `c` with a status and a payload: the slot stands in the ring of its mailbox, whose RSP_PROD
advances by one, and the command is no longer queued; hub SRAM and HBM stay. -/
def State.answers (s t : State) (c : Cmd) (st : Nat) (pl : List Byte) : Prop :=
  t.bar1 = Memory.writeBytes s.bar1 (s.dev.rspSlot c.mb) (s.dev.slotOf c st pl) ∧
  (t.dev.mb c.mb).rspProd = ((s.dev.mb c.mb).rspProd + 1) % 2 ^ 16 ∧
  t.dev.host.queue = s.dev.host.queue.erase c ∧ t.mem = s.mem

/-! ### The rows of the command interface that share one path -/

/-- A row that changes no state: its opcode, its command, and what it answers. -/
structure ReadRow where
  op : Nat
  row : Nat → Instr
  answer : Dev → Cmd → Nat × List Byte

/-- A row that changes state by the usual path: its opcode, its command, and its own checks (9 and 10 of R342). -/
structure ChangeRow where
  op : Nat
  row : Nat → Instr
  check : Dev → Cmd → Check

/-- A row with no checks of its own. -/
def unchecked (_ : Dev) (_ : Cmd) : Check := none

/-- The rows that change no state (R351). First part. -/
def readRowsA : List ReadRow :=
  [⟨0x0001, .sysIdentify, sysIdentify⟩, ⟨0x0002, .sysStatus, sysStatus⟩, ⟨0x0004, .sysEcho, sysEcho⟩,
   ⟨0x0102, .timeRead, timeRead⟩, ⟨0x0104, .timePending, timePending⟩, ⟨0x0204, .schedStatus, schedStatus⟩,
   ⟨0x0302, .lpStatus, lpStatus⟩, ⟨0x0404, .oduOhRead, oduOhRead⟩, ⟨0x0501, .chStatus, chStatus⟩,
   ⟨0x0504, .chRateRead, chRateRead⟩, ⟨0x0601, .sgStatus, sgStatus⟩, ⟨0x0602, .skewRead, skewRead⟩,
   ⟨0x0603, .farBudgetRead, farBudgetRead⟩]

/-- The rows that change no state (R351). Second part. -/
def readRowsB : List ReadRow :=
  [⟨0x0701, .defRead, defRead⟩, ⟨0x0704, .pmRead, pmRead⟩, ⟨0x0802, .pgStatus, pgStatus⟩,
   ⟨0x0903, .pairStatus, pairStatus⟩, ⟨0x0A04, .fumStatus, fumStatus⟩, ⟨0x0A05, .fumPeek, fumPeek⟩,
   ⟨0x0B01, .sinterRead, sinterRead⟩, ⟨0x0B03, .sinterWear, sinterWear⟩, ⟨0x0C01, .cntRead, cntRead⟩,
   ⟨0x0D03, .evtBlackboxRead, evtBlackbox⟩, ⟨0x0E02, .pwrStatus, pwrStatus⟩, ⟨0x0F02, .prbsRead, prbsRead⟩]

/-- The rows that change no state and are answered in the Beat in which they execute (R342, R351). -/
def readRows : List ReadRow := readRowsA ++ readRowsB

/-- The rows that change state by the usual path (R45 to R49). First part. -/
def changeRowsA : List ChangeRow :=
  [⟨0x0005, .sysMbxGrant, checkSysMbxGrant⟩, ⟨0x0101, .timeAnchorSet, unchecked⟩, ⟨0x0103, .timePpsSet, unchecked⟩,
   ⟨0x0205, .schedDiscard, checkSchedDiscard⟩, ⟨0x0301, .lpEnable, checkLpEnable⟩, ⟨0x0303, .lpLaneSet, unchecked⟩,
   ⟨0x0304, .lpLadderPolicy, unchecked⟩, ⟨0x0305, .lpLadderStep, checkLpLadderStep⟩,
   ⟨0x0306, .lpOtuOhSet, unchecked⟩, ⟨0x0401, .oduTtiSet, unchecked⟩, ⟨0x0402, .oduTcmSet, checkOduTcmSet⟩,
   ⟨0x0403, .oduOhWrite, checkOduOhWrite⟩, ⟨0x0502, .chMaint, checkChMaint⟩, ⟨0x0503, .cpConfig, checkCpConfig⟩,
   ⟨0x0604, .arbDeadlineSet, checkArbDeadlineSet⟩, ⟨0x0702, .defMask, checkDefMask⟩,
   ⟨0x0703, .defDegSet, checkDefDegSet⟩, ⟨0x0705, .pmBinSet, checkPmBinSet⟩, ⟨0x0801, .pgCommand, checkPgCommand⟩]

/-- The rows that change state by the usual path (R45 to R49). Second part. -/
def changeRowsB : List ChangeRow :=
  [⟨0x0803, .pgTimers, unchecked⟩, ⟨0x0902, .pairJoin, checkPairJoin⟩, ⟨0x0A01, .fumPortSet, checkFumPortSet⟩,
   ⟨0x0A02, .fumBind, checkFumBind⟩, ⟨0x0A03, .fumUnbind, unchecked⟩, ⟨0x0B02, .sinterWrite, checkSinterWrite⟩,
   ⟨0x0C02, .cntChainSet, checkCntChainSet⟩, ⟨0x0C03, .cntFilterSet, checkCntFilterSet⟩,
   ⟨0x0C04, .geyserSet, checkGeyserSet⟩, ⟨0x0C05, .geyserPost, checkGeyserPost⟩, ⟨0x0D02, .evtMask, checkEvtMask⟩,
   ⟨0x0E01, .pwrDomainSet, checkPwrDomainSet⟩, ⟨0x0F01, .prbsSet, checkPrbsSet⟩, ⟨0x0F03, .loopSet, checkLoopSet⟩,
   ⟨0x0F10, .lockChallenge, unchecked⟩, ⟨0x0F11, .lockRespond, checkBackoff⟩, ⟨0x0F12, .lockPassword, checkBackoff⟩,
   ⟨0x0F13, .lockClose, unchecked⟩, ⟨0x0F14, .lockPasswordSet, unchecked⟩]

/-- The rows whose commands are accepted and take effect later (R45 to R49). -/
def changeRows : List ChangeRow := changeRowsA ++ changeRowsB

/-- Command `c` applies at Beat 0 of an MF that it names: its row may be timed and it carries TIMED (R48). -/
def Cmd.appliesTimed (c : Cmd) : Bool := c.timed && match opRow c.opcode with | some r => r.timed | none => false

/-- Command `c` as it waits for its Beat, held by a core or by none, mirrored to no twin (R45 to R49). -/
def Cmd.waits (c : Cmd) (core target : Option Nat) (effectFc order : Nat) : Waiting :=
  { cmd := c, core := core, target := target, effectFc := effectFc, order := order, mirror := none, acked := false
    fromTwin := false, job := false, listed := target.isSome }

/-- The response to a waiting command (R337, R340). -/
def Waiting.response (w : Waiting) (st : Nat) (pl : List Byte) (doneFc : Nat) : Rsp :=
  { opcode := w.cmd.opcode, runFlags := w.cmd.cls + 4 * b2n w.target.isSome + 8 * b2n (w.mirror.isSome && w.acked)
    status := st, seq := w.cmd.seq, tag := w.cmd.tag, mailbox := w.cmd.mb, object := w.cmd.object, doneFc := doneFc
    target := w.target.getD 0 % 2 ^ 32, payload := pl.take 224 }

/-- This device would mirror command `c` to its twin (R268, R354). -/
def Dev.wouldMirror (d : Dev) (c : Cmd) : Bool := match opRow c.opcode with | some r => d.mirrors r | none => false

/-- Target MFN of a mirrored command: what it carries, judged from two MF ahead, or two MF ahead (R48, R268). -/
def Dev.mirrorTarget (d : Dev) (c : Cmd) : Nat :=
  if c.appliesTimed then (resolveTarget (d.mfn + 2) c.applyAt).1 else d.mfn + 2

/-- The untimed command `w` of opcode `op`, this device's own, is the next to take effect, and its object exists (R45). -/
def State.effectDue (s : State) (op : Nat) (w : Waiting) : Bool :=
  s.live && s.dev.untimedDue == some w && w.cmd.opcode == op && s.dev.objExists w.cmd.object && !w.fromTwin

/-! ### Deskew (R186) -/

/-- Arrival of the `j`-th word that member `k` of a group holds. -/
def Dev.wordArrival (d : Dev) (g j k : Nat) : Nat :=
  match (d.stream (objSpread g) k).held[j]? with | some w => w.arrived | none => 0

/-- Lead of member `k` over the `j`-th word that the group's members hold: from its arrival to the first TS-cell period after
the last member's (R186). -/
def Dev.leadAt (d : Dev) (g j k : Nat) : Nat :=
  nextPeriod (((List.range (d.group g).members.length).map fun i => d.wordArrival g j i).foldl max 0) - d.wordArrival g j k

end Sys2Proof.Machine
end

