-- ==== Sys2Proof/Certificates/Slice0/Obligations.lean ====
section
/-! DEFINITION. The statements for the provers, from the manual's numbered rules, chapter by chapter. -/

open Sys2Proof Sys2Proof.Machine

/-- The command at the front of the queue runs with the queue's rest: the step is `exec` of that command. -/
def Obligations.step_runs_front_command : Prop :=
  ∀ (s : State) (c : Instr) (rest : List Instr), s.pending = c :: rest →
    step s = exec c { s with pending := rest }

/-- The queue of waiting commands changes by steps alone: no command that runs touches it; and where it is empty the block
idles, the step answering the state as it stands (the model's choice). Rests on the model's choices of log entry 2. -/
def Obligations.queue_is_left_alone_and_idles_when_empty : Prop :=
  (∀ (s t : State) (i : Instr), exec i s = .next t → t.pending = s.pending) ∧
  (∀ s : State, s.pending = [] → step s = .next s)

/-- Every step keeps both memories (hub SRAM with HBM, and the BAR1 rings) in their canonical form: addresses strictly
rising, and no entry equal to what an unlisted address reads as. Rests on the model's choices of log entry 8. -/
def Obligations.step_keeps_memories_canonical : Prop :=
  ∀ s t : State, s.memWf = true → step s = .next t → t.memWf = true

/-- Every step hands its responses over: after it no response slot waits to be written into a ring. -/
def Obligations.step_hands_responses_over : Prop :=
  ∀ s t : State, s.handedOver = true → step s = .next t → t.handedOver = true

/-- Whole-machine rule: the only command that is ever refused is a vendor diagnostic or a private JTAG instruction, and the
only commands that ever fault are accesses to a BAR. Rests on the model's choices of log entry 14. -/
def Obligations.only_undescribed_units_stop : Prop :=
  ∀ (s : State) (i : Instr),
    (∀ r, exec i s = .refused r →
      (r = .vendorDiagnostic ∧ ∃ core, i = .vendorDiagnostic core) ∨
      (r = .privateJtag ∧ ∃ n, i = .jtagInstruction (.privateCode n))) ∧
    (∀ f, exec i s = .fault f →
      f = .outsideBar ∧ ((∃ w, i = .registerWrite w) ∨ (∃ off a, i = .hostWindowAccess off a) ∨
        (∃ off w v, i = .sinterBar0Write off w v)))

/-- After reset both memories are canonical, no response and no command waits, FC stands at 0, the anchor acquires EXTERNAL
with FAILOVER set, LOSS_MF 2 and ANCHOR_OFFSET 0 (R50), PPS is off (R52), and the first PM second counts 1 (R44). Rests on
the model's choices of log entries 4, 5, 8. -/
def Obligations.reset_meets_invariants_and_time_values : Prop :=
  State.reset.memWf = true ∧ State.reset.handedOver = true ∧ State.reset.pending = [] ∧
  State.reset.dev.fc = 0 ∧
  State.reset.dev.anchor.source = 0 ∧ State.reset.dev.anchor.failover = true ∧ State.reset.dev.anchor.lossMf = 2 ∧
  State.reset.dev.anchor.offset = 0 ∧ State.reset.dev.pps.mode = 0 ∧ State.reset.dev.pps.lossN = 3 ∧
  State.reset.dev.pps.windowMf = 10 ∧ State.reset.dev.pps.pmSeconds = 1 ∧ State.reset.dev.pps.pmsMfn = 0

/-- R337, R340, R342: a core that is offered a command that changes no state answers it in the same step: the response slot
of the row's status and payload stands in the mailbox's ring and RSP_PROD advances by one. Nothing but the host attachment,
the log and the ring changes. Completes: sysIdentify, sysStatus, sysEcho, timeRead, timePending, schedStatus, lpStatus,
oduOhRead, chStatus, chRateRead, sgStatus, skewRead, farBudgetRead, defRead, pmRead, pgStatus, pairStatus, fumStatus,
fumPeek, sinterRead, sinterWear, cntRead, evtBlackboxRead, pwrStatus, prbsRead. -/
def Obligations.reads_are_answered_at_once : Prop :=
  ∀ r ∈ readRows, ∀ (s : State) (core : Nat) (c : Cmd), s.handedOver = true → s.dev.offers core r.op c = true →
    ∃ t, exec (r.row core) s = .next t ∧
      s.answers t c (r.answer (s.dev.unqueue c) c).1 (r.answer (s.dev.unqueue c) c).2 ∧
      t.dev = { s.dev with host := t.dev.host, log := t.dev.log }

/-- R45, R48, R49, R268, R342: a core that is offered a command that changes state, and that the row's own checks refuse,
answers the refusal and changes nothing else. One that they pass waits: an untimed command from the third Beat after this
one, or from Beat 0 of the reference MF where its home chapter says so; a timed one until Beat 0 of its target MF, where
there is room; it is answered NO_RESOURCE where there is none. A command that this device mirrors waits for its target, two
MF ahead where it carries none, and is sent to the twin under a new MIRROR_ID. Completes: sysMbxGrant, timeAnchorSet,
timePpsSet, schedDiscard, lpEnable, lpLaneSet, lpLadderPolicy, lpLadderStep, lpOtuOhSet, oduTtiSet, oduTcmSet, oduOhWrite,
chMaint, cpConfig, arbDeadlineSet, defMask, defDegSet, pmBinSet, pgCommand, pgTimers, pairJoin, fumPortSet, fumBind,
fumUnbind, sinterWrite, cntChainSet, cntFilterSet, geyserSet, geyserPost, evtMask, pwrDomainSet, prbsSet, loopSet,
lockChallenge, lockRespond, lockPassword, lockClose, lockPasswordSet. Rests on the model's choices of log entries 15, 20. -/
def Obligations.settings_wait_for_their_beat : Prop :=
  ∀ r ∈ changeRows, ∀ (s : State) (core : Nat) (c : Cmd), s.handedOver = true → s.dev.offers core r.op c = true →
    (∀ st pl, r.check (s.dev.unqueue c) c = some (st, pl) →
      ∃ t, exec (r.row core) s = .next t ∧ s.answers t c st pl ∧
        t.dev = { s.dev with host := t.dev.host, log := t.dev.log }) ∧
    (r.check (s.dev.unqueue c) c = none → s.dev.wouldMirror c = false → c.appliesTimed = false →
      ∃ t, exec (r.row core) s = .next t ∧
        t = { s with dev := { s.dev with host := { s.dev.host with
          queue := s.dev.host.queue.erase c,
          waiting := s.dev.host.waiting ++ [c.waits (some core) none
            (if c.atMf then 256 * s.dev.refMfn else s.dev.fc + 3) s.dev.host.nextOrder],
          nextOrder := s.dev.host.nextOrder + 1 } } }) ∧
    (r.check (s.dev.unqueue c) c = none → s.dev.wouldMirror c = false → c.appliesTimed = true →
      (s.dev.timedRoom (resolveTarget s.dev.refMfn c.applyAt).1 = true →
        ∃ t, exec (r.row core) s = .next t ∧
          t.dev.host.waiting = s.dev.host.waiting ++ [c.waits none (some (resolveTarget s.dev.refMfn c.applyAt).1)
            (256 * (resolveTarget s.dev.refMfn c.applyAt).1) s.dev.host.nextOrder] ∧
          t.dev.host.queue = s.dev.host.queue.erase c ∧ t.bar1 = s.bar1 ∧ t.mem = s.mem ∧
          (if (resolveTarget s.dev.refMfn c.applyAt).2 then
            s.raisesOne t 0x0109 0 (leBytes 2 c.opcode ++ leBytes 2 c.seq ++ leBytes 4 c.applyAt)
          else s.raisesNone t)) ∧
      (s.dev.timedRoom (resolveTarget s.dev.refMfn c.applyAt).1 = false →
        ∃ t, exec (r.row core) s = .next t ∧ s.answers t c stNoResource [] ∧
          t.dev = { s.dev with host := t.dev.host, log := t.dev.log })) ∧
    (r.check (s.dev.unqueue c) c = none → s.dev.wouldMirror c = true → s.dev.timedRoom (s.dev.mirrorTarget c) = true →
      ∃ t, exec (r.row core) s = .next t ∧
        t.dev.host.waiting = s.dev.host.waiting ++
          [{ c.waits none (some (s.dev.mirrorTarget c)) (256 * s.dev.mirrorTarget c) s.dev.host.nextOrder with
             mirror := some ((s.dev.pair.mirrorId + 1) % 2 ^ 16) }] ∧
        t.dev.pair = { s.dev.pair with
          unacked := s.dev.pair.unacked ++
            [⟨c.mb, c.seq, s.dev.mirrorTarget c % 2 ^ 32, (s.dev.pair.mirrorId + 1) % 2 ^ 16, c.slot⟩],
          mirrorId := (s.dev.pair.mirrorId + 1) % 2 ^ 16 } ∧
        t.dev.host.queue = s.dev.host.queue.erase c ∧ t.bar1 = s.bar1 ∧ t.mem = s.mem)

/-- R342: what a core finds at the head of its queue and the checks every command goes through refuse is answered with the
first refusal, and no other state changes; and the checks pass exactly when the SEQ is not in use, the mailbox may use the
opcode, the lock and the role permit it, the object has one of the opcode's types, a grant covers it, and it exists. -/
def Obligations.refused_commands_are_answered_and_change_nothing : Prop :=
  (∀ r ∈ readRows, ∀ (s : State) (core : Nat) (c : Cmd) (st : Nat) (pl : List Byte), s.handedOver = true →
    s.dev.coreFree core = true → s.dev.pwr.fwState = 2 → bestOf s.dev.host.queue = some c → c.opcode = r.op →
    (s.dev.unqueue c).precheck c = some (st, pl) →
    ∃ t, exec (r.row core) s = .next t ∧ s.answers t c st pl ∧
      t.dev = { s.dev with host := t.dev.host, log := t.dev.log }) ∧
  (∀ r ∈ changeRows, ∀ (s : State) (core : Nat) (c : Cmd) (st : Nat) (pl : List Byte), s.handedOver = true →
    s.dev.coreFree core = true → s.dev.pwr.fwState = 2 → bestOf s.dev.host.queue = some c → c.opcode = r.op →
    (s.dev.unqueue c).precheck c = some (st, pl) →
    ∃ t, exec (r.row core) s = .next t ∧ s.answers t c st pl ∧
      t.dev = { s.dev with host := t.dev.host, log := t.dev.log }) ∧
  (∀ (d : Dev) (c : Cmd) (r : OpRow), opRow c.opcode = some r → c.opcode ≠ 0x0002 →
    (d.precheck c = none ↔
      (∀ q ∈ d.host.queue, ¬(q.mb = c.mb ∧ q.seq = c.seq)) ∧
      (∀ w ∈ d.host.waiting, ¬(w.cmd.mb = c.mb ∧ w.cmd.seq = c.seq)) ∧
      (r.access = .privileged → c.mb = 0) ∧
      ¬(d.locked = true ∧ (c.opcode = 0x0F14 ∨ (0x0F20 ≤ c.opcode ∧ c.opcode ≤ 0x0F2F))) ∧
      (r.anyRole = true ∨ d.inCharge = true) ∧
      objType c.object ∈ r.types ∧ d.grantRefuses c r.access = false ∧ d.objExists c.object = true ∧
      (c.opcode = 0x0303 → 64 ≤ c.index)))

/-- R45, R46, R321: the command whose Beat has come takes its effect and is answered: it no longer waits, and its response
with the effect's status and payload stands next in its mailbox's ring, with the FC of this Beat for an untimed command and
with TARGET_MFN for a timed one. Where no command is due nothing changes. Completes: untimedCommandEffect, timedCommandApply.
Rests on the model's choices of log entry 16. -/
def Obligations.due_commands_take_effect_and_are_answered : Prop :=
  (∀ (s : State) (w : Waiting) (e : Dev) (st : Nat) (pl : List Byte), s.live = true → s.dev.untimedDue = some w →
    w.fromTwin = false → s.dev.applyCmd w.cmd w.order = (e, st, pl) → st ≠ stGoesOn → e.host.out = [] →
    ∃ t, exec .untimedCommandEffect s = .next t ∧ (∀ v ∈ t.dev.host.waiting, v.order ≠ w.order) ∧
      t.bar1 = Memory.writeBytes s.bar1 (e.rspSlot w.cmd.mb)
        (w.response st pl e.fc).bytes ∧ t.mem = s.mem) ∧
  (∀ (s : State) (w : Waiting) (mfn : Nat) (e : Dev) (st : Nat) (pl : List Byte), s.live = true →
    s.dev.timedNext = some w → w.target = some mfn → w.fromTwin = false →
    s.dev.applyCmd w.cmd w.order = (e, st, pl) → st ≠ stGoesOn → e.host.out = [] →
    ∃ t, exec .timedCommandApply s = .next t ∧ (∀ v ∈ t.dev.host.waiting, v.order ≠ w.order) ∧
      t.bar1 = Memory.writeBytes s.bar1 (e.rspSlot w.cmd.mb)
        (w.response st pl (fcOf mfn)).bytes ∧ t.mem = s.mem) ∧
  (∀ s : State, s.live = true → (s.dev.untimedDue = none → exec .untimedCommandEffect s = .next s) ∧
    (s.dev.timedNext = none → exec .timedCommandApply s = .next s))

/-- R358: SYS_ECHO is answered OK with its payload; the response's PAYLOAD_LEN is the length of the command's payload, which
is that of the slot's PAYLOAD_LEN field clamped to 224 (R336), and its payload holds the same bytes. No event arises, nothing
outside the host attachment changes, and no other mailbox changes. Completes: sysEcho. -/
def Obligations.echo_returns_its_payload : Prop :=
  (∀ (s : State) (core : Nat) (c : Cmd), s.handedOver = true → s.dev.offers core 0x0004 c = true →
    ∃ t, exec (.sysEcho core) s = .next t ∧ s.answers t c stOk c.payload ∧ s.raisesNone t ∧
      t.dev.host.waiting = s.dev.host.waiting ∧ (∀ n, n ≠ c.mb → t.dev.mb n = s.dev.mb n) ∧
      t.dev = { s.dev with host := t.dev.host, log := t.dev.log }) ∧
  (∀ (d : Dev) (c : Cmd), c.payload.length ≤ 224 →
    fieldAt (d.slotOf c stOk c.payload) 4 2 = c.payload.length ∧
    sliceAt (d.slotOf c stOk c.payload) 32 c.payload.length = c.payload ∧
    (d.slotOf c stOk c.payload).length = 32 + c.payload.length) ∧
  (∀ (mb : Nat) (slot : List Byte), (Cmd.ofSlot mb slot).payload.length = min 224 (fieldAt slot 4 2) ∧
    ∀ i, i < (Cmd.ofSlot mb slot).payload.length → byteAt (Cmd.ofSlot mb slot).payload i = byteAt slot (32 + i))

/-- R34: a Beat boundary increments FC by exactly 1, in every state of a powered device that has a reference clock. R38: at
the end of the Beat in which the boundary falls to which the anchor steps, with no line port enabled, FC jumps forward to the
next multiple of 256 instead. Completes: beatBoundary. Rests on the model's choices of log entry 71. -/
def Obligations.beat_boundary_increments_fc : Prop :=
  (∀ (s : State) (b : BeatInput), s.dev.powered = true → s.dev.clocked = true →
    (s.dev.anchor.stepAt ≠ some s.dev.fc ∨ ∃ p ∈ s.dev.ports, p.2.enabled = true) →
    ∃ t, exec (.beatBoundary b) s = .next t ∧ t.dev.fc = s.dev.fc + 1 ∧ t.mem = s.mem) ∧
  (∀ (s : State) (b : BeatInput), s.dev.powered = true → s.dev.clocked = true →
    s.dev.anchor.stepAt = some s.dev.fc → (∀ p ∈ s.dev.ports, p.2.enabled = false) →
    ∃ t, exec (.beatBoundary b) s = .next t ∧ t.dev.fc = (s.dev.fc / 256 + 1) * 256 ∧ t.dev.anchor.mode = .locked ∧
      t.mem = s.mem)

/-- R37 to R39: in ACQUIRE the first two consistent boundaries of the source in use are only counted and their phase error is
recorded; a third consistent boundary in a row that is on phase takes the anchor to LOCKED with event 0x0101 and FC does not
move; off phase with no line port enabled the anchor steps, FC jumping forward to the next multiple of 256 in the Beat in
which the boundary falls that the signal marks (R36); off phase with a line port enabled it enters SLEW with event 0x0105 and
no Beat is skipped. R40: after LOSS_MF MF without a consistent boundary the reference is lost, with event 0x0102: failover to
TWIN enters ACQUIRE on the TWIN source where it is allowed and the twin is LOCKED; otherwise the anchor enters HOLDOVER.
Completes: anchorReferenceBoundary, anchorReferenceLost. Rests on the model's choices of log entries 19, 20, 75. -/
def Obligations.anchor_acquires_locks_slews_and_loses : Prop :=
  (∀ (s : State) (src pos : Nat), s.live = true → (src = 0 ∨ src = 2) → pos < 15_296 → s.dev.anchor.inUse = src →
      s.dev.anchor.mode = .acquire → s.dev.anchor.seen = false → s.dev.anchor.consistent ≤ 1 →
      ∃ t, exec (.anchorReferenceBoundary src pos) s = .next t ∧ t.dev.anchor.mode = .acquire ∧
        t.dev.anchor.phaseErr = s.dev.phaseError src pos ∧ t.dev.anchor.consistent = s.dev.anchor.consistent + 1 ∧
        t.dev.anchor.seen = true ∧ s.raisesNone t ∧ t = { s with dev := { s.dev with anchor := t.dev.anchor } }) ∧
  (∀ (s : State) (src pos : Nat), s.live = true → (src = 0 ∨ src = 2) → pos < 15_296 → s.dev.anchor.inUse = src →
      s.dev.anchor.mode = .acquire → s.dev.anchor.consistent = 2 →
      nearPhase (wrapPhase (s.dev.phaseError src pos - s.dev.anchor.phaseErr)) = true →
      nearPhase (s.dev.phaseError src pos) = true →
      ∃ t, exec (.anchorReferenceBoundary src pos) s = .next t ∧ t.dev.anchor.mode = .locked ∧ t.dev.fc = s.dev.fc ∧
        s.raisesOne t 0x0101 0 []) ∧
  (∀ (s : State) (src pos : Nat), s.live = true → (src = 0 ∨ src = 2) → pos < 15_296 → s.dev.anchor.inUse = src →
      s.dev.anchor.mode = .acquire → s.dev.anchor.consistent = 2 →
      nearPhase (wrapPhase (s.dev.phaseError src pos - s.dev.anchor.phaseErr)) = true →
      nearPhase (s.dev.phaseError src pos) = false → (∀ p ∈ s.dev.ports, p.2.enabled = false) →
      ∃ t, exec (.anchorReferenceBoundary src pos) s = .next t ∧
        (if s.dev.boundaryBeat src pos = s.dev.fc then
          t.dev.fc = (s.dev.fc / 256 + 1) * 256 ∧ t.dev.anchor.mode = .locked
        else t.dev.fc = s.dev.fc ∧ t.dev.anchor.stepAt = some (s.dev.boundaryBeat src pos))) ∧
  (∀ (s : State) (src pos : Nat), s.live = true → (src = 0 ∨ src = 2) → pos < 15_296 → s.dev.anchor.inUse = src →
      s.dev.anchor.mode = .acquire → s.dev.anchor.consistent = 2 →
      nearPhase (wrapPhase (s.dev.phaseError src pos - s.dev.anchor.phaseErr)) = true →
      nearPhase (s.dev.phaseError src pos) = false → (∃ p ∈ s.dev.ports, p.2.enabled = true) →
      ∃ t, exec (.anchorReferenceBoundary src pos) s = .next t ∧ t.dev.anchor.mode = .slew ∧ t.dev.fc = s.dev.fc ∧
        s.raisesOne t 0x0105 0 (leBytes 4 (unsigned 4 (s.dev.phaseError src pos)))) ∧
  (∀ s : State, s.live = true →
    (s.dev.anchor.mode = .acquire ∨ s.dev.anchor.mode = .slew ∨ s.dev.anchor.mode = .locked) →
    s.dev.anchor.lossMf ≤ s.dev.anchor.missedMf →
    ∃ t, exec .anchorReferenceLost s = .next t ∧ t.dev.fc = s.dev.fc ∧
      s.dev.eventOf 0x0102 0 [] ∈ t.dev.log.arising ∧
      (if s.dev.anchor.inUse = 0 ∧ s.dev.anchor.failover = true ∧ s.dev.twinLocked = true then
        t.dev.anchor.mode = .acquire ∧ t.dev.anchor.inUse = 2
      else t.dev.anchor.mode = .holdover ∧ s.dev.eventOf 0x010A 0 [] ∈ t.dev.log.arising))

/-- R43, R44: the first edge of the selected polarity is recorded, and an edge of the other polarity changes nothing; the
second accepted edge, inside its window, makes PPS valid with event 0x0107, and ends the PM second at the next MF boundary
only when it has then lasted at least 1,680 MF; PPS is lost, with event 0x0106, after PPS_LOSS expected edges in a row that
did not come inside their windows. R44: while PPS is disabled or lost, the PM second that has lasted 3,360 MF ends at Beat 0:
PM_SECONDS counts one more (modulo 2^32) and PMS_MFN names this MF. Completes: ppsEdge, ppsLost, pmSecondBoundary. Rests on
the model's choices of log entry 18. -/
def Obligations.pps_edges_are_accepted_and_lost : Prop :=
  (∀ (s : State) (rising : Bool) (pos : Nat), s.live = true → pos < 15_296 → s.dev.pps.mode ≠ 0 →
      (s.dev.pps.state = .acquiring ∨ s.dev.pps.state = .lost) → s.dev.pps.accepted = 0 →
      ∃ t, exec (.ppsEdge rising pos) s = .next t ∧
        (if (s.dev.pps.mode = 1 ∧ rising = true) ∨ (s.dev.pps.mode = 2 ∧ rising = false) then
          t.dev.pps.lastFc = s.dev.fc ∧ t.dev.pps.lastByte = pos ∧ t.dev.pps.accepted = 1 ∧
            t.dev.pps.state = s.dev.pps.state ∧ t = { s with dev := { s.dev with pps := t.dev.pps } }
        else t = s)) ∧
  (∀ (s : State) (pos : Nat), s.live = true → pos < 15_296 → s.dev.pps.mode = 1 →
      (s.dev.pps.state = .acquiring ∨ s.dev.pps.state = .lost) → s.dev.pps.accepted = 1 → s.dev.ppsInWindow pos = true →
      ∃ t, exec (.ppsEdge true pos) s = .next t ∧ t.dev.pps.state = .valid ∧ t.dev.pps.lastFc = s.dev.fc ∧
        t.dev.pps.edgeWaits = decide (1_680 ≤ s.dev.pps.pmsAge + 1) ∧ s.raisesOne t 0x0107 0 []) ∧
  (∀ s : State, s.live = true → s.dev.pps.state = .valid →
      (3_361 * s.dev.pps.lossN + s.dev.pps.windowMf) * 256 < s.dev.pps.since →
      ∃ t, exec .ppsLost s = .next t ∧ t.dev.pps.state = .lost ∧ s.raisesOne t 0x0106 0 [] ∧
        t.dev.pps.pmSeconds = s.dev.pps.pmSeconds ∧ t.mem = s.mem ∧ t.bar1 = s.bar1) ∧
  (∀ s : State, s.live = true → (s.dev.pps.state = .disabled ∨ s.dev.pps.state = .lost) → s.dev.beat = 0 →
    s.dev.swapDue = false → s.dev.ladderDue = false → s.dev.timedDue = false → 3_360 ≤ s.dev.pps.pmsAge →
    ∃ t, exec .pmSecondBoundary s = .next t ∧ t.dev.pps.pmSeconds = (s.dev.pps.pmSeconds + 1) % 2 ^ 32 ∧
      t.dev.pps.pmsMfn = s.dev.fc / 256 ∧ t.dev.pps.pmsAge = 0 ∧ t.dev.fc = s.dev.fc)

/-- R50, R52: TIME_ANCHOR_SET and TIME_PPS_SET at their effect. An unknown SOURCE takes code 0 and an unknown PPS_MODE code
1; LOSS_MF, ANCHOR_OFFSET, PPS_LOSS and PPS_WINDOW_MF are clamped; a change of SOURCE or ANCHOR_OFFSET to a source other than
FREE restarts the anchor in ACQUIRE, and a change of PPS_MODE restarts PPS acquisition. Completes: untimedCommandEffect. -/
def Obligations.time_settings_take_effect : Prop :=
  (∀ (s : State) (w : Waiting), s.effectDue 0x0101 w = true →
      ∃ t, exec .untimedCommandEffect s = .next t ∧
        t.dev.anchor.source = (if w.cmd.field 0 1 ≤ 2 then w.cmd.field 0 1 else 0) ∧
        t.dev.anchor.failover = bit (w.cmd.field 1 1) 0 ∧
        t.dev.anchor.lossMf = clamp 2 16 (w.cmd.field 2 2) ∧
        t.dev.anchor.offset = clampI (-1_957_888) 1_957_887 (signed 4 (w.cmd.field 4 4)) ∧
        (t.dev.anchor.source ≠ 1 →
          (t.dev.anchor.source ≠ s.dev.anchor.source ∨ t.dev.anchor.offset ≠ s.dev.anchor.offset) →
          t.dev.anchor.mode = .acquire) ∧
        t.dev.pps = s.dev.pps ∧ t.dev.fc = s.dev.fc ∧ t.mem = s.mem) ∧
  (∀ (s : State) (w : Waiting), s.effectDue 0x0103 w = true →
      ∃ t, exec .untimedCommandEffect s = .next t ∧
        t.dev.pps.mode = (if w.cmd.field 0 1 ≤ 2 then w.cmd.field 0 1 else 1) ∧
        t.dev.pps.lossN = clamp 1 8 (w.cmd.field 1 1) ∧ t.dev.pps.windowMf = clamp 1 40 (w.cmd.field 2 2) ∧
        (t.dev.pps.mode ≠ s.dev.pps.mode → t.dev.pps.mode ≠ 0 → t.dev.pps.state = .acquiring) ∧
        t.dev.anchor = s.dev.anchor ∧ t.dev.fc = s.dev.fc ∧ t.mem = s.mem)

/-- R74, R85: SCHED_LOAD that is not BUSY empties the shadow bank and starts the loader with its parameters, SOURCE falling
back to 2 and STORE to 0; it is answered later. SCHED_LOAD_COMPLETE of an image that passes V1 to V33 fills the shadow bank,
with event 0x0201, and queues the store, and the load goes on where the twin must still take it; one that fails leaves the
shadow bank empty, with event 0x0202. The active bank stays in every case. A flash store that ends leaves the stored bytes in
its slot, with event 0x0207. Completes: schedLoad, schedStoreDone, schedLoadComplete. Rests on the model's choices of log
entries 20, 22, 24, 85. -/
def Obligations.schedule_load_fills_or_empties_shadow : Prop :=
  (∀ (s : State) (core : Nat) (c : Cmd), s.handedOver = true → s.dev.offers core 0x0201 c = true →
    s.dev.bankBusy = false → s.dev.fwBusy = false → (loadSource c = 0 → s.dev.dmaReady = true) →
    ∃ t, exec (.schedLoad core) s = .next t ∧ t.dev.sched.shadow = none ∧ t.dev.sched.active = s.dev.sched.active ∧
      t.dev.sched.load = some ⟨s.dev.host.nextOrder, loadSource c, if c.field 1 1 ≤ 2 then c.field 1 1 else 0,
        loadLength c, loadAddress c, s.dev.twinFollows, none, none⟩ ∧
      t.dev.host.queue = s.dev.host.queue.erase c ∧ t.bar1 = s.bar1 ∧ t.mem = s.mem) ∧
  (∀ (s : State) (read : Option (List Byte)) (j : LoadJob) (bytes : List Byte),
    s.live = true → s.dev.sched.load = some j → j.copy = none → s.dev.sched.shadow = none →
    s.dev.loadBytes s.mem j.source j.length j.address read = some bytes →
    ∃ t, exec (.schedLoadComplete read) s = .next t ∧
      t.dev.sched.load = (if (readImage bytes).2.isSome = true ∧ s.dev.twinFollows = true then
        some { j with copy := some (readImage bytes).1.bytes } else none) ∧
      t.dev.sched.active = s.dev.sched.active ∧ t.dev.fc = s.dev.fc ∧ t.mem = s.mem ∧
      t.dev.sched.shadow = (readImage bytes).2 ∧
      (match (readImage bytes).2 with
        | some i =>
          t.dev.sched.stores = (if j.store = 0 then s.dev.sched.stores else s.dev.sched.stores ++ [(j.store, bytes)]) ∧
            s.dev.eventOf 0x0201 0 (leBytes 4 i.gen ++ leBytes 4 i.imgCrc) ∈ t.dev.log.arising
        | none =>
          t.dev.sched.stores = s.dev.sched.stores ∧
            s.dev.eventOf 0x0202 0 (leBytes 1 (readImage bytes).1.rule ++ leBytes 1 (readImage bytes).1.sect ++
              leBytes 4 (readImage bytes).1.off) ∈ t.dev.log.arising)) ∧
  (∀ (s : State) (n : Nat) (l : List Byte) (rest : List (Nat × List Byte)), s.live = true → (n = 1 ∨ n = 2) →
    s.dev.sched.stores = (n, l) :: rest →
    ∃ t, exec (.schedStoreDone true) s = .next t ∧
      (if n = 1 then t.dev.sched.slotA = some l ∧ t.dev.sched.slotB = s.dev.sched.slotB
        else t.dev.sched.slotB = some l ∧ t.dev.sched.slotA = s.dev.sched.slotA) ∧
      t.dev.sched.stores = rest ∧ t.dev.sched.storeFailed = false ∧ s.raisesOne t 0x0207 0 (leBytes 1 n ++ leBytes 4 (fieldAt l 8 4)))

/-- R86: SCHED_VERIFY is answered at once, with the result of the checks, and never changes either bank. Completes:
schedVerify. -/
def Obligations.schedule_verify_changes_no_bank : Prop :=
  ∀ (s : State) (core : Nat) (c : Cmd) (read : Option (List Byte)) (bytes : List Byte), s.handedOver = true →
    s.dev.offers core 0x0202 c = true → (loadSource c = 0 → s.dev.dmaReady = true) →
    s.dev.loadBytes s.mem (loadSource c) (loadLength c) (loadAddress c) read = some bytes →
    ∃ t, exec (.schedVerify core read) s = .next t ∧ t.dev.sched = s.dev.sched ∧
      s.answers t c (ruleStatus (s.dev.verify c bytes).rule) (s.dev.verify c bytes).bytes

/-- R89: while a load is in progress, while a SCHED_SWAP waits, or while a receive side uses the shadow bank, SCHED_DISCARD
ends BUSY and has no effect, when it is taken and when its Beat comes; otherwise it empties the shadow bank at its Beat, and
the active bank stays. Completes: untimedCommandEffect, schedDiscard. -/
def Obligations.discard_empties_the_shadow_bank : Prop :=
  (∀ (s : State) (core : Nat) (c : Cmd), s.handedOver = true → s.dev.offers core 0x0205 c = true →
    (s.dev.sched.load.isSome = true ∨ s.dev.sched.swap.isSome = true ∨ s.dev.shadowRead = true) →
    ∃ t, exec (.schedDiscard core) s = .next t ∧ s.answers t c stBusy [] ∧
      t.dev = { s.dev with host := t.dev.host, log := t.dev.log }) ∧
  (∀ (s : State) (core : Nat) (c : Cmd), s.handedOver = true → s.dev.offers core 0x0205 c = true →
    s.dev.sched.load = none → s.dev.sched.swap = none → s.dev.shadowRead = false →
    ∃ t, exec (.schedDiscard core) s = .next t ∧ t.dev.sched = s.dev.sched ∧ t.bar1 = s.bar1 ∧ t.mem = s.mem ∧
      t.dev.host.queue = s.dev.host.queue.erase c ∧
      ∃ w ∈ t.dev.host.waiting, w.cmd = c ∧ w.order = s.dev.host.nextOrder) ∧
  (∀ (s : State) (w : Waiting), s.effectDue 0x0205 w = true → w.mirror = none →
    ∃ t, exec .untimedCommandEffect s = .next t ∧ t.mem = s.mem ∧
      (if s.dev.sched.load.isSome = true ∨ s.dev.sched.swap.isSome = true ∨ s.dev.shadowRead = true then
        t.dev = { s.dev with host := t.dev.host, log := t.dev.log } ∧
          t.bar1 = Memory.writeBytes s.bar1 (s.dev.rspSlot w.cmd.mb) (s.dev.slotOf w.cmd stBusy [])
      else
        t.dev.sched.shadow = none ∧ t.dev.sched.active = s.dev.sched.active ∧
          t.bar1 = Memory.writeBytes s.bar1 (s.dev.rspSlot w.cmd.mb) (s.dev.slotOf w.cmd stOk [])))

/-- R75, R87: SCHED_SWAP that passes V34 to V38 waits for its target, which is R48's ref when TIMED is clear. At Beat 252 of
the MF before the target the swap is armed; at Beat 254 it is committed when every slice has acknowledged (and the twin,
where one follows), and otherwise aborted with event 0x0204; no bank changes before Beat 0. At Beat 0 of the swap MF the bank
selects flip: the image of the shadow bank is the active one, the image that was active stays loaded in the shadow bank, no
swap waits any more, and LAST_SWAP_FC is the FC of that Beat. Completes: schedSwap, swapArm, swapCommitDecision, swapEffect,
standbyCommitMissing. Rests on the model's choices of log entries 20, 25, 26. -/
def Obligations.schedule_swap_waits_commits_and_takes_effect : Prop :=
  (∀ (s : State) (core : Nat) (c : Cmd), s.handedOver = true → s.dev.offers core 0x0203 c = true → c.timed = false →
    s.dev.sched.swap = none → s.dev.fwBusy = false → s.dev.swapRule (c.field 0 4) = 0 →
    ∃ t, exec (.schedSwap core) s = .next t ∧
      t.dev.sched = { s.dev.sched with swap := some ⟨some s.dev.host.nextOrder, c.field 0 4,
        if s.dev.fc % 256 < 252 then s.dev.fc / 256 + 1 else s.dev.fc / 256 + 2, 0⟩ } ∧
      t.dev.host.queue = s.dev.host.queue.erase c ∧ t.bar1 = s.bar1 ∧ t.mem = s.mem) ∧
  (∀ (s : State) (j : SwapJob), s.live = true → s.dev.beat = 252 → s.dev.sched.swap = some j → j.phase = 0 →
    j.target ≤ s.dev.mfn + 1 → s.dev.swapRule j.expectGen = 0 →
    ∃ t, exec .swapArm s = .next t ∧
      t.dev.sched = { s.dev.sched with swap := some { j with phase := 1, target := s.dev.mfn + 1 } } ∧ s.raisesNone t) ∧
  (∀ (s : State) (j : SwapJob), s.live = true → s.dev.beat = 254 → s.dev.sched.swap = some j → j.phase = 1 →
    s.dev.followsTokens = false → s.dev.twinFollows = false →
    ∃ t, exec (.swapCommitDecision 15 false) s = .next t ∧
      t.dev.sched = { s.dev.sched with swap := some { j with phase := 2 } } ∧ s.raisesNone t) ∧
  (∀ (s : State) (j : SwapJob) (acks die : Nat) (twinAck : Bool), s.live = true → s.dev.beat = 254 →
    s.dev.sched.swap = some j → j.phase = 1 → s.dev.followsTokens = false → s.dev.missingAck acks twinAck = some die →
    ∃ t, exec (.swapCommitDecision acks twinAck) s = .next t ∧ t.dev.sched = { s.dev.sched with swap := none } ∧
      s.dev.eventOf 0x0204 0 (leBytes 1 die ++ leBytes 1 0) ∈ t.dev.log.arising) ∧
  (∀ (s : State) (j : SwapJob), s.live = true → s.dev.followsTokens = true → s.dev.sched.swap = some j → j.phase = 1 →
    j.target ≤ s.dev.mfn →
    ∃ t, exec .standbyCommitMissing s = .next t ∧ t = { s with dev := { s.dev with sched := { s.dev.sched with swap := none } } }) ∧
  (∀ (s : State) (j : SwapJob) (new : Image) (latched : Nat), s.live = true → s.dev.beat = 0 → s.dev.swapDue = true →
    s.dev.sched.swap = some j → s.dev.sched.shadow = some new →
    ∃ t, exec (.swapEffect latched) s = .next t ∧ t.dev.sched.active = some new ∧
      t.dev.sched.shadow = s.dev.sched.active ∧ t.dev.sched.swap = none ∧ t.dev.sched.lastSwapFc = s.dev.fc ∧
      t.dev.fc = s.dev.fc ∧ t.mem = s.mem)

/-- R95, R96: the receive chain of an enabled port, stage by stage. A lane in use comes UP after 64 Beats with signal and CDR
lock; a FlexO instance on an UP lane goes from HUNT to VERIFY on a marker, and to LOCK when it recurs in the next two frames;
with PIDs 1 to n in LOCK, within the skew and with the right GID, the group is ALIGNED; an instance gains frame and
multiframe after two correct FAS and MFAS; with every instance in both, and equal MFAS, the port holds multiframe alignment,
with event 0x0301. A lane that goes DOWN takes every later stage out of its aligned state, with event 0x0302 where the port
held alignment; unequal MFAS take the port's multiframe away. Every other port stays as it was. Completes: laneUp, laneDown,
flexoFrameStateChange, flexoGroupStateChange, otucFrameStateChange, otucMultiframeStateChange, portMultiframeAligned,
portMultiframeLost. Rests on the model's choices of log entries 20, 32, 77. -/
def Obligations.line_receive_chain_gains_and_loses_alignment : Prop :=
  (∀ (s : State) (lane : Nat), s.live = true → lane < 64 → s.dev.portOn (lane / 8) = true →
    lane % 8 < s.dev.lanesInUse (lane / 8) → 64 ≤ (s.dev.port (lane / 8)).laneGood (lane % 8) →
    ∃ t, exec (.laneUp lane) s = .next t ∧ bit (t.dev.port (lane / 8)).lanesUp (lane % 8) = true ∧
      (∀ q, q ≠ lane / 8 → t.dev.port q = s.dev.port q) ∧ s.raisesNone t ∧
      t = { s with dev := { s.dev with ports := t.dev.ports } }) ∧
  (∀ (s : State) (lane : Nat), s.live = true → lane < 64 → (s.dev.port (lane / 8)).enabled = true →
    bit (s.dev.port (lane / 8)).lanesUp (lane % 8) = true → (s.dev.port (lane / 8)).laneGood (lane % 8) = 0 →
    ∃ t, exec (.laneDown lane) s = .next t ∧ bit (t.dev.port (lane / 8)).lanesUp (lane % 8) = false ∧
      (t.dev.port (lane / 8)).groupAligned = false ∧ (t.dev.port (lane / 8)).inFrame = 0 ∧
      (t.dev.port (lane / 8)).inMf = 0 ∧ (t.dev.port (lane / 8)).mfAligned = false ∧
      ((s.dev.port (lane / 8)).mfAligned = true →
        s.dev.eventOf 0x0302 (objPort (lane / 8)) (leBytes 1 (lane / 8) ++ leBytes 1 0) ∈ t.dev.log.arising) ∧
      (∀ q, q ≠ lane / 8 → t.dev.port q = s.dev.port q)) ∧
  (∀ (s : State) (p i q : Nat), s.live = true → p < 8 → 1 ≤ i → i ≤ s.dev.portN p → (s.dev.port p).enabled = true →
    (s.dev.port p).posOf i = some q →
    bit (s.dev.port p).lanesUp (q / 2) = true → bit (s.dev.port p).flexoLock q = false →
    (bit (s.dev.port p).flexoVerify q = false → 1 ≤ ((s.dev.port p).flexoAt q).good →
      ∃ t, exec (.flexoFrameStateChange p i 1) s = .next t ∧ bit (t.dev.port p).flexoVerify q = true ∧
        t = { s with dev := { s.dev with ports := t.dev.ports } }) ∧
    (bit (s.dev.port p).flexoVerify q = true → 3 ≤ ((s.dev.port p).flexoAt q).good →
      ∃ t, exec (.flexoFrameStateChange p i 2) s = .next t ∧ bit (t.dev.port p).flexoLock q = true ∧
        bit (t.dev.port p).flexoVerify q = false ∧ t = { s with dev := { s.dev with ports := t.dev.ports } })) ∧
  (∀ (s : State) (p : Nat), s.live = true → p < 8 → (s.dev.port p).enabled = true → s.dev.portN p ≠ 0 →
    (s.dev.port p).pidSet (s.dev.portN p) = true → (s.dev.port p).skewOk = true → (s.dev.port p).gidOk = true →
    ∃ t, exec (.flexoGroupStateChange p true) s = .next t ∧ (t.dev.port p).groupAligned = true ∧
      t = { s with dev := { s.dev with ports := t.dev.ports } }) ∧
  (∀ (s : State) (p i : Nat), s.live = true → p < 8 → 1 ≤ i → i ≤ s.dev.portN p → (s.dev.port p).groupAligned = true →
    2 ≤ ((s.dev.port p).otucAt i).fasGood →
    ∃ t, exec (.otucFrameStateChange p i true) s = .next t ∧ bit (t.dev.port p).inFrame (i - 1) = true ∧
      t = { s with dev := { s.dev with ports := t.dev.ports } }) ∧
  (∀ (s : State) (p i : Nat), s.live = true → p < 8 → 1 ≤ i → i ≤ s.dev.portN p →
    bit (s.dev.port p).inFrame (i - 1) = true → 2 ≤ ((s.dev.port p).otucAt i).mfGood →
    ∃ t, exec (.otucMultiframeStateChange p i true) s = .next t ∧ bit (t.dev.port p).inMf (i - 1) = true ∧
      t = { s with dev := { s.dev with ports := t.dev.ports } }) ∧
  (∀ (s : State) (p : Nat), s.live = true → p < 8 → (s.dev.port p).enabled = true → (s.dev.port p).mfAligned = false →
    (s.dev.port p).groupAligned = true → (s.dev.port p).inFrame = 2 ^ s.dev.portN p - 1 →
    (s.dev.port p).inMf = 2 ^ s.dev.portN p - 1 → (s.dev.port p).equalMfas (s.dev.portN p) = true →
    ∃ t, exec (.portMultiframeAligned p) s = .next t ∧ (t.dev.port p).mfAligned = true ∧
      s.dev.eventOf 0x0301 (objPort p) (leBytes 1 p) ∈ t.dev.log.arising) ∧
  (∀ (s : State) (p : Nat), s.live = true → p < 8 → (s.dev.port p).mfAligned = true →
    (s.dev.port p).equalMfas (s.dev.portN p) = false →
    ∃ t, exec (.portMultiframeLost p) s = .next t ∧ (t.dev.port p).mfAligned = false ∧
      (t.dev.port p).arrival.valid = false ∧
      s.dev.eventOf 0x0302 (objPort p) (leBytes 1 p ++ leBytes 1 5) ∈ t.dev.log.arising)

/-- R99: a switch-grade indication of an enabled port is asserted by its condition and cleared by its clearing condition:
SG_LOS by the pin or by a lane that has left UP, SG_FAS and SG_AIS by three frames in a row, and SG_FEC at SGFEC_THR
uncorrectable codewords in the last 8 Beats; and cleared once its clearing condition has held for 8 Beats. No other port and
no memory changes. Completes: sgIndicationAsserted, sgIndicationCleared. -/
def Obligations.switch_grade_indications_follow_conditions : Prop :=
  ∀ (s : State) (p which : Nat), s.live = true → p < 8 → which < 5 → (s.dev.port p).enabled = true →
    ((if which = 4 then (s.dev.port p).attr.sgfecThr ≤ (s.dev.port p).fecCount else s.dev.sgSet p which = true) →
      ∃ t, exec (.sgIndicationAsserted p which) s = .next t ∧
        bit (t.dev.port p).sgBits (if which ≤ 1 then 0 else which - 1) = true ∧
        (∀ q, q ≠ p → t.dev.port q = s.dev.port q) ∧ t.mem = s.mem ∧ t.bar1 = s.bar1) ∧
    ((if which = 4 then 8 ≤ (s.dev.port p).fecBelow else 8 ≤ Tab.get 0 (s.dev.port p).clearRun which) →
      ∃ t, exec (.sgIndicationCleared p which) s = .next t ∧
        (if which = 0 then (t.dev.port p).sgPin = false
         else if which = 1 then (t.dev.port p).sgLane = false
         else bit (t.dev.port p).sgBits (which - 1) = false) ∧
        (∀ q, q ≠ p → t.dev.port q = s.dev.port q) ∧ t.mem = s.mem ∧ t.bar1 = s.bar1)

/-- R42, R81: a received multiframe start on an aligned port records the arrival offset, as Beat within the MF and byte
position. A generation mark of the bank in use changes no bank and clears the calendar mismatch; the mark of the other bank,
loaded with an image in which the port is lit, switches the receive side with event 0x0205; any other mark keeps the bank and
raises the calendar mismatch, with event 0x0206 unless the same unknown mark repeats. Completes: rxMfStart, rxGenerationMark.
Rests on the model's choices of log entries 20, 77, 78. -/
def Obligations.received_multiframes_set_offset_and_bank : Prop :=
  (∀ (s : State) (p pos : Nat) (u : List Nat), s.live = true → p < 8 → pos < 15_296 → (s.dev.port p).enabled = true →
    (s.dev.port p).mfAligned = true →
    ∃ t, exec (.rxMfStart p pos u) s = .next t ∧ (t.dev.port p).arrival.valid = true ∧
      (t.dev.port p).arrival.beats = s.dev.fc % 256 ∧ (t.dev.port p).arrival.bytes = pos ∧
      (t.dev.port p).arrival.measFc = s.dev.fc ∧ t.mem = s.mem ∧
      ((s.dev.port p).rxShadow = false → s.raisesNone t ∧ t = { s with dev := { s.dev with ports := t.dev.ports } })) ∧
  (∀ (s : State) (p mark : Nat), s.live = true → p < 8 → mark < 65_536 → (s.dev.port p).mfAligned = true →
    (s.dev.port p).lccRuns = true →
    ∃ t, exec (.rxGenerationMark p mark) s = .next t ∧ (t.dev.port p).rxMark = mark ∧
      (if (∃ i, s.dev.rxImage p = some i ∧ i.gen % 65_536 = mark) then
        (t.dev.port p).calMismatch = false ∧ (t.dev.port p).rxShadow = (s.dev.port p).rxShadow
      else if markOf (s.dev.otherImage p) p mark = true then
        (t.dev.port p).calMismatch = false ∧ (t.dev.port p).rxShadow = !(s.dev.port p).rxShadow ∧
          s.dev.eventOf 0x0205 (objPort p) (leBytes 1 p ++ leBytes 2 mark) ∈ t.dev.log.arising
      else
        (t.dev.port p).calMismatch = true ∧ (t.dev.port p).rxShadow = (s.dev.port p).rxShadow ∧
          (¬ ((s.dev.port p).calMismatch = true ∧ (s.dev.port p).unknownMark = mark) →
            s.dev.eventOf 0x0206 (objPort p) (leBytes 1 p ++ leBytes 2 mark) ∈ t.dev.log.arising)))

/-- R103 to R105, R107, R112: a received LCC message that is not valid counts in a run, and the third in a row raises dLCCF;
in AUTO the port falls back after 64, with event 0x0303. A far-end request word with a new REQ_SEQ that ACCEPT allows and
that changes the step becomes the pending TX step change, clamped to FLOOR and STEPS − 1; an announcement word with ANN_LEFT
1 to 8 for an existing step is taken. A word that is not the complement of its companion is counted and changes no step.
Completes: lccReqReceived, lccAnnReceived, lccMessageReceived, lccFallback. Rests on the model's choices of log entries 20,
33. -/
def Obligations.line_control_channel_words_are_taken : Prop :=
  (∀ (s : State) (p : Nat) (w : List Nat), s.live = true → p < 8 → (s.dev.port p).enabled = true →
    (s.dev.port p).mfAligned = true → (s.dev.port p).lccRuns = true → (s.dev.port p).attr.lccMode ≠ 0 →
    lccValid w = false →
    ∃ t, exec (.lccMessageReceived p w) s = .next t ∧
      (t.dev.port p).ladder.lccBadRun = (s.dev.port p).ladder.lccBadRun + 1 ∧ (t.dev.port p).ladder.lastValid = false ∧
      (t.dev.port p).ladder.dLccf = ((s.dev.port p).ladder.dLccf || decide (2 ≤ (s.dev.port p).ladder.lccBadRun))) ∧
  (∀ (s : State) (p : Nat) (w : List Nat), s.live = true → p < 8 → (s.dev.port p).enabled = true →
    (s.dev.port p).mfAligned = true → (s.dev.port p).attr.lccMode ≠ 0 → lccValid w = true →
    ∃ t, exec (.lccMessageReceived p w) s = .next t ∧ (t.dev.port p).ladder.lccBadRun = 0 ∧
      (t.dev.port p).ladder.lastValid = true ∧ (t.dev.port p).rxWords = w ∧
      (1 ≤ (s.dev.port p).ladder.lccGoodRun → (t.dev.port p).ladder.dLccf = false)) ∧
  (∀ (s : State) (p : Nat), s.live = true → p < 8 → (s.dev.port p).enabled = true → (s.dev.port p).mfAligned = true →
    (s.dev.port p).attr.lccMode = 2 → (s.dev.port p).ladder.fallenBack = false → 64 ≤ (s.dev.port p).ladder.lccBadRun →
    ∃ t, exec (.lccFallback p) s = .next t ∧ (t.dev.port p).ladder.fallenBack = true ∧ (t.dev.port p).ladder.dLccf = false ∧
      s.dev.eventOf 0x0303 (objPort p) (leBytes 1 p) ∈ t.dev.log.arising) ∧
  (∀ (s : State) (p step seq : Nat), s.live = true → p < 8 → (s.dev.port p).mfAligned = true → (s.dev.port p).lccRuns = true →
    step < 8 → seq < 256 → (s.dev.ladder p).lastReqSeq ≠ some seq → (s.dev.ladder p).announce = none →
    (s.dev.ladder p).waitingChange = none → (s.dev.port p).attr.accept = 2 →
    (∀ k, (s.dev.ladder p).cmdTaken ≠ some (s.dev.fc, k)) →
    min step (min (s.dev.port p).attr.floor (s.dev.steps p - 1)) ≠ (s.dev.ladder p).txStep →
    ∃ t, exec (.lccReqReceived p (step * 8_192 + 4_096 + seq) (65_535 - (step * 8_192 + 4_096 + seq))) s = .next t ∧
      (t.dev.ladder p).pendingChange = some
        ⟨min step (min (s.dev.port p).attr.floor (s.dev.steps p - 1)),
          if s.dev.fc % 256 ≤ 251 then s.dev.fc / 256 + 1 else s.dev.fc / 256 + 2, true, seq⟩ ∧
      (t.dev.ladder p).lastReqSeq = some seq ∧ (t.dev.ladder p).txStep = (s.dev.ladder p).txStep ∧ s.raisesNone t) ∧
  (∀ (s : State) (p step left seq : Nat) (i : Image), s.live = true → p < 8 → (s.dev.port p).mfAligned = true →
    (s.dev.port p).lccRuns = true → step < 8 → 1 ≤ left → left ≤ 8 → seq < 256 → s.dev.rxImage p = some i →
    step < i.steps p →
    ∃ t, exec (.lccAnnReceived p (step * 8_192 + 4_096 + left * 256 + seq)
        (65_535 - (step * 8_192 + 4_096 + left * 256 + seq))) s = .next t ∧
      (t.dev.ladder p).rxAnn = some (step, (s.dev.ladder p).rxMfCount + left) ∧
      (t.dev.ladder p).rxStep = (s.dev.ladder p).rxStep ∧ s.raisesNone t) ∧
  (∀ (s : State) (p w v : Nat), s.live = true → p < 8 → w < 65_536 → (s.dev.port p).mfAligned = true →
    (s.dev.port p).lccRuns = true → w + v ≠ 65_535 →
    (∃ t, exec (.lccReqReceived p w v) s = .next t ∧ t.dev.ports = s.dev.ports) ∧
    (∃ t, exec (.lccAnnReceived p w v) s = .next t ∧ t.dev.ports = s.dev.ports))

/-- R108 to R112: the ladder's steps. A qualified LPx_STEP sends a request with a new REQ_SEQ and event 0x0308; a request
outstanding for 256 MF ends with event 0x0309. A pending change begins its announcement at Beat 0 with a new ANN_SEQ and
event 0x0305; from Beat 0 of the eighth MF after it, where the token that carries it has arrived, the announced step is the
TX step, with event 0x0306. An accepted announcement, or an availability that matches one other step in two MF, sets the RX
step with event 0x0307 or 0x030A. Completes: rxStepApply, rxStepResync, stepPinQualified, ladderRequestTimeout,
ladderAnnounceStart, ladderStepApply. Rests on the model's choices of log entries 20, 33, 77. -/
def Obligations.ladder_steps_are_announced_and_applied : Prop :=
  (∀ (s : State) (p : Nat), s.live = true → p < 8 → s.dev.pinAsks p = true →
    ∃ t, exec (.stepPinQualified p) s = .next t ∧ (t.dev.ladder p).reqOut = true ∧
      (t.dev.ladder p).reqStep = min ((s.dev.ladder p).rxStep + 1) (min (s.dev.port p).attr.floor (s.dev.steps p - 1)) ∧
      (t.dev.ladder p).reqSeq = ((s.dev.ladder p).reqSeq + 1) % 256 ∧ (t.dev.ladder p).reqStart = s.dev.fc ∧
      s.raisesOne t 0x0308 (objPort p)
        (leBytes 1 p ++ leBytes 1 (t.dev.ladder p).reqStep ++ leBytes 1 (t.dev.ladder p).reqSeq)) ∧
  (∀ (s : State) (p : Nat), s.live = true → p < 8 → (s.dev.ladder p).reqOut = true →
    (s.dev.ladder p).reqStart + 65_536 ≤ s.dev.fc →
    ∃ t, exec (.ladderRequestTimeout p) s = .next t ∧ (t.dev.ladder p).reqOut = false ∧
      (t.dev.ladder p).reqStep = (s.dev.ladder p).reqStep ∧ (t.dev.ladder p).reqSeq = (s.dev.ladder p).reqSeq ∧
      s.raisesOne t 0x0309 (objPort p)
        (leBytes 1 p ++ leBytes 1 (s.dev.ladder p).reqStep ++ leBytes 1 (s.dev.ladder p).reqSeq ++ leBytes 1 2)) ∧
  (∀ (s : State) (p : Nat) (c : StepChange), s.live = true → p < 8 → s.dev.beat = 0 → s.dev.swapDue = false →
    (s.dev.ladder p).announce = none → (s.dev.ladder p).pendingChange = some c → c.start ≤ s.dev.mfn →
    settled (s.dev.ladder p).lastTxMfn (s.dev.port p).attr.settleMf s.dev.mfn = true →
    ∃ t, exec (.ladderAnnounceStart p) s = .next t ∧
      (t.dev.ladder p).announce = some ⟨c.step, s.dev.fc / 256, ((s.dev.ladder p).annSeq + 1) % 256⟩ ∧
      (t.dev.ladder p).pendingChange = none ∧ (t.dev.ladder p).txStep = (s.dev.ladder p).txStep ∧
      s.raisesOne t 0x0305 (objPort p) (leBytes 1 p ++ leBytes 1 c.step ++ leBytes 4 (s.dev.mfn + 8))) ∧
  (∀ (s : State) (p : Nat) (a : Announce), s.live = true → p < 8 → (s.dev.ladder p).tokenMissed = false →
    s.dev.swapDue = false → (s.dev.ladder p).announce = some a → a.start + 8 ≤ s.dev.mfn →
    ∃ t, exec (.ladderStepApply p) s = .next t ∧ (t.dev.ladder p).txStep = a.step ∧ (t.dev.ladder p).announce = none ∧
      (t.dev.ladder p).lastTxMfn = some s.dev.mfn ∧ (t.dev.ladder p).rxStep = (s.dev.ladder p).rxStep ∧
      s.raisesOne t 0x0306 (objPort p) (leBytes 1 p ++ leBytes 1 (s.dev.ladder p).txStep ++ leBytes 1 a.step)) ∧
  (∀ (s : State) (p k n : Nat), s.live = true → p < 8 → (s.dev.ladder p).rxAnn = some (k, n) →
    n ≤ (s.dev.ladder p).rxMfCount → k ≠ (s.dev.ladder p).rxStep →
    ∃ t, exec (.rxStepApply p) s = .next t ∧ (t.dev.ladder p).rxStep = k ∧ (t.dev.ladder p).rxAnn = none ∧
      s.raisesOne t 0x0307 (objPort p) (leBytes 1 p ++ leBytes 1 (s.dev.ladder p).rxStep ++ leBytes 1 k)) ∧
  (∀ (s : State) (p : Nat), s.live = true → p < 8 → 2 ≤ (s.dev.ladder p).matchRun →
    (s.dev.ladder p).matchStep ≠ (s.dev.ladder p).rxStep →
    ∃ t, exec (.rxStepResync p) s = .next t ∧ (t.dev.ladder p).rxStep = (s.dev.ladder p).matchStep ∧
      s.raisesOne t 0x030A (objPort p)
        (leBytes 1 p ++ leBytes 1 (s.dev.ladder p).rxStep ++ leBytes 1 (s.dev.ladder p).matchStep))

/-- R115, R117 to R120: the LP_* settings at their effect. LP_ENABLE takes its LCC mode, SGFEC_THR, GID and GID_CHECK with
their fallbacks and clamps, and enables or disables the port; LP_LANE_SET, LP_LADDER_POLICY and LP_OTU_OH_SET take their
fields; LP_LADDER_STEP toward another TX step, with nothing announced, pends that step clamped to STEPS − 1. Completes:
untimedCommandEffect. Rests on the model's choices of log entry 32. -/
def Obligations.line_port_settings_take_effect : Prop :=
  (∀ (s : State) (w : Waiting), s.effectDue 0x0301 w = true → checkLpEnable s.dev w.cmd = none →
    ∃ t, exec .untimedCommandEffect s = .next t ∧
      (t.dev.port w.cmd.index).enabled =
        (if w.cmd.field 0 1 = 0 then false else if w.cmd.field 0 1 = 1 then true
          else (s.dev.port w.cmd.index).enabled) ∧
      (t.dev.port w.cmd.index).attr.lccMode = (if w.cmd.field 1 1 ≤ 2 then w.cmd.field 1 1 else 2) ∧
      (t.dev.port w.cmd.index).attr.sgfecThr = clamp 1 4_096 (w.cmd.field 2 2) ∧
      (t.dev.port w.cmd.index).attr.flexoGid = clamp 0 0xF_FFFF (w.cmd.field 4 4) ∧
      (t.dev.port w.cmd.index).attr.gidCheck = bit (w.cmd.field 8 1) 0 ∧
      (∀ q, q ≠ w.cmd.index → t.dev.port q = s.dev.port q)) ∧
  (∀ (s : State) (w : Waiting), s.effectDue 0x0303 w = true →
    ∃ t, exec .untimedCommandEffect s = .next t ∧
      t.dev.lane w.cmd.index =
        ⟨clamp 0 15 (w.cmd.field 0 1), clamp 0 31 (w.cmd.field 1 1), clamp 0 63 (w.cmd.field 2 1), w.cmd.field 3 1 % 4,
          if w.cmd.field 4 1 ≤ 16 then w.cmd.field 4 1 else 0, bit (w.cmd.field 5 1) 0⟩ ∧
      (∀ l, l ≠ w.cmd.index → t.dev.lane l = s.dev.lane l)) ∧
  (∀ (s : State) (w : Waiting), s.effectDue 0x0304 w = true →
    ∃ t, exec .untimedCommandEffect s = .next t ∧
      (t.dev.port w.cmd.index).attr = { (s.dev.port w.cmd.index).attr with
        accept := if w.cmd.field 0 1 ≤ 2 then w.cmd.field 0 1 else 1
        pin := if w.cmd.field 1 1 ≤ 1 then w.cmd.field 1 1 else 1
        floor := clamp 0 7 (w.cmd.field 2 1), settleMf := clamp 8 65_535 (w.cmd.field 4 2) } ∧
      (t.dev.ladder w.cmd.index) = s.dev.ladder w.cmd.index) ∧
  (∀ (s : State) (w : Waiting), s.effectDue 0x0306 w = true →
    ∃ t, exec .untimedCommandEffect s = .next t ∧
      (t.dev.port w.cmd.index).attr = { (s.dev.port w.cmd.index).attr with
        timMode := if w.cmd.field 0 1 ≤ 3 then w.cmd.field 0 1 else 0, force := w.cmd.field 1 1 % 4
        txTti := sliceAt w.cmd.payload 4 64, expSapi := sliceAt w.cmd.payload 68 16
        expDapi := sliceAt w.cmd.payload 84 16 }) ∧
  (∀ (s : State) (w : Waiting), s.effectDue 0x0305 w = true → (s.dev.port w.cmd.index).lccRuns = true →
    w.cmd.field 0 1 ≠ 1 → (s.dev.ladder w.cmd.index).announce = none →
    clamp 0 (s.dev.steps w.cmd.index - 1) (w.cmd.field 1 1) ≠ (s.dev.ladder w.cmd.index).txStep → s.dev.beat = 0 →
    ∃ t, exec .untimedCommandEffect s = .next t ∧
      (t.dev.ladder w.cmd.index).pendingChange = some
        ⟨clamp 0 (s.dev.steps w.cmd.index - 1) (w.cmd.field 1 1), s.dev.mfn, false, 0⟩ ∧
      (t.dev.ladder w.cmd.index).txStep = (s.dev.ladder w.cmd.index).txStep)

/-- R98, R127, R132, R140: three identical trail traces are accepted: an aligned port's section takes the trace and its TIM
by its mode and expected values; a sink or monitor of a level takes the trace, its TIM, and event 0x0401 when the trace is
new. A delay measurement ends when the inverted bit has come back or 65,535 frames have been counted: its result is the
count, or 0xFFFF_FFFF, the level loops back again, and event 0x0404 tells the result and 0x0402 the change of mode. No other
port or object changes. Completes: ttiAccepted, dmMeasureDone. Rests on the model's choices of log entries 20, 31. -/
def Obligations.traces_and_delay_measurements_complete : Prop :=
  (∀ (s : State) (p : Nat) (tti : List Byte), s.live = true → p < 8 → (s.dev.port p).enabled = true →
    (s.dev.port p).mfAligned = true → 3 ≤ (s.dev.port p).ttiRun → (s.dev.port p).ttiLatest = padTo 64 tti →
    ∃ t, exec (.ttiAccepted (.sm p) tti) s = .next t ∧ (t.dev.port p).tti = padTo 64 tti ∧
      (t.dev.port p).ttiFc = (if (s.dev.port p).tti = padTo 64 tti then (s.dev.port p).ttiFc else s.dev.fc) ∧
      (t.dev.port p).tim = timOf (s.dev.port p).attr.timMode (padTo 64 tti) (s.dev.port p).attr.expSapi
        (s.dev.port p).attr.expDapi ∧
      (∀ q, q ≠ p → t.dev.port q = s.dev.port q) ∧ t.mem = s.mem ∧ t.bar1 = s.bar1) ∧
  (∀ (s : State) (obj flow level : Nat) (tti : List Byte), s.live = true → s.dev.readsLevel obj flow level = true →
    3 ≤ ((s.dev.oduOf obj).level flow level).ttiRun → ((s.dev.oduOf obj).level flow level).latest = padTo 64 tti →
    ∃ t, exec (.ttiAccepted (.level obj flow level) tti) s = .next t ∧
      ((t.dev.oduOf obj).level flow level).accepted = padTo 64 tti ∧
      ((t.dev.oduOf obj).level flow level).hasTti = true ∧
      ((t.dev.oduOf obj).level flow level).tim =
        timOf ((s.dev.oduOf obj).attr flow level).timMode (padTo 64 tti) ((s.dev.oduOf obj).attr flow level).expSapi
          ((s.dev.oduOf obj).attr flow level).expDapi ∧
      ((((s.dev.oduOf obj).level flow level).hasTti = false ∨
          ((s.dev.oduOf obj).level flow level).accepted ≠ padTo 64 tti) →
        ((t.dev.oduOf obj).level flow level).acceptFc = s.dev.fc ∧
        s.dev.eventOf 0x0401 obj (leBytes 4 obj ++ leBytes 1 flow ++ leBytes 1 level) ∈ t.dev.log.arising) ∧
      (∀ o, o ≠ obj → t.dev.oduOf o = s.dev.oduOf o) ∧ t.mem = s.mem ∧ t.bar1 = s.bar1) ∧
  (∀ (s : State) (obj level : Nat), s.live = true → level < 7 → ((s.dev.oduOf obj).dm level).measuring = true →
    (((s.dev.oduOf obj).dm level).matched = true ∨
      65_535 ≤ ((s.dev.oduOf obj).dm level).count) →
    ∃ t, exec (.dmMeasureDone obj level) s = .next t ∧
      (t.dev.oduOf obj).dm level = { (s.dev.oduOf obj).dm level with
        mode := 1, measuring := false, result := ((t.dev.oduOf obj).dm level).result } ∧
      ((t.dev.oduOf obj).dm level).result =
        (if ((s.dev.oduOf obj).dm level).matched = true
          then ((s.dev.oduOf obj).dm level).count else 0xFFFF_FFFF) ∧
      t.dev.log.arising = s.dev.log.arising ++
        [s.dev.eventOf 0x0402 obj (leBytes 4 obj ++ leBytes 1 0 ++ leBytes 1 level ++
           leBytes 1 (oduMode (s.dev.oduKind obj) (s.dev.oduOf obj) 0 level)),
         s.dev.eventOf 0x0404 obj (leBytes 4 obj ++ leBytes 1 level ++ leBytes 4 ((t.dev.oduOf obj).dm level).result)] ∧
      (∀ o, o ≠ obj → t.dev.oduOf o = s.dev.oduOf o) ∧ t.mem = s.mem ∧ t.bar1 = s.bar1)

/-- R136 to R138: ODU_TTI_SET, ODU_TCM_SET and ODU_OH_WRITE at their effect. LEVEL is clamped and an unknown FLOW is TX; a
level takes its TIM mode (unknown: off) and its traces; a TCM level takes its mode (unknown: passed) and CLEAR, and the delay
mode of the level is set, MEASURE inverting the bit the TX flow is sending and starting the count at 0; the mode in force
stays until the flow's next frame begins (`Dev.applyModes`), when it is the mode set; a raw field is set or released. Other
objects stay as they were. Completes: untimedCommandEffect. -/
def Obligations.odu_settings_take_effect : Prop :=
  (∀ (s : State) (w : Waiting) (level flow : Nat), s.effectDue 0x0401 w = true → level = clamp 0 6 (w.cmd.field 0 1) →
    flow = (if w.cmd.field 1 1 ≤ 1 then w.cmd.field 1 1 else 0) →
    ∃ t, exec .untimedCommandEffect s = .next t ∧
      (t.dev.oduOf w.cmd.object).attr flow level = { (s.dev.oduOf w.cmd.object).attr flow level with
        timMode := if w.cmd.field 2 1 ≤ 3 then w.cmd.field 2 1 else 0, txTti := sliceAt w.cmd.payload 4 64,
        expSapi := sliceAt w.cmd.payload 68 16, expDapi := sliceAt w.cmd.payload 84 16 } ∧
      (∀ f k, (f < 2 ∧ k < 8) → ¬(f = flow ∧ k = level) →
        (t.dev.oduOf w.cmd.object).attr f k = (s.dev.oduOf w.cmd.object).attr f k) ∧
      (∀ o, o ≠ w.cmd.object → t.dev.oduOf o = s.dev.oduOf o)) ∧
  (∀ (s : State) (w : Waiting) (level flow : Nat), s.effectDue 0x0402 w = true → checkOduTcmSet s.dev w.cmd = none →
    level = clamp 0 6 (w.cmd.field 0 1) → flow = (if w.cmd.field 1 1 ≤ 1 then w.cmd.field 1 1 else 0) →
    ∃ t, exec .untimedCommandEffect s = .next t ∧
      (level ≠ 0 → ((t.dev.oduOf w.cmd.object).attr flow level).mode =
          (if w.cmd.field 2 1 ≤ 3 then w.cmd.field 2 1 else 0) ∧
        ((t.dev.oduOf w.cmd.object).attr flow level).clearAtSink = bit (w.cmd.field 3 1) 0) ∧
      (level = 0 → (t.dev.oduOf w.cmd.object).attrs = (s.dev.oduOf w.cmd.object).attrs) ∧
      ((t.dev.oduOf w.cmd.object).dm level).mode = (if w.cmd.field 4 1 ≤ 2 then w.cmd.field 4 1 else 0) ∧
      (w.cmd.field 4 1 = 2 → ((t.dev.oduOf w.cmd.object).dm level).measuring = true ∧
        ((t.dev.oduOf w.cmd.object).dm level).count = 0 ∧
        ((t.dev.oduOf w.cmd.object).dm level).txBit = !((s.dev.oduOf w.cmd.object).dm level).sentBit) ∧
      (t.dev.oduOf w.cmd.object).inForce = (s.dev.oduOf w.cmd.object).inForce ∧
      (level ≠ 0 → ∀ k, 1 ≤ k → k ≤ 6 →
        Tab.get 0 ((t.dev.applyModes w.cmd.object flow).oduOf w.cmd.object).inForce (levelKey flow k) =
          ((t.dev.oduOf w.cmd.object).attr flow k).mode) ∧
      (∀ o, o ≠ w.cmd.object → t.dev.oduOf o = s.dev.oduOf o)) ∧
  (∀ (s : State) (w : Waiting), s.effectDue 0x0403 w = true → checkOduOhWrite s.dev w.cmd = none →
    ∃ t, exec .untimedCommandEffect s = .next t ∧
      (w.cmd.field 0 1 = 1 → t.dev.oduOf w.cmd.object = { s.dev.oduOf w.cmd.object with
        rawExp := if w.cmd.field 1 1 = 0 then some (sliceAt w.cmd.payload 8 2) else none }) ∧
      (w.cmd.field 0 1 = 2 → t.dev.oduOf w.cmd.object = { s.dev.oduOf w.cmd.object with
        rawRes := if w.cmd.field 1 1 = 0 then some (sliceAt w.cmd.payload 8 9) else none }) ∧
      (w.cmd.field 0 1 = 3 → w.cmd.field 1 1 = 0 →
        Tab.get [] (t.dev.oduOf w.cmd.object).rawAps (clamp 0 7 (w.cmd.field 2 1)) = sliceAt w.cmd.payload 8 4) ∧
      (w.cmd.field 0 1 = 4 → w.cmd.field 1 1 = 0 →
        Tab.get [] (t.dev.oduOf w.cmd.object).rawFtfl (clamp 0 1 (w.cmd.field 3 1)) = sliceAt w.cmd.payload 8 128) ∧
      (w.cmd.field 0 1 = 0 → t.dev.oduOf w.cmd.object = s.dev.oduOf w.cmd.object) ∧
      (∀ o, o ≠ w.cmd.object → t.dev.oduOf o = s.dev.oduOf o))

/-- R156, R157, R159, R160: in Beat t0 − 2 a decided stage runs the computation of R157 once on its projected fill, with the
shifts and the range of ramp state where the channel's server stage is in it; it issues one token stamped for Beat t0, which
names the stage's TYPE, the channel and the count (or the difference D for an idle adjustment), and a clamped count raises
event 0x0503. No other channel changes. Completes: rateTrackerPeriod. Rests on the model's choices of log entries 20, 36, 37.
-/
def Obligations.rate_tracker_decides_one_count : Prop :=
  ∀ (s : State) (ch stage j : Nat) (x : Tracker) (ramp : Bool) (lo hi : Nat) (e integ sum cm : Int), s.live = true →
    ch < 256 → stage < 3 → (s.dev.chan ch).run = true → x = (s.dev.chan ch).stage stage → x.run = true →
    s.dev.enginePowered ch = true → x.first ≤ s.dev.fc + 2 →
    x.ranFc ≠ some s.dev.fc → x.periodAt (s.dev.fc + 2) = some j →
    ramp = ((s.dev.chan ch).ramp && stage == 0) → lo = (if ramp then 1 else x.lo) → hi = (if ramp then x.p else x.hi) →
    e = (x.projected s.dev.fc j - (x.target : Int) * 2 ^ 24) / (x.word : Int) →
    integ = clampI (lo * 2 ^ 24) (hi * 2 ^ 24 + (2 ^ 24 - 1)) (x.integ + e / (if ramp then 16 else 256)) →
    sum = x.acc + integ + e / (if ramp then 2 else 8) → cm = clampI lo hi (sum / 2 ^ 24) →
    ∃ t, exec (.rateTrackerPeriod ch stage) s = .next t ∧
      ((t.dev.chan ch).stage stage).integ = integ ∧
      ((t.dev.chan ch).stage stage).acc = clampI 0 (2 ^ 24 - 1) (sum - cm * 2 ^ 24) ∧
      (∃ k, t.dev.tokens = s.dev.tokens ++ [k] ∧ k.stamp = s.dev.fc + 2 ∧
        k.word / 2 ^ 60 = (if stage = 0 then 1 else if stage = 1 then (if x.idle then 3 else 2) else if x.idle then 5 else 4) ∧
        k.word / 2 ^ 52 % 256 = ch ∧ k.word / 2 ^ 32 % 2 ^ 16 = (s.dev.fc + 2) % 2 ^ 16 ∧
        (k.word % 2 ^ 24 : Nat) =
          (if x.idle then (((x.blockAcc + x.blocks) / 2 ^ 24 : Nat) - cm) % 2 ^ 24 else cm % 2 ^ 24 : Int)) ∧
      (if sum / 2 ^ 24 = cm then s.raisesNone t
        else s.raisesOne t 0x0503 (objChannel ch) (leBytes 4 (objChannel ch) ++ leBytes 1 stage)) ∧
      (∀ o, o ≠ ch → t.dev.chan o = s.dev.chan o) ∧ t.mem = s.mem ∧ t.bar1 = s.bar1

/-- R150, R155, R166: a count the RX side has read whose CRC checks and that lies inside the stage's window, or in ramp state
within 1..P, is taken for the next period; any other leaves the channel as it was, and is rejected with event 0x0507. Ramp
state ends after 16 MF with every count inside, with event 0x0508. Block lock is gained after 2 predicted block offsets in a
row and lost after 3 others. No other channel changes. Completes: receivedCount, rampStateEnd, blockLockGained,
blockLockLost. Rests on the model's choices of log entries 20, 37. -/
def Obligations.received_counts_ramp_and_block_lock : Prop :=
  (∀ (s : State) (ch stage value lo hi top : Nat) (crcOk : Bool) (x : Desc), s.live = true → ch < 256 →
    (s.dev.chan ch).run = true → value < 2 ^ 24 → s.dev.rxDesc ch = some x → x.rcvWindow stage = some (lo, hi, top) →
    Tab.get (0, !crcOk) (s.dev.cpath ch).jc stage = (value, crcOk) →
    (crcOk = true → lo ≤ value → value ≤ hi →
      ∃ t, exec (.receivedCount ch stage value crcOk) s = .next t ∧
        (stage = 3 → t.dev.chan ch = { s.dev.chan ch with rcvServer := some value }) ∧
        (stage = 4 → t.dev.chan ch = { s.dev.chan ch with rcvClient := some value }) ∧
        (stage = 5 → t.dev.chan ch = { s.dev.chan ch with rcvDemux := some value }) ∧
        s.raisesNone t ∧ (∀ o, o ≠ ch → t.dev.chan o = s.dev.chan o) ∧ t.mem = s.mem ∧ t.bar1 = s.bar1) ∧
    (crcOk = true → (value < lo ∨ hi < value) → (s.dev.chan ch).ramp = true → 1 ≤ value → value ≤ top →
      ∃ t, exec (.receivedCount ch stage value crcOk) s = .next t ∧
        t.dev.chan ch = ({ s.dev.chan ch with rampBad := true }).receive stage value ∧
        s.raisesNone t ∧ (∀ o, o ≠ ch → t.dev.chan o = s.dev.chan o) ∧ t.mem = s.mem ∧ t.bar1 = s.bar1) ∧
    ((crcOk = false ∨ ((s.dev.chan ch).ramp = false ∧ (value < lo ∨ hi < value))) →
      ∃ t, exec (.receivedCount ch stage value crcOk) s = .next t ∧ t.dev.chans = s.dev.chans ∧
        s.raisesOne t 0x0507 (objChannel ch) (leBytes 4 (objChannel ch) ++ leBytes 1 stage ++ leBytes 4 value) ∧
        t.mem = s.mem ∧ t.bar1 = s.bar1)) ∧
  (∀ (s : State) (ch : Nat), s.live = true → ch < 256 → (s.dev.chan ch).run = true → (s.dev.chan ch).ramp = true →
    16 ≤ (s.dev.chan ch).rampRun →
    ∃ t, exec (.rampStateEnd ch) s = .next t ∧ t.dev.chan ch = { s.dev.chan ch with ramp := false } ∧
      s.raisesOne t 0x0508 (objChannel ch) (leBytes 4 (objChannel ch) ++ leBytes 1 0) ∧
      (∀ o, o ≠ ch → t.dev.chan o = s.dev.chan o) ∧ t.mem = s.mem ∧ t.bar1 = s.bar1) ∧
  (∀ (s : State) (ch : Nat), s.live = true → ch < 256 → s.dev.hasBlocks ch = true →
    ((s.dev.chan ch).blockLock = false → 2 ≤ (s.dev.chan ch).boffGood →
      ∃ t, exec (.blockLockGained ch) s = .next t ∧ t.dev.chan ch = { s.dev.chan ch with blockLock := true } ∧
        (∀ o, o ≠ ch → t.dev.chan o = s.dev.chan o) ∧ t.mem = s.mem ∧ t.bar1 = s.bar1) ∧
    ((s.dev.chan ch).blockLock = true → 3 ≤ (s.dev.chan ch).boffBad →
      ∃ t, exec (.blockLockLost ch) s = .next t ∧ t.dev.chan ch = { s.dev.chan ch with blockLock := false } ∧
        (∀ o, o ≠ ch → t.dev.chan o = s.dev.chan o) ∧ t.mem = s.mem ∧ t.bar1 = s.bar1))

/-- R147, R170, R171: on an enabled, powered client port a lane comes UP, and goes DOWN, which takes the port's OTU out of
frame; a change of the frame state of a KIND 1 port whose lanes are UP is taken. CH_MAINT at its effect puts its signal in
force in the flow until Beat 0 of MF E + DURATION_MF (0: until released), with event 0x0509 where the signal changes; a
client signal that does not suit the channel changes nothing; at the expiry the signal is released, with event 0x0509.
CP_CONFIG at its effect enables or disables the port, and the lanes that LANE_MASK does not name keep their fields. No other
port changes. Completes: untimedCommandEffect, chMaintExpiry, clientLaneDown, clientLaneUp, clientOtuFrameStateChange. Rests
on the model's choices of log entry 20. -/
def Obligations.client_ports_and_maintenance_change : Prop :=
  (∀ (s : State) (lane : Nat) (x : Desc), s.live = true → lane < 64 → s.dev.clientOf lane = some x →
    (s.dev.client x.cp).enabled = true → s.dev.clientPowered x.cp x.lanes = true →
    ∃ t, exec (.clientLaneUp lane) s = .next t ∧
      t = { s with dev := { s.dev with clientLanesUp := setBit s.dev.clientLanesUp lane true } }) ∧
  (∀ (s : State) (lane : Nat) (x : Desc), s.live = true → lane < 64 → s.dev.clientOf lane = some x →
    (s.dev.client x.cp).enabled = true → bit s.dev.clientLanesUp lane = true →
    ∃ t, exec (.clientLaneDown lane) s = .next t ∧ t.dev.clientLanesUp = setBit s.dev.clientLanesUp lane false ∧
      t.dev.client x.cp = { s.dev.client x.cp with inFrame := false, inMf := false } ∧
      (∀ k, k ≠ x.cp → t.dev.client k = s.dev.client k) ∧ s.raisesNone t ∧ t.mem = s.mem ∧ t.bar1 = s.bar1) ∧
  (∀ (s : State) (lane : Nat) (inFrame inMf : Bool) (x : Desc), s.live = true → lane < 64 → s.dev.clientOf lane = some x →
    x.kind = 1 → x.cp = lane → (s.dev.client lane).enabled = true → s.dev.clientUp x = true → (inMf = true → inFrame = true) →
    ∃ t, exec (.clientOtuFrameStateChange lane inFrame inMf) s = .next t ∧
      t.dev.client lane = { s.dev.client lane with
        inFrame := inFrame, inMf := inMf, hadFrame := (s.dev.client lane).hadFrame || inFrame } ∧
      (∀ k, k ≠ lane → t.dev.client k = s.dev.client k) ∧ s.raisesNone t ∧ t.mem = s.mem ∧ t.bar1 = s.bar1) ∧
  (∀ (s : State) (w : Waiting) (sig : Nat) (m : Maint), s.effectDue 0x0502 w = true →
    sig = (if w.cmd.field 1 1 ≤ 6 then w.cmd.field 1 1 else 0) →
    m = ⟨sig, if sig = 0 ∨ w.cmd.field 4 4 = 0 then none else some (s.dev.mfn + w.cmd.field 4 4)⟩ →
    (checkChMaint s.dev w.cmd = none →
      ∃ t, exec .untimedCommandEffect s = .next t ∧
        t.dev.chan w.cmd.index = (if w.cmd.field 0 1 = 1 then { s.dev.chan w.cmd.index with maintRx := m }
          else { s.dev.chan w.cmd.index with maintTx := m }) ∧
        (∀ o, o ≠ w.cmd.index → t.dev.chan o = s.dev.chan o)) ∧
    (checkChMaint s.dev w.cmd ≠ none → ∃ t, exec .untimedCommandEffect s = .next t ∧ t.dev.chans = s.dev.chans)) ∧
  (∀ (s : State) (ch flow e : Nat), s.live = true → ch < 256 → flow < 2 →
    ((if flow = 0 then (s.dev.chan ch).maintTx else (s.dev.chan ch).maintRx).expiry) = some e → e * 256 ≤ s.dev.fc →
    ((if flow = 0 then (s.dev.chan ch).maintTx else (s.dev.chan ch).maintRx).signal) ≠ 0 →
    ∃ t, exec (.chMaintExpiry ch flow) s = .next t ∧
      t.dev.chan ch = (if flow = 0 then { s.dev.chan ch with maintTx := {} } else { s.dev.chan ch with maintRx := {} }) ∧
      s.raisesOne t 0x0509 (objChannel ch) (leBytes 4 (objChannel ch) ++ leBytes 1 flow ++ leBytes 1 0) ∧
      (∀ o, o ≠ ch → t.dev.chan o = s.dev.chan o) ∧ t.mem = s.mem ∧ t.bar1 = s.bar1) ∧
  (∀ (s : State) (w : Waiting) (i : Image) (x : Desc), s.effectDue 0x0503 w = true → s.dev.sched.active = some i →
    i.clientDesc w.cmd.index = some x → checkCpConfig s.dev w.cmd = none →
    ∃ t, exec .untimedCommandEffect s = .next t ∧
      (t.dev.client x.cp).enabled =
        (if w.cmd.field 0 1 = 0 then false else if w.cmd.field 0 1 = 1 then true else (s.dev.client x.cp).enabled) ∧
      (∀ k, k < x.lanes → bit (w.cmd.field 2 1) k = false → t.dev.lane (x.cp + k) = s.dev.lane (x.cp + k)) ∧
      (∀ k, k < x.lanes → bit (w.cmd.field 2 1) k = true → t.dev.lane (x.cp + k) =
        ⟨clamp 0 15 (w.cmd.field 3 1), clamp 0 31 (w.cmd.field 4 1), clamp 0 63 (w.cmd.field 5 1), w.cmd.field 6 1 % 4,
          if w.cmd.field 7 1 ≤ 16 then w.cmd.field 7 1 else 0, bit (w.cmd.field 8 1) 0⟩))

/-- R177, R193, R201: a die link whose lock is lost is down and one that regains it is up, and nothing else of the state
changes but a counter. When far deskew becomes unavailable no member of a group and no aligned path stands in the far tier
any more. A far read that misses its deadline raises event 0x0609: the group realigns and is not UP, or the aligned path runs
as ordinary 1+1. Completes: dieLinkDown, farDeskewUnavailable, farReadDeadlineMiss, dieLinkUp. Rests on the model's choices
of log entry 20. -/
def Obligations.die_links_and_the_far_tier_fail_and_recover : Prop :=
  (∀ (s : State) (slice : Nat), s.live = true → slice < 4 →
    (bit s.dev.cald.dieUp slice = true →
      ∃ t, exec (.dieLinkDown slice) s = .next t ∧ bit t.dev.cald.dieUp slice = false ∧
        (∀ k, k < 4 → k ≠ slice → bit t.dev.cald.dieUp k = bit s.dev.cald.dieUp k) ∧
        t = { s with dev := { s.dev with
          cald := { s.dev.cald with dieUp := t.dev.cald.dieUp }, cnt := t.dev.cnt } }) ∧
    (∃ t, exec (.dieLinkUp slice) s = .next t ∧ bit t.dev.cald.dieUp slice = true ∧
        (∀ k, k < 4 → k ≠ slice → bit t.dev.cald.dieUp k = bit s.dev.cald.dieUp k) ∧
        t = { s with dev := { s.dev with cald := { s.dev.cald with dieUp := t.dev.cald.dieUp } } })) ∧
  (∀ (s : State) (cause : Nat) (i : Image), s.live = true → (cause = 2 ∨ (cause = 1 ∧ s.dev.farState = 1) ∨ (cause = 3 ∧ 16 ≤ s.dev.cald.hbmRun)) →
    s.dev.sched.active = some i →
    ∃ t, exec (.farDeskewUnavailable cause) s = .next t ∧ (cause ≠ 1 → t.dev.cald.hbmFailed = true) ∧
      (∀ r ∈ i.sgmap, ∀ k, k < r.members.length → (t.dev.member r.sg k).tier ≠ 2) ∧
      (∀ r ∈ i.pgs, (t.dev.pg r.pg).align.wTier ≠ 2 ∧ (t.dev.pg r.pg).align.pTier ≠ 2) ∧ t.mem = s.mem ∧ t.bar1 = s.bar1) ∧
  (∀ (s : State) (g index cells : Nat), s.live = true → g < 32 →
    (∃ x ∈ s.dev.cald.streams, x.owner = objSpread g ∧ x.index = index) →
    ∃ t, exec (.farReadDeadlineMiss (objSpread g) index cells) s = .next t ∧ (t.dev.group g).mode ≠ .up ∧
      (t.dev.group g).realigns = min 0xFFFF_FFFF ((s.dev.group g).realigns + 1) ∧
      s.dev.eventOf 0x0609 (objSpread g) (leBytes 4 (objSpread g) ++ leBytes 1 index) ∈ t.dev.log.arising ∧
      s.dev.eventOf 0x0603 (objSpread g) (leBytes 1 g ++ leBytes 1 index ++ leBytes 1 9) ∈ t.dev.log.arising) ∧
  (∀ (s : State) (g index cells : Nat), s.live = true → g < 128 →
    (∃ x ∈ s.dev.cald.streams, x.owner = objGroup g ∧ x.index = index) →
    ∃ t, exec (.farReadDeadlineMiss (objGroup g) index cells) s = .next t ∧ (t.dev.pg g).align.aligned = false ∧
      (t.dev.pg g).align.placed = false ∧ (t.dev.pg g).align.ordinary = true ∧
      s.dev.eventOf 0x0609 (objGroup g) (leBytes 4 (objGroup g) ++ leBytes 1 index) ∈ t.dev.log.arising)

/-- R184 to R190: a group whose members are all placed, with a word that all of them hold, enters UP with event 0x0601, each
member's lead its skew. A release takes `n` of the words that all members hold: it records each member's lead over the last
of them, the group stays UP while a near lead stays within NEAR_MAX + RESERVE and a far one below its allocation, and a near
lead beyond the limit at the first word realigns the group with event 0x0603 and reason 0. START blocks with a new GEN on
every member (`Dev.takeGen`) take the group out of UP under that GEN. Completes: deskewRelease, sgUp. Rests on the model's
choices of log entries 20, 44. -/
def Obligations.spread_groups_come_up_release_and_realign : Prop :=
  (∀ (s : State) (g : Nat), s.live = true → (s.dev.sgRec g).isSome = true →
    ((s.dev.group g).mode = .forming ∨ (s.dev.group g).mode = .realign) → (s.dev.group g).members ≠ [] →
    (∀ m ∈ (s.dev.group g).members, m.tier ≠ 0 ∧ m.mState = 2) → (s.dev.firstWord g).isSome = true →
    ∃ t, exec (.sgUp g) s = .next t ∧ (t.dev.group g).mode = .up ∧ (t.dev.group g).upFc = s.dev.fc ∧
      (t.dev.group g).members = (s.dev.group g).members.map (fun m =>
        { m with mState := 3, reason := 0, lead := m.skew, sfhBadRun := 0, sfhOk := true, sfhNext := none }) ∧
      s.dev.eventOf 0x0601 (objSpread g) (leBytes 1 g ++ leBytes 1 (s.dev.group g).rxGen) ∈ t.dev.log.arising ∧
      (∀ o, o ≠ g → t.dev.group o = s.dev.group o) ∧ t.mem = s.mem ∧ t.bar1 = s.bar1) ∧
  (∀ (s : State) (g n : Nat) (bad : List Nat) (r : SgRec), s.live = true → s.dev.sgRec g = some r → 1 ≤ n →
    n ≤ s.dev.wordsHeld g →
    (s.dev.group g).mode = .up → r.members.length = (s.dev.group g).members.length →
    (∀ j, j < n → ∀ k, k < r.members.length →
      ((s.dev.member g k).tier = 1 → s.dev.leadAt g j k ≤ 315_776 + 7_648) ∧
      ((s.dev.member g k).tier = 2 → s.dev.leadAt g j k + 1_912 < (s.dev.member g k).alloc)) →
    ∃ t, exec (.deskewRelease g n bad) s = .next t ∧ (t.dev.group g).mode = .up ∧
      (∀ k, k < r.members.length → (t.dev.member g k).lead = s.dev.leadAt g (n - 1) k ∧
        (t.dev.stream (objSpread g) k).held = (s.dev.stream (objSpread g) k).held.drop n) ∧ s.raisesNone t ∧
      (∀ o, o ≠ g → t.dev.group o = s.dev.group o) ∧ t.mem = s.mem ∧ t.bar1 = s.bar1) ∧
  (∀ (s : State) (g k n : Nat) (bad : List Nat) (r : SgRec), s.live = true → s.dev.sgRec g = some r → 1 ≤ n →
    n ≤ s.dev.wordsHeld g →
    (s.dev.group g).mode = .up → r.members.length = (s.dev.group g).members.length → k < r.members.length →
    (∀ i, i ≤ k → (s.dev.member g i).tier = 1) → (∀ i, i < k → s.dev.leadAt g 0 i ≤ 315_776 + 7_648) →
    315_776 + 7_648 < s.dev.leadAt g 0 k →
    ∃ t, exec (.deskewRelease g n bad) s = .next t ∧ (t.dev.group g).mode ≠ .up ∧
      s.dev.eventOf 0x0602 (objSpread g) (leBytes 1 g ++ leBytes 1 k ++ leBytes 1 0) ∈ t.dev.log.arising ∧
      s.dev.eventOf 0x0603 (objSpread g) (leBytes 1 g ++ leBytes 1 k ++ leBytes 1 0) ∈ t.dev.log.arising) ∧
  (∀ (d : Dev) (g gen : Nat), (d.group g).mode = .up →
    ((d.takeGen g gen).group g).mode ≠ .up ∧ ((d.takeGen g gen).group g).rxGen = gen ∧
      d.eventOf 0x0602 (objSpread g) (leBytes 1 g ++ leBytes 1 0 ++ leBytes 1 0) ∈ (d.takeGen g gen).log.arising)

/-- R195, R196: each GMP period whose cells the streams hold adds both signatures to their histories, of 880 periods at most,
and fewer than 8 make no match; with no unique match for 64 MF the group runs as ordinary 1+1, neither path delayed, with
event 0x0607. Completes: alignedSignaturePeriod, alignedMatchTimeout. Rests on the model's choices of log entries 20, 44. -/
def Obligations.aligned_groups_match_signatures_or_run_ordinary : Prop :=
  (∀ (s : State) (g wSig pSig wArr pArr : Nat) (r : PgRec), s.live = true → s.dev.pgRec g = some r → r.aligned = true →
    s.dev.signed g wSig pSig wArr pArr = true →
    ∃ t, exec (.alignedSignaturePeriod g wSig pSig wArr pArr) s = .next t ∧
      (t.dev.pg g).align.wSigs = ((wSig, wArr) :: (s.dev.pg g).align.wSigs).take 880 ∧
      (t.dev.pg g).align.pSigs = ((pSig, pArr) :: (s.dev.pg g).align.pSigs).take 880 ∧
      ((s.dev.pg g).align.wSigs.length < 7 → (s.dev.pg g).align.pSigs.length < 7 → (s.dev.pg g).align.placed = false →
        (t.dev.pg g).align.matched = 0 ∧ (t.dev.pg g).align.placed = false ∧ s.raisesNone t) ∧
      (∀ o, o ≠ g → t.dev.pg o = s.dev.pg o) ∧ t.mem = s.mem ∧ t.bar1 = s.bar1) ∧
  (∀ (s : State) (g : Nat) (r : PgRec), s.live = true → s.dev.pgRec g = some r → r.aligned = true →
    64 ≤ (s.dev.pg g).align.noMatchMf → (s.dev.pg g).align.ordinary = false →
    ∃ t, exec (.alignedMatchTimeout g) s = .next t ∧ (t.dev.pg g).align.ordinary = true ∧
      (t.dev.pg g).align.aligned = false ∧ (t.dev.pg g).align.placed = false ∧ (t.dev.pg g).align.wDelay = 0 ∧
      (t.dev.pg g).align.pDelay = 0 ∧ s.raisesOne t 0x0607 (objGroup g) (leBytes 1 g ++ leBytes 1 0 ++ leBytes 1 1) ∧
      (∀ o, o ≠ g → t.dev.pg o = s.dev.pg o) ∧ t.mem = s.mem ∧ t.bar1 = s.bar1)

/-- R199, R200, R205: a free resource goes to the pending request with the earliest deadline among the requesters that use it
and are not barred, a tie to the lower ID, and to none where there is no such request; the grant keeps the maximum burst then
in force. A holder beyond the maximum burst of its grant is cut off, counted and barred, with event 0x0608. ARB_DEADLINE_SET
at its effect gives its requester the clamped offset and burst and leaves the other requesters and the grants alone.
Completes: untimedCommandEffect, arbiterGrant, arbCutoff. Rests on the model's choices of log entries 20, 44. -/
def Obligations.arbiter_grants_earliest_deadline : Prop :=
  (∀ (s : State) (res : Nat) (reqs : List ArbRequest), s.live = true → res < 2 → heldOver (s.dev.cald.holder res) = false →
    ∃ t, exec (.arbiterGrant res reqs) s = .next t ∧
      ∃ w, w = (if res = 0 then t.dev.cald.holder0 else t.dev.cald.holder1) ∧ t = { s with dev := { s.dev with cald := if res = 0 then { s.dev.cald with holder0 := w }
        else { s.dev.cald with holder1 := w } } } ∧
      (w = none → ∀ q ∈ reqs, ¬(usesResource res q.requester = true ∧ (s.dev.req q.requester).barred = false)) ∧
      (∀ g, w = some g → ∃ q ∈ reqs, usesResource res q.requester = true ∧ (s.dev.req q.requester).barred = false ∧
        g = { q with cycles := longestBurst q.requester q.cycles, burst := (s.dev.req q.requester).burst } ∧
        ∀ o ∈ reqs, usesResource res o.requester = true → (s.dev.req o.requester).barred = false →
          q.issue + (s.dev.req q.requester).deadline < o.issue + (s.dev.req o.requester).deadline ∨
          (q.issue + (s.dev.req q.requester).deadline = o.issue + (s.dev.req o.requester).deadline ∧
            q.requester ≤ o.requester))) ∧
  (∀ (s : State) (q : ArbRequest), s.live = true → s.dev.cald.holder0 = some q → s.dev.cald.holder1 = none →
    q.burst < q.cycles →
    ∃ t, exec (.arbCutoff q.requester) s = .next t ∧ t.dev.cald.holder0 = none ∧ t.dev.cald.holder1 = none ∧
      t.dev.req q.requester = { s.dev.req q.requester with
        cutoffs := min 0xFFFF ((s.dev.req q.requester).cutoffs + 1), barred := true } ∧
      s.raisesOne t 0x0608 0 (leBytes 1 q.requester ++ leBytes 2 ((s.dev.req q.requester).cutoffs + 1)) ∧
      (∀ o, o ≠ q.requester → t.dev.req o = s.dev.req o) ∧ t.mem = s.mem ∧ t.bar1 = s.bar1) ∧
  (∀ (s : State) (w : Waiting), s.effectDue 0x0604 w = true →
    ∃ t, exec .untimedCommandEffect s = .next t ∧
      t.dev.req (w.cmd.field 0 1) = { s.dev.req (w.cmd.field 0 1) with
        deadline := clamp 1_912 3_915_776 (w.cmd.field 4 4), burst := clamp 8 4_096 (w.cmd.field 8 2) } ∧
      (∀ o, o ≠ w.cmd.field 0 1 → t.dev.req o = s.dev.req o) ∧
      t.dev.cald.holder0 = s.dev.cald.holder0 ∧ t.dev.cald.holder1 = s.dev.cald.holder1)

/-- R210, R217, R231: a defect that its object and mode produce, whose condition has held for the Beats, frames or
multiframes of its integration time, sets its input; one whose condition has not held for its clearing time clears it. A
change of an unmasked input is reported by event 0x0701 or 0x0702, and by none when it is masked or stood so already; no
other layer changes. A path monitor that has gained frame takes its defects in its group. Completes: defectRaised,
defectCleared. Rests on the model's choices of log entries 20, 39. -/
def Obligations.defects_are_raised_and_cleared : Prop :=
  (∀ (s : State) (obj l i : Nat), s.live = true → objType obj ≠ 6 → l < 256 → s.dev.produces obj l i = true →
    s.dev.integratedTo obj l i true = true →
    ∃ t, exec (.defectRaised obj l i) s = .next t ∧ bit (t.dev.layer obj l).inputs i = true ∧
      bit (t.dev.layer obj l).reported i = true ∧ (t.dev.layer obj l).mask = (s.dev.layer obj l).mask ∧
      (if bit (s.dev.layer obj l).reported i = false ∧ bit (s.dev.layer obj l).mask i = false then
        s.raisesOne t 0x0701 obj (leBytes 4 obj ++ leBytes 1 l ++ leBytes 1 i)
      else s.raisesNone t) ∧
      (∀ o k, k < 256 → ¬(o = obj ∧ k = l) → t.dev.layer o k = s.dev.layer o k) ∧ t.mem = s.mem ∧ t.bar1 = s.bar1) ∧
  (∀ (s : State) (obj l i : Nat), s.live = true → objType obj ≠ 6 → l < 256 → s.dev.hasLayer obj l = true →
    (integrated l).contains i = true → s.dev.integratedTo obj l i false = true →
    ∃ t, exec (.defectCleared obj l i) s = .next t ∧ bit (t.dev.layer obj l).inputs i = false ∧
      bit (t.dev.layer obj l).reported i = false ∧
      (if bit (s.dev.layer obj l).reported i = true ∧ bit (s.dev.layer obj l).mask i = false then
        s.raisesOne t 0x0702 obj (leBytes 4 obj ++ leBytes 1 l ++ leBytes 1 i)
      else s.raisesNone t) ∧
      (∀ o k, k < 256 → ¬(o = obj ∧ k = l) → t.dev.layer o k = s.dev.layer o k) ∧ t.mem = s.mem ∧ t.bar1 = s.bar1) ∧
  (∀ (s : State) (g path i : Nat) (r : PgRec), s.live = true → g < 128 → path < 2 → s.dev.pgRec g = some r →
    (s.dev.pg g).run = true → r.arch % 8 ≠ 0 → (i = 1 ∨ i = 2 ∨ i = 3 ∨ i = 5 ∨ (i = 4 ∧ r.arch % 8 = 2)) →
    (((s.dev.pg g).path path).gained = true → s.dev.monitorHas r path i true = true →
      ∃ t, exec (.defectRaised (objGroup g) path i) s = .next t ∧ bit ((t.dev.pg g).path path).monDefects i = true ∧
        (∀ o, o ≠ g → t.dev.pg o = s.dev.pg o) ∧ s.raisesNone t) ∧
    (s.dev.monitorHas r path i false = true →
      ∃ t, exec (.defectCleared (objGroup g) path i) s = .next t ∧ bit ((t.dev.pg g).path path).monDefects i = false ∧
        (∀ o, o ≠ g → t.dev.pg o = s.dev.pg o) ∧ s.raisesNone t))

/-- R219, R221: at the end of a PM second each PM entity that runs keeps the second that ends as its last one and begins the
next with no blocks; a second of other than 3,360 or 3,361 MF is irregular, with event 0x0705. Completes: pmSecondBoundary.
Rests on the model's choices of log entry 20. -/
def Obligations.pm_seconds_end_and_begin : Prop :=
  ∀ (s : State) (i : Image) (obj l : Nat), s.live = true → s.dev.beat = 0 → s.dev.swapDue = false →
    s.dev.timedDue = false → s.dev.ladderDue = false → s.dev.pps.pmsAge ≠ 0 → s.dev.pps.state = .valid → s.dev.pps.edgeWaits = true →
    s.dev.sched.active = some i → i.allLayers.Nodup → (obj, l) ∈ i.allLayers → s.dev.isPmEntity obj l = true →
    (s.dev.pm obj l).run = true →
    ∃ t, exec .pmSecondBoundary s = .next t ∧ (t.dev.pm obj l).run = true ∧
      (t.dev.pm obj l).last = { (s.dev.pm obj l).cur with
        irregular := decide (s.dev.pps.pmsAge ≠ 3_360 ∧ s.dev.pps.pmsAge ≠ 3_361) } ∧
      (t.dev.pm obj l).cur = { pms := (s.dev.pps.pmSeconds + 1) % 2 ^ 32 } ∧
      ((s.dev.pps.pmsAge ≠ 3_360 ∧ s.dev.pps.pmsAge ≠ 3_361) →
        s.dev.eventOf 0x0705 0 (leBytes 4 s.dev.pps.pmsAge) ∈ t.dev.log.arising)

/-- R224, R225, R227: DEF_MASK at its effect sets the mask and no other field of its layer; DEF_DEG_SET sets the clamped DEGM
and DEGTHR that apply from the next PM second; PM_BIN_SET sets the next ORIGIN, a threshold, the UAS mode of the next second
(unknown: BIDIRECTIONAL), or clears the entity's current bins and marks them suspect. Completes: untimedCommandEffect. -/
def Obligations.defect_and_pm_settings_take_effect : Prop :=
  (∀ (s : State) (w : Waiting) (l : Nat), s.effectDue 0x0702 w = true → l = w.cmd.field 0 1 →
    s.dev.hasLayer w.cmd.object l = true →
    ∃ t, exec .untimedCommandEffect s = .next t ∧
      t.dev.layer w.cmd.object l = { s.dev.layer w.cmd.object l with mask := w.cmd.field 2 2 } ∧
      (∀ o k, k < 256 → ¬(o = w.cmd.object ∧ k = l) → t.dev.layer o k = s.dev.layer o k)) ∧
  (∀ (s : State) (w : Waiting) (l : Nat), s.effectDue 0x0703 w = true → l = w.cmd.field 0 1 →
    s.dev.hasLayer w.cmd.object l = true → (degBit l).isSome = true →
    ∃ t, exec .untimedCommandEffect s = .next t ∧
      t.dev.layer w.cmd.object l = { s.dev.layer w.cmd.object l with
        degmNext := clamp 2 10 (w.cmd.field 1 1), degthrNext := clamp 1 10_000 (w.cmd.field 2 2) } ∧
      (∀ o k, k < 256 → ¬(o = w.cmd.object ∧ k = l) → t.dev.layer o k = s.dev.layer o k)) ∧
  (∀ (s : State) (w : Waiting) (l : Nat), s.effectDue 0x0705 w = true → checkPmBinSet s.dev w.cmd = none →
    l = w.cmd.field 1 1 →
    ∃ t, exec .untimedCommandEffect s = .next t ∧
      (w.cmd.field 0 1 = 1 → t.dev.pmDev.originNext = w.cmd.field 4 4 ∧ t.dev.pmDev.origin = s.dev.pmDev.origin ∧
        t.dev.pms = s.dev.pms) ∧
      (w.cmd.field 0 1 = 2 → (t.dev.pm w.cmd.object l).thresholds =
        Tab.set (s.dev.entity w.cmd.object l).thresholds
          (clamp 0 1 (w.cmd.field 3 1) * 8 + clamp 0 7 (w.cmd.field 2 1)) (w.cmd.field 4 4)) ∧
      (w.cmd.field 0 1 = 3 → (t.dev.pm w.cmd.object l).uasNext = decide (w.cmd.field 4 4 ≠ 0)) ∧
      (w.cmd.field 0 1 = 4 → (t.dev.pm w.cmd.object l).m15.suspect = true ∧
        (t.dev.pm w.cmd.object l).m15.near = {} ∧ (t.dev.pm w.cmd.object l).m15.far = {} ∧
        (t.dev.pm w.cmd.object l).h24.suspect = true ∧ (t.dev.pm w.cmd.object l).h24.near = {} ∧
        (t.dev.pm w.cmd.object l).h24.far = {}) ∧
      (w.cmd.field 0 1 = 0 → t.dev.pms = s.dev.pms ∧ t.dev.pmDev = s.dev.pmDev))

/-- R212, R239, R266: an evaluation issues a token stamped for the Beat after the next for every chain and every group it
evaluates. With PD_PRT on, a group's word is its table's word at the index of R234, formed of the conditions it then
presents, the held request, the accepted APS, WTR_DONE and its state; its state becomes NEXT_STATE. Completes:
consequentActionEvaluation. Rests on the model's choices of log entry 38. -/
def Obligations.evaluation_issues_tokens : Prop :=
  (∀ (s : State) (i : Image), s.live = true → s.dev.evalFc ≠ some s.dev.fc → s.dev.imageAt (s.dev.fc + 2) = some i →
    (∀ tab ∈ i.prt, ∀ v ∈ tab.words, v < 2 ^ 32) →
    ∃ t, exec .consequentActionEvaluation s = .next t ∧ t.dev.evalFc = some s.dev.fc ∧ t.dev.fc = s.dev.fc ∧
      (∀ p, p < 8 → i.lit p = true → s.dev.evaluates i (objPort p) = true →
        ∃ k ∈ t.dev.tokens, k.stamp = s.dev.fc + 2 ∧ k.word / 2 ^ 60 = 9 ∧ k.word / 2 ^ 57 % 8 = 0 ∧
          k.word / 2 ^ 48 % 512 = p) ∧
      (∀ r ∈ i.pgs, r.pg < 128 → s.dev.evaluates i (objGroup r.pg) = true →
        ∃ k ∈ t.dev.tokens, k.stamp = s.dev.fc + 2 ∧ k.word / 2 ^ 60 = 8 ∧ k.word / 2 ^ 48 % 256 = r.pg ∧
          (s.dev.domOn domPrt = false → k.word % 2 ^ 32 = 0)) ∧
      t.mem = s.mem ∧ t.bar1 = s.bar1) ∧
  (∀ (s : State) (i : Image) (r : PgRec) (tab : RespTable) (e : Dev) (x : PgState), s.live = true →
    s.dev.evalFc ≠ some s.dev.fc → s.dev.imageAt (s.dev.fc + 2) = some i → (i.pgs.map (·.pg)).Nodup → r ∈ i.pgs →
    s.dev.evaluates i (objGroup r.pg) = true → s.dev.domOn domPrt = true → (s.dev.pg r.pg).run = true →
    i.prt.find? (fun t => t.id == r.tableId) = some tab →
    e = s.dev.evalPorts i (s.dev.fc + 2) (s.dev.evaluates i) →
    x = { s.dev.pg r.pg with
      w := (s.dev.pg r.pg).w.present (e.actualCond r 0 (s.dev.pg r.pg).w) (s.dev.pg r.pg).holdoffSet,
      p := (s.dev.pg r.pg).p.present (e.actualCond r 1 (s.dev.pg r.pg).p) (s.dev.pg r.pg).holdoffSet } →
    ∃ t, exec .consequentActionEvaluation s = .next t ∧
      (t.dev.pg r.pg).word = tab.words.getD (x.index % 2 ^ tab.inBits) 0 ∧
      (t.dev.pg r.pg).state = (t.dev.pg r.pg).word % 8 ∧ (t.dev.pg r.pg).w = x.w ∧ (t.dev.pg r.pg).p = x.p ∧
      (t.dev.pg r.pg).select = (s.dev.pg r.pg).select)

/-- R231, R233, R236, R239, R253: in a group that runs, an expired hold-off is due at the next evaluation and an expired WTR
sets WTR_DONE; an APS that has come 3 times in a row is accepted: a new one becomes REMOTE_REQ and REMOTE_R, with event
0x0803, and the same one again changes nothing; a path monitor that gains or loses frame says so; and requested signals that
have differed for 168 MF in a bidirectional group raise dFOP-NR with event 0x0804. No other group changes. Completes:
holdoffExpiry, wtrExpiry, apsAccepted, pathMonitorFrameChange, dfopNrTimeout. Rests on the model's choices of log entries 20,
41. -/
def Obligations.protection_timers_and_aps_are_taken : Prop :=
  (∀ (s : State) (g path : Nat), s.live = true → g < 128 → path < 2 → (s.dev.pg g).run = true →
    ((s.dev.pg g).path path).holdoff = some 0 →
    ∃ t, exec (.holdoffExpiry g path) s = .next t ∧
      (t.dev.pg g).path path = { (s.dev.pg g).path path with holdoff := none, holdoffDue := true } ∧
      (t.dev.pg g).path (1 - path) = (s.dev.pg g).path (1 - path) ∧ (t.dev.pg g).select = (s.dev.pg g).select ∧
      t = { s with dev := { s.dev with pgs := t.dev.pgs } } ∧ (∀ o, o ≠ g → t.dev.pg o = s.dev.pg o)) ∧
  (∀ (s : State) (g : Nat), s.live = true → g < 128 → (s.dev.pg g).run = true → (s.dev.pg g).wtrLeft = some 0 →
    ∃ t, exec (.wtrExpiry g) s = .next t ∧ t.dev.pg g = { s.dev.pg g with wtrLeft := none, wtrDone := true } ∧
      t = { s with dev := { s.dev with pgs := t.dev.pgs } } ∧ (∀ o, o ≠ g → t.dev.pg o = s.dev.pg o)) ∧
  (∀ (s : State) (g : Nat) (r : PgRec) (a1 a2 a3 a4 : Byte), s.live = true → g < 128 → (s.dev.pg g).run = true →
    (s.dev.pg g).p.inFrame = true → s.dev.pgRec g = some r → s.dev.monitorOn r 1 = true →
    3 ≤ (s.dev.monitor g 1).apsRun → (s.dev.monitor g 1).aps = [a1, a2, a3, a4] →
    ((s.dev.pg g).rxAps ≠ [a1, a2, a3, a4] →
      ∃ t, exec (.apsAccepted g [a1, a2, a3, a4]) s = .next t ∧ (t.dev.pg g).rxAps = [a1, a2, a3, a4] ∧
        (t.dev.pg g).remoteReq = a1.toNat / 16 ∧ (t.dev.pg g).remoteR = a2.toNat % 2 ∧
        (t.dev.pg g).select = (s.dev.pg g).select ∧
        s.dev.eventOf 0x0803 (objGroup g) (leBytes 1 g ++ [a1, a2, a3, a4]) ∈ t.dev.log.arising ∧
        (∀ o, o ≠ g → t.dev.pg o = s.dev.pg o) ∧ t.mem = s.mem ∧ t.bar1 = s.bar1) ∧
    ((s.dev.pg g).rxAps = [a1, a2, a3, a4] → exec (.apsAccepted g [a1, a2, a3, a4]) s = .next s)) ∧
  (∀ (s : State) (g path : Nat) (inFrame : Bool) (r : PgRec), s.live = true → g < 128 → path < 2 →
    (s.dev.pg g).run = true → ((s.dev.pg g).path path).inFrame ≠ inFrame → s.dev.pgRec g = some r →
    s.dev.monitorOn r path = true → (s.dev.monitor g path).lock = inFrame →
    ∃ t, exec (.pathMonitorFrameChange g path inFrame) s = .next t ∧
      (t.dev.pg g).path path = { (s.dev.pg g).path path with
        inFrame := inFrame, gained := ((s.dev.pg g).path path).gained || inFrame } ∧
      (t.dev.pg g).path (1 - path) = (s.dev.pg g).path (1 - path) ∧ s.raisesNone t ∧
      (∀ o, o ≠ g → t.dev.pg o = s.dev.pg o) ∧ t.mem = s.mem ∧ t.bar1 = s.bar1) ∧
  (∀ (s : State) (g : Nat) (r : PgRec), s.live = true → g < 128 → (s.dev.pg g).run = true →
    (s.dev.pg g).fopNr = false → 43_008 ≤ (s.dev.pg g).nrRun → s.dev.pgRec g = some r → r.arch / 8 % 4 = 1 →
    ∃ t, exec (.dfopNrTimeout g) s = .next t ∧ t.dev.pg g = { s.dev.pg g with fopNr := true } ∧
      s.raisesOne t 0x0804 (objGroup g) (leBytes 1 g ++ leBytes 1 1 ++ leBytes 1 1) ∧
      (∀ o, o ≠ g → t.dev.pg o = s.dev.pg o) ∧ t.mem = s.mem ∧ t.bar1 = s.bar1)

/-- R235, R252, R254: with PD_PRT on, PG_COMMAND at its effect holds a request that does not rank below the one held (LO
above FS, FS above the manual switches, those above EXER), leaves the held one where it ranks below, and CLEAR removes it and
presents CLEAR; with PD_PRT off it changes no group. PG_TIMERS sets the clamped HOLDOFF, WTR and TCM_LEVEL; running timers of
a group that is no SNC/S group stay. Completes: untimedCommandEffect. Rests on the model's choices of log entry 41. -/
def Obligations.protection_commands_take_effect : Prop :=
  (∀ (s : State) (w : Waiting) (req : Nat), s.effectDue 0x0801 w = true → s.dev.domOn domPrt = true →
    req = (if w.cmd.field 0 1 ≤ 6 then w.cmd.field 0 1 else 0) →
    ∃ t, exec .untimedCommandEffect s = .next t ∧
      (t.dev.pg w.cmd.index).held =
        (if req = 0 then (s.dev.pg w.cmd.index).held else if req = 6 then 0
          else if localRank req < localRank (s.dev.pg w.cmd.index).held then (s.dev.pg w.cmd.index).held else req) ∧
      (req = 6 → (t.dev.pg w.cmd.index).presentClear = true) ∧
      (t.dev.pg w.cmd.index).select = (s.dev.pg w.cmd.index).select ∧
      (t.dev.pg w.cmd.index).state = (s.dev.pg w.cmd.index).state ∧
      (∀ o, o ≠ w.cmd.index → t.dev.pg o = s.dev.pg o)) ∧
  (∀ (s : State) (w : Waiting), s.effectDue 0x0801 w = true → s.dev.domOn domPrt = false →
    ∃ t, exec .untimedCommandEffect s = .next t ∧ t.dev.pgs = s.dev.pgs) ∧
  (∀ (s : State) (w : Waiting) (r : PgRec), s.effectDue 0x0803 w = true → s.dev.pgRec w.cmd.index = some r →
    ∃ t, exec .untimedCommandEffect s = .next t ∧
      (t.dev.pg w.cmd.index).holdoffSet = clamp 0 100 (w.cmd.field 0 1) ∧
      (t.dev.pg w.cmd.index).wtrSet = clamp 1 12 (w.cmd.field 1 1) ∧
      (t.dev.pg w.cmd.index).tcmLevel = clamp 1 6 (w.cmd.field 2 1) ∧
      (t.dev.pg w.cmd.index).w.holdoff = (s.dev.pg w.cmd.index).w.holdoff ∧
      (t.dev.pg w.cmd.index).p.holdoff = (s.dev.pg w.cmd.index).p.holdoff ∧
      (t.dev.pg w.cmd.index).wtrLeft = (s.dev.pg w.cmd.index).wtrLeft ∧
      (r.arch % 8 ≠ 2 → (t.dev.pg w.cmd.index).w = (s.dev.pg w.cmd.index).w ∧
        (t.dev.pg w.cmd.index).p = (s.dev.pg w.cmd.index).p ∧ t.dev.odu = s.dev.odu) ∧
      (∀ o, o ≠ w.cmd.index → t.dev.pg o = s.dev.pg o))

/-- R35, R262, R274, R283: a WAITING device that has seen no ACTIVE twin for its wait becomes ACTIVE and owns every port; a
complete join phase leads to the next one (TIME to STATE where the banks match and FULL is clear), TIME running the anchor on
TWIN, and the last to STANDBY; FC is taken over at the Beat that the twin named; 4,096 MF in one phase lead back to WAITING
with a retry after 1,024 MF, which joins where AUTO_JOIN and an ACTIVE twin allow it; and PAIR_JOIN starts the join or ends
CONSTRAINT with no effect. Completes: untimedCommandEffect, waitTimeoutActive, fcAdoption, joinPhaseComplete,
joinPhaseTimeout, joinRetry. Rests on the model's choices of log entries 20, 28, 49, 52. -/
def Obligations.waiting_devices_become_active_or_join : Prop :=
  (∀ s : State, s.live = true → s.dev.pair.role = .waiting →
    ((s.dev.pair.index = 0 ∧ max s.dev.pair.waitStart s.dev.pair.twinActiveMfn + s.dev.pair.waitMf ≤ s.dev.mfn) ∨
      (s.dev.pair.index ≠ 0 ∧ s.dev.pair.aliveIn = false ∧
        max s.dev.pair.waitStart s.dev.pair.twinActiveMfn + 2 * s.dev.pair.waitMf ≤ s.dev.mfn)) →
    ∃ t, exec .waitTimeoutActive s = .next t ∧ t.dev.pair.role = .active ∧ t.dev.pair.ownLp = 0xFF ∧
      t.dev.pair.ownCp = 0xFFFF_FFFF_FFFF_FFFF ∧ s.raisesOne t 0x0901 0 (leBytes 1 1 ++ leBytes 1 4) ∧
      t = { s with dev := { s.dev with pair := t.dev.pair, host := t.dev.host, log := t.dev.log } }) ∧
  (∀ s : State, s.live = true → s.dev.pair.role = .joining → s.dev.phaseDone = true →
    ∃ t, exec .joinPhaseComplete s = .next t ∧
      s.dev.eventOf 0x090D 0 (leBytes 1 s.dev.pair.joinPhase ++ leBytes 1 0) ∈ t.dev.log.arising ∧
      (s.dev.pair.joinPhase ≠ 6 → t.dev.pair.role = .joining ∧ t.dev.pair.joinPhase =
          (if s.dev.pair.joinPhase = 2 ∧ s.dev.pair.banksCame = true then 4 else s.dev.pair.joinPhase + 1) ∧
        t.dev.pair.joinStart = s.dev.mfn) ∧
      (s.dev.pair.joinPhase = 1 → t.dev.anchor.source = 2 ∧ t.dev.anchor.inUse = 2 ∧ t.dev.anchor.mode = .acquire) ∧
      (s.dev.pair.joinPhase ≠ 1 → t.dev.anchor = s.dev.anchor) ∧
      (s.dev.pair.joinPhase = 6 → t.dev.pair.role = .standby ∧ t.dev.pair.joinPhase = 0 ∧ t.dev.divergedLp = 0 ∧
        t.dev.pair.mismatchMf = 0 ∧ t.dev.pair.tokenMismatch = 0 ∧ t.dev.pair.tokenOwn = 0 ∧
        t.dev.pair.correctionsN = 0 ∧
        s.dev.eventOf 0x0901 0 (leBytes 1 2 ++ leBytes 1 3) ∈ t.dev.log.arising) ∧
      t.dev.pair.ownLp = s.dev.pair.ownLp ∧ t.dev.pair.ownCp = s.dev.pair.ownCp ∧ t.mem = s.mem ∧ t.bar1 = s.bar1) ∧
  (∀ s : State, s.live = true → s.dev.pair.role = .joining → s.dev.pair.joinStart + 4_096 ≤ s.dev.mfn →
    ∃ t, exec .joinPhaseTimeout s = .next t ∧ t.dev.pair.role = .waiting ∧ t.dev.pair.joinPhase = 0 ∧
      t.dev.pair.ownLp = 0 ∧ t.dev.pair.ownCp = 0 ∧ t.dev.pair.joinRetry = some (s.dev.mfn + 1_024) ∧
      s.dev.eventOf 0x090D 0 (leBytes 1 s.dev.pair.joinPhase ++ leBytes 1 1) ∈ t.dev.log.arising ∧
      s.dev.eventOf 0x0901 0 (leBytes 1 2 ++ leBytes 1 1) ∈ t.dev.log.arising ∧
      t = { s with dev := { s.dev with pair := t.dev.pair, host := t.dev.host, log := t.dev.log } }) ∧
  (∀ (s : State) (m : Nat), s.live = true → s.dev.pair.role = .waiting → s.dev.pair.joinRetry = some m → m ≤ s.dev.mfn →
    ∃ t, exec .joinRetry s = .next t ∧ t.dev.pair.joinRetry = none ∧
      (bit s.dev.pair.flags 0 = true → s.dev.twinActive = true →
        t.dev.pair.role = .joining ∧ t.dev.pair.joinPhase = 1 ∧ s.raisesOne t 0x0901 0 (leBytes 1 1 ++ leBytes 1 2)) ∧
      (¬(bit s.dev.pair.flags 0 = true ∧ s.dev.twinActive = true) →
        t.dev.pair = { s.dev.pair with joinRetry := none } ∧ s.raisesNone t) ∧
      t.mem = s.mem ∧ t.bar1 = s.bar1) ∧
  (∀ (s : State) (m : Nat), s.live = true → s.dev.pair.role = .joining → s.dev.pair.joinPhase = 2 →
    s.dev.pair.adopted = false → s.dev.beat = 0 → s.dev.anchor.inUse = 2 → s.dev.anchor.mode = .locked →
    s.dev.pair.joinAdopt = some m → s.dev.twinNow = fcOf m →
    ∃ t, exec .fcAdoption s = .next t ∧ t.dev.fc = 256 * m ∧ t.dev.pair.adopted = true ∧ t.dev.pair.role = .joining ∧
      { s.dev.eventOf 0x010B 0 (leBytes 8 s.dev.fc) with fc := 256 * m } ∈ t.dev.log.arising ∧ t.mem = s.mem) ∧
  (∀ (s : State) (w : Waiting), s.effectDue 0x0902 w = true →
    (s.dev.pair.role = .waiting → s.dev.twinActive = true → ∃ t, exec .untimedCommandEffect s = .next t ∧
      t.dev.pair.role = .joining ∧ t.dev.pair.joinPhase = 1 ∧ t.dev.pair.joinFull = bit (w.cmd.field 0 1) 0 ∧
      t.dev.pair.joinStart = s.dev.mfn ∧ t.mem = s.mem) ∧
    (¬(s.dev.pair.role = .waiting ∧ s.dev.twinActive = true) → ∃ t, exec .untimedCommandEffect s = .next t ∧
      t.dev.pair = s.dev.pair ∧ t.mem = s.mem))

/-- R28, R258, R263, R275, R277, R279: a standby takes the ports that one of the takeover conditions names, and the role
where the whole device has failed; the watchdog of a hub with a fatal fault drops the outputs; PAIR_ALIVE_IN going low while
frames come is a fault and no takeover; the link comes up once every lane has been aligned for 64 Beats, goes down when a
lane is not, or is silent for 8 Beats; a slice is declared failed once; and the force-standby rails count short disagreements
and raise the discrepancy fault at XSTBY_N. Completes: sliceFailureDeclared, galuloLinkUp, galuloLinkDown,
galuloFrameTimeout, pairAliveInLow, keepaliveWatchdogExpiry, failureTakeover, xstbySample, xstbyDiscrepancy, pairAliveInHigh.
Rests on the model's choices of log entries 20, 47, 48, 89. -/
def Obligations.faults_move_ports_or_are_reported : Prop :=
  (∀ (s : State) (n lp cp : Nat), s.live = true → s.dev.takeoverCase = some (n, lp, cp) →
    ∃ t, exec .failureTakeover s = .next t ∧ t.dev.pair.ownLp = orBits 8 s.dev.pair.ownLp lp ∧
      t.dev.pair.ownCp = orBits 64 s.dev.pair.ownCp cp ∧ t.dev.pair.role = (if n ≤ 2 then .active else .standby) ∧
      s.dev.eventOf 0x0902 0 (leBytes 1 n ++ leBytes 1 (orBits 8 s.dev.pair.ownLp lp) ++
        leBytes 8 (orBits 64 s.dev.pair.ownCp cp)) ∈ t.dev.log.arising ∧
      (n ≤ 2 → s.dev.eventOf 0x0901 0 (leBytes 1 3 ++ leBytes 1 4) ∈ t.dev.log.arising) ∧
      t.mem = s.mem ∧ t.bar1 = s.bar1) ∧
  (∀ s : State, s.live = true → s.dev.pair.hubFault = true → s.dev.pair.wdExpired = false →
    ∃ t, exec .keepaliveWatchdogExpiry s = .next t ∧ t.dev.pair.wdExpired = true ∧ t.dev.pair.selLp = 0 ∧
      t.dev.pair.aliveOut = false ∧ t.dev.pair.selbusHeld = true ∧ t.dev.pair.ownLp = 0 ∧ t.dev.pair.ownCp = 0 ∧
      s.raisesNone t ∧ t.mem = s.mem ∧ t.bar1 = s.bar1) ∧
  (∀ s : State, s.live = true →
    ∃ t, exec .pairAliveInLow s = .next t ∧ t.dev.pair.aliveIn = false ∧ t.dev.pair.role = s.dev.pair.role ∧
      t.dev.pair.ownLp = s.dev.pair.ownLp ∧ t.dev.pair.ownCp = s.dev.pair.ownCp ∧
      (s.dev.pair.link = 2 → s.dev.pair.rxHead.isSome = true → s.dev.pair.noFrame ≤ 2 → t.dev.pair.aliveFault = true ∧
        (s.dev.pair.aliveFault = false → s.raisesOne t 0x090B 0 []))) ∧
  (∀ s : State, s.live = true → exec .pairAliveInHigh s =
    .next { s with dev := { s.dev with pair := { s.dev.pair with aliveIn := true, aliveFault := false } } }) ∧
  (∀ s : State, s.live = true → s.dev.pair.link ≠ 2 → s.dev.domOn domGalulo = true → 64 ≤ s.dev.pair.linkRun →
    ∃ t, exec .galuloLinkUp s = .next t ∧ t.dev.pair.link = 2 ∧ t.dev.pair.lanes = 0xF ∧
      s.dev.eventOf 0x0905 0 [] ∈ t.dev.log.arising ∧
      t.dev.pair.role = (if s.dev.pair.role = .standby then .joining else s.dev.pair.role) ∧
      t.mem = s.mem ∧ t.bar1 = s.bar1) ∧
  (∀ (s : State) (lanes : Nat), s.live = true → s.dev.pair.link = 2 → lanes = s.dev.pair.laneOk → lanes ≠ 0xF →
    ∃ t, exec (.galuloLinkDown lanes) s = .next t ∧ t.dev.pair.link = (if s.dev.domOn domGalulo then 1 else 0) ∧
      t.dev.pair.lanes = lanes ∧ t.dev.pair.role = s.dev.pair.role ∧ t.dev.pair.ownLp = s.dev.pair.ownLp ∧
      t.dev.pair.ownCp = s.dev.pair.ownCp ∧ s.dev.eventOf 0x0904 0 (leBytes 1 lanes) ∈ t.dev.log.arising ∧
      (s.dev.anchor.inUse = 2 → t.dev.anchor.mode = .holdover) ∧
      (s.dev.anchor.inUse ≠ 2 → t.dev.anchor = s.dev.anchor) ∧ t.mem = s.mem ∧ t.bar1 = s.bar1) ∧
  (∀ s : State, s.live = true → s.dev.pair.link = 2 → 9 ≤ s.dev.pair.noFrame → s.dev.pair.aliveIn = true →
    ∃ t, exec .galuloFrameTimeout s = .next t ∧ t.dev.pair.link = (if s.dev.domOn domGalulo then 1 else 0) ∧
      t.dev.pair.role = s.dev.pair.role ∧ t.dev.pair.ownLp = s.dev.pair.ownLp ∧
      s.dev.eventOf 0x0904 0 (leBytes 1 s.dev.pair.lanes) ∈ t.dev.log.arising ∧ t.mem = s.mem ∧ t.bar1 = s.bar1) ∧
  (∀ (s : State) (slice : Nat) (report : Bool), s.live = true → slice < 4 → bit s.dev.pair.sliceHealth slice = true →
    (report = true ∨ bit s.dev.cald.dieUp slice = false) →
    ∃ t, exec (.sliceFailureDeclared slice report) s = .next t ∧ bit t.dev.pair.sliceHealth slice = false ∧
      (∀ k, k < 4 → k ≠ slice → bit t.dev.pair.sliceHealth k = bit s.dev.pair.sliceHealth k) ∧
      (∀ p k, p < 8 → k < 8 → p / 2 = slice → bit (t.dev.port p).lanesUp k = false) ∧
      t.dev.pair.role = s.dev.pair.role ∧ t.dev.pair.ownLp = s.dev.pair.ownLp ∧ t.mem = s.mem ∧ t.bar1 = s.bar1) ∧
  (∀ (s : State) (a b : Bool), s.live = true → a ≠ b →
    ∃ t, exec (.xstbySample a b) s = .next t ∧ t.dev.pair.xstbyRun = 0 ∧ t.dev.pair.xstbyFault = false ∧
      t.dev.pair.xstby = a ∧
      t.dev.pair.xstbyShort = (if s.dev.pair.xstbyRun ≠ 0 ∧ s.dev.pair.xstbyFault = false
        then min 0xFFFF (s.dev.pair.xstbyShort + 1) else s.dev.pair.xstbyShort) ∧
      (s.dev.pair.xstbyFault = true → s.dev.eventOf 0x0909 0 (leBytes 1 0) ∈ t.dev.log.arising) ∧
      (s.dev.pair.xstby ≠ a → s.dev.eventOf 0x090A 0 [] ∈ t.dev.log.arising) ∧ t.mem = s.mem ∧ t.bar1 = s.bar1) ∧
  (∀ (s : State) (a : Bool), s.live = true →
    ∃ t, exec (.xstbySample a a) s = .next t ∧ t.dev.pair.xstbyRun = s.dev.pair.xstbyRun + 1 ∧
      t.dev.pair.xstby = s.dev.pair.xstby ∧ s.raisesNone t ∧
      (s.dev.pair.xstbyRun = 0 → t.dev.pair.xstbyLimit = s.dev.pair.xstbyN) ∧
      t = { s with dev := { s.dev with pair := t.dev.pair } }) ∧
  (∀ s : State, s.live = true → s.dev.pair.xstbyFault = false → s.dev.pair.xstbyRun ≠ 0 →
    s.dev.pair.xstbyLimit ≤ s.dev.pair.xstbyRun →
    ∃ t, exec .xstbyDiscrepancy s = .next t ∧ t.dev.pair.xstbyFault = true ∧ t.dev.pair.xstby = false ∧
      s.dev.eventOf 0x0909 0 (leBytes 1 1) ∈ t.dev.log.arising ∧ t.dev.pair.role = s.dev.pair.role ∧
      t.dev.pair.ownLp = s.dev.pair.ownLp ∧ t.mem = s.mem ∧ t.bar1 = s.bar1)

/-- R264, R267 to R273: an invalid frame is discarded whole and a standby runs the Beat on its own tokens; a valid one brings
the twin's head, its tokens for the next Beat, and its next mirrored command, and one that echoes the frame which carried the
copy of a loaded image ends SCHED_LOAD OK (the model's choice of log entry 85); records complete before this MF are applied
at Beat 0, a count by the difference of the snapshots; digests that differ end in a divergence at DISC_MF on the standby, and
a resync aligns at its Beat and times out after 256 MF; a mirrored command that is not acknowledged in time applies here
alone; and twin words commit in their order. Completes: galuloFrameReceived, stateCorrectionApply, sinterTwinCommit,
mirrorAckTimeout, digestCompare, resyncAlign, resyncTimeout. Rests on the model's choices of log entries 20, 45, 46, 51, 88,
89. -/
def Obligations.twin_frames_are_taken_whole_or_discarded : Prop :=
  (∀ (s : State) (w : GWire), s.live = true → s.dev.pair.link = 2 → s.dev.domOn domGalulo = true → w.read = none →
    (s.dev.followsTokens = false → exec (.galuloFrameReceived w) s = .next { s with dev := { s.dev with
      pair := { s.dev.pair with goodFrames := 0 }, cnt := s.dev.cnt.tick 0x5326 1 } }) ∧
    (s.dev.pair.role = .standby → ∃ t, exec (.galuloFrameReceived w) s = .next t ∧ t.dev.pair.goodFrames = 0 ∧
      t.dev.pair.rxHead = s.dev.pair.rxHead ∧ t.dev.pair.role = .standby ∧
      (∀ k ∈ t.dev.tokens, k ∈ s.dev.tokens → s.dev.fc < k.stamp) ∧
      ((∃ k ∈ s.dev.tokens, k.stamp ≤ s.dev.fc) → t.dev.pair.tokenOwn = min 0xFFFF_FFFF (s.dev.pair.tokenOwn + 1) ∧
        s.dev.eventOf 0x090E 0 (leBytes 4 1 ++ leBytes 1 0) ∈ t.dev.log.arising) ∧ t.mem = s.mem ∧ t.bar1 = s.bar1)) ∧
  (∀ (s : State) (w : GWire) (f : GFrame), s.live = true → s.dev.pair.link = 2 → s.dev.domOn domGalulo = true →
    w.read = some f → s.dev.pair.handover = none → f.cancels = [] →
    (∀ j, s.dev.sched.load = some j → j.copy = none) →
    ∃ t, exec (.galuloFrameReceived w) s = .next t ∧ t.dev.fc = s.dev.fc ∧ t.dev.pair.rxHead = some f.head ∧
      t.dev.pair.noFrame = 0 ∧ t.dev.pair.goodFrames = s.dev.pair.goodFrames + 1 ∧ t.dev.pair.rxFc = s.dev.fc ∧
      t.dev.pair.twinFc = f.head.fc + 1 ∧
      (f.head.role = 0 → (s.dev.pair.role = .standby ∨ s.dev.pair.role = .joining) →
        t.dev.pair.role = .waiting ∧ t.dev.pair.ownLp = 0 ∧ t.dev.pair.ownCp = 0) ∧
      (s.dev.followsTokens = true → f.head.tokSeq = (s.dev.fc + 1) % 65_536 → t.dev.pair.rxTokens = f.tokens) ∧
      (∀ e, s.dev.followsTokens = true → f.cmds = [e] → (Cmd.ofSlot e.mb e.slot).opcode ≠ 0x0604 →
        e.id % 65_536 = (s.dev.pair.cmdAck + 1) % 65_536 → s.dev.pair.cmdAck < 65_536 → e.id < 65_536 →
        t.dev.pair.cmdAck = e.id ∧
        ∃ w ∈ t.dev.host.waiting, w.cmd = Cmd.ofSlot e.mb e.slot ∧ w.fromTwin = true ∧ w.mirror = some e.id ∧
          w.target = some (s.dev.extendMfn e.target)) ∧ t.mem = s.mem ∧ t.bar1 = s.bar1) ∧
  (∀ (s : State) (w : GWire) (f : GFrame) (j : LoadJob) (out : List Byte) (x : Waiting), s.live = true →
    s.dev.pair.link = 2 → s.dev.domOn domGalulo = true → w.read = some f → s.dev.pair.role = .active → f.head.role = 3 →
    s.dev.pair.handover = none → s.dev.sched.load = some j → j.copy = some out → j.sent = some f.head.echoSeq →
    s.dev.host.waiting.find? (fun x => x.order == j.order) = some x → x.fromTwin = false → x.mirror = none →
    ∃ t, exec (.galuloFrameReceived w) s = .next t ∧ t.dev.sched.load = none ∧
      t.dev.sched.twinShadow = s.dev.sched.shadow.map (fun i => (i.gen, i.imgCrc)) ∧
      t.bar1 = Memory.writeBytes s.bar1 (s.dev.rspSlot x.cmd.mb) (x.response stOk out (if x.job then s.dev.fc else
        match x.target with | some m => 256 * m | none => s.dev.fc)).bytes ∧ t.mem = s.mem) ∧
  (∀ (s : State) (m c k : Nat) (act : Tracker) (sn : Snap), s.live = true → s.dev.beat = 0 → m + 1 < s.dev.mfn → k < 3 →
    s.dev.pair.corrections = [{ snapMfn := m, body := .tracker c k act }] →
    s.dev.pair.snaps.find? (fun x => x.mfn == m) = some sn →
    ∃ t, exec .stateCorrectionApply s = .next t ∧ t.dev.pair.corrections = [] ∧
      (t.dev.chan c).stage k = { (s.dev.chan c).stage k with
        integ := ((s.dev.chan c).stage k).integ + (act.integ - ((Tab.get {} sn.chans c : Channel).stage k).integ),
        acc := ((s.dev.chan c).stage k).acc + (act.acc - ((Tab.get {} sn.chans c : Channel).stage k).acc),
        carry := ((s.dev.chan c).stage k).carry + (act.carry - ((Tab.get {} sn.chans c : Channel).stage k).carry) } ∧
      t.dev.pair.correctionsN = (if (t.dev.chan c).stage k = (s.dev.chan c).stage k then s.dev.pair.correctionsN
        else min 0xFFFF_FFFF (s.dev.pair.correctionsN + 1)) ∧
      (∀ o, o ≠ c → t.dev.chan o = s.dev.chan o) ∧ s.raisesNone t ∧ t.mem = s.mem ∧ t.bar1 = s.bar1) ∧
  (∀ (s : State) (a b : Digests), s.live = true → s.dev.digestsDue = some (a, b) →
    ∃ t, exec .digestCompare s = .next t ∧ t.dev.pair.comparedMfn = some a.mfn ∧
      (∀ k x y, k < 72 → a.of k = some x → b.of k = some y →
        (x = y → (Tab.get {} t.dev.pair.agree k : PortAgree).goodRun =
            (Tab.get {} s.dev.pair.agree k : PortAgree).goodRun + 1 ∧
          (Tab.get {} t.dev.pair.agree k : PortAgree).badRun = 0) ∧
        (x ≠ y → (Tab.get {} t.dev.pair.agree k : PortAgree).goodRun = 0 ∧
          (Tab.get {} t.dev.pair.agree k : PortAgree).badRun =
            (Tab.get {} s.dev.pair.agree k : PortAgree).badRun + 1 ∧
          ((Tab.get {} s.dev.pair.agree k : PortAgree).badRun ≠ 0 → s.dev.pair.role = .standby →
            (Tab.get {} s.dev.pair.agree k : PortAgree).badRun + 1 = (Tab.get {} s.dev.pair.agree k : PortAgree).disc →
            s.dev.eventOf 0x0906 (agreeObj k) (leBytes 4 (agreeObj k)) ∈ t.dev.log.arising ∧
            (Tab.get {} t.dev.pair.agree k : PortAgree).resync ≠ 0))) ∧
      t.dev.pair.role = s.dev.pair.role ∧ t.dev.pair.ownLp = s.dev.pair.ownLp ∧ t.mem = s.mem ∧ t.bar1 = s.bar1) ∧
  (∀ (s : State) (port m : Nat), s.live = true → port < 72 → s.dev.beat = 0 →
    (Tab.get {} s.dev.pair.agree port : PortAgree).alignAt = some m → m ≤ s.dev.mfn →
    ∃ t, exec (.resyncAlign port) s = .next t ∧ (Tab.get {} t.dev.pair.agree port : PortAgree).alignAt = none ∧
      (s.dev.ownsPort port = true → t.dev.chans = s.dev.chans) ∧ s.raisesNone t ∧ t.mem = s.mem ∧ t.bar1 = s.bar1) ∧
  (∀ (s : State) (port : Nat), s.live = true → port < 72 → (Tab.get {} s.dev.pair.agree port : PortAgree).resync = 2 →
    (Tab.get {} s.dev.pair.agree port : PortAgree).resyncStart + 256 ≤ s.dev.mfn →
    ∃ t, exec (.resyncTimeout port) s = .next t ∧
      Tab.get {} t.dev.pair.agree port = { (Tab.get {} s.dev.pair.agree port : PortAgree) with
        resync := 0, alignAt := none, diverged := true } ∧
      s.raisesOne t 0x0908 (agreeObj port) (leBytes 4 (agreeObj port) ++ leBytes 1 1) ∧ t.mem = s.mem ∧ t.bar1 = s.bar1) ∧
  (∀ (s : State) (w : Waiting) (m : Nat), s.live = true → w ∈ s.dev.host.waiting → w.fromTwin = false → w.mirror.isSome = true →
    w.acked = false → w.target = some m → 256 * m ≤ s.dev.fc + 8 →
    ∃ t, exec .mirrorAckTimeout s = .next t ∧ { w with mirror := none } ∈ t.dev.host.waiting ∧
      s.dev.eventOf 0x090C 0 (leBytes 2 w.cmd.opcode ++ leBytes 2 w.cmd.seq) ∈ t.dev.log.arising ∧
      (∀ v ∈ s.dev.host.waiting, v.acked = true → v ∈ t.dev.host.waiting) ∧
      t.dev.host.waiting.length = s.dev.host.waiting.length ∧ t.mem = s.mem ∧ t.bar1 = s.bar1) ∧
  (∀ (s : State) (w v : Nat) (rest : List (Nat × Nat)), s.live = true →
    (s.dev.pair.role = .standby ∨ s.dev.pair.role = .joining) → s.dev.pair.twinWords = (w, v) :: rest →
    (Tab.get {} s.dev.sinter.cells (s.dev.sinter.cellOf w) : Cell).worn = false →
    (Tab.get {} s.dev.sinter.cells (s.dev.sinter.cellOf w) : Cell).failed = false →
    ∃ t, exec .sinterTwinCommit s = .next t ∧ t.dev.pair.twinWords = rest ∧
      (Tab.get {} t.dev.sinter.cells (s.dev.sinter.cellOf w) : Cell).value =
        mergeWord (Tab.get {} s.dev.sinter.cells (s.dev.sinter.cellOf w) : Cell).value 0 v ∧
      (Tab.get {} t.dev.sinter.cells (s.dev.sinter.cellOf w) : Cell).wear =
        min 0xFFFF_FFFF ((Tab.get {} s.dev.sinter.cells (s.dev.sinter.cellOf w) : Cell).wear + 1) ∧
      (∀ k, k ≠ s.dev.sinter.cellOf w → Tab.get {} t.dev.sinter.cells k = (Tab.get {} s.dev.sinter.cells k : Cell)) ∧
      t.mem = s.mem ∧ t.bar1 = s.bar1)

/-- R280, R282, R285, R286: PAIR_SET takes its values at once and changes the role as MODE asks; PAIR_DISCREPANCY_SET takes
its clamped times and sends them to the twin; PAIR_TAKEOVER and PAIR_YIELD end BUSY while another handover runs (the model's
choice), CONSTRAINT in the wrong role, and NO_RESOURCE where no timed command can wait any more, and otherwise ask the twin;
the handover moves the ports at its target, or ends WRITE_FAULT with no effect when no answer has come. Completes:
handoverEffect, handoverNoAnswer, pairSet, pairTakeover, pairYield, pairDiscrepancySet. Rests on the model's choices of log
entries 20, 46, 47. -/
def Obligations.pair_commands_and_handovers_take_effect : Prop :=
  (∀ (s : State) (core : Nat) (c : Cmd), s.handedOver = true → s.dev.offers core 0x0901 c = true →
    (∀ st pl, checkPairSet s.dev c = some (st, pl) → ∃ t, exec (.pairSet core) s = .next t ∧ s.answers t c st pl ∧
      t.dev = { s.dev with host := t.dev.host, log := t.dev.log }) ∧
    (checkPairSet s.dev c = none →
      (2 ≤ c.field 0 1 → ∃ t, exec (.pairSet core) s = .next t ∧ s.answers t c stOk [] ∧
        t.dev.pair = { s.dev.pair with
          index := clamp 0 1 (c.field 1 1), flags := c.field 2 1 % 8, waitMf := clamp 64 16_384 (c.field 4 2) }) ∧
      (c.field 0 1 = 0 → ∃ t, exec (.pairSet core) s = .next t ∧ s.answers t c stOk [] ∧ t.dev.pair.role = .alone ∧
        t.dev.pair.paired = false ∧ (s.dev.pair.role ≠ .alone →
          t.dev.pair.ownLp = 0xFF ∧ t.dev.pair.ownCp = 0xFFFF_FFFF_FFFF_FFFF)) ∧
      (c.field 0 1 = 1 → ∃ t, exec (.pairSet core) s = .next t ∧ s.answers t c stOk [] ∧ t.dev.pair.paired = true ∧
        (s.dev.pair.role ≠ .alone → t.dev.pair.role = s.dev.pair.role) ∧
        (s.dev.pair.role = .alone → s.dev.twinActive = true → t.dev.pair.role = .active ∧ t.dev.pair.ownLp = 0xFF) ∧
        (s.dev.pair.role = .alone → s.dev.twinActive = false → t.dev.pair.role = .waiting ∧ t.dev.pair.ownLp = 0 ∧
          t.dev.pair.ownCp = 0)))) ∧
  (∀ (s : State) (core : Nat) (c : Cmd), s.handedOver = true → s.dev.offers core 0x0906 c = true →
    ∃ t, exec (.pairDiscrepancySet core) s = .next t ∧ s.answers t c stOk [] ∧ s.raisesNone t ∧
      t.dev.pair = { s.dev.pair with
        discMf := clamp 1 64 (c.field 0 1), xstbyN := clamp 4 4_096 (c.field 2 2),
        discTx := some (clamp 1 64 (c.field 0 1), clamp 4 4_096 (c.field 2 2)) }) ∧
  (∀ (s : State) (core : Nat) (c : Cmd) (take : Bool), s.handedOver = true →
    s.dev.offers core (if take then 0x0904 else 0x0905) c = true →
    (∀ st pl, checkPairMove take s.dev c = some (st, pl) →
      ∃ t, exec (if take then .pairTakeover core else .pairYield core) s = .next t ∧ s.answers t c st pl ∧
        t.dev = { s.dev with host := t.dev.host, log := t.dev.log }) ∧
    (s.dev.pair.handover = none →
      (c.timed = true → s.dev.timedRoom (resolveTarget (s.dev.mfn + 2) c.applyAt).1 = true) →
      (moveAll c = true → (if take then s.dev.pair.role = .standby else s.dev.pair.role = .active)) →
      ∃ t, exec (if take then .pairTakeover core else .pairYield core) s = .next t ∧
        (∃ h, t.dev.pair.handover = some h ∧ h.issuer = true ∧ h.take = take ∧ h.all = moveAll c ∧ h.force = bit (c.field 1 1) 0 ∧ h.answer = 0 ∧
        h.target = (if c.timed then (resolveTarget (s.dev.mfn + 2) c.applyAt).1 else s.dev.mfn + 2) ∧
        (moveAll c = true → h.lp = 0xFF ∧ h.cp = 0xFFFF_FFFF_FFFF_FFFF) ∧
        (moveAll c = false → h.lp = c.field 2 1 ∧ h.cp = s.dev.lanesOfMask (c.field 4 8))) ∧
        t.dev.host.queue = s.dev.host.queue.erase c ∧ t.dev.pair.role = s.dev.pair.role ∧
        t.dev.pair.ownLp = s.dev.pair.ownLp ∧ t.dev.pair.ownCp = s.dev.pair.ownCp ∧ t.mem = s.mem ∧ t.bar1 = s.bar1) ∧
    (checkPairMove take s.dev c = none → c.timed = true →
      s.dev.timedRoom (resolveTarget (s.dev.mfn + 2) c.applyAt).1 = false →
      ∃ t, exec (if take then .pairTakeover core else .pairYield core) s = .next t ∧ s.answers t c stNoResource [] ∧
        t.dev = { s.dev with host := t.dev.host, log := t.dev.log })) ∧
  (∀ (s : State) (h : Handover), s.live = true → s.dev.pair.handover = some h → s.dev.xferDue = true →
    ∃ t, exec .handoverEffect s = .next t ∧ t.dev.pair.handover = none ∧
      t.dev.pair.ownLp = (if h.take then orBits 8 s.dev.pair.ownLp (if h.all then 0xFF else h.lp)
        else without 8 s.dev.pair.ownLp (if h.all then 0xFF else h.lp)) ∧
      t.dev.pair.ownCp = (if h.take then orBits 64 s.dev.pair.ownCp (if h.all then 0xFFFF_FFFF_FFFF_FFFF else h.cp)
        else without 64 s.dev.pair.ownCp (if h.all then 0xFFFF_FFFF_FFFF_FFFF else h.cp)) ∧
      t.dev.pair.role = s.dev.pair.role ∧
      (h.all = true → t.dev.pair.roleNext = some (if h.take then .active else .standby)) ∧
      s.dev.eventOf 0x0903 0 (leBytes 1 (if h.all then 0 else 1) ++ leBytes 1 (if h.all then 0xFF else h.lp) ++
        leBytes 8 (if h.all then 0xFFFF_FFFF_FFFF_FFFF else h.cp)) ∈ t.dev.log.arising ∧ t.mem = s.mem) ∧
  (∀ (s : State) (h : Handover) (w : Waiting), s.live = true → s.dev.pair.handover = some h → h.issuer = true → h.answer = 0 →
    256 * h.target ≤ s.dev.fc + 4 → ¬(h.take = true ∧ h.force = true ∧ s.dev.pair.link ≠ 2) →
    h.byDormant = false → h.byXstby = false → s.dev.xferJob = some w → w.fromTwin = false →
    ∃ t, exec .handoverNoAnswer s = .next t ∧ t.dev.pair = { s.dev.pair with handover := none } ∧
      t.bar1 = Memory.writeBytes s.bar1 (s.dev.rspSlot w.cmd.mb) (w.response stWriteFault [] s.dev.fc).bytes ∧
      (∀ v ∈ t.dev.host.waiting, v.order ≠ w.order) ∧ s.raisesNone t ∧ t.mem = s.mem)

/-- R291, R295, R296: of the frames that have come complete from the line, a good one of a bound source joins the end of the
port's queue at its priority, a bad one is counted and discarded with event 0x0A01, and what an unbound source carries is
dropped without counting; at an item boundary the eligible item of highest priority, the earliest within it, moves to the
bank being filled, MODE and DIVIDER come into force where FPp_TXD stands between items too, and a port in MODE OFF discards
and counts what it queues but for the item on FPp_TXD; the banks exchange when one is empty; an underrun aborts the item with
event 0x0A02. No other port changes. Completes: gccLineFrameReceived, fumItemBoundary, fumBankExchange, fumUnderrun. Rests on
the model's choices of log entries 20, 54, 89. -/
def Obligations.export_queue_moves_by_priority : Prop :=
  (∀ (s : State) (src : Nat) (bytes : List Byte) (aborted : Bool) (b : Binding), s.live = true →
    s.dev.objExists (objSource src) = true → (s.dev.source src).bind = some b → s.dev.fumRuns b.port = true →
    (s.dev.fum b.port).attr.mode = 1 → (s.dev.source src).dropRest = false → (s.dev.source src).unbinding = false →
    (s.dev.source src).rx.done.head? = some (bytes, aborted) → (∀ i ∈ (s.dev.fum b.port).arriving, i.src ≠ src) →
    (∀ i ∈ (s.dev.fum b.port).staged ++ (s.dev.fum b.port).fillBank ++ (s.dev.fum b.port).readBank, i.src = src → i.whole = true) →
    (goodLineFrame b.fcs bytes aborted = true → (s.dev.fum b.port).expFill + (bytes.length - fcsLen b.fcs) ≤ 131_072 →
      ∃ t, exec (.gccLineFrameReceived src bytes aborted) s = .next t ∧
        t.dev.fum b.port = { s.dev.fum b.port with
          staged := (s.dev.fum b.port).staged ++ [{
            src := src, prio := b.prio, order := (s.dev.fum b.port).nextOrder,
            bytes := bytes.take (bytes.length - fcsLen b.fcs), whole := true }],
          nextOrder := (s.dev.fum b.port).nextOrder + 1,
          expFill := (s.dev.fum b.port).expFill + (bytes.length - fcsLen b.fcs) } ∧
        (t.dev.source src).framesOut = ((s.dev.source src).framesOut + 1) % 2 ^ 32 ∧
        (t.dev.source src).badFcs = (s.dev.source src).badFcs ∧
        (∀ q, q ≠ b.port → t.dev.fum q = s.dev.fum q) ∧ (∀ q, q ≠ src → t.dev.source q = s.dev.source q) ∧
        t.mem = s.mem ∧ t.bar1 = s.bar1) ∧
    (goodLineFrame b.fcs bytes aborted = false →
      ∃ t, exec (.gccLineFrameReceived src bytes aborted) s = .next t ∧
        t.dev.fum b.port = { s.dev.fum b.port with discards := min 0xFFFF_FFFF ((s.dev.fum b.port).discards + 1) } ∧
        (t.dev.source src).badFcs = min 0xFFFF_FFFF ((s.dev.source src).badFcs + 1) ∧
        (t.dev.source src).framesOut = (s.dev.source src).framesOut ∧
        s.raisesOne t 0x0A01 (objFum b.port) (leBytes 1 b.port ++ leBytes 2 src ++ leBytes 1 2) ∧
        (∀ q, q ≠ b.port → t.dev.fum q = s.dev.fum q) ∧ t.mem = s.mem ∧ t.bar1 = s.bar1)) ∧
  (∀ (s : State) (src : Nat) (bytes : List Byte) (aborted : Bool), s.live = true →
    s.dev.objExists (objSource src) = true → (s.dev.source src).bind = none →
    (∀ l, s.dev.gccArrive src l = s.dev) ∧
    ((s.dev.source src).rx.done.head? = some (bytes, aborted) →
      ∃ t, exec (.gccLineFrameReceived src bytes aborted) s = .next t ∧ t.dev.fumPorts = s.dev.fumPorts ∧
        t.dev.source src = { s.dev.source src with
          rx := { (s.dev.source src).rx with done := (s.dev.source src).rx.done.drop 1 } } ∧
        (∀ q, q ≠ src → t.dev.source q = s.dev.source q) ∧ s.raisesNone t ∧ t.mem = s.mem ∧ t.bar1 = s.bar1)) ∧
  (∀ (s : State) (p : Nat), s.live = true → p < 8 → s.dev.domOn (domFum p) = true → (s.dev.fum p).attr.mode = 0 →
    ∃ t, exec (.fumItemBoundary p) s = .next t ∧ (t.dev.fum p).staged = [] ∧ (t.dev.fum p).arriving = [] ∧
      (t.dev.fum p).fillBank = [] ∧
      (t.dev.fum p).readBank = (if (s.dev.fum p).sent = 0 then [] else (s.dev.fum p).readBank.take 1) ∧
      ((s.dev.fum p).sent = 0 → (s.dev.fum p).tail = [] → (t.dev.fum p).txMode = 0) ∧
      (let gone := ((if (s.dev.fum p).sent = 0 then (s.dev.fum p).readBank else (s.dev.fum p).readBank.drop 1) ++
          (s.dev.fum p).fillBank ++ (s.dev.fum p).staged).filter (·.whole)
       (t.dev.fum p).discards = if gone = [] then (s.dev.fum p).discards
         else min 0xFFFF_FFFF ((s.dev.fum p).discards + gone.length)) ∧
      (∀ q, q ≠ p → t.dev.fum q = s.dev.fum q) ∧ t.dev.fumSources = s.dev.fumSources ∧ t.mem = s.mem ∧ t.bar1 = s.bar1) ∧
  (∀ (s : State) (p : Nat), s.live = true → p < 8 → s.dev.domOn (domFum p) = true → (s.dev.fum p).attr.mode ≠ 0 →
    ∃ t, exec (.fumItemBoundary p) s = .next t ∧
      (if (s.dev.fum p).sent = 0 ∧ (s.dev.fum p).tail = [] then
        (t.dev.fum p).txMode = (s.dev.fum p).attr.mode ∧ (t.dev.fum p).txDivider = (s.dev.fum p).attr.divider
      else (t.dev.fum p).txMode = (s.dev.fum p).txMode ∧ (t.dev.fum p).txDivider = (s.dev.fum p).txDivider) ∧
      ((s.dev.fum p).staged ≠ [] → sum ((s.dev.fum p).fillBank.map fun j => j.bytes.length) < 16_384 →
        ∃ i ∈ (s.dev.fum p).staged,
          (∀ j ∈ (s.dev.fum p).staged, i.prio < j.prio ∨ (i.prio = j.prio ∧ i.order ≤ j.order)) ∧
          (t.dev.fum p).staged = (s.dev.fum p).staged.erase i ∧
          (t.dev.fum p).fillBank = (s.dev.fum p).fillBank ++ [i]) ∧
      (t.dev.fum p).readBank = (s.dev.fum p).readBank ∧ (∀ q, q ≠ p → t.dev.fum q = s.dev.fum q) ∧
      t = { s with dev := { s.dev with fumPorts := t.dev.fumPorts } }) ∧
  (∀ (s : State) (p : Nat), s.live = true → p < 8 → s.dev.fumRuns p = true → (s.dev.fum p).readBank = [] →
    (s.dev.fum p).fillBank ≠ [] →
    ∃ t, exec (.fumBankExchange p) s = .next t ∧
      t.dev.fum p = { s.dev.fum p with readBank := (s.dev.fum p).fillBank, fillBank := [], sent := 0 } ∧
      (∀ q, q ≠ p → t.dev.fum q = s.dev.fum q) ∧ t = { s with dev := { s.dev with fumPorts := t.dev.fumPorts } }) ∧
  (∀ (s : State) (p : Nat) (i : Item) (rest : List Item), s.live = true → p < 8 → (s.dev.fum p).readBank = i :: rest →
    i.whole = false → (i.portForm (s.dev.fum p).txMode).length ≤ (s.dev.fum p).sent →
    ∃ t, exec (.fumUnderrun p) s = .next t ∧
      t.dev.fum p = { s.dev.fum p with
        readBank := rest, sent := 0, tail := [0x7D, 0x7E], expFill := (s.dev.fum p).expFill - i.bytes.length,
        aborts := min 0xFFFF_FFFF ((s.dev.fum p).aborts + 1) } ∧
      t.dev.source i.src = { s.dev.source i.src with dropRest := true } ∧
      s.raisesOne t 0x0A02 (objFum p) (leBytes 1 p ++ leBytes 2 i.src ++ leBytes 1 2) ∧
      (∀ q, q ≠ p → t.dev.fum q = s.dev.fum q) ∧ t.mem = s.mem ∧ t.bar1 = s.bar1)

/-- R292, R293, R300, R301, R306 to R309: of the frames that have come complete on FPp_RXD, a good one of a bound source that
fits joins the import queue, one that is not good or does not fit is discarded with event 0x0A01; raw bytes join it in
transparent mode or are counted as discarded; the inserter takes frames in order; FUM_PORT_SET sets the clamped attributes of
its port, FUM_BIND binds with event 0x0A05 and fresh contexts, FUM_UNBIND takes every item of its source that was not emitted
out of both queues and ends the binding, at once or when the emitted item ends. Completes: untimedCommandEffect,
fumUnbindComplete, fumPortFrameReceived, fumImportFrameSent, fumTransparentByteReceived. Rests on the model's choices of log
entries 20, 53, 54. -/
def Obligations.import_queue_and_bindings_change : Prop :=
  (∀ (s : State) (p : Nat) (bytes : List Byte) (aborted : Bool), s.live = true → p < 8 → s.dev.fumRuns p = true →
    (s.dev.fum p).attr.mode = 1 → (s.dev.fum p).rx.done.head? = some (bytes, aborted) →
    (goodPortFrame bytes aborted = true → beNat (bytes.take 2) ∈ s.dev.boundTo p →
      (s.dev.fum p).impFill + ((bytes.take (bytes.length - 4)).drop 2).length ≤ 131_072 →
      ∃ t, exec (.fumPortFrameReceived p bytes aborted) s = .next t ∧
        t.dev.fum p = { s.dev.fum p with
          rx := { (s.dev.fum p).rx with done := (s.dev.fum p).rx.done.drop 1 },
          imports := (s.dev.fum p).imports ++ [{
            src := beNat (bytes.take 2), prio := 0, order := (s.dev.fum p).nextOrder,
            bytes := (bytes.take (bytes.length - 4)).drop 2, whole := true }],
          nextOrder := (s.dev.fum p).nextOrder + 1,
          impFill := (s.dev.fum p).impFill + ((bytes.take (bytes.length - 4)).drop 2).length } ∧
        (∀ q, q ≠ p → t.dev.fum q = s.dev.fum q) ∧ t = { s with dev := { s.dev with fumPorts := t.dev.fumPorts } }) ∧
    ((goodPortFrame bytes aborted = false ∨ beNat (bytes.take 2) ∉ s.dev.boundTo p) →
      ∃ t, exec (.fumPortFrameReceived p bytes aborted) s = .next t ∧
        t.dev.fum p = { s.dev.fum p with
          rx := { (s.dev.fum p).rx with done := (s.dev.fum p).rx.done.drop 1 },
          discards := min 0xFFFF_FFFF ((s.dev.fum p).discards + 1) } ∧
        s.raisesOne t 0x0A01 (objFum p) (leBytes 1 p ++ leBytes 2 (beNat (bytes.take 2)) ++ leBytes 1 3) ∧
        (∀ q, q ≠ p → t.dev.fum q = s.dev.fum q) ∧ t.mem = s.mem ∧ t.bar1 = s.bar1) ∧
    (goodPortFrame bytes aborted = true → beNat (bytes.take 2) ∈ s.dev.boundTo p →
      131_072 < (s.dev.fum p).impFill + ((bytes.take (bytes.length - 4)).drop 2).length →
      ∃ t, exec (.fumPortFrameReceived p bytes aborted) s = .next t ∧
        t.dev.fum p = { s.dev.fum p with
          rx := { (s.dev.fum p).rx with done := (s.dev.fum p).rx.done.drop 1 },
          discards := min 0xFFFF_FFFF ((s.dev.fum p).discards + 1) } ∧
        s.raisesOne t 0x0A01 (objFum p) (leBytes 1 p ++ leBytes 2 (beNat (bytes.take 2)) ++ leBytes 1 4) ∧
        t.mem = s.mem ∧ t.bar1 = s.bar1)) ∧
  (∀ (s : State) (p src : Nat) (rest : List Nat) (byte : Byte), s.live = true → p < 8 → s.dev.fumRuns p = true →
    (s.dev.fum p).attr.mode = 2 → s.dev.boundTo p = src :: rest →
    ∃ t, exec (.fumTransparentByteReceived p byte) s = .next t ∧
      t.dev.fum p = (if 131_072 ≤ (s.dev.fum p).impFill
        then { s.dev.fum p with discards := min 0xFFFF_FFFF ((s.dev.fum p).discards + 1) }
        else { s.dev.fum p with
          imports := (s.dev.fum p).imports ++ [{
            src := src, prio := 0, order := (s.dev.fum p).nextOrder, bytes := [byte], whole := true }],
          nextOrder := (s.dev.fum p).nextOrder + 1, impFill := (s.dev.fum p).impFill + 1 }) ∧
      (∀ q, q ≠ p → t.dev.fum q = s.dev.fum q) ∧ s.raisesNone t ∧ t.mem = s.mem ∧ t.bar1 = s.bar1) ∧
  (∀ (s : State) (src : Nat) (b : Binding) (i : Item), s.live = true → (s.dev.source src).bind = some b →
    (s.dev.fum b.port).attr.mode = 1 → (s.dev.fum b.port).imports.find? (fun i => i.src == src) = some i →
    (lineForm b.fcs i).length ≤ (s.dev.source src).lineSent →
    ∃ t, exec (.fumImportFrameSent src) s = .next t ∧
      t.dev.fum b.port = { s.dev.fum b.port with
        imports := (s.dev.fum b.port).imports.erase i, impFill := (s.dev.fum b.port).impFill - i.bytes.length } ∧
      t.dev.source src = { s.dev.source src with
        framesIn := ((s.dev.source src).framesIn + 1) % 2 ^ 32, lineSent := 0 } ∧
      s.raisesNone t ∧ t.mem = s.mem ∧ t.bar1 = s.bar1) ∧
  (∀ (s : State) (src : Nat) (b : Binding), s.live = true → (s.dev.source src).unbinding = true →
    (s.dev.source src).bind = some b → (∀ i ∈ (s.dev.fum b.port).imports, i.src ≠ src) →
    (∀ i ∈ (s.dev.fum b.port).readBank, i.src ≠ src) →
    ∃ t, exec (.fumUnbindComplete src) s = .next t ∧ (t.dev.source src).bind = none ∧
      (t.dev.source src).unbinding = false ∧
      s.raisesOne t 0x0A05 (objSource src) (leBytes 2 src ++ leBytes 1 b.port ++ leBytes 1 0) ∧
      t.dev.fumPorts = s.dev.fumPorts ∧ t.mem = s.mem ∧ t.bar1 = s.bar1) ∧
  (∀ (s : State) (w : Waiting), s.effectDue 0x0A01 w = true →
    (checkFumPortSet s.dev w.cmd = none → ∃ t, exec .untimedCommandEffect s = .next t ∧
      t.dev.fum w.cmd.index = { s.dev.fum w.cmd.index with
        attr := {
          mode := if w.cmd.field 0 1 ≤ 2 then w.cmd.field 0 1 else 0
          divider := clamp 5 1_250 (w.cmd.field 2 2)
          cutThrough := clamp 64 4_096 (w.cmd.field 4 2)
          fillLevel := clamp 0 131_072 (w.cmd.field 8 4) }
        rx := (t.dev.fum w.cmd.index).rx } ∧
      (∀ q, q ≠ w.cmd.index → t.dev.fum q = s.dev.fum q) ∧
      ((t.dev.fum w.cmd.index).attr.mode = (s.dev.fum w.cmd.index).attr.mode →
        t.dev.fumSources = s.dev.fumSources ∧ (t.dev.fum w.cmd.index).rx = (s.dev.fum w.cmd.index).rx) ∧
      ((t.dev.fum w.cmd.index).attr.mode ≠ (s.dev.fum w.cmd.index).attr.mode → (t.dev.fum w.cmd.index).rx = {} ∧
        ∀ q, t.dev.source q = (if q ∈ s.dev.boundTo w.cmd.index ∧ (s.dev.source q).bind.isSome = true
          then { s.dev.source q with rx := {} } else s.dev.source q))) ∧
    (checkFumPortSet s.dev w.cmd ≠ none → ∃ t, exec .untimedCommandEffect s = .next t ∧
      t.dev.fumPorts = s.dev.fumPorts ∧ t.dev.fumSources = s.dev.fumSources)) ∧
  (∀ (s : State) (w : Waiting), s.effectDue 0x0A02 w = true →
    (checkFumBind s.dev w.cmd = none → ∃ t, exec .untimedCommandEffect s = .next t ∧
      (t.dev.source w.cmd.index).bind = some {
        port := w.cmd.field 0 1, prio := clamp 0 3 (w.cmd.field 1 1),
        fcs := if w.cmd.field 2 1 ≤ 1 then w.cmd.field 2 1 else 1 } ∧
      s.dev.eventOf 0x0A05 w.cmd.object (leBytes 2 w.cmd.index ++ leBytes 1 (w.cmd.field 0 1) ++ leBytes 1 1)
        ∈ t.dev.log.arising ∧
      ((s.dev.fum (w.cmd.field 0 1)).attr.mode = 1 → t.dev.crc32c.context w.cmd.index = (0xFFFF_FFFF, true, true)) ∧
      (∀ q, q ≠ w.cmd.index → t.dev.source q = s.dev.source q) ∧ t.dev.fumPorts = s.dev.fumPorts) ∧
    (checkFumBind s.dev w.cmd ≠ none → ∃ t, exec .untimedCommandEffect s = .next t ∧
      t.dev.fumPorts = s.dev.fumPorts ∧ t.dev.fumSources = s.dev.fumSources)) ∧
  (∀ (s : State) (w : Waiting), s.effectDue 0x0A03 w = true →
    ((s.dev.source w.cmd.index).bind = none → ∃ t, exec .untimedCommandEffect s = .next t ∧
      t.dev.fumPorts = s.dev.fumPorts ∧ t.dev.fumSources = s.dev.fumSources) ∧
    (∀ b, (s.dev.source w.cmd.index).bind = some b → (s.dev.source w.cmd.index).lineSent = 0 →
      (∀ i ∈ (s.dev.fum b.port).readBank.take (s.dev.fum b.port).emitted, i.src ≠ w.cmd.index) →
      ∃ t, exec .untimedCommandEffect s = .next t ∧ (t.dev.source w.cmd.index).bind = none ∧
        (t.dev.fum b.port).staged = (s.dev.fum b.port).staged.filter (fun i => i.src != w.cmd.index) ∧
        (t.dev.fum b.port).fillBank = (s.dev.fum b.port).fillBank.filter (fun i => i.src != w.cmd.index) ∧
        (t.dev.fum b.port).readBank = (s.dev.fum b.port).readBank.filter (fun i => i.src != w.cmd.index) ∧
        (t.dev.fum b.port).imports = (s.dev.fum b.port).imports.filter (fun i => i.src != w.cmd.index) ∧
        (∀ q, q ≠ b.port → t.dev.fum q = s.dev.fum q)))

/-- R303 to R306: a write of CTX_SEL selects a context, 520 to 1,023 selecting 519, and loses none; data writes feed their
bytes least significant first, CFG and VALUE replace theirs; with the context of a source that is bound in HDLC mode selected
each of these is refused, sets DENIED and raises event 0x0A06. The other units stay as they are. The check values of the
units are those given. Completes: crcCtxSelWrite, crcCfgWrite, crcDataBWrite, crcDataHWrite, crcDataWWrite, crcValueWrite.
Rests on the model's choices of log entries 20, 53. -/
def Obligations.check_value_units_follow_their_port : Prop :=
  (∀ (s : State) (unit value : Nat), s.live = true → unit < 3 →
    ∃ t, exec (.crcCtxSelWrite unit value) s = .next t ∧ (t.dev.crc unit).ctxSel = min (value % 1_024) 519 ∧
      (∀ k, (t.dev.crc unit).context k = (s.dev.crc unit).context k) ∧
      (∀ v, v < 3 → v ≠ unit → t.dev.crc v = s.dev.crc v) ∧ s.raisesNone t ∧
      t.mem = s.mem ∧ t.bar1 = s.bar1) ∧
  (∀ (s : State) (unit value : Nat), s.live = true → unit < 3 → s.dev.crcHeld unit = false →
    (∃ t, exec (.crcCfgWrite unit value) s = .next t ∧
      t.dev.crc unit = { s.dev.crc unit with reflect := bit value 0, xorOut := bit value 1 } ∧
      (∀ v, v < 3 → v ≠ unit → t.dev.crc v = s.dev.crc v) ∧ s.raisesNone t ∧ t.mem = s.mem ∧ t.bar1 = s.bar1) ∧
    (∃ t, exec (.crcDataBWrite unit value) s = .next t ∧
      t.dev.crc unit = { s.dev.crc unit with
        value := (leBytes 1 value).foldl (crcByte unit (s.dev.crc unit).reflect) (s.dev.crc unit).value } ∧
      (∀ v, v < 3 → v ≠ unit → t.dev.crc v = s.dev.crc v) ∧ s.raisesNone t ∧ t.mem = s.mem ∧ t.bar1 = s.bar1) ∧
    (∃ t, exec (.crcDataHWrite unit value) s = .next t ∧
      t.dev.crc unit = { s.dev.crc unit with
        value := (leBytes 2 value).foldl (crcByte unit (s.dev.crc unit).reflect) (s.dev.crc unit).value } ∧
      (∀ v, v < 3 → v ≠ unit → t.dev.crc v = s.dev.crc v) ∧ s.raisesNone t ∧ t.mem = s.mem ∧ t.bar1 = s.bar1) ∧
    (∃ t, exec (.crcDataWWrite unit value) s = .next t ∧
      t.dev.crc unit = { s.dev.crc unit with
        value := (leBytes 4 value).foldl (crcByte unit (s.dev.crc unit).reflect) (s.dev.crc unit).value } ∧
      (∀ v, v < 3 → v ≠ unit → t.dev.crc v = s.dev.crc v) ∧ s.raisesNone t ∧ t.mem = s.mem ∧ t.bar1 = s.bar1) ∧
    (∃ t, exec (.crcValueWrite unit value) s = .next t ∧
      t.dev.crc unit = { s.dev.crc unit with value := value % 2 ^ 32 } ∧
      (∀ v, v < 3 → v ≠ unit → t.dev.crc v = s.dev.crc v) ∧ s.raisesNone t ∧ t.mem = s.mem ∧ t.bar1 = s.bar1)) ∧
  (∀ (s : State) (unit value : Nat), s.live = true → unit < 3 → s.dev.crcHeld unit = true →
    ∀ i ∈ [Instr.crcCfgWrite unit value, .crcDataBWrite unit value, .crcDataHWrite unit value, .crcDataWWrite unit value,
        .crcValueWrite unit value],
      ∃ t, exec i s = .next t ∧ t.dev.crc unit = { s.dev.crc unit with denied := true } ∧
        s.raisesOne t 0x0A06 0 (leBytes 1 unit ++ leBytes 2 (s.dev.crc unit).ctxSel) ∧
        (∀ v, v < 3 → v ≠ unit → t.dev.crc v = s.dev.crc v) ∧ t.mem = s.mem ∧ t.bar1 = s.bar1) ∧
  (let text : List Byte := [0x31, 0x32, 0x33, 0x34, 0x35, 0x36, 0x37, 0x38, 0x39]
   ((({ value := 0xFFFF } : CrcUnit).feed 0 text).result 0 = 0x906E) ∧
   ((({ value := 0xFFFF, reflect := false, xorOut := false } : CrcUnit).feed 0 text).result 0 = 0x29B1) ∧
   ((({} : CrcUnit).feed 1 text).result 1 = 0xCBF4_3926) ∧ ((({} : CrcUnit).feed 2 text).result 2 = 0xE306_9283))

/-- R316, R318, R319, R326, R329: a doorbell announces up to CMD_PROD, and the sequencer copies what the credits cover into
its queue in ring order, the rest waiting with event 0x1003; RSP_CONS never passes RSP_PROD; FC_LO latches FC_HI, LWF_LOST
clears when read, and LWF_POP discards one record; registers take 32-bit writes only, by their access codes, and CMD_PROD
alone announces nothing; a window access reaches hub SRAM or is a decode error that reads zeros and writes nothing.
Completes: doorbell, rspConsWrite, announcedCommandAcknowledged, fcLoRead, lwfLostRead, lwfPop, registerWrite,
hostWindowAccess. Rests on the model's choices of log entries 20, 55, 57. -/
def Obligations.host_registers_rings_and_windows : Prop :=
  (∀ (s : State) (mb n excess : Nat), s.live = true → mb < 8 → s.dev.host.linkUp = true →
    n = min (((s.dev.mb mb).cmdProd + 2 ^ 16 - (s.dev.mb mb).cmdAck) % 2 ^ 16) (s.dev.mb mb).room →
    excess = ((s.dev.mb mb).cmdProd + 2 ^ 16 - (s.dev.mb mb).cmdAck) % 2 ^ 16 - n →
    ∃ t, exec (.doorbell mb) s = .next t ∧
      t.dev.host.queue = s.dev.host.queue ++ (List.range n).map (fun i =>
        Cmd.ofSlot mb (s.bar1.readBytes (0x8000 * mb + 0x100 * (((s.dev.mb mb).cmdAck + i) % 64)) 256)) ∧
      (t.dev.mb mb).cmdAck = (if n = 0 then (s.dev.mb mb).cmdAck else ((s.dev.mb mb).cmdAck + n) % 2 ^ 16) ∧
      (t.dev.mb mb).announced = (s.dev.mb mb).cmdProd ∧ (∀ k, k ≠ mb → t.dev.mb k = s.dev.mb k) ∧
      (excess = 0 → s.raisesNone t) ∧
      (excess ≠ 0 → s.raisesOne t 0x1003 (objMailbox mb) (leBytes 1 mb ++ leBytes 4 excess)) ∧
      t.mem = s.mem ∧ t.bar1 = s.bar1) ∧
  (∀ (s : State) (mb : Nat), s.live = true → mb < 8 → (s.dev.mb mb).unacked ≠ 0 → (s.dev.mb mb).room ≠ 0 →
    ∃ t, exec (.announcedCommandAcknowledged mb) s = .next t ∧
      t.dev.host.queue = s.dev.host.queue ++
        [Cmd.ofSlot mb (s.bar1.readBytes (0x8000 * mb + 0x100 * ((s.dev.mb mb).cmdAck % 64)) 256)] ∧
      t.dev.mb mb = { s.dev.mb mb with cmdAck := ((s.dev.mb mb).cmdAck + 1) % 2 ^ 16 } ∧
      (∀ k, k ≠ mb → t.dev.mb k = s.dev.mb k) ∧ s.raisesNone t ∧ t.mem = s.mem ∧ t.bar1 = s.bar1) ∧
  (∀ (s : State) (mb value : Nat), s.live = true → mb < 8 → s.dev.host.linkUp = true →
    (s.dev.mb mb).rspProd < 2 ^ 16 → (s.dev.mb mb).rspCons < 2 ^ 16 →
    ∃ t, exec (.rspConsWrite mb value) s = .next t ∧
      (t.dev.mb mb).rspCons =
        (if (value % 2 ^ 16 + 2 ^ 16 - (s.dev.mb mb).rspCons) % 2 ^ 16 ≤
            ((s.dev.mb mb).rspProd + 2 ^ 16 - (s.dev.mb mb).rspCons) % 2 ^ 16
          then value % 2 ^ 16 else (s.dev.mb mb).rspProd) ∧
      (t.dev.mb mb).rspProd = (s.dev.mb mb).rspProd ∧ (t.dev.mb mb).cmdProd = (s.dev.mb mb).cmdProd ∧
      (∀ k, k ≠ mb → t.dev.mb k = s.dev.mb k) ∧ t.dev.host.queue = s.dev.host.queue ∧ s.raisesNone t ∧
      t.mem = s.mem ∧ t.bar1 = s.bar1) ∧
  (∀ s : State, s.live = true → s.dev.host.linkUp = true →
    exec .fcLoRead s = .next { s with dev := { s.dev with host := { s.dev.host with
      fcHi := s.dev.fc / 2 ^ 32 % 2 ^ 32, readData := leBytes 4 (s.dev.fc % 2 ^ 32) } } } ∧
    exec .lwfLostRead s = .next { s with dev := { s.dev with host := { s.dev.host with
      lwfLost := 0, readData := leBytes 4 (s.dev.host.lwf.length + 2 ^ 16 * s.dev.host.lwfLost) } } } ∧
    (∀ value, exec (.lwfPop value) s = .next { s with dev := { s.dev with host := { s.dev.host with
      lwf := if bit value 0 then s.dev.host.lwf.drop 1 else s.dev.host.lwf } } })) ∧
  (∀ (s : State) (off width value : Nat), s.live = true → s.dev.host.linkUp = true → off < 0x8000 →
    ((width ≠ 4 ∨ off % 4 ≠ 0) → exec (.registerWrite (.bar0 off width value)) s =
      .next { s with dev := { s.dev with cnt := s.dev.cnt.tick 0x4187 1 } }) ∧
    (width = 4 → off = 0x0020 → exec (.registerWrite (.bar0 off width value)) s =
      .next { s with dev := { s.dev with host := { s.dev.host with
        alarmFatal := s.dev.host.alarmFatal && !bit value 0, alarmPair := s.dev.host.alarmPair && !bit value 1 } } }) ∧
    (width = 4 → off = 0x0300 → exec (.registerWrite (.bar0 off width value)) s =
      .next { s with dev := { s.dev with host := { s.dev.host with sinterWe := value % 2 ^ 16 } } }) ∧
    (∀ n, width = 4 → n < 8 → off = 0x0100 + 0x20 * n →
      ∃ t, exec (.registerWrite (.bar0 off width value)) s = .next t ∧
        t.dev.mb n = { s.dev.mb n with cmdProd := value % 2 ^ 16 } ∧ (∀ k, k ≠ n → t.dev.mb k = s.dev.mb k) ∧
        t.dev.host.queue = s.dev.host.queue ∧ s.raisesNone t ∧ t.mem = s.mem ∧ t.bar1 = s.bar1) ∧
    (∀ n, width = 4 → n < 8 → off = 0x0114 + 0x20 * n →
      ∃ t, exec (.registerWrite (.bar0 off width value)) s = .next t ∧
        t.dev.mb n = { s.dev.mb n with irqEn := bit value 0 } ∧ (∀ k, k ≠ n → t.dev.mb k = s.dev.mb k)) ∧
    (width = 4 → off < 0x20 → off % 4 = 0 → exec (.registerWrite (.bar0 off width value)) s = .next s)) ∧
  (∀ (s : State) (off : Nat) (bytes : List Byte), s.live = true → s.dev.host.linkUp = true →
    off + bytes.length ≤ 0x4_0000 →
    exec (.registerWrite (.bar1 off bytes)) s = .next { s with bar1 := s.bar1.writeBytes off bytes }) ∧
  (∀ (s : State) (off n : Nat), s.live = true → s.dev.host.linkUp = true → 0 < n → off % 256 + n ≤ 256 → off + n ≤ 2 ^ 32 →
    (s.dev.windowTarget off false = none → ∃ t, exec (.hostWindowAccess off (.read n)) s = .next t ∧
      t.dev.host.readData = zeros n ∧ t.dev.host.decodeErrors = min 0xFFFF_FFFF (s.dev.host.decodeErrors + 1) ∧
      s.dev.eventOf 0x1001 0 (leBytes 1 7 ++ leBytes 5 (s.dev.windowAddress off false).1) ∈ t.dev.log.arising ∧
      t.mem = s.mem ∧ t.bar1 = s.bar1) ∧
    (∀ a, s.dev.windowTarget off false = some (.sram a) → ∃ t, exec (.hostWindowAccess off (.read n)) s = .next t ∧
      t.dev.host.readData = (List.range n).map (fun i => s.sramByte (a + i)) ∧ s.raisesNone t ∧
      t.mem = s.mem ∧ t.bar1 = s.bar1)) ∧
  (∀ (s : State) (off : Nat) (l : List Byte), s.live = true → s.memWf = true → s.dev.host.linkUp = true → l ≠ [] →
    off % 256 + l.length ≤ 256 → off + l.length ≤ 2 ^ 32 →
    (s.dev.windowTarget off true = none → ∃ t, exec (.hostWindowAccess off (.write l)) s = .next t ∧
      s.dev.eventOf 0x1001 0 (leBytes 1 7 ++ leBytes 5 (s.dev.windowAddress off true).1) ∈ t.dev.log.arising ∧
      t.mem = s.mem ∧ t.bar1 = s.bar1) ∧
    (∀ a, s.dev.windowTarget off true = some (.sram a) → ∃ t, exec (.hostWindowAccess off (.write l)) s = .next t ∧
      (∀ x, t.sramByte x = if a ≤ x ∧ x < a + l.length then byteAt l (x - a) else s.sramByte x) ∧ s.raisesNone t))

/-- R314, R315, R330, R416: a late write fault enters the records, or counts as lost beyond 16, with event 0x1002, and ends
the command of the core that wrote; a host transfer that fails ends its command WRITE_FAULT with event 0x1006; the resets of
the endpoint leave FC, acknowledged commands and ring indices alone; a core that restarts gives its command back. Completes:
coreWatchdogExpiry, allCoresHalted, lateWriteFault, dmaTransferFailed, perstNAsserted, pcieLinkChange, pcieFlr. Rests on the
model's choices of log entries 20, 55, 56. -/
def Obligations.endpoint_resets_and_bus_faults : Prop :=
  (∀ (s : State) (master id addr win cause : Nat), s.live = true → master < 9 → id < 16 → win < 8 → 1 ≤ cause → cause ≤ 5 →
    (¬(2 ≤ master ∧ master ≤ 5) ∨ (∀ w ∈ s.dev.host.waiting, w.core ≠ some (master - 2))) →
    ∃ t, exec (.lateWriteFault master id addr win cause) s = .next t ∧
      (s.dev.host.lwf.length < 16 → t.dev.host.lwf = s.dev.host.lwf ++
          [{ addr := addr, master := master, id := id, win := if master = 7 then win else 0, cause := cause, fc := s.dev.fc }] ∧
        t.dev.host.lwfLost = s.dev.host.lwfLost) ∧
      (16 ≤ s.dev.host.lwf.length → t.dev.host.lwf = s.dev.host.lwf ∧
        t.dev.host.lwfLost = min 0xFFFF (s.dev.host.lwfLost + 1)) ∧
      (master = 7 → bit t.dev.host.hwinFault win = true) ∧ (master ≠ 7 → t.dev.host.hwinFault = s.dev.host.hwinFault) ∧
      s.raisesOne t 0x1002 0 (leBytes 1 master ++ leBytes 1 id ++ leBytes 5 addr ++ leBytes 1 cause) ∧
      t.dev.host.waiting = s.dev.host.waiting ∧ t.mem = s.mem ∧ t.bar1 = s.bar1) ∧
  (∀ (s : State) (core id addr win cause : Nat) (w : Waiting), s.live = true → core < 4 → id < 16 → win < 8 → 1 ≤ cause →
    cause ≤ 5 → s.dev.host.waiting.find? (fun w => w.core == some core) = some w → w.fromTwin = false → w.target = none →
    ∃ t, exec (.lateWriteFault (core + 2) id addr win cause) s = .next t ∧
      t.bar1 = Memory.writeBytes s.bar1 (s.dev.rspSlot w.cmd.mb) (w.response stWriteFault [] s.dev.fc).bytes ∧
      (∀ v ∈ t.dev.host.waiting, v.order ≠ w.order) ∧ t.mem = s.mem) ∧
  (∀ (s : State) (j : LoadJob) (w : Waiting), s.live = true → s.dev.sched.load = some j → j.source = 0 → j.copy = none →
    s.dev.host.waiting.find? (fun w => w.order == j.order) = some w → w.fromTwin = false → w.target = none →
    ∃ t, exec (.dmaTransferFailed .load) s = .next t ∧ t.dev.sched = { s.dev.sched with load := none } ∧
      s.raisesOne t 0x1006 0 (leBytes 1 1 ++ leBytes 2 0x0201 ++ leBytes 8 j.address) ∧
      t.bar1 = Memory.writeBytes s.bar1 (s.dev.rspSlot w.cmd.mb) (w.response stWriteFault [] s.dev.fc).bytes ∧
      t.mem = s.mem) ∧
  (∀ (s : State) (i : Instr), s.live = true →
    (i = .perstNAsserted ∨ i = .pcieFlr ∨ ∃ width speed, i = .pcieLinkChange true true width speed) →
    ∃ t, exec i s = .next t ∧ t.dev.fc = s.dev.fc ∧ t.dev.sched = s.dev.sched ∧ t.dev.pair = s.dev.pair ∧
      t.dev.host.queue = s.dev.host.queue ∧ t.dev.host.waiting = s.dev.host.waiting ∧
      (∀ n, t.dev.mb n = { s.dev.mb n with
        cmdProd := (s.dev.mb n).cmdAck, announced := (s.dev.mb n).cmdAck, irqEn := false }) ∧
      t.dev.host.wins = [] ∧ t.dev.host.sinterWe = 0 ∧ t.dev.host.msix = [] ∧ t.dev.host.busMaster = false ∧
      t.dev.host.lwf = [] ∧ t.dev.host.hwinFault = 0 ∧
      (i = .pcieFlr → s.raisesOne t 0x1005 0 (leBytes 1 0)) ∧
      ((∃ width speed, i = .pcieLinkChange true true width speed) →
        s.dev.eventOf 0x1005 0 (leBytes 1 1) ∈ t.dev.log.arising) ∧
      (i = .perstNAsserted → (s.dev.domain domPcie).state = .off → (t.dev.domain domPcie).state = .rising) ∧
      t.mem = s.mem ∧ t.bar1 = s.bar1) ∧
  (∀ (s : State) (width speed : Nat), s.live = true → s.dev.host.linkUp = true →
    ∃ t, exec (.pcieLinkChange false false width speed) s = .next t ∧ t.dev.host.linkUp = false ∧ t.dev.host.wins = [] ∧
      s.raisesOne t 0x1004 0 (leBytes 1 0 ++ leBytes 1 width ++ leBytes 1 speed) ∧
      t.dev.host.queue = s.dev.host.queue ∧ t.dev.fc = s.dev.fc ∧ t.mem = s.mem ∧ t.bar1 = s.bar1) ∧
  (∀ (s : State) (core : Nat), s.live = true → core < 4 → bit s.dev.pwr.coresUp core = true → s.dev.pwr.fwState = 2 →
    ∃ t, exec (.coreWatchdogExpiry core) s = .next t ∧
      s.raisesOne t 0x0014 0 (leBytes 1 core ++ leBytes 1 0) ∧
      (∀ w, s.dev.host.waiting.find? (fun w => w.core == some core) = some w →
        t.dev.host.queue = w.cmd :: s.dev.host.queue ∧ (∀ v ∈ t.dev.host.waiting, v.order ≠ w.order)) ∧
      ((∀ w ∈ s.dev.host.waiting, w.core ≠ some core) →
        t.dev.host.queue = s.dev.host.queue ∧ t.dev.host.waiting = s.dev.host.waiting) ∧
      t.mem = s.mem ∧ t.bar1 = s.bar1) ∧
  (∀ s : State, s.live = true → (s.dev.pwr.fwState = 2 ∨ s.dev.pwr.fwState = 3) → s.dev.pwr.trial = none →
    s.dev.trialPause = false → s.dev.bankCheck s.dev.fwBank = 0 →
    ∃ t, exec .allCoresHalted s = .next t ∧ t.dev.pwr.running = s.dev.pwr.bank s.dev.fwBank ∧
      t.dev.pwr.fwSource = s.dev.fwBank ∧ s.raisesOne t 0x0014 0 (leBytes 1 0xFF ++ leBytes 1 1) ∧
      (∀ w ∈ s.dev.host.waiting, w.core.isSome = true → w.cmd ∈ t.dev.host.queue) ∧
      (∀ w ∈ s.dev.host.waiting, w.core = none → w ∈ t.dev.host.waiting) ∧
      t.dev.fc = s.dev.fc ∧ t.dev.sched = s.dev.sched ∧ t.mem = s.mem ∧ t.bar1 = s.bar1)

/-- R324, R357, R359, R360: a cancel withdraws a command that is queued, or that waits and is not taken, and ends TOO_LATE
for one that is taken and NO_OBJECT for one that is not there; SYS_WINDOW_SET sets the window in the Beat in which it
executes; SYS_MBX_GRANT adds, removes or clears entries of its mailbox with event 0x0002. No other window and no other
mailbox's grants change. Completes: untimedCommandEffect, sysCancel, sysWindowSet. Rests on the model's choices of log
entries 17, 20. -/
def Obligations.system_commands_take_effect : Prop :=
  (∀ (s : State) (core : Nat) (c : Cmd), s.handedOver = true → s.dev.offers core 0x0003 c = true →
    (c.index = c.mb → c.field 0 2 = c.seq → ∃ t, exec (.sysCancel core) s = .next t ∧ s.answers t c stConstraint [] ∧
      t.dev = { s.dev with host := t.dev.host, log := t.dev.log }) ∧
    (¬(c.index = c.mb ∧ c.field 0 2 = c.seq) →
      (∀ q, (s.dev.host.queue.erase c).find? (fun q => q.mb == c.index && q.seq == c.field 0 2) = some q →
        ∃ t, exec (.sysCancel core) s = .next t ∧ t.dev.host.queue = (s.dev.host.queue.erase c).erase q ∧
          s.raisesOne t 0x0004 (objMailbox q.mb) (leBytes 1 q.mb ++ leBytes 2 q.seq ++ leBytes 2 q.opcode) ∧
          t.dev.host.waiting = s.dev.host.waiting ∧
          t.dev = { s.dev with host := t.dev.host, log := t.dev.log } ∧ t.mem = s.mem) ∧
      ((s.dev.host.queue.erase c).find? (fun q => q.mb == c.index && q.seq == c.field 0 2) = none →
        (∀ w, s.dev.host.waiting.find? (fun w => w.cmd.mb == c.index && w.cmd.seq == c.field 0 2 && !w.fromTwin) = some w →
          (s.dev.taken w = true → ∃ t, exec (.sysCancel core) s = .next t ∧
            s.answers t c stTooLate (cancelResponse w.cmd.opcode 1 (w.target.getD 0 % 2 ^ 32)) ∧
            t.dev = { s.dev with host := t.dev.host, log := t.dev.log } ∧
            t.dev.host.waiting = s.dev.host.waiting) ∧
          (s.dev.taken w = false → ∃ t, exec (.sysCancel core) s = .next t ∧
            t.dev.host.waiting = s.dev.host.waiting.filter (fun v => v.order != w.order) ∧
            s.raisesOne t 0x0004 (objMailbox w.cmd.mb)
              (leBytes 1 w.cmd.mb ++ leBytes 2 w.cmd.seq ++ leBytes 2 w.cmd.opcode) ∧
            t.dev.host.queue = s.dev.host.queue.erase c ∧
            (w.cmd.opcode = 0x0203 → t.dev.sched.swap = none) ∧ t.dev.fc = s.dev.fc ∧ t.mem = s.mem)) ∧
        ((∀ w ∈ s.dev.host.waiting, ¬(w.cmd.mb = c.index ∧ w.cmd.seq = c.field 0 2)) →
          (∀ u ∈ (s.dev.mb c.index).unread, u.1 ≠ c.field 0 2) →
          ∃ t, exec (.sysCancel core) s = .next t ∧ s.answers t c stNoObject [] ∧
            t.dev = { s.dev with host := t.dev.host, log := t.dev.log })))) ∧
  (∀ (s : State) (core : Nat) (c : Cmd), s.handedOver = true → s.dev.offers core 0x0006 c = true →
    (8 ≤ c.field 0 1 → ∃ t, exec (.sysWindowSet core) s = .next t ∧ s.answers t c stNoObject [] ∧
      t.dev.host.wins = s.dev.host.wins) ∧
    (c.field 0 1 < 8 → ∃ t, exec (.sysWindowSet core) s = .next t ∧ ∃ x, s.answers t c stOk (windowBytes (c.field 0 1) x) ∧
      x = ({
        base := clamp 0 0xFF_E000_0000 (c.field 8 8) - clamp 0 0xFF_E000_0000 (c.field 8 8) % 2 ^ 20,
        enabled := bit (c.field 1 1) 0, readOnly := bit (c.field 1 1) 1 } : Window) ∧
      Tab.get {} t.dev.host.wins (c.field 0 1) = x ∧
      (∀ k, k ≠ c.field 0 1 → Tab.get {} t.dev.host.wins k = (Tab.get {} s.dev.host.wins k : Window)) ∧
      t.dev = { s.dev with host := t.dev.host, log := t.dev.log })) ∧
  (∀ (s : State) (w : Waiting), s.effectDue 0x0005 w = true → checkSysMbxGrant s.dev w.cmd = none →
    ∃ t, exec .untimedCommandEffect s = .next t ∧
      (t.dev.mb w.cmd.index).grants =
        (if w.cmd.field 0 1 = 1 then (if grantOf w.cmd ∈ (s.dev.mb w.cmd.index).grants then (s.dev.mb w.cmd.index).grants
            else (s.dev.mb w.cmd.index).grants ++ [grantOf w.cmd])
          else if w.cmd.field 0 1 = 2 then (s.dev.mb w.cmd.index).grants.erase (grantOf w.cmd)
          else if w.cmd.field 0 1 = 3 then [] else (s.dev.mb w.cmd.index).grants) ∧
      (∀ n, n ≠ w.cmd.index → (t.dev.mb n).grants = (s.dev.mb n).grants) ∧ t.mem = s.mem)

/-- R363, R366, R367, R370 to R372, R376: a BAR0 write to a Sinter word is accepted only with SINTER_WE at 0x5157 and where
the map lets the host write, and is then what a read returns; other writes are refused with event 0x0B01; 8-bit and 16-bit
ones are decode errors. Commits end in acceptance order and cost one endurance cycle; a WORN word moves to a free spare
first; a failed verification moves the word at once; SINTER_WRITE waits for its commit. No other cell changes. Completes:
untimedCommandEffect, sinterBar0Write, sinterCommit. Rests on the model's choices of log entries 20, 59, 83. -/
def Obligations.sinter_words_are_accepted_and_committed : Prop :=
  (∀ (s : State) (off value : Nat), s.live = true → s.dev.host.linkUp = true → 0x8000 ≤ off → off < 0x1_0000 → off % 8 = 0 →
    (s.dev.host.sinterWe = 0x5157 → hostWritable ((off - 0x8000) / 8) = true →
      ¬(twinWord ((off - 0x8000) / 8) = true ∧ s.dev.pair.role = .standby) → s.dev.sinter.held = [] →
      s.dev.sinter.queue.length < 64 → s.dev.sinter.second = [] →
      ∃ t, exec (.sinterBar0Write off 8 value) s = .next t ∧
        t.dev.sinter = { s.dev.sinter with queue := s.dev.sinter.queue ++
          [{ word := (off - 0x8000) / 8, width := 0, value := value % 2 ^ 64 }] } ∧
        t.dev.sinter.read ((off - 0x8000) / 8) = value % 2 ^ 64 ∧ s.raisesNone t ∧ t.mem = s.mem ∧ t.bar1 = s.bar1) ∧
    ((s.dev.host.sinterWe ≠ 0x5157 ∨ hostWritable ((off - 0x8000) / 8) = false) →
      ∃ t, exec (.sinterBar0Write off 8 value) s = .next t ∧ t.dev.sinter = s.dev.sinter ∧
        t.dev.cnt = s.dev.cnt.tick 0x5380 1 ∧
        s.raisesOne t 0x0B01 (objWord ((off - 0x8000) / 8)) (leBytes 1 7 ++ leBytes 2 ((off - 0x8000) / 8)) ∧
        t.mem = s.mem ∧ t.bar1 = s.bar1)) ∧
  (∀ (s : State) (off width value : Nat), s.live = true → s.dev.host.linkUp = true → 0x8000 ≤ off → off < 0x1_0000 →
    (width = 1 ∨ width = 2) →
    ∃ t, exec (.sinterBar0Write off width value) s = .next t ∧ t.dev.sinter = s.dev.sinter ∧
      s.raisesOne t 0x1001 0 (leBytes 1 7 ++ leBytes 5 (0x3000_0000 + (off - 0x8000))) ∧ t.mem = s.mem ∧ t.bar1 = s.bar1) ∧
  (∀ (s : State) (c : Commit) (rest : List Commit) (k : Nat), s.live = true → s.dev.sinter.queue = c :: rest →
    s.dev.sinter.held = [] → c.waiter = none → k = s.dev.sinter.cellOf c.word →
    (Tab.get {} s.dev.sinter.cells k : Cell).failed = false →
    ((Tab.get {} s.dev.sinter.cells k : Cell).worn = false →
      (Tab.get {} s.dev.sinter.cells k : Cell).wear + 1 < 1_000_000_000 →
      ∃ t, exec (.sinterCommit false true) s = .next t ∧ t.dev.sinter.queue = rest ∧
        Tab.get {} t.dev.sinter.cells k = { (Tab.get {} s.dev.sinter.cells k : Cell) with
          value := mergeWord (Tab.get {} s.dev.sinter.cells k : Cell).value c.width c.value,
          wear := (Tab.get {} s.dev.sinter.cells k : Cell).wear + 1 } ∧
        (∀ j, j ≠ k → Tab.get {} t.dev.sinter.cells j = (Tab.get {} s.dev.sinter.cells j : Cell)) ∧
        t.dev.sinter.spares = s.dev.sinter.spares ∧ s.raisesNone t ∧ t.mem = s.mem ∧ t.bar1 = s.bar1) ∧
    ((Tab.get {} s.dev.sinter.cells k : Cell).worn = true → s.dev.sinter.spares < 256 →
      (∀ j, 6144 + s.dev.sinter.spares ≤ j → Tab.get {} s.dev.sinter.cells j = ({} : Cell)) → k < 6144 →
      k = c.word →
      ∃ t, exec (.sinterCommit false true) s = .next t ∧ t.dev.sinter.queue = rest ∧
        t.dev.sinter.spares = s.dev.sinter.spares + 1 ∧
        t.dev.sinter.cellOf c.word = 6144 + s.dev.sinter.spares ∧
        t.dev.sinter.stored c.word = mergeWord (Tab.get {} s.dev.sinter.cells k : Cell).value c.width c.value ∧
        s.dev.eventOf 0x0B03 0 (leBytes 2 c.word ++ leBytes 2 s.dev.sinter.spares ++
          leBytes 2 (256 - (s.dev.sinter.spares + 1))) ∈ t.dev.log.arising ∧ t.mem = s.mem ∧ t.bar1 = s.bar1)) ∧
  (∀ (s : State) (w : Waiting), s.effectDue 0x0B02 w = true → s.dev.sinter.held = [] → s.dev.sinter.queue.length < 64 →
    ∃ t, exec .untimedCommandEffect s = .next t ∧
      t.dev.sinter = { s.dev.sinter with queue := s.dev.sinter.queue ++
        [{ word := w.cmd.index, width := if w.cmd.field 0 1 ≤ 2 then w.cmd.field 0 1 else 0, value := w.cmd.field 8 8,
           waiter := some w.order }] } ∧
      (∃ v ∈ t.dev.host.waiting, v.order = w.order ∧ v.job = true) ∧ s.raisesNone t ∧ t.mem = s.mem ∧ t.bar1 = s.bar1) ∧
  (∀ (s : State) (off width value : Nat), 0x1_0000 ≤ off → exec (.sinterBar0Write off width value) s = .fault .outsideBar)

/-- R389 to R391, R395, R396: at the end of the last Beat of an interval Geyser latches the cells of the enabled banks
(`Dev.latchCells`) and takes them as a snapshot under the next DUMP_SEQ, or counts it as missed with event 0x0C01 where
staging is full; the oldest staged dump is written to its slot, a transfer that fails leaves its slot without MAGIC;
GEYSER_SET sets ENABLE, BANK_MASK and D; GEYSER_POST posts or releases the ring with event 0x0C04. No counter cell but
Geyser's own changes. Completes: untimedCommandEffect, dmaTransferFailed, geyserSnapshot, geyserDumpWritten. Rests on the
model's choices of log entries 20, 56, 60. -/
def Obligations.geyser_takes_and_delivers_snapshots : Prop :=
  (∀ d : Dev, d.cnt.enabled = true → d.domOn domGeyser = true → d.cnt.slots ≠ 0 → (d.fc / 256 + 1) % d.cnt.interval = 0 →
    ∃ x, d.latchCells.cnt.latched = some x ∧ x.fc = d.fc ∧ x.mask = d.cnt.bankMask ∧ x.gen = d.activeGen ∧
      x.d = d.cnt.interval ∧ x.chainSeq = d.cnt.chainSeq ∧
      (∀ b k, b < 7 → bit d.cnt.bankMask b = true → (bankRange b).1 ≤ k → k < (bankRange b).1 + (bankRange b).2 →
        Tab.get 0 x.cells k = Tab.get 0 d.cnt.cells k) ∧
      d.latchCells = { d with cnt := { d.cnt with latched := some x } }) ∧
  (∀ (s : State) (x : Dump), s.live = true → s.dev.cnt.latched = some x → s.dev.cnt.slots ≠ 0 →
    ∃ t, exec .geyserSnapshot s = .next t ∧ t.dev.cnt.dumpSeq = (s.dev.cnt.dumpSeq + 1) % 2 ^ 32 ∧
      t.dev.cnt.latched = none ∧ t.dev.snapshotDue = false ∧
      (s.dev.cnt.staged.length < s.dev.stagingDumps →
        t.dev.cnt.staged = s.dev.cnt.staged ++ [{ x with seq := (s.dev.cnt.dumpSeq + 1) % 2 ^ 32 }] ∧ s.raisesNone t) ∧
      (s.dev.stagingDumps ≤ s.dev.cnt.staged.length → t.dev.cnt.staged = s.dev.cnt.staged ∧
        t.dev.cnt.missed = s.dev.cnt.missed + 1 ∧
        s.raisesOne t 0x0C01 0 (leBytes 4 ((s.dev.cnt.dumpSeq + 1) % 2 ^ 32) ++ leBytes 1 0)) ∧
      (∀ k, k / 2 ≠ 0x5400 / 2 → Tab.get 0 t.dev.cnt.cells k = Tab.get 0 s.dev.cnt.cells k) ∧
      t.mem = s.mem ∧ t.bar1 = s.bar1) ∧
  (∀ (s : State) (x : Dump) (rest : List Dump), s.live = true → s.dev.cnt.staged = x :: rest → s.dev.cnt.slots ≠ 0 →
    s.dev.dmaReady = true →
    ∃ t, exec .geyserDumpWritten s = .next t ∧
      t.dev.cnt = { s.dev.cnt with
        staged := rest, missed := 0,
        lastDump := some (s.dev.cnt.slotAddress x.seq,
          dumpBytes x s.dev.pair.index s.dev.cnt.missed) } ∧
      s.raisesNone t ∧ t.mem = s.mem ∧ t.bar1 = s.bar1) ∧
  (∀ (s : State) (x : Dump) (rest : List Dump), s.live = true → s.dev.cnt.staged = x :: rest → s.dev.cnt.slots ≠ 0 →
    ∃ t, exec (.dmaTransferFailed .geyser) s = .next t ∧ t.dev.cnt.staged = rest ∧
      t.dev.cnt.missed = s.dev.cnt.missed + 1 ∧ t.dev.cnt.lastDump = some (s.dev.cnt.slotAddress x.seq, zeros 4) ∧
      s.dev.eventOf 0x0C01 0 (leBytes 4 x.seq ++ leBytes 1 1) ∈ t.dev.log.arising ∧ t.mem = s.mem ∧ t.bar1 = s.bar1) ∧
  (∀ (s : State) (w : Waiting), s.effectDue 0x0C04 w = true →
    (checkGeyserSet s.dev w.cmd = none → ∃ t, exec .untimedCommandEffect s = .next t ∧
      t.dev.cnt = { s.dev.cnt with
        enabled := if w.cmd.field 0 1 = 0 then false else if w.cmd.field 0 1 = 1 then true else s.dev.cnt.enabled,
        bankMask := w.cmd.field 1 1 % 128, interval := clamp 1 65_535 (w.cmd.field 2 2) }) ∧
    (checkGeyserSet s.dev w.cmd ≠ none → ∃ t, exec .untimedCommandEffect s = .next t ∧ t.dev.cnt = s.dev.cnt)) ∧
  (∀ (s : State) (w : Waiting), s.effectDue 0x0C05 w = true →
    (checkGeyserPost s.dev w.cmd = none → s.dev.cnt.staged = [] → ∃ t, exec .untimedCommandEffect s = .next t ∧
      t.dev.cnt = { s.dev.cnt with
        base := w.cmd.field 0 8 - w.cmd.field 0 8 % 4_096, slotBytes := postSlotBytes w.cmd,
        slots := if w.cmd.field 12 2 = 0 then 0 else clamp 2 4_096 (w.cmd.field 12 2),
        firstSeq := (s.dev.cnt.dumpSeq + 1) % 2 ^ 32 } ∧
      s.dev.eventOf 0x0C04 0 (leBytes 4 ((s.dev.cnt.dumpSeq + 1) % 2 ^ 32) ++ leBytes 2 (postSlots w.cmd))
        ∈ t.dev.log.arising) ∧
    (checkGeyserPost s.dev w.cmd ≠ none → ∃ t, exec .untimedCommandEffect s = .next t ∧ t.dev.cnt = s.dev.cnt))

/-- R382, R383, R393, R394: CNT_CHAIN_SET chains or unchains the named pairs, keeps every value and adds 1 to CHAIN_SEQ;
CNT_FILTER_SET sets its filter from its effect on and changes no cell; and a cell counts by itself modulo 2^32, or with its
upper cell modulo 2^64 where the pair is chained. Completes: untimedCommandEffect. Rests on the model's choices of log entry
60. -/
def Obligations.counter_settings_take_effect : Prop :=
  (∀ (s : State) (w : Waiting), s.effectDue 0x0C02 w = true →
    ∃ t, exec .untimedCommandEffect s = .next t ∧ t.dev.cnt.cells = s.dev.cnt.cells ∧
      t.dev.cnt.chainSeq = (s.dev.cnt.chainSeq + 1) % 2 ^ 32 ∧ t.dev.cnt.filters = s.dev.cnt.filters ∧
      (∀ j, t.dev.cnt.chained (2 * j) =
        (if w.cmd.index / 2 ≤ j ∧ j < w.cmd.index / 2 + min (clamp 1 4_096 (w.cmd.field 2 2)) (12_288 - w.cmd.index / 2) then
          (if w.cmd.field 0 1 = 0 then false else if w.cmd.field 0 1 = 1 then true else chainedAtReset (2 * j))
          else s.dev.cnt.chained (2 * j)))) ∧
  (∀ (s : State) (w : Waiting), s.effectDue 0x0C03 w = true → filterCell w.cmd.index = true →
    ∃ t, exec .untimedCommandEffect s = .next t ∧ t.dev.cnt.cells = s.dev.cnt.cells ∧
      Tab.get {} t.dev.cnt.filters ((w.cmd.index - 0x4100) / 4) = ({
        masters := w.cmd.field 0 2 % 512, priv := if w.cmd.field 2 1 ≤ 2 then w.cmd.field 2 1 else 0,
        classes := w.cmd.field 3 1 % 16, base := clamp 0 0xFF_FFFF_FFFF (w.cmd.field 8 8),
        limit := clamp 0 0xFF_FFFF_FFFF (w.cmd.field 16 8) } : Filter) ∧
      (∀ k, k ≠ (w.cmd.index - 0x4100) / 4 → Tab.get {} t.dev.cnt.filters k = (Tab.get {} s.dev.cnt.filters k : Filter))) ∧
  (∀ (n : Counters) (c k : Nat),
    (n.chained c = false → Tab.get 0 (n.tick c k).cells c = (Tab.get 0 n.cells c + k) % 2 ^ 32 ∧
      (∀ j, j ≠ c → Tab.get 0 (n.tick c k).cells j = Tab.get 0 n.cells j)) ∧
    (n.chained c = true → c % 2 = 1 → n.tick c k = n) ∧
    (n.chained c = true → c % 2 = 0 →
      Tab.get 0 (n.tick c k).cells c + 2 ^ 32 * Tab.get 0 (n.tick c k).cells (c + 1) =
        (Tab.get 0 n.cells c + 2 ^ 32 * Tab.get 0 n.cells (c + 1) + k) % 2 ^ 64 ∧
      (∀ j, j ≠ c → j ≠ c + 1 → Tab.get 0 (n.tick c k).cells j = Tab.get 0 n.cells j)))

/-- R401 to R407, R409, R410: an event that arises is staged, or where 64 entries stand it overflows or takes the place of a
less severe one; a later occurrence of a coalesced code in an MF is counted; a closed entry and a pending overflow entry are
staged as summary records; the writer takes the most severe record, the earliest of its severity, to the next slot under the
next RECORD_SEQ; a memory fault moves the writer to the spare region and then stops it; EVT_READ answers, and EVT_MASK sets
its area. Nothing but the log, the black box and the hosts' signals changes. Completes: coalescedSummaryStaged,
untimedCommandEffect, evtRead, eventStaged, tephraRecordWrite, overflowSummaryStaged, logMemoryFault. Rests on the model's
choices of log entries 20, 61. -/
def Obligations.events_are_staged_counted_and_written : Prop :=
  (∀ (s : State) (e : Event) (rest : List Event), s.live = true → s.dev.log.arising = e :: rest → coalesces e.code = false →
    (s.dev.log.staging.length < 64 → exec .eventStaged s = .next { s with dev := { s.dev with log := { s.dev.log with
      arising := rest, staging := s.dev.log.staging ++ [e.record] } } }) ∧
    (64 ≤ s.dev.log.staging.length → e.sev ≤ 3 → ∃ t, exec .eventStaged s = .next t ∧ t.dev.log.arising = rest ∧
      t.dev.log.staging.length = s.dev.log.staging.length ∧
      ((∀ r ∈ s.dev.log.staging, e.sev ≤ r.sev) → t.dev.log.staging = s.dev.log.staging ∧
        (∃ c ∈ t.dev.log.overflow, c.code = e.code ∧ e.fc ≤ c.lastFc)) ∧
      ((∃ r ∈ s.dev.log.staging, r.sev < e.sev) → e.record ∈ t.dev.log.staging) ∧
      t.dev.log.ring = s.dev.log.ring ∧ t.mem = s.mem ∧ t.bar1 = s.bar1)) ∧
  (∀ (s : State) (e : Event) (rest : List Event), s.live = true → s.dev.log.arising = e :: rest → coalesces e.code = true →
    e.code ≠ 0x0701 → e.code ≠ 0x0702 →
    ((∀ x ∈ s.dev.log.seen, ¬(x.1 = e.code ∧ x.2.1 = e.obj)) → s.dev.log.staging.length < 64 →
      ∃ t, exec .eventStaged s = .next t ∧ t.dev.log.staging = s.dev.log.staging ++ [e.record] ∧
        t.dev.log.seenCount e.code e.obj = 1 ∧ t.dev.log.coalesce = s.dev.log.coalesce) ∧
    (s.dev.log.seenCount e.code e.obj ≠ 0 → s.dev.log.coalesce.length < 256 →
      (∀ c ∈ s.dev.log.coalesce, ¬(c.code = e.code ∧ c.obj = e.obj)) →
      exec .eventStaged s = .next { s with dev := { s.dev with log := { s.dev.log with
        arising := rest, coalesce := s.dev.log.coalesce ++ [{
          code := e.code, obj := e.obj, count := 1, firstFc := e.fc, lastFc := e.fc, sev := e.sev }] } } })) ∧
  (∀ (s : State) (c : Counted) (rest : List Counted), s.live = true → s.dev.log.due = c :: rest →
    s.dev.log.staging.length < 64 →
    exec .coalescedSummaryStaged s = .next { s with dev := { s.dev with log := { s.dev.log with
      due := rest, staging := s.dev.log.staging ++ [c.record] } } }) ∧
  (∀ s : State, s.live = true → s.dev.log.staging.length < 64 → s.dev.log.overflow ≠ [] →
    ∃ t, exec .overflowSummaryStaged s = .next t ∧ ∃ c, c ∈ s.dev.log.overflow ∧
      (∀ x ∈ s.dev.log.overflow, c.order ≤ x.order) ∧ t.dev.log.overflow = s.dev.log.overflow.erase c ∧
      t.dev.log.staging = s.dev.log.staging ++ [c.record] ∧ s.raisesNone t ∧ t.mem = s.mem ∧ t.bar1 = s.bar1) ∧
  (∀ s : State, s.live = true → s.dev.log.staging ≠ [] → s.dev.log.region ≠ 2 →
    ∃ t, exec .tephraRecordWrite s = .next t ∧ ∃ r x, r ∈ s.dev.log.staging ∧
      (∀ y ∈ s.dev.log.staging, y.sev ≤ r.sev) ∧ t.dev.log.staging = s.dev.log.staging.erase r ∧
      t.dev.log.ring.getLast? = some (s.dev.log.region * 65_536 + s.dev.log.slot, s.dev.log.seq, x) ∧
      x.code = r.code ∧ x.fc = r.fc ∧ x.obj = r.obj ∧ x.data = r.data ∧
      (x = r ∨ (x = { r with flags := r.flags + 2 } ∧ Tab.get 3 s.dev.log.bbMin (r.code / 256) ≤ r.sev ∧
        t.dev.log.bucket = s.dev.log.bucket - 1)) ∧
      t.dev.log.seq = (s.dev.log.seq + 1) % 2 ^ 32 ∧ t.dev.log.slot = (s.dev.log.slot + 1) % s.dev.log.size ∧
      t.mem = s.mem ∧ t.bar1 = s.bar1) ∧
  (∀ (s : State) (slot : Nat) (onWrite : Bool), s.live = true → slot < s.dev.log.size →
    (s.dev.log.region = 0 → ∃ t, exec (.logMemoryFault slot onWrite) s = .next t ∧ t.dev.log.region = 1 ∧
      t.dev.log.seq = s.dev.log.seq ∧ slot ∈ t.dev.log.badSlots ∧ t.dev.host.alarmFatal = true ∧
      s.raisesOne t 0x1102 0 (leBytes 2 slot) ∧ t.mem = s.mem ∧ t.bar1 = s.bar1) ∧
    (s.dev.log.region = 1 → ∃ t, exec (.logMemoryFault slot onWrite) s = .next t ∧ t.dev.log.region = 2 ∧
      t.dev.log.ring = s.dev.log.ring ∧ t.dev.host.alarmFatal = true ∧ s.raisesOne t 0x1103 0 (leBytes 2 slot) ∧
      t.mem = s.mem ∧ t.bar1 = s.bar1)) ∧
  (∀ (s : State) (core : Nat) (c : Cmd), s.handedOver = true → s.dev.offers core 0x0D01 c = true →
    ∃ t, exec (.evtRead core) s = .next t ∧
      s.answers t c stOk (evtRead ((s.dev.unqueue c).countBadReads c) c).2 ∧ t.dev.log.ring = s.dev.log.ring ∧
      t.dev.log.staging = s.dev.log.staging ∧ s.raisesNone t) ∧
  (∀ (s : State) (w : Waiting), s.effectDue 0x0D02 w = true →
    ∃ t, exec .untimedCommandEffect s = .next t ∧
      Tab.get 2 t.dev.log.irqMin (w.cmd.field 0 1) = clamp 0 4 (w.cmd.field 1 1) ∧
      Tab.get 3 t.dev.log.bbMin (w.cmd.field 0 1) = clamp 0 4 (w.cmd.field 2 1) ∧
      (∀ a, a ≠ w.cmd.field 0 1 → Tab.get 2 t.dev.log.irqMin a = Tab.get 2 s.dev.log.irqMin a ∧
        Tab.get 3 t.dev.log.bbMin a = Tab.get 3 s.dev.log.bbMin a))

/-- R413, R414, R415, R416, R430, R431, R432, R433, R435: the up- and down-sequences move one rail at a time; a rail fault
drops the outputs and starts the down-sequence; a reset, a restart and a loss of power clear what is volatile and keep
Sinter; the synthesiser leaves a bad reference clock, and with both bad takes the one that becomes good (the model's choice
of log entry 81); power domains rise, become READY and fall one by one, and PWR_DOMAIN_SET moves those that it covers;
Dormant entry is accepted by command or DORM_REQ, commits Sinter's queue and starts the down-sequence; a wake starts the
up-sequence, or waits for the end of the entry. Completes: untimedCommandEffect, pwrDormant, domainRisingStart, domainReady,
vaonApplied, railReached, railFault, railFaultRestart, resetN, refclkBad, refclkGood, dormReq, dormantEntry, wake, domainOff,
powerRemoved. Rests on the model's choices of log entries 9, 20, 64, 71. -/
def Obligations.rails_resets_domains_and_dormant : Prop :=
  (∀ s : State, s.dev.pwr.mode = .running ∨ s.dev.pwr.mode = .booting →
    ∃ t, exec .resetN s = .next t ∧ t.dev.pwr.mode = .booting ∧ t.dev.fc = 0 ∧ t.dev.host.queue = [] ∧
      t.dev.host.waiting = [] ∧ t.dev.log.arising = [] ∧ t.dev.svc = ({} : Service) ∧
      t.dev.sinter.cells = s.dev.sinter.cells ∧ t.dev.sinter.spares = s.dev.sinter.spares ∧ t.dev.sinter.queue = [] ∧
      t.dev.pwr.bankA = s.dev.pwr.bankA ∧ t.dev.pwr.bankB = s.dev.pwr.bankB ∧
      t.dev.sched.slotA = s.dev.sched.slotA ∧ t.dev.sched.slotB = s.dev.sched.slotB ∧ t.dev.sched.active = none ∧
      t.mem = s.mem ∧ t.bar1 = s.bar1) ∧
  (∀ s : State, s.dev.pwr.mode = .dormant →
    (∃ t, exec .resetN s = .next t ∧ t.dev.pwr.mode = .upSeq ∧ t.dev.pwr.order = 1 ∧ t.dev.pwr.enables = 1 ∧
      t.dev.pwr.wakeBy = some 1 ∧ t.dev.sinter.cells = s.dev.sinter.cells) ∧
    (∃ t, exec .wake s = .next t ∧ t.dev.pwr.mode = .upSeq ∧ t.dev.pwr.order = 1 ∧ t.dev.pwr.enables = 1 ∧
      t.dev.pwr.wakeBy = some 0 ∧ t.dev.sinter.cells = s.dev.sinter.cells)) ∧
  (∀ s : State, s.handedOver = true →
    (s.dev.pwr.mode = .downSeq → s.dev.pwr.faultOrder = 0 →
      exec .wake s = .next { s with dev := { s.dev with pwr := { s.dev.pwr with wakeWaits := true } } }) ∧
    ((s.dev.pwr.mode = .running ∨ s.dev.pwr.mode = .booting) → s.dev.pwr.dormant.isSome = true →
      exec .wake s = .next { s with dev := { s.dev with pwr := { s.dev.pwr with wakeWaits := true } } }) ∧
    ((s.dev.pwr.mode = .running ∨ s.dev.pwr.mode = .booting) → s.dev.pwr.dormant = none → exec .wake s = .next s)) ∧
  (∀ s : State, s.dev.pwr.mode = .unpowered →
    ∃ t, exec .vaonApplied s = .next t ∧ t.dev.pwr.mode = .upSeq ∧ t.dev.pwr.order = 1 ∧ t.dev.pwr.enables = 1 ∧
      t.dev.pwr.rails = 0 ∧ t.dev.sinter.cells = s.dev.sinter.cells ∧ t.mem = [] ∧ t.bar1 = []) ∧
  (∀ s : State, s.live = true → exec .vaonApplied s = .next s) ∧
  (∀ (s : State) (k : Nat), s.dev.pwr.mode = .upSeq → s.dev.pwr.order = k → 1 ≤ k → k ≤ 7 →
    (∃ t, exec (.railReached true) s = .next t ∧ t.dev.pwr.rails = setBit s.dev.pwr.rails (k - 1) true ∧
      t.dev.pwr.enables = setBit s.dev.pwr.enables k true ∧ t.dev.pwr.order = k + 1 ∧
      t.dev.pwr.mode = (if k = 7 then .booting else .upSeq) ∧ (k ≠ 7 → t.mem = [] ∧ t.bar1 = []) ∧
      t.dev.sinter = s.dev.sinter) ∧
    (∃ t, exec (.railReached false) s = .next t ∧ t.dev.pwr.mode = .downSeq ∧ t.dev.pwr.faultOrder = k ∧
      t.dev.pwr.order = 7 ∧ t.dev.pwr.enables = s.dev.pwr.enables % 64 ∧ t.dev.pair.aliveOut = false)) ∧
  (∀ (s : State) (ok : Bool) (k : Nat), s.dev.pwr.mode = .downSeq → s.dev.pwr.order = k → 1 ≤ k →
    ∃ t, exec (.railReached ok) s = .next t ∧
      (s.dev.pwr.wakeWaits = false → t.dev.pwr.rails = setBit s.dev.pwr.rails (k - 1) false) ∧
      (1 < k → t.dev.pwr.mode = .downSeq ∧ t.dev.pwr.order = k - 1 ∧ t.dev.pwr.rails = setBit s.dev.pwr.rails (k - 1) false ∧
        t.dev.pwr.enables = setBit s.dev.pwr.enables (k - 2) false ∧ t.dev.sinter = s.dev.sinter) ∧
      (k = 1 → s.dev.pwr.faultOrder ≠ 0 → t.dev.pwr.mode = .faultWait ∧ t.dev.pwr.enables = 0 ∧
        t.dev.pwr.faultOrder = s.dev.pwr.faultOrder ∧ t.mem = [] ∧ t.bar1 = []) ∧
      (k = 1 → s.dev.pwr.faultOrder = 0 → s.dev.pwr.wakeWaits = false → t.dev.pwr.mode = .dormant ∧
        t.dev.pwr.enables = 0 ∧ t.dev.fc = 0 ∧ t.dev.sinter.cells = s.dev.sinter.cells ∧ t.mem = [] ∧ t.bar1 = []) ∧
      (k = 1 → s.dev.pwr.faultOrder = 0 → s.dev.pwr.wakeWaits = true → t.dev.pwr.mode = .upSeq ∧ t.dev.pwr.order = 1 ∧
        t.dev.pwr.enables = 1 ∧ t.dev.pwr.rails = 0 ∧ t.dev.pwr.wakeBy = some 0 ∧ t.mem = [] ∧ t.bar1 = [])) ∧
  (∀ (s : State) (k : Nat), s.live = true → 1 ≤ k → k ≤ 7 →
    ∃ t, exec (.railFault k) s = .next t ∧ t.dev.pwr.mode = .downSeq ∧ t.dev.pwr.order = 7 ∧ t.dev.pwr.faultOrder = k ∧
      t.dev.pwr.enables = s.dev.pwr.enables % 64 ∧ t.dev.pair.selLp = 0 ∧ t.dev.pair.aliveOut = false ∧
      s.raisesNone t ∧ t.mem = s.mem ∧ t.bar1 = s.bar1 ∧
      t = { s with dev := { s.dev with pwr := t.dev.pwr, pair := t.dev.pair } }) ∧
  (∀ s : State, s.dev.pwr.mode = .faultWait →
    ∃ t, exec .railFaultRestart s = .next t ∧ t.dev.pwr.mode = .upSeq ∧ t.dev.pwr.order = 1 ∧ t.dev.pwr.enables = 1 ∧
      t.dev.pwr.faultOrder = s.dev.pwr.faultOrder ∧ t.dev.fc = 0 ∧ t.dev.sinter.cells = s.dev.sinter.cells) ∧
  (∀ (s : State) (committed : Bool),
    ∃ t, exec (.powerRemoved committed) s = .next t ∧ t.dev.pwr.mode = .unpowered ∧ t.dev.pwr.enables = 0 ∧
      t.dev.pwr.rails = 0 ∧ t.dev.fc = 0 ∧ t.dev.host.queue = [] ∧ t.dev.sinter.queue = [] ∧ t.dev.sinter.second = [] ∧
      (committed = false → t.dev.sinter.cells = s.dev.sinter.cells) ∧ t.dev.pair.selLp = 0 ∧
      t.dev.pair.aliveOut = false ∧ t.mem = [] ∧ t.bar1 = []) ∧
  (∀ (s : State) (b : Bool), s.live = true →
    (∃ t, exec (.refclkBad b) s = .next t ∧ (if b then t.dev.pwr.refB else t.dev.pwr.refA) = false ∧
      (if b then t.dev.pwr.refA else t.dev.pwr.refB) = (if b then s.dev.pwr.refA else s.dev.pwr.refB) ∧
      (s.dev.pwr.refBSel ≠ b → t.dev.pwr.refBSel = s.dev.pwr.refBSel ∧ t.dev.pair = s.dev.pair ∧ s.raisesNone t) ∧
      (s.dev.pwr.refBSel = b → (if b then s.dev.pwr.refA else s.dev.pwr.refB) = true →
        t.dev.pwr.refBSel = (!b) ∧ t.dev.pair = s.dev.pair ∧ s.raisesOne t 0x0E05 0 (leBytes 1 (b2n (!b)))) ∧
      (s.dev.pwr.refBSel = b → (if b then s.dev.pwr.refA else s.dev.pwr.refB) = false →
        t.dev.pair = { s.dev.pair with hubFault := true } ∧ s.raisesNone t) ∧ t.mem = s.mem ∧ t.bar1 = s.bar1) ∧
    ((if b then s.dev.pwr.refB else s.dev.pwr.refA) = false →
      ∃ t, exec (.refclkGood b) s = .next t ∧ (if b then t.dev.pwr.refB else t.dev.pwr.refA) = true ∧
        t.dev.pwr.refBSel = (if (s.dev.refRevert = true ∧ s.dev.refPreferB = b) ∨
            (if s.dev.pwr.refBSel then s.dev.pwr.refB else s.dev.pwr.refA) = false
          then b else s.dev.pwr.refBSel) ∧
        s.dev.eventOf 0x0E06 0 (leBytes 1 (b2n b)) ∈ t.dev.log.arising ∧ t.dev.pair = s.dev.pair ∧
        t.mem = s.mem ∧ t.bar1 = s.bar1) ∧
    ((if b then s.dev.pwr.refB else s.dev.pwr.refA) = true → exec (.refclkGood b) s = .next s)) ∧
  (∀ (s : State) (k : Nat), s.live = true → s.dev.firstWaiting = some k → s.dev.risingRoom = true →
    ∃ t, exec (.domainRisingStart k) s = .next t ∧ (t.dev.domain k).state = .rising ∧
      (t.dev.domain k).waitsRising = false ∧ (t.dev.domain k).switches = satAdd 0xFFFF_FFFF (s.dev.domain k).switches 1 ∧
      (t.dev.domain k).lastFc = s.dev.fc ∧ (∀ j, j ≠ k → t.dev.domain j = s.dev.domain j) ∧
      t.dev.pwr.risingMfn = s.dev.mfn ∧
      t.dev.pwr.risingCount = (if s.dev.pwr.risingMfn = s.dev.mfn then s.dev.pwr.risingCount + 1 else 1) ∧
      s.raisesNone t ∧ t = { s with dev := { s.dev with pwr := t.dev.pwr } }) ∧
  (∀ (s : State) (k : Nat), s.live = true → k < 324 →
    ((s.dev.domain k).state = .rising → ∃ t, exec (.domainReady k) s = .next t ∧ (t.dev.domain k).state = .ready ∧
      (t.dev.domain k).switches = satAdd 0xFFFF_FFFF (s.dev.domain k).switches 1 ∧
      (t.dev.domain k).lastFc = s.dev.fc ∧ (∀ j, j ≠ k → t.dev.domain j = s.dev.domain j) ∧
      s.dev.eventOf 0x0E01 (objDomain k) (leBytes 2 k ++ leBytes 1 2) ∈ t.dev.log.arising ∧
      (k = 322 → s.dev.eventOf 0x0805 0 (leBytes 1 1) ∈ t.dev.log.arising) ∧
      (304 ≤ k → k < 308 → bit t.dev.pwr.coresUp (k - 304) = true) ∧ (k = 310 → t.dev.cald.hbmFailed = false) ∧
      t.mem = s.mem) ∧
    ((s.dev.domain k).state = .falling → ∃ t, exec (.domainOff k) s = .next t ∧ (t.dev.domain k).state = .off ∧
      (t.dev.domain k).switches = satAdd 0xFFFF_FFFF (s.dev.domain k).switches 1 ∧
      (t.dev.domain k).lastFc = s.dev.fc ∧ (∀ j, j ≠ k → t.dev.domain j = s.dev.domain j) ∧
      s.dev.eventOf 0x0E01 (objDomain k) (leBytes 2 k ++ leBytes 1 0) ∈ t.dev.log.arising ∧
      t.dev.pwr.coresUp = s.dev.pwr.coresUp ∧ t.mem = s.mem)) ∧
  (∀ (s : State) (w : Waiting) (first n : Nat), s.effectDue 0x0E01 w = true → first = w.cmd.index →
    n = min (clamp 1 324 (w.cmd.field 2 2)) (324 - first) →
    ∃ t, exec .untimedCommandEffect s = .next t ∧ t.mem = s.mem ∧
      (∀ j, ¬(first ≤ j ∧ j < first + n) → t.dev.domain j = s.dev.domain j) ∧
      (checkPwrDomainSet s.dev w.cmd ≠ none → t.dev.pwr = s.dev.pwr) ∧
      (w.cmd.field 0 1 ≥ 2 → t.dev.pwr = s.dev.pwr) ∧
      (checkPwrDomainSet s.dev w.cmd = none → ∀ j, first ≤ j → j < first + n →
        (w.cmd.field 0 1 = 0 →
          (t.dev.domain j).state = (if s.dev.domRises j then .falling else (s.dev.domain j).state) ∧
          (t.dev.domain j).waitsRising = false) ∧
        (w.cmd.field 0 1 = 1 → t.dev.domRises j = true ∨ (t.dev.domain j).waitsRising = true))) ∧
  (∀ (s : State) (core : Nat) (c : Cmd), s.handedOver = true → s.dev.offers core 0x0E03 c = true →
    (s.dev.fwBusy = false → s.dev.pwr.dormant = none → ∃ t, exec (.pwrDormant core) s = .next t ∧
      t.dev.pwr.dormant = some (s.dev.mfn + 2, 0, some s.dev.host.nextOrder) ∧
      t.dev.pwr.dormantForce = bit (c.field 0 1) 0 ∧ t.dev.host.queue = s.dev.host.queue.erase c ∧
      (s.dev.pair.role = .active → s.dev.twinRole = some .standby → t.dev.pair.handover.isSome = true) ∧
      (¬(s.dev.pair.role = .active ∧ s.dev.twinRole = some .standby) → t.dev.pair = s.dev.pair) ∧
      s.raisesNone t ∧ t.mem = s.mem ∧ t.bar1 = s.bar1) ∧
    ((s.dev.fwBusy = true ∨ s.dev.pwr.dormant.isSome = true) → ∃ t, exec (.pwrDormant core) s = .next t ∧
      t.dev.pwr = s.dev.pwr ∧ s.answers t c stBusy [])) ∧
  (∀ s : State, s.live = true →
    exec (.dormReq true) s = .next s ∧
    (s.dev.pwr.mode = .running → s.dev.pwr.dormant = none → s.dev.fwBusy = false → ∃ t,
      exec (.dormReq false) s = .next t ∧ t.dev.pwr.dormant = some (s.dev.mfn + 2, 1, none) ∧
      t.dev.pwr.dormantForce = true ∧ s.raisesNone t ∧
      t = { s with dev := { s.dev with pwr := t.dev.pwr, pair := t.dev.pair } })) ∧
  (∀ (s : State) (m trigger : Nat) (order : Option Nat), s.live = true →
    s.dev.pwr.dormant = some (m, trigger, order) → fcOf m ≤ s.dev.fc →
    (s.dev.sinter.queue = [] → s.dev.sinter.held = []) →
    ∃ t, exec .dormantEntry s = .next t ∧ t.dev.pwr.mode = .downSeq ∧ t.dev.pwr.order = 7 ∧ t.dev.pwr.dormant = none ∧
      t.dev.pair.selLp = 0 ∧ t.dev.pair.aliveOut = false ∧ t.dev.sinter.queue = [] ∧ t.dev.sinter.held = [] ∧
      t.dev.host.alarmFatal = false ∧ t.dev.host.alarmPair = false ∧
      s.dev.eventOf 0x0E03 0 (leBytes 8 (fcOf m) ++ leBytes 1 trigger) ∈ t.dev.log.arising ∧ t.mem = s.mem)

/-- R419, R423 to R428: FW_STAGE erases the inactive bank and reads its source, and a source that passes every check stands
whole in the bank or, on the boot ROM, runs at once; FW_ACTIVATE and FW_ROLLBACK wait for their effect MF, then the regions
exchange roles and boot word 1 names the new bank; the end of the pause reports both versions; a trial that lasts its MF
keeps the bank, and one that fails restores the old image; boot runs the bank that FW_BANK names, else the other with event
0x0013, else it stays in the boot ROM. Completes: fwStage, fwStageComplete, fwActivate, fwRollback, fwPauseBegin, fwPauseEnd,
fwTrialSuccess, fwTrialFailure, boot. Rests on the model's choices of log entries 20, 62, 63. -/
def Obligations.firmware_is_staged_activated_and_booted : Prop :=
  (∀ (s : State) (core : Nat) (c : Cmd), s.handedOver = true → s.dev.offers core 0x0010 c = true →
    (∀ st pl, checkFwStage s.dev c = some (st, pl) → ∃ t, exec (.fwStage core) s = .next t ∧ t.dev.pwr = s.dev.pwr ∧
      s.answers t c st pl) ∧
    (checkFwStage s.dev c = none → (stageSource c ≠ 0 ∨ s.dev.dmaReady = true) → ∃ t, exec (.fwStage core) s = .next t ∧
      t.dev.pwr.stage = some
        { order := s.dev.host.nextOrder, source := stageSource c, dest := 0, length := clamp 320 2_097_408 (c.field 4 4)
          address := c.field 8 8 / 64 * 64 } ∧
      t.dev.pwr.bank s.dev.inactiveBank = none ∧ t.dev.pwr.bank s.dev.fwBank = s.dev.pwr.bank s.dev.fwBank ∧
      t.dev.host.queue = s.dev.host.queue.erase c ∧ s.raisesNone t ∧ t.mem = s.mem ∧ t.bar1 = s.bar1) ∧
    (checkFwStage s.dev c = none → stageSource c = 0 → s.dev.dmaReady = false →
      (∀ w ∈ s.dev.host.waiting, w.order ≠ s.dev.host.nextOrder) → ∃ t, exec (.fwStage core) s = .next t ∧
      t.dev.pwr.stage = none ∧ t.dev.pwr.bank s.dev.inactiveBank = none ∧
      (t.dev.mb c.mb).rspProd = ((s.dev.mb c.mb).rspProd + 1) % 2 ^ 16)) ∧
  (∀ (s : State) (c : Cmd), s.handedOver = true → s.dev.pwr.fwState = 0 → s.dev.coreFree 0 = true →
    bestOf s.dev.host.queue = some c → c.mb = 0 → c.opcode = 0x0010 → ((s.dev.unqueue c).precheck c).isNone = true →
    checkFwStage s.dev c = none → s.dev.dmaReady = true → ∃ t, exec (.fwStage 0) s = .next t ∧
      t.dev.pwr.stage = some
        { order := s.dev.host.nextOrder, source := 0, dest := 1, length := clamp 320 2_097_408 (c.field 4 4)
          address := c.field 8 8 / 64 * 64 } ∧
      t.dev.pwr.bankA = s.dev.pwr.bankA ∧ t.dev.pwr.bankB = s.dev.pwr.bankB ∧ s.raisesNone t) ∧
  (∀ (s : State) (g : Stage) (image : Option FwImage) (x : FwImage) (check : Nat), s.live = true →
    s.dev.pwr.stage = some g → (if g.source = 0 then image else s.dev.pwr.bank (g.source - 1)) = some x →
    check = fwCheck (some x) (if g.source = 0 then g.length else bankSize) s.dev.minSvn →
    ∃ t, exec (.fwStageComplete image) s = .next t ∧ t.dev.pwr.stage = none ∧
      (g.dest = 0 → s.dev.eventOf 0x0010 0 (leBytes 1 s.dev.inactiveBank ++ leBytes 1 check ++ leBytes 4 x.version) ∈
          t.dev.log.arising ∧ t.dev.pwr.running = s.dev.pwr.running ∧
        t.dev.pwr.bank s.dev.fwBank = s.dev.pwr.bank s.dev.fwBank ∧
        t.dev.pwr.bank s.dev.inactiveBank =
          (if check = 0 then some { x with present := 256 + x.bodyLen } else s.dev.pwr.bank s.dev.inactiveBank)) ∧
      (g.dest = 1 → s.dev.eventOf 0x0010 0 (leBytes 1 0xFF ++ leBytes 1 check ++ leBytes 4 x.version) ∈
          t.dev.log.arising ∧ t.dev.pwr.bankA = s.dev.pwr.bankA ∧ t.dev.pwr.bankB = s.dev.pwr.bankB ∧
        (check = 0 → t.dev.pwr.running = some x ∧ t.dev.pwr.fwSource = 2 ∧ t.dev.pwr.fwState = 2) ∧
        (check ≠ 0 → t.dev.pwr.running = s.dev.pwr.running ∧ t.dev.pwr.fwState = s.dev.pwr.fwState))) ∧
  (∀ (s : State) (core target : Nat) (c : Cmd), s.handedOver = true → s.dev.offers core 0x0011 c = true →
    target = (if c.timed then (resolveTarget s.dev.refMfn c.applyAt).1 else s.dev.refMfn) →
    (∀ st pl, checkFwActivate s.dev c = some (st, pl) → ∃ t, exec (.fwActivate core) s = .next t ∧ t.dev.pwr = s.dev.pwr ∧
      s.answers t c st pl) ∧
    (checkFwActivate s.dev c = none → (c.timed = true → s.dev.timedRoom target = true) →
      ∃ t, exec (.fwActivate core) s = .next t ∧ t.dev.pwr.activation = some
        { order := some s.dev.host.nextOrder, target := target, trial := bit (c.field 0 1) 0, trialMf := clamp 64 65_535 (c.field 2 2), restore := none
          oldVersion := versionOf s.dev.pwr.running, pauseFc := none } ∧
      t.dev.pwr.preload = s.dev.pwr.bank s.dev.inactiveBank ∧ t.dev.pwr.running = s.dev.pwr.running ∧
      t.dev.host.queue = s.dev.host.queue.erase c ∧ t.mem = s.mem ∧ t.bar1 = s.bar1) ∧
    (checkFwActivate s.dev c = none → c.timed = true → s.dev.timedRoom target = false →
      ∃ t, exec (.fwActivate core) s = .next t ∧ t.dev.pwr = s.dev.pwr ∧ s.answers t c stNoResource [])) ∧
  (∀ (s : State) (core target : Nat) (c : Cmd), s.handedOver = true → s.dev.offers core 0x0012 c = true →
    target = (if c.timed then (resolveTarget s.dev.refMfn c.applyAt).1 else s.dev.refMfn) →
    (∀ st pl, checkFwRollback s.dev c = some (st, pl) → ∃ t, exec (.fwRollback core) s = .next t ∧ t.dev.pwr = s.dev.pwr ∧
      s.answers t c st pl) ∧
    (checkFwRollback s.dev c = none → (c.timed = true → s.dev.timedRoom target = true) →
      ∃ t, exec (.fwRollback core) s = .next t ∧
      (∃ a, t.dev.pwr.activation = some a ∧ a.target = target ∧ a.trial = false ∧ a.pauseFc = none ∧
        a.restore = if s.dev.pwr.trial.isSome then some 3 else none) ∧
      t.dev.pwr.preload = (if s.dev.pwr.trial.isSome then s.dev.pwr.preload else s.dev.pwr.bank s.dev.inactiveBank) ∧
      t.dev.pwr.running = s.dev.pwr.running ∧ t.mem = s.mem ∧ t.bar1 = s.bar1)) ∧
  (∀ (s : State) (a : Activation), s.live = true → s.dev.pwr.activation = some a → s.dev.pauseDue = true →
    ∃ t, exec .fwPauseBegin s = .next t ∧ t.dev.pwr.running = s.dev.pwr.preload ∧ t.dev.pwr.preload = s.dev.pwr.running ∧
      t.dev.pwr.fwState = 3 ∧ t.dev.pwr.activation = some { a with pauseFc := some s.dev.fc } ∧
      t.dev.pwr.trial = none ∧ t.mem = s.mem ∧ t.bar1 = s.bar1 ∧
      (a.restore = none → t.dev.sinter = (s.dev.putBank s.dev.inactiveBank a.trial).sinter ∧ s.raisesNone t) ∧
      (∀ cause m n k b, a.restore = some cause → s.dev.pwr.trial = some (m, n, k, b) →
        t.dev.sinter = (s.dev.putBank b false).sinter ∧
        s.raisesOne t 0x0012 0 (leBytes 1 s.dev.fwBank ++ leBytes 1 cause))) ∧
  (∀ (s : State) (a : Activation) (f : Nat), s.live = true → s.dev.pwr.activation = some a → a.pauseFc = some f →
    (a.trial = true → s.dev.fc - f ≤ 43_009) →
    ∃ t, exec .fwPauseEnd s = .next t ∧ t.dev.pwr.activation = none ∧ t.dev.pwr.fwState = 2 ∧
      t.dev.pwr.fwSource = s.dev.fwBank ∧ t.dev.pwr.running = s.dev.pwr.running ∧
      t.dev.pwr.trial = (if a.trial then some (s.dev.mfn, a.trialMf, 0, 1 - s.dev.fwBank) else none) ∧
      (a.restore = none → s.dev.eventOf 0x0011 0 (leBytes 4 a.oldVersion ++ leBytes 4 (versionOf s.dev.pwr.running) ++
        leBytes 1 (b2n a.trial)) ∈ t.dev.log.arising) ∧
      (∀ o w, a.order = some o → s.dev.host.waiting.find? (fun w => w.order == o) = some w → w.fromTwin = false →
        (t.dev.mb w.cmd.mb).rspProd = ((s.dev.mb w.cmd.mb).rspProd + 1) % 2 ^ 16) ∧ t.mem = s.mem) ∧
  (∀ (s : State) (m n k b : Nat), s.live = true → s.dev.paused = false → s.dev.pwr.trial = some (m, n, k, b) →
    m + n ≤ s.dev.mfn → k ≤ 3 →
    ∃ t, exec .fwTrialSuccess s = .next t ∧ t.dev.pwr = { s.dev.pwr with trial := none } ∧
      t.dev.sinter = (s.dev.putBank s.dev.fwBank false).sinter ∧
      s.raisesOne t 0x0011 0 (leBytes 4 (versionOf s.dev.pwr.preload) ++ leBytes 4 (versionOf s.dev.pwr.running) ++
        leBytes 1 2) ∧ t.mem = s.mem ∧ t.bar1 = s.bar1) ∧
  (∀ (s : State) (cause : Nat), s.live = true → s.dev.trialFails cause = true →
    ∃ t, exec (.fwTrialFailure cause) s = .next t ∧ t.dev.pwr.running = s.dev.pwr.preload ∧
      t.dev.pwr.preload = s.dev.pwr.running ∧ t.dev.pwr.fwState = 3 ∧ t.dev.pwr.trial = none ∧
      (∃ a, t.dev.pwr.activation = some a ∧ a.restore = some cause ∧ a.pauseFc = some s.dev.fc ∧ a.trial = false) ∧
      (∀ w ∈ t.dev.host.waiting, w.core = none) ∧
      s.dev.eventOf 0x0012 0 (leBytes 1 s.dev.fwBank ++ leBytes 1 cause) ∈ t.dev.log.arising ∧ t.mem = s.mem) ∧
  (∀ (s : State) (f : Option FlashInput) (d : Dev), s.handedOver = true → s.dev.pwr.mode = .booting →
    s.dev.clocked = true → d = s.dev.program f → s.dev.fwTrial = false →
    ∃ t, exec (.boot f) s = .next t ∧ t.dev.pwr.mode = .running ∧ t.mem = s.mem ∧ t.bar1 = s.bar1 ∧
      (∀ v, s.dev.pwr.wakeBy = some v → s.dev.eventOf 0x0E04 0 (leBytes 1 v) ∈ t.dev.log.arising) ∧
      (d.bankCheck d.fwBank = 0 → t.dev.pwr.running = d.pwr.bank d.fwBank ∧ t.dev.pwr.fwState = 2 ∧
        t.dev.pwr.fwSource = d.fwBank) ∧
      (d.bankCheck d.fwBank ≠ 0 →
        s.dev.eventOf 0x0013 0 (leBytes 1 d.fwBank ++ leBytes 1 (d.bankCheck d.fwBank)) ∈ t.dev.log.arising ∧
        (d.bankCheck d.inactiveBank = 0 → t.dev.pwr.running = d.pwr.bank d.inactiveBank ∧ t.dev.pwr.fwState = 2 ∧
          t.dev.pwr.fwSource = d.inactiveBank) ∧
        (d.bankCheck d.inactiveBank ≠ 0 → t.dev.pwr.running = none ∧ t.dev.pwr.fwState = 0 ∧ t.dev.pwr.coresUp = 1))) ∧
  (∀ (s : State) (f : Option FlashInput), s.handedOver = true → s.dev.pwr.mode = .booting → s.dev.clocked = true →
    s.dev.fwTrial = true → ∃ t, exec (.boot f) s = .next t ∧ t.dev.pwr.mode = .running ∧ t.dev.pwr.trial = none ∧
      s.dev.eventOf 0x0012 0 (leBytes 1 s.dev.fwBank ++ leBytes 1 4) ∈ t.dev.log.arising)

/-- R428: while an FW_STAGE runs, or an FW_ACTIVATE or FW_ROLLBACK waits or pauses, every other firmware command (on the boot
ROM, FW_STAGE), SCHED_LOAD, SCHED_SWAP and PWR_DORMANT ends BUSY; FW_ACTIVATE and FW_ROLLBACK also end BUSY while a swap
waits, a load runs, or a join or a resync runs on this device or, as the twin's head tells, on its twin. Nothing but the
answer changes. -/
def Obligations.firmware_work_makes_commands_busy : Prop :=
  ∀ (s : State) (core : Nat) (c : Cmd), s.handedOver = true →
    (∀ r ∈ [(0x0010, Instr.fwStage core), (0x0011, .fwActivate core), (0x0012, .fwRollback core), (0x0201, .schedLoad core),
        (0x0203, .schedSwap core), (0x0E03, .pwrDormant core)],
      s.dev.offers core r.1 c = true → (s.dev.pwr.stage.isSome = true ∨ s.dev.pwr.activation.isSome = true) →
      ∃ t, exec r.2 s = .next t ∧ s.answers t c stBusy [] ∧ t.dev = { s.dev with host := t.dev.host, log := t.dev.log }) ∧
    (s.dev.pwr.fwState = 0 → s.dev.coreFree 0 = true → bestOf s.dev.host.queue = some c → c.mb = 0 → c.opcode = 0x0010 →
      ((s.dev.unqueue c).precheck c).isNone = true → stageSource c = 0 → stageDest c = 1 →
      (s.dev.pwr.stage.isSome = true ∨ s.dev.pwr.activation.isSome = true) →
      ∃ t, exec (.fwStage 0) s = .next t ∧ s.answers t c stBusy [] ∧
        t.dev = { s.dev with host := t.dev.host, log := t.dev.log }) ∧
    (∀ r ∈ [(0x0011, Instr.fwActivate core), (0x0012, .fwRollback core)],
      s.dev.offers core r.1 c = true →
      (s.dev.sched.swap.isSome = true ∨ s.dev.sched.load.isSome = true ∨ s.dev.pair.joinPhase ≠ 0 ∨
        (∃ p ∈ s.dev.pair.agree, p.2.resync ≠ 0) ∨
        (s.dev.pair.link = 2 ∧ ∃ h, s.dev.pair.rxHead = some h ∧ h.joinPhase ≠ 0)) →
      ∃ t, exec r.2 s = .next t ∧ s.answers t c stBusy [] ∧ t.dev = { s.dev with host := t.dev.host, log := t.dev.log })

/-- R444, R445, R446, R448, R455, R457, R458, R459, R460, R462: a checker that changes sync says so; PRBS_SET and LOOP_SET
put their settings in force, or are refused with no effect; a JTAG instruction takes effect, all but IDCODE as BYPASS while
locked, and a private one stops; a UART character is handed on, or counted as a framing error or as received while closed,
and a read clears the counts; a peripheral controller starts, loses arbitration, retries three times and gives up with event
0x0F06, or completes. Completes: untimedCommandEffect, prbsSyncChange, jtagInstruction, uartCharacterReceived,
uartCounterRead, pmbStart, pmbArbitrationLost, pmbRetry, pmbTransactionDone. Rests on the model's choices of log entries 20,
65, 66, 82. -/
def Obligations.link_tests_and_service_ports : Prop :=
  (∀ (s : State) (obj : Nat) (sync : Bool) (x : Prbs), s.live = true → x = Tab.get {} s.dev.svc.prbs obj → x.checks = true →
    x.inSync = !sync → (patternHeld obj = true → if sync then 1_024 ≤ x.run else x.lost = true) → ∃ t, exec (.prbsSyncChange obj sync) s = .next t ∧
      Tab.get {} t.dev.svc.prbs obj = (if sync then { x with inSync := true, syncFc := s.dev.fc, window := 0, lost := false }
        else { x with inSync := false, losses := satAdd 0xFFFF_FFFF x.losses 1, lost := false, run := 0 }) ∧
      (∀ k, k ≠ obj → Tab.get {} t.dev.svc.prbs k = Tab.get ({} : Prbs) s.dev.svc.prbs k) ∧
      s.raisesOne t 0x0F01 obj (leBytes 4 obj ++ leBytes 1 (if sync then 2 else 1)) ∧ t.mem = s.mem ∧ t.bar1 = s.bar1) ∧
  (∀ (s : State) (w : Waiting) (p m : Nat) (x : Prbs), s.effectDue 0x0F01 w = true → p = fallback 9 0 (w.cmd.field 0 1) →
    m = w.cmd.field 1 1 % 16 → x = Tab.get {} s.dev.svc.prbs w.cmd.object →
    (checkPrbsSet s.dev w.cmd = none → ∃ t, exec .untimedCommandEffect s = .next t ∧
      (∃ y : Prbs, Tab.get {} t.dev.svc.prbs w.cmd.object = y ∧ y.pattern = p ∧ y.mode = m ∧ y.inject = w.cmd.field 2 1 ∧
        ((p ≠ x.pattern ∨ bit m 2 ≠ bit x.mode 2 ∨ (bit m 1 = true ∧ bit x.mode 1 = false)) →
          y.bits = 0 ∧ y.errors = 0 ∧ y.losses = 0 ∧ y.inSync = false) ∧
        ((p = x.pattern ∧ bit m 2 = bit x.mode 2 ∧ (bit m 1 = false ∨ bit x.mode 1 = true)) →
          y.bits = x.bits ∧ y.errors = x.errors ∧ y.losses = x.losses)) ∧
      (∀ k, k ≠ w.cmd.object → Tab.get {} t.dev.svc.prbs k = Tab.get ({} : Prbs) s.dev.svc.prbs k) ∧ t.mem = s.mem) ∧
    (checkPrbsSet s.dev w.cmd ≠ none → ∃ t, exec .untimedCommandEffect s = .next t ∧ t.dev.svc = s.dev.svc ∧
      t.mem = s.mem) ∧
    (p ≠ 0 → bit m 0 = true → s.dev.twinBound = true → checkPrbsSet s.dev w.cmd = some (stConstraint, []))) ∧
  (∀ (s : State) (w : Waiting) (n : Nat), s.effectDue 0x0F03 w = true → n = loopOf w.cmd →
    (n ≠ 0 → s.dev.twinBound = true → ∃ t, exec .untimedCommandEffect s = .next t ∧
      t.dev.loopAt w.cmd.object = s.dev.loopAt w.cmd.object ∧ t.dev.svc = s.dev.svc ∧ t.mem = s.mem) ∧
    ((n = 0 ∨ s.dev.twinBound = false) → ∃ t, exec .untimedCommandEffect s = .next t ∧
      t.dev.loopAt w.cmd.object = n ∧
      (n ≠ s.dev.loopAt w.cmd.object →
        s.dev.eventOf 0x0F02 w.cmd.object (leBytes 4 w.cmd.object ++ leBytes 1 n) ∈ t.dev.log.arising) ∧
      t.dev.svc.prbs = s.dev.svc.prbs ∧ t.dev.svc.lock = s.dev.svc.lock ∧ t.mem = s.mem)) ∧
  (∀ (s : State) (i : JtagInstr), s.live = true →
    ((∀ n, i ≠ .privateCode n) → s.dev.locked = false → exec (.jtagInstruction i) s =
      .next { s with dev := { s.dev with svc := { s.dev.svc with jtag := i } } }) ∧
    (s.dev.locked = true → exec (.jtagInstruction i) s =
      .next { s with dev := { s.dev with svc := { s.dev.svc with jtag := if i = .idcode then .idcode else .bypass } } })) ∧
  (∀ (s : State) (n : Nat), s.dev.locked = false → exec (.jtagInstruction (.privateCode n)) s = .refused .privateJtag) ∧
  (∀ (s : State) (byte : Byte), s.live = true →
    exec (.uartCharacterReceived byte false) s = .next { s with dev := { s.dev with svc := { s.dev.svc with
      uartFraming := satAdd 0xFFFF s.dev.svc.uartFraming 1 } } } ∧
    (s.dev.locked = true → exec (.uartCharacterReceived byte true) s = .next { s with dev := { s.dev with svc :=
      { s.dev.svc with uartClosed := satAdd 0xFFFF s.dev.svc.uartClosed 1 } } }) ∧
    (s.dev.locked = false → exec (.uartCharacterReceived byte true) s = .next { s with dev := { s.dev with svc :=
      { s.dev.svc with uartRx := some byte } } }) ∧
    (∃ t, exec .uartCounterRead s = .next t ∧
      t.dev.host.readData = leBytes 4 (s.dev.svc.uartFraming + 2 ^ 16 * s.dev.svc.uartClosed) ∧
      t.dev.svc = { s.dev.svc with uartFraming := 0, uartClosed := 0 } ∧ s.raisesNone t ∧ t.mem = s.mem ∧
      t.bar1 = s.bar1)) ∧
  (∀ (s : State) (unit : Nat) (x : Pmb), s.live = true → unit < 2 → x = s.dev.pmb unit →
    (∃ t, exec (.pmbStart unit) s = .next t ∧ t.dev.pmb unit = (if x.busy then { x with collide := true }
        else { x with busy := true, retries := 0, lost := false }) ∧
      t.dev.pmb (1 - unit) = s.dev.pmb (1 - unit) ∧ s.raisesNone t ∧ t = { s with dev := { s.dev with svc := t.dev.svc } }) ∧
    (x.busy = true → x.lost = false → ∃ t, exec (.pmbArbitrationLost unit) s = .next t ∧
      t.dev.pmb unit = { x with lost := true, losses := satAdd 0xFFFF_FFFF x.losses 1 } ∧
      t.dev.pmb (1 - unit) = s.dev.pmb (1 - unit) ∧ s.raisesNone t ∧ t = { s with dev := { s.dev with svc := t.dev.svc } }) ∧
    (x.busy = true → x.lost = true → x.retries < 3 → ∃ t, exec (.pmbRetry unit) s = .next t ∧
      t.dev.pmb unit = { x with lost := false, retries := x.retries + 1 } ∧
      t.dev.pmb (1 - unit) = s.dev.pmb (1 - unit) ∧ s.raisesNone t ∧ t = { s with dev := { s.dev with svc := t.dev.svc } }) ∧
    (x.busy = true → x.lost = true → 3 ≤ x.retries → ∃ t, exec (.pmbRetry unit) s = .next t ∧
      t.dev.pmb unit = { x with lost := false, busy := false, arbFail := true } ∧
      t.dev.pmb (1 - unit) = s.dev.pmb (1 - unit) ∧
      s.raisesOne t 0x0F06 0 (leBytes 1 unit ++ leBytes 1 x.addr) ∧ t.mem = s.mem ∧ t.bar1 = s.bar1) ∧
    (x.busy = true → x.lost = false → ∀ (nack : Bool) (data : List Byte), ∃ t,
      exec (.pmbTransactionDone unit nack data) s = .next t ∧ (t.dev.pmb unit).busy = false ∧
      (t.dev.pmb unit).done = (x.done || !nack) ∧ (t.dev.pmb unit).nack = (x.nack || nack) ∧
      (∀ k, Tab.get 0 (t.dev.pmb unit).data k =
        (if x.read = true ∧ nack = false ∧ k < pmbLen x.len then byteAt data k else Tab.get 0 x.data k)) ∧
      t.dev.pmb (1 - unit) = s.dev.pmb (1 - unit) ∧ s.raisesNone t ∧
      t = { s with dev := { s.dev with svc := t.dev.svc } }))

/-- R351, R353, R448 to R454, R463 to R466: a challenge draws a nonce (a free value: whatever the random source gives); a
response or a password that matches opens or restarts a session for 96,768,000 MF, one that does not counts a failure and
starts a backoff, and during a backoff neither counts; a session closes by command or by its time; LOCK_PASSWORD_SET writes
the words of the lock; nonces and backoffs expire; and a vendor diagnostic is answered LOCKED while locked, and stops
otherwise. Completes: untimedCommandEffect, vendorDiagnostic, nonceExpiry, lockBackoffEnd, lockSessionExpiry. Rests on the
model's choices of log entries 10, 20, 69. -/
def Obligations.field_lock_opens_and_closes : Prop :=
  (∀ (s : State) (w : Waiting), s.effectDue 0x0F10 w = true → ∃ t, exec .untimedCommandEffect s = .next t ∧
    t.dev.svc.lock = { s.dev.svc.lock with nonce := some (Config.freeValue s.dev.free).toNat, nonceMfn := s.dev.mfn } ∧
    t.dev.free = s.dev.free + 1 ∧ t.dev.sinter = s.dev.sinter ∧ t.mem = s.mem) ∧
  (∀ (s : State) (w : Waiting) (good : Bool), s.effectDue 0x0F11 w = true ∨ s.effectDue 0x0F12 w = true →
    (w.cmd.opcode = 0x0F11 → (good = true ↔ ∃ v, s.dev.svc.lock.nonce = some v ∧
      s.dev.mfn < s.dev.svc.lock.nonceMfn + 201_600 ∧
      (beBytes 32 (Config.hmac (leBytes 16 v ++ leBytes 8 Config.unitId.toNat)).toNat).take 16 =
        sliceAt w.cmd.payload 0 16)) →
    (w.cmd.opcode = 0x0F12 → (good = true ↔
      s.dev.storedVerifier = some (s.dev.verifier (sliceAt w.cmd.payload 8 (clamp 8 64 (w.cmd.field 0 1)))))) →
    (0 < s.dev.backoffLeft → ∃ t, exec .untimedCommandEffect s = .next t ∧ t.dev.svc = s.dev.svc ∧
      t.dev.sinter = s.dev.sinter ∧ t.mem = s.mem) ∧
    (s.dev.backoffLeft = 0 → ∃ t, exec .untimedCommandEffect s = .next t ∧ t.mem = s.mem ∧
      (w.cmd.opcode = 0x0F11 → t.dev.svc.lock.nonce = none) ∧
      (w.cmd.opcode = 0x0F12 → t.dev.svc.lock.nonce = s.dev.svc.lock.nonce) ∧
      (good = true → t.dev.svc.lock.session = some (s.dev.mfn + 96_768_000) ∧
        t.dev.sinter = (if s.dev.fails = 0 then s.dev.sinter else s.dev.sinter.put { word := 129, width := 0, value := 0 }) ∧
        (s.dev.svc.lock.session = none → s.dev.eventOf 0x0F03 0 (leBytes 1 (if w.cmd.opcode = 0x0F11 then 1 else 0)) ∈
          t.dev.log.arising)) ∧
      (good = false → t.dev.svc.lock.session = s.dev.svc.lock.session ∧
        t.dev.svc.lock.backoffEnd = some (s.dev.mfn + backoffMf (min 0xFFFF (s.dev.fails + 1))) ∧
        t.dev.sinter = s.dev.sinter.put { word := 129, width := 0, value := min 0xFFFF (s.dev.fails + 1) } ∧
        s.dev.eventOf 0x0F04 0 (leBytes 2 (min 0xFFFF (s.dev.fails + 1)) ++
          leBytes 4 (backoffMf (min 0xFFFF (s.dev.fails + 1)))) ∈ t.dev.log.arising))) ∧
  (∀ k, 1 ≤ k → backoffMf k = min (2 ^ k * 3_360) 12_096_000) ∧
  (∀ (s : State) (w : Waiting), s.effectDue 0x0F13 w = true → ∃ t, exec .untimedCommandEffect s = .next t ∧
    t.dev.svc.lock = { s.dev.svc.lock with session := none } ∧ t.dev.sinter = s.dev.sinter ∧ t.mem = s.mem ∧
    (s.dev.svc.lock.session.isSome = true → s.dev.eventOf 0x0F03 0 (leBytes 1 0x80) ∈ t.dev.log.arising) ∧
    (s.dev.svc.lock.session = none → s.raisesNone t)) ∧
  (∀ (s : State) (w : Waiting) (op : Nat) (puts : List (Nat × Nat) → Sinter), s.effectDue 0x0F14 w = true →
    op = w.cmd.field 0 1 →
    (∀ l, puts l = l.foldl (fun x e => x.put { word := e.1, width := 0, value := e.2 }) s.dev.sinter) →
    ∃ t, exec .untimedCommandEffect s = .next t ∧ t.dev.svc = s.dev.svc ∧ t.mem = s.mem ∧
      ((op = 0 ∨ 3 < op) → t.dev.sinter = s.dev.sinter ∧ s.raisesNone t) ∧
      (op = 1 → ∃ (a b : Nat) (v : List Byte), a < 2 ^ 64 ∧ b < 2 ^ 64 ∧
        v = ({ s.dev with sinter := puts [(130, a), (131, b)] } : Dev).verifier
          (sliceAt w.cmd.payload 8 (clamp 8 64 (w.cmd.field 1 1))) ∧
        t.dev.sinter = puts [(130, a), (131, b), (132, fieldAt v 0 8), (133, fieldAt v 8 8), (134, fieldAt v 16 8),
          (135, fieldAt v 24 8), (128, 0x4C4B)]) ∧
      (op = 2 → t.dev.sinter = puts [(128, 0x4C4B)] ∧
        (s.dev.lockSet = false → s.dev.eventOf 0x0F05 0 (leBytes 1 1) ∈ t.dev.log.arising) ∧
        (s.dev.lockSet = true → s.raisesNone t)) ∧
      (op = 3 → t.dev.sinter = puts [(130, unset), (131, unset), (132, unset), (133, unset), (134, unset), (135, unset),
        (128, 0)])) ∧
  (∀ s : State, s.live = true →
    (s.dev.svc.lock.nonce.isSome = true → s.dev.svc.lock.nonceMfn + 201_600 ≤ s.dev.mfn → exec .nonceExpiry s =
      .next { s with dev := { s.dev with svc := { s.dev.svc with lock := { s.dev.svc.lock with nonce := none } } } }) ∧
    (∀ e, s.dev.svc.lock.backoffEnd = some e → e ≤ s.dev.mfn → exec .lockBackoffEnd s =
      .next { s with dev := { s.dev with svc := { s.dev.svc with lock := { s.dev.svc.lock with backoffEnd := none } } } }) ∧
    (∀ e, s.dev.svc.lock.session = some e → e ≤ s.dev.mfn → ∃ t, exec .lockSessionExpiry s = .next t ∧
      t.dev.svc.lock = { s.dev.svc.lock with session := none } ∧ s.raisesOne t 0x0F03 0 (leBytes 1 0x81) ∧
      t.dev.sinter = s.dev.sinter ∧ t.mem = s.mem ∧ t.bar1 = s.bar1)) ∧
  (∀ (s : State) (core : Nat) (c : Cmd), s.handedOver = true → s.dev.pwr.mode = .running → s.dev.pwr.fwState = 2 →
    s.dev.coreFree core = true → bestOf s.dev.host.queue = some c → 0x0F20 ≤ c.opcode → c.opcode ≤ 0x0F2F →
    (((s.dev.unqueue c).precheck c).isNone = true → exec (.vendorDiagnostic core) s = .refused .vendorDiagnostic) ∧
    (c.mb = 0 → s.dev.locked = true → (∀ q ∈ s.dev.host.queue.erase c, ¬(q.mb = c.mb ∧ q.seq = c.seq)) →
      (∀ w ∈ s.dev.host.waiting, ¬(w.cmd.mb = c.mb ∧ w.cmd.seq = c.seq)) →
      ∃ t, exec (.vendorDiagnostic core) s = .next t ∧ s.answers t c stLocked [] ∧
        s.dev.eventOf 0x0001 (objMailbox c.mb) (leBytes 1 c.mb ++ leBytes 2 c.opcode ++ leBytes 1 stLocked) ∈
          t.dev.log.arising))

/-- R353: while the lock state is LOCKED and no session is open, a vendor diagnostic and LOCK_PASSWORD_SET are answered
LOCKED at step 4 of R342, before the role and the object are looked at, with no effect; the lock refuses no other opcode, and
none while it is open or a session runs. Completes: lockPasswordSet, vendorDiagnostic. -/
def Obligations.field_lock_refuses_diagnostics_and_password_set : Prop :=
  (∀ (s : State) (core : Nat) (c : Cmd), s.live = true → s.dev.pwr.fwState = 2 → s.dev.coreFree core = true →
    bestOf s.dev.host.queue = some c → (∀ q ∈ s.dev.host.queue.erase c, ¬(q.mb = c.mb ∧ q.seq = c.seq)) →
    (∀ w ∈ s.dev.host.waiting, ¬(w.cmd.mb = c.mb ∧ w.cmd.seq = c.seq)) → c.mb = 0 →
    s.dev.lockSet = true → s.dev.svc.lock.session = none →
    (0x0F20 ≤ c.opcode → c.opcode ≤ 0x0F2F → ∃ t, exec (.vendorDiagnostic core) s = .next t ∧ s.answers t c stLocked [] ∧
      t.dev = { s.dev with host := t.dev.host, log := t.dev.log }) ∧
    (c.opcode = 0x0F14 → ∃ t, exec (.lockPasswordSet core) s = .next t ∧ s.answers t c stLocked [] ∧
      t.dev = { s.dev with host := t.dev.host, log := t.dev.log })) ∧
  (∀ (d : Dev) (c : Cmd) (pl : List Byte), c.opcode ≠ 0x0F14 → ¬(0x0F20 ≤ c.opcode ∧ c.opcode ≤ 0x0F2F) →
    d.precheck c ≠ some (stLocked, pl)) ∧
  (∀ (d : Dev) (c : Cmd) (pl : List Byte), (d.lockSet = false ∨ d.svc.lock.session.isSome = true) →
    d.precheck c ≠ some (stLocked, pl))
end

