-- ==== Sys2Proof/Laws/Tab.lean ====
section
/-! SUPPORT. Sparse tables: a read after a write, and what every other index keeps. -/

namespace Sys2Proof.Machine

open Sys2Proof

theorem Tab.get_set_self {α : Type} (d : α) (t : Tab α) (k : Nat) (a : α) : Tab.get d (Tab.set t k a) k = a := by
  induction t with
  | nil => simp [Tab.set, Tab.get]
  | cons p t ih =>
    obtain ⟨j, b⟩ := p
    by_cases h : j = k
    · simp [Tab.set, Tab.get, h]
    · by_cases g : k < j
      · simp [Tab.set, Tab.get, h, g]
      · simp [Tab.set, Tab.get, h, g, ih]

theorem Tab.get_set_of_ne {α : Type} (d : α) (t : Tab α) (k l : Nat) (a : α) (h : l ≠ k) :
    Tab.get d (Tab.set t k a) l = Tab.get d t l := by
  induction t with
  | nil => simp [Tab.set, Tab.get, Ne.symm h]
  | cons p t ih =>
    obtain ⟨j, b⟩ := p
    by_cases e : j = k
    · subst e; simp [Tab.set, Tab.get, Ne.symm h]
    · by_cases g : k < j
      · simp [Tab.set, Tab.get, e, g, Ne.symm h]
      · by_cases m : j = l
        · subst m; simp [Tab.set, Tab.get, e, g]
        · simp [Tab.set, Tab.get, e, g, m, ih]

theorem Tab.get_set {α : Type} (d : α) (t : Tab α) (k l : Nat) (a : α) :
    Tab.get d (Tab.set t k a) l = if l = k then a else Tab.get d t l := by
  by_cases h : l = k
  · subst h; simp [Tab.get_set_self]
  · simp [h, Tab.get_set_of_ne d t k l a h]

end Sys2Proof.Machine
end

