-- ==== Sys2Proof/Laws/Memory.lean ====
section
/-! SUPPORT. Byte memory: every operation keeps the canonical form, a byte read after a write is the byte written, and
every other address reads as before. -/

namespace Sys2Proof.Machine

open Sys2Proof

/-! ### The canonical form -/

theorem Memory.wfFrom_mono (m : Memory) (lo lo' : Nat) (h : lo' ≤ lo) (w : Memory.wfFrom lo m = true) :
    Memory.wfFrom lo' m = true := by
  cases m with
  | nil => rfl
  | cons p t =>
    obtain ⟨a, b⟩ := p
    simp only [Memory.wfFrom, Bool.and_eq_true, decide_eq_true_eq] at w ⊢
    exact ⟨⟨by omega, w.1.2⟩, w.2⟩

theorem Memory.write_wfFrom (m : Memory) (lo a : Nat) (b : Byte) (w : Memory.wfFrom lo m = true) (h : lo ≤ a) :
    Memory.wfFrom lo (Memory.write m a b) = true := by
  induction m generalizing lo with
  | nil => by_cases z : b = 0#8 <;> simp [Memory.write, z, Memory.wfFrom, h]
  | cons p t ih =>
    obtain ⟨j, c⟩ := p
    simp [Memory.wfFrom] at w
    obtain ⟨⟨hj, hc⟩, ht⟩ := w
    by_cases e : j = a
    · subst e
      by_cases z : b = 0#8
      · simpa [Memory.write, z] using Memory.wfFrom_mono t _ _ (by omega) ht
      · simp [Memory.write, z, Memory.wfFrom, h, ht]
    · by_cases g : a < j
      · have k : a + 1 ≤ j := g
        by_cases z : b = 0#8 <;> simp [Memory.write, e, g, z, Memory.wfFrom, h, hj, hc, ht, k]
      · simp [Memory.write, e, g, Memory.wfFrom, hj, hc, ih (j + 1) ht (by omega)]

/-- A write keeps the canonical form. -/
theorem Memory.write_wf (m : Memory) (a : Nat) (b : Byte) (w : m.wf = true) : (Memory.write m a b).wf = true :=
  Memory.write_wfFrom m 0 a b w (Nat.zero_le _)

theorem Memory.writeBytes_wf (l : List Byte) (m : Memory) (a : Nat) (w : m.wf = true) :
    (Memory.writeBytes m a l).wf = true := by
  induction l generalizing m a with
  | nil => exact w
  | cons b t ih => exact ih _ _ (Memory.write_wf m a b w)

theorem Memory.puts_wf (l : List (Nat × List Byte)) (m : Memory) (w : m.wf = true) : (Memory.puts m l).wf = true := by
  unfold Memory.puts
  induction l generalizing m with
  | nil => exact w
  | cons p t ih => exact ih _ (Memory.writeBytes_wf p.2 m p.1 w)

/-! ### Reads after writes -/

theorem Memory.wfFrom_get (m : Memory) (lo a : Nat) (w : Memory.wfFrom lo m = true) (h : a < lo) :
    Tab.get (0#8) m a = 0#8 := by
  induction m generalizing lo with
  | nil => rfl
  | cons p t ih =>
    obtain ⟨j, c⟩ := p
    simp [Memory.wfFrom] at w
    have n : j ≠ a := by omega
    simpa [Tab.get, n] using ih (j + 1) w.2 (by omega)

theorem Memory.read_write_from (m : Memory) (lo a x : Nat) (b : Byte) (w : Memory.wfFrom lo m = true) :
    Tab.get (0#8) (Memory.write m a b) x = if x = a then b else Tab.get (0#8) m x := by
  induction m generalizing lo with
  | nil =>
    by_cases z : b = 0#8 <;> by_cases e : a = x
    · simp [Memory.write, Tab.get, z]
    · simp [Memory.write, Tab.get, z]
    · simp [Memory.write, Tab.get, z, e]
    · simp [Memory.write, Tab.get, z, e, Ne.symm e]
  | cons p t ih =>
    obtain ⟨j, c⟩ := p
    simp [Memory.wfFrom] at w
    obtain ⟨⟨_, hc⟩, ht⟩ := w
    by_cases e : j = a
    · subst e
      by_cases g : x = j
      · subst g
        by_cases z : b = 0#8 <;> simp [Memory.write, Tab.get, z, Memory.wfFrom_get t (x + 1) x ht (by omega)]
      · by_cases z : b = 0#8 <;> simp [Memory.write, Tab.get, z, g, Ne.symm g]
    · by_cases g : a < j
      · by_cases k : x = a
        · subst k
          by_cases z : b = 0#8 <;> simp [Memory.write, Tab.get, e, g, z, Memory.wfFrom_get t (j + 1) x ht (by omega)]
        · by_cases z : b = 0#8 <;> simp [Memory.write, Tab.get, e, g, z, k, Ne.symm k]
      · by_cases k : j = x
        · subst k; simp [Memory.write, Tab.get, e, g]
        · simp [Memory.write, Tab.get, e, g, k, ih (j + 1) ht]

/-- A byte reads as written, and every other address as before. -/
theorem Memory.read_write (m : Memory) (a x : Nat) (b : Byte) (w : m.wf = true) :
    (Memory.write m a b).read x = if x = a then b else m.read x :=
  Memory.read_write_from m 0 a x b w

/-- Bytes written at consecutive addresses leave every address outside them as it was. -/
theorem Memory.read_writeBytes_outside (l : List Byte) (m : Memory) (a x : Nat) (w : m.wf = true)
    (h : x < a ∨ a + l.length ≤ x) : (Memory.writeBytes m a l).read x = m.read x := by
  induction l generalizing m a with
  | nil => rfl
  | cons b t ih =>
    simp only [List.length_cons] at h
    simp only [Memory.writeBytes]
    rw [ih _ _ (Memory.write_wf m a b w) (by omega), Memory.read_write m a x b w]
    have : x ≠ a := by omega
    simp [this]

/-- Bytes written at consecutive addresses read back. -/
theorem Memory.read_writeBytes_inside (l : List Byte) (m : Memory) (a i : Nat) (w : m.wf = true) (h : i < l.length) :
    (Memory.writeBytes m a l).read (a + i) = l.getD i 0 := by
  induction l generalizing m a i with
  | nil => simp at h
  | cons b t ih =>
    simp only [Memory.writeBytes]
    cases i with
    | zero =>
      rw [Memory.read_writeBytes_outside t _ (a + 1) (a + 0) (Memory.write_wf m a b w) (by omega), Memory.read_write m a _ b w]
      simp
    | succ i =>
      have e : a + (i + 1) = (a + 1) + i := by omega
      rw [e, ih _ _ i (Memory.write_wf m a b w) (by simpa using h)]
      simp

end Sys2Proof.Machine
end

