-- ==== Sys2Proof/Laws/State.lean ====
section
/-! SUPPORT. One lemma per field per update of the device, true by unfolding, and the look-ups of an updated table. -/

namespace Sys2Proof.Machine

open Sys2Proof

/-! ### Dev.setPort -/

@[simp] theorem Dev.setPort_fc (d : Dev) (p : Nat) (x : LinePort) : (d.setPort p x).fc = d.fc := rfl
@[simp] theorem Dev.setPort_anchor (d : Dev) (p : Nat) (x : LinePort) : (d.setPort p x).anchor = d.anchor := rfl
@[simp] theorem Dev.setPort_pps (d : Dev) (p : Nat) (x : LinePort) : (d.setPort p x).pps = d.pps := rfl
@[simp] theorem Dev.setPort_sched (d : Dev) (p : Nat) (x : LinePort) : (d.setPort p x).sched = d.sched := rfl
@[simp] theorem Dev.setPort_lanes (d : Dev) (p : Nat) (x : LinePort) : (d.setPort p x).lanes = d.lanes := rfl
@[simp] theorem Dev.setPort_clientLanesUp (d : Dev) (p : Nat) (x : LinePort) : (d.setPort p x).clientLanesUp = d.clientLanesUp := rfl
@[simp] theorem Dev.setPort_odu (d : Dev) (p : Nat) (x : LinePort) : (d.setPort p x).odu = d.odu := rfl
@[simp] theorem Dev.setPort_chans (d : Dev) (p : Nat) (x : LinePort) : (d.setPort p x).chans = d.chans := rfl
@[simp] theorem Dev.setPort_clients (d : Dev) (p : Nat) (x : LinePort) : (d.setPort p x).clients = d.clients := rfl
@[simp] theorem Dev.setPort_cald (d : Dev) (p : Nat) (x : LinePort) : (d.setPort p x).cald = d.cald := rfl
@[simp] theorem Dev.setPort_groups (d : Dev) (p : Nat) (x : LinePort) : (d.setPort p x).groups = d.groups := rfl
@[simp] theorem Dev.setPort_layers (d : Dev) (p : Nat) (x : LinePort) : (d.setPort p x).layers = d.layers := rfl
@[simp] theorem Dev.setPort_pms (d : Dev) (p : Nat) (x : LinePort) : (d.setPort p x).pms = d.pms := rfl
@[simp] theorem Dev.setPort_pmDev (d : Dev) (p : Nat) (x : LinePort) : (d.setPort p x).pmDev = d.pmDev := rfl
@[simp] theorem Dev.setPort_pgs (d : Dev) (p : Nat) (x : LinePort) : (d.setPort p x).pgs = d.pgs := rfl
@[simp] theorem Dev.setPort_tokens (d : Dev) (p : Nat) (x : LinePort) : (d.setPort p x).tokens = d.tokens := rfl
@[simp] theorem Dev.setPort_acts (d : Dev) (p : Nat) (x : LinePort) : (d.setPort p x).acts = d.acts := rfl
@[simp] theorem Dev.setPort_evalFc (d : Dev) (p : Nat) (x : LinePort) : (d.setPort p x).evalFc = d.evalFc := rfl
@[simp] theorem Dev.setPort_ahead (d : Dev) (p : Nat) (x : LinePort) : (d.setPort p x).ahead = d.ahead := rfl
@[simp] theorem Dev.setPort_pair (d : Dev) (p : Nat) (x : LinePort) : (d.setPort p x).pair = d.pair := rfl
@[simp] theorem Dev.setPort_fumPorts (d : Dev) (p : Nat) (x : LinePort) : (d.setPort p x).fumPorts = d.fumPorts := rfl
@[simp] theorem Dev.setPort_fumSources (d : Dev) (p : Nat) (x : LinePort) : (d.setPort p x).fumSources = d.fumSources := rfl
@[simp] theorem Dev.setPort_crc16 (d : Dev) (p : Nat) (x : LinePort) : (d.setPort p x).crc16 = d.crc16 := rfl
@[simp] theorem Dev.setPort_crc32 (d : Dev) (p : Nat) (x : LinePort) : (d.setPort p x).crc32 = d.crc32 := rfl
@[simp] theorem Dev.setPort_crc32c (d : Dev) (p : Nat) (x : LinePort) : (d.setPort p x).crc32c = d.crc32c := rfl
@[simp] theorem Dev.setPort_host (d : Dev) (p : Nat) (x : LinePort) : (d.setPort p x).host = d.host := rfl
@[simp] theorem Dev.setPort_sinter (d : Dev) (p : Nat) (x : LinePort) : (d.setPort p x).sinter = d.sinter := rfl
@[simp] theorem Dev.setPort_cnt (d : Dev) (p : Nat) (x : LinePort) : (d.setPort p x).cnt = d.cnt := rfl
@[simp] theorem Dev.setPort_log (d : Dev) (p : Nat) (x : LinePort) : (d.setPort p x).log = d.log := rfl
@[simp] theorem Dev.setPort_pwr (d : Dev) (p : Nat) (x : LinePort) : (d.setPort p x).pwr = d.pwr := rfl
@[simp] theorem Dev.setPort_svc (d : Dev) (p : Nat) (x : LinePort) : (d.setPort p x).svc = d.svc := rfl
@[simp] theorem Dev.setPort_path (d : Dev) (p : Nat) (x : LinePort) : (d.setPort p x).path = d.path := rfl
@[simp] theorem Dev.setPort_free (d : Dev) (p : Nat) (x : LinePort) : (d.setPort p x).free = d.free := rfl

@[simp] theorem Dev.setPort_port (d : Dev) (p i : Nat) (x : LinePort) :
    (d.setPort p x).port i = if i = p then x else d.port i := by
  simp [Dev.setPort, Dev.port, Tab.get_set]

/-! ### Dev.setChan -/

@[simp] theorem Dev.setChan_fc (d : Dev) (c : Nat) (x : Channel) : (d.setChan c x).fc = d.fc := rfl
@[simp] theorem Dev.setChan_anchor (d : Dev) (c : Nat) (x : Channel) : (d.setChan c x).anchor = d.anchor := rfl
@[simp] theorem Dev.setChan_pps (d : Dev) (c : Nat) (x : Channel) : (d.setChan c x).pps = d.pps := rfl
@[simp] theorem Dev.setChan_sched (d : Dev) (c : Nat) (x : Channel) : (d.setChan c x).sched = d.sched := rfl
@[simp] theorem Dev.setChan_ports (d : Dev) (c : Nat) (x : Channel) : (d.setChan c x).ports = d.ports := rfl
@[simp] theorem Dev.setChan_lanes (d : Dev) (c : Nat) (x : Channel) : (d.setChan c x).lanes = d.lanes := rfl
@[simp] theorem Dev.setChan_clientLanesUp (d : Dev) (c : Nat) (x : Channel) : (d.setChan c x).clientLanesUp = d.clientLanesUp := rfl
@[simp] theorem Dev.setChan_odu (d : Dev) (c : Nat) (x : Channel) : (d.setChan c x).odu = d.odu := rfl
@[simp] theorem Dev.setChan_clients (d : Dev) (c : Nat) (x : Channel) : (d.setChan c x).clients = d.clients := rfl
@[simp] theorem Dev.setChan_cald (d : Dev) (c : Nat) (x : Channel) : (d.setChan c x).cald = d.cald := rfl
@[simp] theorem Dev.setChan_groups (d : Dev) (c : Nat) (x : Channel) : (d.setChan c x).groups = d.groups := rfl
@[simp] theorem Dev.setChan_layers (d : Dev) (c : Nat) (x : Channel) : (d.setChan c x).layers = d.layers := rfl
@[simp] theorem Dev.setChan_pms (d : Dev) (c : Nat) (x : Channel) : (d.setChan c x).pms = d.pms := rfl
@[simp] theorem Dev.setChan_pmDev (d : Dev) (c : Nat) (x : Channel) : (d.setChan c x).pmDev = d.pmDev := rfl
@[simp] theorem Dev.setChan_pgs (d : Dev) (c : Nat) (x : Channel) : (d.setChan c x).pgs = d.pgs := rfl
@[simp] theorem Dev.setChan_tokens (d : Dev) (c : Nat) (x : Channel) : (d.setChan c x).tokens = d.tokens := rfl
@[simp] theorem Dev.setChan_acts (d : Dev) (c : Nat) (x : Channel) : (d.setChan c x).acts = d.acts := rfl
@[simp] theorem Dev.setChan_evalFc (d : Dev) (c : Nat) (x : Channel) : (d.setChan c x).evalFc = d.evalFc := rfl
@[simp] theorem Dev.setChan_ahead (d : Dev) (c : Nat) (x : Channel) : (d.setChan c x).ahead = d.ahead := rfl
@[simp] theorem Dev.setChan_pair (d : Dev) (c : Nat) (x : Channel) : (d.setChan c x).pair = d.pair := rfl
@[simp] theorem Dev.setChan_fumPorts (d : Dev) (c : Nat) (x : Channel) : (d.setChan c x).fumPorts = d.fumPorts := rfl
@[simp] theorem Dev.setChan_fumSources (d : Dev) (c : Nat) (x : Channel) : (d.setChan c x).fumSources = d.fumSources := rfl
@[simp] theorem Dev.setChan_crc16 (d : Dev) (c : Nat) (x : Channel) : (d.setChan c x).crc16 = d.crc16 := rfl
@[simp] theorem Dev.setChan_crc32 (d : Dev) (c : Nat) (x : Channel) : (d.setChan c x).crc32 = d.crc32 := rfl
@[simp] theorem Dev.setChan_crc32c (d : Dev) (c : Nat) (x : Channel) : (d.setChan c x).crc32c = d.crc32c := rfl
@[simp] theorem Dev.setChan_host (d : Dev) (c : Nat) (x : Channel) : (d.setChan c x).host = d.host := rfl
@[simp] theorem Dev.setChan_sinter (d : Dev) (c : Nat) (x : Channel) : (d.setChan c x).sinter = d.sinter := rfl
@[simp] theorem Dev.setChan_cnt (d : Dev) (c : Nat) (x : Channel) : (d.setChan c x).cnt = d.cnt := rfl
@[simp] theorem Dev.setChan_log (d : Dev) (c : Nat) (x : Channel) : (d.setChan c x).log = d.log := rfl
@[simp] theorem Dev.setChan_pwr (d : Dev) (c : Nat) (x : Channel) : (d.setChan c x).pwr = d.pwr := rfl
@[simp] theorem Dev.setChan_svc (d : Dev) (c : Nat) (x : Channel) : (d.setChan c x).svc = d.svc := rfl
@[simp] theorem Dev.setChan_path (d : Dev) (c : Nat) (x : Channel) : (d.setChan c x).path = d.path := rfl
@[simp] theorem Dev.setChan_free (d : Dev) (c : Nat) (x : Channel) : (d.setChan c x).free = d.free := rfl

@[simp] theorem Dev.setChan_chan (d : Dev) (c i : Nat) (x : Channel) :
    (d.setChan c x).chan i = if i = c then x else d.chan i := by
  simp [Dev.setChan, Dev.chan, Tab.get_set]

/-! ### Dev.setClient -/

@[simp] theorem Dev.setClient_fc (d : Dev) (k : Nat) (x : ClientPort) : (d.setClient k x).fc = d.fc := rfl
@[simp] theorem Dev.setClient_anchor (d : Dev) (k : Nat) (x : ClientPort) : (d.setClient k x).anchor = d.anchor := rfl
@[simp] theorem Dev.setClient_pps (d : Dev) (k : Nat) (x : ClientPort) : (d.setClient k x).pps = d.pps := rfl
@[simp] theorem Dev.setClient_sched (d : Dev) (k : Nat) (x : ClientPort) : (d.setClient k x).sched = d.sched := rfl
@[simp] theorem Dev.setClient_ports (d : Dev) (k : Nat) (x : ClientPort) : (d.setClient k x).ports = d.ports := rfl
@[simp] theorem Dev.setClient_lanes (d : Dev) (k : Nat) (x : ClientPort) : (d.setClient k x).lanes = d.lanes := rfl
@[simp] theorem Dev.setClient_clientLanesUp (d : Dev) (k : Nat) (x : ClientPort) : (d.setClient k x).clientLanesUp = d.clientLanesUp := rfl
@[simp] theorem Dev.setClient_odu (d : Dev) (k : Nat) (x : ClientPort) : (d.setClient k x).odu = d.odu := rfl
@[simp] theorem Dev.setClient_chans (d : Dev) (k : Nat) (x : ClientPort) : (d.setClient k x).chans = d.chans := rfl
@[simp] theorem Dev.setClient_cald (d : Dev) (k : Nat) (x : ClientPort) : (d.setClient k x).cald = d.cald := rfl
@[simp] theorem Dev.setClient_groups (d : Dev) (k : Nat) (x : ClientPort) : (d.setClient k x).groups = d.groups := rfl
@[simp] theorem Dev.setClient_layers (d : Dev) (k : Nat) (x : ClientPort) : (d.setClient k x).layers = d.layers := rfl
@[simp] theorem Dev.setClient_pms (d : Dev) (k : Nat) (x : ClientPort) : (d.setClient k x).pms = d.pms := rfl
@[simp] theorem Dev.setClient_pmDev (d : Dev) (k : Nat) (x : ClientPort) : (d.setClient k x).pmDev = d.pmDev := rfl
@[simp] theorem Dev.setClient_pgs (d : Dev) (k : Nat) (x : ClientPort) : (d.setClient k x).pgs = d.pgs := rfl
@[simp] theorem Dev.setClient_tokens (d : Dev) (k : Nat) (x : ClientPort) : (d.setClient k x).tokens = d.tokens := rfl
@[simp] theorem Dev.setClient_acts (d : Dev) (k : Nat) (x : ClientPort) : (d.setClient k x).acts = d.acts := rfl
@[simp] theorem Dev.setClient_evalFc (d : Dev) (k : Nat) (x : ClientPort) : (d.setClient k x).evalFc = d.evalFc := rfl
@[simp] theorem Dev.setClient_ahead (d : Dev) (k : Nat) (x : ClientPort) : (d.setClient k x).ahead = d.ahead := rfl
@[simp] theorem Dev.setClient_pair (d : Dev) (k : Nat) (x : ClientPort) : (d.setClient k x).pair = d.pair := rfl
@[simp] theorem Dev.setClient_fumPorts (d : Dev) (k : Nat) (x : ClientPort) : (d.setClient k x).fumPorts = d.fumPorts := rfl
@[simp] theorem Dev.setClient_fumSources (d : Dev) (k : Nat) (x : ClientPort) : (d.setClient k x).fumSources = d.fumSources := rfl
@[simp] theorem Dev.setClient_crc16 (d : Dev) (k : Nat) (x : ClientPort) : (d.setClient k x).crc16 = d.crc16 := rfl
@[simp] theorem Dev.setClient_crc32 (d : Dev) (k : Nat) (x : ClientPort) : (d.setClient k x).crc32 = d.crc32 := rfl
@[simp] theorem Dev.setClient_crc32c (d : Dev) (k : Nat) (x : ClientPort) : (d.setClient k x).crc32c = d.crc32c := rfl
@[simp] theorem Dev.setClient_host (d : Dev) (k : Nat) (x : ClientPort) : (d.setClient k x).host = d.host := rfl
@[simp] theorem Dev.setClient_sinter (d : Dev) (k : Nat) (x : ClientPort) : (d.setClient k x).sinter = d.sinter := rfl
@[simp] theorem Dev.setClient_cnt (d : Dev) (k : Nat) (x : ClientPort) : (d.setClient k x).cnt = d.cnt := rfl
@[simp] theorem Dev.setClient_log (d : Dev) (k : Nat) (x : ClientPort) : (d.setClient k x).log = d.log := rfl
@[simp] theorem Dev.setClient_pwr (d : Dev) (k : Nat) (x : ClientPort) : (d.setClient k x).pwr = d.pwr := rfl
@[simp] theorem Dev.setClient_svc (d : Dev) (k : Nat) (x : ClientPort) : (d.setClient k x).svc = d.svc := rfl
@[simp] theorem Dev.setClient_path (d : Dev) (k : Nat) (x : ClientPort) : (d.setClient k x).path = d.path := rfl
@[simp] theorem Dev.setClient_free (d : Dev) (k : Nat) (x : ClientPort) : (d.setClient k x).free = d.free := rfl

@[simp] theorem Dev.setClient_client (d : Dev) (k i : Nat) (x : ClientPort) :
    (d.setClient k x).client i = if i = k then x else d.client i := by
  simp [Dev.setClient, Dev.client, Tab.get_set]

/-! ### Dev.setLane -/

@[simp] theorem Dev.setLane_fc (d : Dev) (l : Nat) (x : LaneAttr) : (d.setLane l x).fc = d.fc := rfl
@[simp] theorem Dev.setLane_anchor (d : Dev) (l : Nat) (x : LaneAttr) : (d.setLane l x).anchor = d.anchor := rfl
@[simp] theorem Dev.setLane_pps (d : Dev) (l : Nat) (x : LaneAttr) : (d.setLane l x).pps = d.pps := rfl
@[simp] theorem Dev.setLane_sched (d : Dev) (l : Nat) (x : LaneAttr) : (d.setLane l x).sched = d.sched := rfl
@[simp] theorem Dev.setLane_ports (d : Dev) (l : Nat) (x : LaneAttr) : (d.setLane l x).ports = d.ports := rfl
@[simp] theorem Dev.setLane_clientLanesUp (d : Dev) (l : Nat) (x : LaneAttr) : (d.setLane l x).clientLanesUp = d.clientLanesUp := rfl
@[simp] theorem Dev.setLane_odu (d : Dev) (l : Nat) (x : LaneAttr) : (d.setLane l x).odu = d.odu := rfl
@[simp] theorem Dev.setLane_chans (d : Dev) (l : Nat) (x : LaneAttr) : (d.setLane l x).chans = d.chans := rfl
@[simp] theorem Dev.setLane_clients (d : Dev) (l : Nat) (x : LaneAttr) : (d.setLane l x).clients = d.clients := rfl
@[simp] theorem Dev.setLane_cald (d : Dev) (l : Nat) (x : LaneAttr) : (d.setLane l x).cald = d.cald := rfl
@[simp] theorem Dev.setLane_groups (d : Dev) (l : Nat) (x : LaneAttr) : (d.setLane l x).groups = d.groups := rfl
@[simp] theorem Dev.setLane_layers (d : Dev) (l : Nat) (x : LaneAttr) : (d.setLane l x).layers = d.layers := rfl
@[simp] theorem Dev.setLane_pms (d : Dev) (l : Nat) (x : LaneAttr) : (d.setLane l x).pms = d.pms := rfl
@[simp] theorem Dev.setLane_pmDev (d : Dev) (l : Nat) (x : LaneAttr) : (d.setLane l x).pmDev = d.pmDev := rfl
@[simp] theorem Dev.setLane_pgs (d : Dev) (l : Nat) (x : LaneAttr) : (d.setLane l x).pgs = d.pgs := rfl
@[simp] theorem Dev.setLane_tokens (d : Dev) (l : Nat) (x : LaneAttr) : (d.setLane l x).tokens = d.tokens := rfl
@[simp] theorem Dev.setLane_acts (d : Dev) (l : Nat) (x : LaneAttr) : (d.setLane l x).acts = d.acts := rfl
@[simp] theorem Dev.setLane_evalFc (d : Dev) (l : Nat) (x : LaneAttr) : (d.setLane l x).evalFc = d.evalFc := rfl
@[simp] theorem Dev.setLane_ahead (d : Dev) (l : Nat) (x : LaneAttr) : (d.setLane l x).ahead = d.ahead := rfl
@[simp] theorem Dev.setLane_pair (d : Dev) (l : Nat) (x : LaneAttr) : (d.setLane l x).pair = d.pair := rfl
@[simp] theorem Dev.setLane_fumPorts (d : Dev) (l : Nat) (x : LaneAttr) : (d.setLane l x).fumPorts = d.fumPorts := rfl
@[simp] theorem Dev.setLane_fumSources (d : Dev) (l : Nat) (x : LaneAttr) : (d.setLane l x).fumSources = d.fumSources := rfl
@[simp] theorem Dev.setLane_crc16 (d : Dev) (l : Nat) (x : LaneAttr) : (d.setLane l x).crc16 = d.crc16 := rfl
@[simp] theorem Dev.setLane_crc32 (d : Dev) (l : Nat) (x : LaneAttr) : (d.setLane l x).crc32 = d.crc32 := rfl
@[simp] theorem Dev.setLane_crc32c (d : Dev) (l : Nat) (x : LaneAttr) : (d.setLane l x).crc32c = d.crc32c := rfl
@[simp] theorem Dev.setLane_host (d : Dev) (l : Nat) (x : LaneAttr) : (d.setLane l x).host = d.host := rfl
@[simp] theorem Dev.setLane_sinter (d : Dev) (l : Nat) (x : LaneAttr) : (d.setLane l x).sinter = d.sinter := rfl
@[simp] theorem Dev.setLane_cnt (d : Dev) (l : Nat) (x : LaneAttr) : (d.setLane l x).cnt = d.cnt := rfl
@[simp] theorem Dev.setLane_log (d : Dev) (l : Nat) (x : LaneAttr) : (d.setLane l x).log = d.log := rfl
@[simp] theorem Dev.setLane_pwr (d : Dev) (l : Nat) (x : LaneAttr) : (d.setLane l x).pwr = d.pwr := rfl
@[simp] theorem Dev.setLane_svc (d : Dev) (l : Nat) (x : LaneAttr) : (d.setLane l x).svc = d.svc := rfl
@[simp] theorem Dev.setLane_path (d : Dev) (l : Nat) (x : LaneAttr) : (d.setLane l x).path = d.path := rfl
@[simp] theorem Dev.setLane_free (d : Dev) (l : Nat) (x : LaneAttr) : (d.setLane l x).free = d.free := rfl

@[simp] theorem Dev.setLane_lane (d : Dev) (l i : Nat) (x : LaneAttr) :
    (d.setLane l x).lane i = if i = l then x else d.lane i := by
  simp [Dev.setLane, Dev.lane, Tab.get_set]

/-! ### Dev.setGroup -/

@[simp] theorem Dev.setGroup_fc (d : Dev) (g : Nat) (x : Spread) : (d.setGroup g x).fc = d.fc := rfl
@[simp] theorem Dev.setGroup_anchor (d : Dev) (g : Nat) (x : Spread) : (d.setGroup g x).anchor = d.anchor := rfl
@[simp] theorem Dev.setGroup_pps (d : Dev) (g : Nat) (x : Spread) : (d.setGroup g x).pps = d.pps := rfl
@[simp] theorem Dev.setGroup_sched (d : Dev) (g : Nat) (x : Spread) : (d.setGroup g x).sched = d.sched := rfl
@[simp] theorem Dev.setGroup_ports (d : Dev) (g : Nat) (x : Spread) : (d.setGroup g x).ports = d.ports := rfl
@[simp] theorem Dev.setGroup_lanes (d : Dev) (g : Nat) (x : Spread) : (d.setGroup g x).lanes = d.lanes := rfl
@[simp] theorem Dev.setGroup_clientLanesUp (d : Dev) (g : Nat) (x : Spread) : (d.setGroup g x).clientLanesUp = d.clientLanesUp := rfl
@[simp] theorem Dev.setGroup_odu (d : Dev) (g : Nat) (x : Spread) : (d.setGroup g x).odu = d.odu := rfl
@[simp] theorem Dev.setGroup_chans (d : Dev) (g : Nat) (x : Spread) : (d.setGroup g x).chans = d.chans := rfl
@[simp] theorem Dev.setGroup_clients (d : Dev) (g : Nat) (x : Spread) : (d.setGroup g x).clients = d.clients := rfl
@[simp] theorem Dev.setGroup_cald (d : Dev) (g : Nat) (x : Spread) : (d.setGroup g x).cald = d.cald := rfl
@[simp] theorem Dev.setGroup_layers (d : Dev) (g : Nat) (x : Spread) : (d.setGroup g x).layers = d.layers := rfl
@[simp] theorem Dev.setGroup_pms (d : Dev) (g : Nat) (x : Spread) : (d.setGroup g x).pms = d.pms := rfl
@[simp] theorem Dev.setGroup_pmDev (d : Dev) (g : Nat) (x : Spread) : (d.setGroup g x).pmDev = d.pmDev := rfl
@[simp] theorem Dev.setGroup_pgs (d : Dev) (g : Nat) (x : Spread) : (d.setGroup g x).pgs = d.pgs := rfl
@[simp] theorem Dev.setGroup_tokens (d : Dev) (g : Nat) (x : Spread) : (d.setGroup g x).tokens = d.tokens := rfl
@[simp] theorem Dev.setGroup_acts (d : Dev) (g : Nat) (x : Spread) : (d.setGroup g x).acts = d.acts := rfl
@[simp] theorem Dev.setGroup_evalFc (d : Dev) (g : Nat) (x : Spread) : (d.setGroup g x).evalFc = d.evalFc := rfl
@[simp] theorem Dev.setGroup_ahead (d : Dev) (g : Nat) (x : Spread) : (d.setGroup g x).ahead = d.ahead := rfl
@[simp] theorem Dev.setGroup_pair (d : Dev) (g : Nat) (x : Spread) : (d.setGroup g x).pair = d.pair := rfl
@[simp] theorem Dev.setGroup_fumPorts (d : Dev) (g : Nat) (x : Spread) : (d.setGroup g x).fumPorts = d.fumPorts := rfl
@[simp] theorem Dev.setGroup_fumSources (d : Dev) (g : Nat) (x : Spread) : (d.setGroup g x).fumSources = d.fumSources := rfl
@[simp] theorem Dev.setGroup_crc16 (d : Dev) (g : Nat) (x : Spread) : (d.setGroup g x).crc16 = d.crc16 := rfl
@[simp] theorem Dev.setGroup_crc32 (d : Dev) (g : Nat) (x : Spread) : (d.setGroup g x).crc32 = d.crc32 := rfl
@[simp] theorem Dev.setGroup_crc32c (d : Dev) (g : Nat) (x : Spread) : (d.setGroup g x).crc32c = d.crc32c := rfl
@[simp] theorem Dev.setGroup_host (d : Dev) (g : Nat) (x : Spread) : (d.setGroup g x).host = d.host := rfl
@[simp] theorem Dev.setGroup_sinter (d : Dev) (g : Nat) (x : Spread) : (d.setGroup g x).sinter = d.sinter := rfl
@[simp] theorem Dev.setGroup_cnt (d : Dev) (g : Nat) (x : Spread) : (d.setGroup g x).cnt = d.cnt := rfl
@[simp] theorem Dev.setGroup_log (d : Dev) (g : Nat) (x : Spread) : (d.setGroup g x).log = d.log := rfl
@[simp] theorem Dev.setGroup_pwr (d : Dev) (g : Nat) (x : Spread) : (d.setGroup g x).pwr = d.pwr := rfl
@[simp] theorem Dev.setGroup_svc (d : Dev) (g : Nat) (x : Spread) : (d.setGroup g x).svc = d.svc := rfl
@[simp] theorem Dev.setGroup_path (d : Dev) (g : Nat) (x : Spread) : (d.setGroup g x).path = d.path := rfl
@[simp] theorem Dev.setGroup_free (d : Dev) (g : Nat) (x : Spread) : (d.setGroup g x).free = d.free := rfl

@[simp] theorem Dev.setGroup_group (d : Dev) (g i : Nat) (x : Spread) :
    (d.setGroup g x).group i = if i = g then x else d.group i := by
  simp [Dev.setGroup, Dev.group, Tab.get_set]

/-! ### Dev.setPg -/

@[simp] theorem Dev.setPg_fc (d : Dev) (g : Nat) (x : PgState) : (d.setPg g x).fc = d.fc := rfl
@[simp] theorem Dev.setPg_anchor (d : Dev) (g : Nat) (x : PgState) : (d.setPg g x).anchor = d.anchor := rfl
@[simp] theorem Dev.setPg_pps (d : Dev) (g : Nat) (x : PgState) : (d.setPg g x).pps = d.pps := rfl
@[simp] theorem Dev.setPg_sched (d : Dev) (g : Nat) (x : PgState) : (d.setPg g x).sched = d.sched := rfl
@[simp] theorem Dev.setPg_ports (d : Dev) (g : Nat) (x : PgState) : (d.setPg g x).ports = d.ports := rfl
@[simp] theorem Dev.setPg_lanes (d : Dev) (g : Nat) (x : PgState) : (d.setPg g x).lanes = d.lanes := rfl
@[simp] theorem Dev.setPg_clientLanesUp (d : Dev) (g : Nat) (x : PgState) : (d.setPg g x).clientLanesUp = d.clientLanesUp := rfl
@[simp] theorem Dev.setPg_odu (d : Dev) (g : Nat) (x : PgState) : (d.setPg g x).odu = d.odu := rfl
@[simp] theorem Dev.setPg_chans (d : Dev) (g : Nat) (x : PgState) : (d.setPg g x).chans = d.chans := rfl
@[simp] theorem Dev.setPg_clients (d : Dev) (g : Nat) (x : PgState) : (d.setPg g x).clients = d.clients := rfl
@[simp] theorem Dev.setPg_cald (d : Dev) (g : Nat) (x : PgState) : (d.setPg g x).cald = d.cald := rfl
@[simp] theorem Dev.setPg_groups (d : Dev) (g : Nat) (x : PgState) : (d.setPg g x).groups = d.groups := rfl
@[simp] theorem Dev.setPg_layers (d : Dev) (g : Nat) (x : PgState) : (d.setPg g x).layers = d.layers := rfl
@[simp] theorem Dev.setPg_pms (d : Dev) (g : Nat) (x : PgState) : (d.setPg g x).pms = d.pms := rfl
@[simp] theorem Dev.setPg_pmDev (d : Dev) (g : Nat) (x : PgState) : (d.setPg g x).pmDev = d.pmDev := rfl
@[simp] theorem Dev.setPg_tokens (d : Dev) (g : Nat) (x : PgState) : (d.setPg g x).tokens = d.tokens := rfl
@[simp] theorem Dev.setPg_acts (d : Dev) (g : Nat) (x : PgState) : (d.setPg g x).acts = d.acts := rfl
@[simp] theorem Dev.setPg_evalFc (d : Dev) (g : Nat) (x : PgState) : (d.setPg g x).evalFc = d.evalFc := rfl
@[simp] theorem Dev.setPg_ahead (d : Dev) (g : Nat) (x : PgState) : (d.setPg g x).ahead = d.ahead := rfl
@[simp] theorem Dev.setPg_pair (d : Dev) (g : Nat) (x : PgState) : (d.setPg g x).pair = d.pair := rfl
@[simp] theorem Dev.setPg_fumPorts (d : Dev) (g : Nat) (x : PgState) : (d.setPg g x).fumPorts = d.fumPorts := rfl
@[simp] theorem Dev.setPg_fumSources (d : Dev) (g : Nat) (x : PgState) : (d.setPg g x).fumSources = d.fumSources := rfl
@[simp] theorem Dev.setPg_crc16 (d : Dev) (g : Nat) (x : PgState) : (d.setPg g x).crc16 = d.crc16 := rfl
@[simp] theorem Dev.setPg_crc32 (d : Dev) (g : Nat) (x : PgState) : (d.setPg g x).crc32 = d.crc32 := rfl
@[simp] theorem Dev.setPg_crc32c (d : Dev) (g : Nat) (x : PgState) : (d.setPg g x).crc32c = d.crc32c := rfl
@[simp] theorem Dev.setPg_host (d : Dev) (g : Nat) (x : PgState) : (d.setPg g x).host = d.host := rfl
@[simp] theorem Dev.setPg_sinter (d : Dev) (g : Nat) (x : PgState) : (d.setPg g x).sinter = d.sinter := rfl
@[simp] theorem Dev.setPg_cnt (d : Dev) (g : Nat) (x : PgState) : (d.setPg g x).cnt = d.cnt := rfl
@[simp] theorem Dev.setPg_log (d : Dev) (g : Nat) (x : PgState) : (d.setPg g x).log = d.log := rfl
@[simp] theorem Dev.setPg_pwr (d : Dev) (g : Nat) (x : PgState) : (d.setPg g x).pwr = d.pwr := rfl
@[simp] theorem Dev.setPg_svc (d : Dev) (g : Nat) (x : PgState) : (d.setPg g x).svc = d.svc := rfl
@[simp] theorem Dev.setPg_path (d : Dev) (g : Nat) (x : PgState) : (d.setPg g x).path = d.path := rfl
@[simp] theorem Dev.setPg_free (d : Dev) (g : Nat) (x : PgState) : (d.setPg g x).free = d.free := rfl

@[simp] theorem Dev.setPg_pg (d : Dev) (g i : Nat) (x : PgState) :
    (d.setPg g x).pg i = if i = g then x else d.pg i := by
  simp [Dev.setPg, Dev.pg, Tab.get_set]

/-! ### Dev.setOdu -/

@[simp] theorem Dev.setOdu_fc (d : Dev) (o : Nat) (x : OduState) : (d.setOdu o x).fc = d.fc := rfl
@[simp] theorem Dev.setOdu_anchor (d : Dev) (o : Nat) (x : OduState) : (d.setOdu o x).anchor = d.anchor := rfl
@[simp] theorem Dev.setOdu_pps (d : Dev) (o : Nat) (x : OduState) : (d.setOdu o x).pps = d.pps := rfl
@[simp] theorem Dev.setOdu_sched (d : Dev) (o : Nat) (x : OduState) : (d.setOdu o x).sched = d.sched := rfl
@[simp] theorem Dev.setOdu_ports (d : Dev) (o : Nat) (x : OduState) : (d.setOdu o x).ports = d.ports := rfl
@[simp] theorem Dev.setOdu_lanes (d : Dev) (o : Nat) (x : OduState) : (d.setOdu o x).lanes = d.lanes := rfl
@[simp] theorem Dev.setOdu_clientLanesUp (d : Dev) (o : Nat) (x : OduState) : (d.setOdu o x).clientLanesUp = d.clientLanesUp := rfl
@[simp] theorem Dev.setOdu_chans (d : Dev) (o : Nat) (x : OduState) : (d.setOdu o x).chans = d.chans := rfl
@[simp] theorem Dev.setOdu_clients (d : Dev) (o : Nat) (x : OduState) : (d.setOdu o x).clients = d.clients := rfl
@[simp] theorem Dev.setOdu_cald (d : Dev) (o : Nat) (x : OduState) : (d.setOdu o x).cald = d.cald := rfl
@[simp] theorem Dev.setOdu_groups (d : Dev) (o : Nat) (x : OduState) : (d.setOdu o x).groups = d.groups := rfl
@[simp] theorem Dev.setOdu_layers (d : Dev) (o : Nat) (x : OduState) : (d.setOdu o x).layers = d.layers := rfl
@[simp] theorem Dev.setOdu_pms (d : Dev) (o : Nat) (x : OduState) : (d.setOdu o x).pms = d.pms := rfl
@[simp] theorem Dev.setOdu_pmDev (d : Dev) (o : Nat) (x : OduState) : (d.setOdu o x).pmDev = d.pmDev := rfl
@[simp] theorem Dev.setOdu_pgs (d : Dev) (o : Nat) (x : OduState) : (d.setOdu o x).pgs = d.pgs := rfl
@[simp] theorem Dev.setOdu_tokens (d : Dev) (o : Nat) (x : OduState) : (d.setOdu o x).tokens = d.tokens := rfl
@[simp] theorem Dev.setOdu_acts (d : Dev) (o : Nat) (x : OduState) : (d.setOdu o x).acts = d.acts := rfl
@[simp] theorem Dev.setOdu_evalFc (d : Dev) (o : Nat) (x : OduState) : (d.setOdu o x).evalFc = d.evalFc := rfl
@[simp] theorem Dev.setOdu_ahead (d : Dev) (o : Nat) (x : OduState) : (d.setOdu o x).ahead = d.ahead := rfl
@[simp] theorem Dev.setOdu_pair (d : Dev) (o : Nat) (x : OduState) : (d.setOdu o x).pair = d.pair := rfl
@[simp] theorem Dev.setOdu_fumPorts (d : Dev) (o : Nat) (x : OduState) : (d.setOdu o x).fumPorts = d.fumPorts := rfl
@[simp] theorem Dev.setOdu_fumSources (d : Dev) (o : Nat) (x : OduState) : (d.setOdu o x).fumSources = d.fumSources := rfl
@[simp] theorem Dev.setOdu_crc16 (d : Dev) (o : Nat) (x : OduState) : (d.setOdu o x).crc16 = d.crc16 := rfl
@[simp] theorem Dev.setOdu_crc32 (d : Dev) (o : Nat) (x : OduState) : (d.setOdu o x).crc32 = d.crc32 := rfl
@[simp] theorem Dev.setOdu_crc32c (d : Dev) (o : Nat) (x : OduState) : (d.setOdu o x).crc32c = d.crc32c := rfl
@[simp] theorem Dev.setOdu_host (d : Dev) (o : Nat) (x : OduState) : (d.setOdu o x).host = d.host := rfl
@[simp] theorem Dev.setOdu_sinter (d : Dev) (o : Nat) (x : OduState) : (d.setOdu o x).sinter = d.sinter := rfl
@[simp] theorem Dev.setOdu_cnt (d : Dev) (o : Nat) (x : OduState) : (d.setOdu o x).cnt = d.cnt := rfl
@[simp] theorem Dev.setOdu_log (d : Dev) (o : Nat) (x : OduState) : (d.setOdu o x).log = d.log := rfl
@[simp] theorem Dev.setOdu_pwr (d : Dev) (o : Nat) (x : OduState) : (d.setOdu o x).pwr = d.pwr := rfl
@[simp] theorem Dev.setOdu_svc (d : Dev) (o : Nat) (x : OduState) : (d.setOdu o x).svc = d.svc := rfl
@[simp] theorem Dev.setOdu_path (d : Dev) (o : Nat) (x : OduState) : (d.setOdu o x).path = d.path := rfl
@[simp] theorem Dev.setOdu_free (d : Dev) (o : Nat) (x : OduState) : (d.setOdu o x).free = d.free := rfl

@[simp] theorem Dev.setOdu_oduOf (d : Dev) (o i : Nat) (x : OduState) :
    (d.setOdu o x).oduOf i = if i = o then x else d.oduOf i := by
  simp [Dev.setOdu, Dev.oduOf, Tab.get_set]

/-! ### Dev.setFum -/

@[simp] theorem Dev.setFum_fc (d : Dev) (p : Nat) (x : FumPort) : (d.setFum p x).fc = d.fc := rfl
@[simp] theorem Dev.setFum_anchor (d : Dev) (p : Nat) (x : FumPort) : (d.setFum p x).anchor = d.anchor := rfl
@[simp] theorem Dev.setFum_pps (d : Dev) (p : Nat) (x : FumPort) : (d.setFum p x).pps = d.pps := rfl
@[simp] theorem Dev.setFum_sched (d : Dev) (p : Nat) (x : FumPort) : (d.setFum p x).sched = d.sched := rfl
@[simp] theorem Dev.setFum_ports (d : Dev) (p : Nat) (x : FumPort) : (d.setFum p x).ports = d.ports := rfl
@[simp] theorem Dev.setFum_lanes (d : Dev) (p : Nat) (x : FumPort) : (d.setFum p x).lanes = d.lanes := rfl
@[simp] theorem Dev.setFum_clientLanesUp (d : Dev) (p : Nat) (x : FumPort) : (d.setFum p x).clientLanesUp = d.clientLanesUp := rfl
@[simp] theorem Dev.setFum_odu (d : Dev) (p : Nat) (x : FumPort) : (d.setFum p x).odu = d.odu := rfl
@[simp] theorem Dev.setFum_chans (d : Dev) (p : Nat) (x : FumPort) : (d.setFum p x).chans = d.chans := rfl
@[simp] theorem Dev.setFum_clients (d : Dev) (p : Nat) (x : FumPort) : (d.setFum p x).clients = d.clients := rfl
@[simp] theorem Dev.setFum_cald (d : Dev) (p : Nat) (x : FumPort) : (d.setFum p x).cald = d.cald := rfl
@[simp] theorem Dev.setFum_groups (d : Dev) (p : Nat) (x : FumPort) : (d.setFum p x).groups = d.groups := rfl
@[simp] theorem Dev.setFum_layers (d : Dev) (p : Nat) (x : FumPort) : (d.setFum p x).layers = d.layers := rfl
@[simp] theorem Dev.setFum_pms (d : Dev) (p : Nat) (x : FumPort) : (d.setFum p x).pms = d.pms := rfl
@[simp] theorem Dev.setFum_pmDev (d : Dev) (p : Nat) (x : FumPort) : (d.setFum p x).pmDev = d.pmDev := rfl
@[simp] theorem Dev.setFum_pgs (d : Dev) (p : Nat) (x : FumPort) : (d.setFum p x).pgs = d.pgs := rfl
@[simp] theorem Dev.setFum_tokens (d : Dev) (p : Nat) (x : FumPort) : (d.setFum p x).tokens = d.tokens := rfl
@[simp] theorem Dev.setFum_acts (d : Dev) (p : Nat) (x : FumPort) : (d.setFum p x).acts = d.acts := rfl
@[simp] theorem Dev.setFum_evalFc (d : Dev) (p : Nat) (x : FumPort) : (d.setFum p x).evalFc = d.evalFc := rfl
@[simp] theorem Dev.setFum_ahead (d : Dev) (p : Nat) (x : FumPort) : (d.setFum p x).ahead = d.ahead := rfl
@[simp] theorem Dev.setFum_pair (d : Dev) (p : Nat) (x : FumPort) : (d.setFum p x).pair = d.pair := rfl
@[simp] theorem Dev.setFum_fumSources (d : Dev) (p : Nat) (x : FumPort) : (d.setFum p x).fumSources = d.fumSources := rfl
@[simp] theorem Dev.setFum_crc16 (d : Dev) (p : Nat) (x : FumPort) : (d.setFum p x).crc16 = d.crc16 := rfl
@[simp] theorem Dev.setFum_crc32 (d : Dev) (p : Nat) (x : FumPort) : (d.setFum p x).crc32 = d.crc32 := rfl
@[simp] theorem Dev.setFum_crc32c (d : Dev) (p : Nat) (x : FumPort) : (d.setFum p x).crc32c = d.crc32c := rfl
@[simp] theorem Dev.setFum_host (d : Dev) (p : Nat) (x : FumPort) : (d.setFum p x).host = d.host := rfl
@[simp] theorem Dev.setFum_sinter (d : Dev) (p : Nat) (x : FumPort) : (d.setFum p x).sinter = d.sinter := rfl
@[simp] theorem Dev.setFum_cnt (d : Dev) (p : Nat) (x : FumPort) : (d.setFum p x).cnt = d.cnt := rfl
@[simp] theorem Dev.setFum_log (d : Dev) (p : Nat) (x : FumPort) : (d.setFum p x).log = d.log := rfl
@[simp] theorem Dev.setFum_pwr (d : Dev) (p : Nat) (x : FumPort) : (d.setFum p x).pwr = d.pwr := rfl
@[simp] theorem Dev.setFum_svc (d : Dev) (p : Nat) (x : FumPort) : (d.setFum p x).svc = d.svc := rfl
@[simp] theorem Dev.setFum_path (d : Dev) (p : Nat) (x : FumPort) : (d.setFum p x).path = d.path := rfl
@[simp] theorem Dev.setFum_free (d : Dev) (p : Nat) (x : FumPort) : (d.setFum p x).free = d.free := rfl

@[simp] theorem Dev.setFum_fum (d : Dev) (p i : Nat) (x : FumPort) :
    (d.setFum p x).fum i = if i = p then x else d.fum i := by
  simp [Dev.setFum, Dev.fum, Tab.get_set]

/-! ### Dev.setSource -/

@[simp] theorem Dev.setSource_fc (d : Dev) (n : Nat) (x : FumSource) : (d.setSource n x).fc = d.fc := rfl
@[simp] theorem Dev.setSource_anchor (d : Dev) (n : Nat) (x : FumSource) : (d.setSource n x).anchor = d.anchor := rfl
@[simp] theorem Dev.setSource_pps (d : Dev) (n : Nat) (x : FumSource) : (d.setSource n x).pps = d.pps := rfl
@[simp] theorem Dev.setSource_sched (d : Dev) (n : Nat) (x : FumSource) : (d.setSource n x).sched = d.sched := rfl
@[simp] theorem Dev.setSource_ports (d : Dev) (n : Nat) (x : FumSource) : (d.setSource n x).ports = d.ports := rfl
@[simp] theorem Dev.setSource_lanes (d : Dev) (n : Nat) (x : FumSource) : (d.setSource n x).lanes = d.lanes := rfl
@[simp] theorem Dev.setSource_clientLanesUp (d : Dev) (n : Nat) (x : FumSource) : (d.setSource n x).clientLanesUp = d.clientLanesUp := rfl
@[simp] theorem Dev.setSource_odu (d : Dev) (n : Nat) (x : FumSource) : (d.setSource n x).odu = d.odu := rfl
@[simp] theorem Dev.setSource_chans (d : Dev) (n : Nat) (x : FumSource) : (d.setSource n x).chans = d.chans := rfl
@[simp] theorem Dev.setSource_clients (d : Dev) (n : Nat) (x : FumSource) : (d.setSource n x).clients = d.clients := rfl
@[simp] theorem Dev.setSource_cald (d : Dev) (n : Nat) (x : FumSource) : (d.setSource n x).cald = d.cald := rfl
@[simp] theorem Dev.setSource_groups (d : Dev) (n : Nat) (x : FumSource) : (d.setSource n x).groups = d.groups := rfl
@[simp] theorem Dev.setSource_layers (d : Dev) (n : Nat) (x : FumSource) : (d.setSource n x).layers = d.layers := rfl
@[simp] theorem Dev.setSource_pms (d : Dev) (n : Nat) (x : FumSource) : (d.setSource n x).pms = d.pms := rfl
@[simp] theorem Dev.setSource_pmDev (d : Dev) (n : Nat) (x : FumSource) : (d.setSource n x).pmDev = d.pmDev := rfl
@[simp] theorem Dev.setSource_pgs (d : Dev) (n : Nat) (x : FumSource) : (d.setSource n x).pgs = d.pgs := rfl
@[simp] theorem Dev.setSource_tokens (d : Dev) (n : Nat) (x : FumSource) : (d.setSource n x).tokens = d.tokens := rfl
@[simp] theorem Dev.setSource_acts (d : Dev) (n : Nat) (x : FumSource) : (d.setSource n x).acts = d.acts := rfl
@[simp] theorem Dev.setSource_evalFc (d : Dev) (n : Nat) (x : FumSource) : (d.setSource n x).evalFc = d.evalFc := rfl
@[simp] theorem Dev.setSource_ahead (d : Dev) (n : Nat) (x : FumSource) : (d.setSource n x).ahead = d.ahead := rfl
@[simp] theorem Dev.setSource_pair (d : Dev) (n : Nat) (x : FumSource) : (d.setSource n x).pair = d.pair := rfl
@[simp] theorem Dev.setSource_fumPorts (d : Dev) (n : Nat) (x : FumSource) : (d.setSource n x).fumPorts = d.fumPorts := rfl
@[simp] theorem Dev.setSource_crc16 (d : Dev) (n : Nat) (x : FumSource) : (d.setSource n x).crc16 = d.crc16 := rfl
@[simp] theorem Dev.setSource_crc32 (d : Dev) (n : Nat) (x : FumSource) : (d.setSource n x).crc32 = d.crc32 := rfl
@[simp] theorem Dev.setSource_crc32c (d : Dev) (n : Nat) (x : FumSource) : (d.setSource n x).crc32c = d.crc32c := rfl
@[simp] theorem Dev.setSource_host (d : Dev) (n : Nat) (x : FumSource) : (d.setSource n x).host = d.host := rfl
@[simp] theorem Dev.setSource_sinter (d : Dev) (n : Nat) (x : FumSource) : (d.setSource n x).sinter = d.sinter := rfl
@[simp] theorem Dev.setSource_cnt (d : Dev) (n : Nat) (x : FumSource) : (d.setSource n x).cnt = d.cnt := rfl
@[simp] theorem Dev.setSource_log (d : Dev) (n : Nat) (x : FumSource) : (d.setSource n x).log = d.log := rfl
@[simp] theorem Dev.setSource_pwr (d : Dev) (n : Nat) (x : FumSource) : (d.setSource n x).pwr = d.pwr := rfl
@[simp] theorem Dev.setSource_svc (d : Dev) (n : Nat) (x : FumSource) : (d.setSource n x).svc = d.svc := rfl
@[simp] theorem Dev.setSource_path (d : Dev) (n : Nat) (x : FumSource) : (d.setSource n x).path = d.path := rfl
@[simp] theorem Dev.setSource_free (d : Dev) (n : Nat) (x : FumSource) : (d.setSource n x).free = d.free := rfl

@[simp] theorem Dev.setSource_source (d : Dev) (n i : Nat) (x : FumSource) :
    (d.setSource n x).source i = if i = n then x else d.source i := by
  simp [Dev.setSource, Dev.source, Tab.get_set]

/-! ### Dev.setMb -/

@[simp] theorem Dev.setMb_fc (d : Dev) (n : Nat) (x : Mailbox) : (d.setMb n x).fc = d.fc := rfl
@[simp] theorem Dev.setMb_anchor (d : Dev) (n : Nat) (x : Mailbox) : (d.setMb n x).anchor = d.anchor := rfl
@[simp] theorem Dev.setMb_pps (d : Dev) (n : Nat) (x : Mailbox) : (d.setMb n x).pps = d.pps := rfl
@[simp] theorem Dev.setMb_sched (d : Dev) (n : Nat) (x : Mailbox) : (d.setMb n x).sched = d.sched := rfl
@[simp] theorem Dev.setMb_ports (d : Dev) (n : Nat) (x : Mailbox) : (d.setMb n x).ports = d.ports := rfl
@[simp] theorem Dev.setMb_lanes (d : Dev) (n : Nat) (x : Mailbox) : (d.setMb n x).lanes = d.lanes := rfl
@[simp] theorem Dev.setMb_clientLanesUp (d : Dev) (n : Nat) (x : Mailbox) : (d.setMb n x).clientLanesUp = d.clientLanesUp := rfl
@[simp] theorem Dev.setMb_odu (d : Dev) (n : Nat) (x : Mailbox) : (d.setMb n x).odu = d.odu := rfl
@[simp] theorem Dev.setMb_chans (d : Dev) (n : Nat) (x : Mailbox) : (d.setMb n x).chans = d.chans := rfl
@[simp] theorem Dev.setMb_clients (d : Dev) (n : Nat) (x : Mailbox) : (d.setMb n x).clients = d.clients := rfl
@[simp] theorem Dev.setMb_cald (d : Dev) (n : Nat) (x : Mailbox) : (d.setMb n x).cald = d.cald := rfl
@[simp] theorem Dev.setMb_groups (d : Dev) (n : Nat) (x : Mailbox) : (d.setMb n x).groups = d.groups := rfl
@[simp] theorem Dev.setMb_layers (d : Dev) (n : Nat) (x : Mailbox) : (d.setMb n x).layers = d.layers := rfl
@[simp] theorem Dev.setMb_pms (d : Dev) (n : Nat) (x : Mailbox) : (d.setMb n x).pms = d.pms := rfl
@[simp] theorem Dev.setMb_pmDev (d : Dev) (n : Nat) (x : Mailbox) : (d.setMb n x).pmDev = d.pmDev := rfl
@[simp] theorem Dev.setMb_pgs (d : Dev) (n : Nat) (x : Mailbox) : (d.setMb n x).pgs = d.pgs := rfl
@[simp] theorem Dev.setMb_tokens (d : Dev) (n : Nat) (x : Mailbox) : (d.setMb n x).tokens = d.tokens := rfl
@[simp] theorem Dev.setMb_acts (d : Dev) (n : Nat) (x : Mailbox) : (d.setMb n x).acts = d.acts := rfl
@[simp] theorem Dev.setMb_evalFc (d : Dev) (n : Nat) (x : Mailbox) : (d.setMb n x).evalFc = d.evalFc := rfl
@[simp] theorem Dev.setMb_ahead (d : Dev) (n : Nat) (x : Mailbox) : (d.setMb n x).ahead = d.ahead := rfl
@[simp] theorem Dev.setMb_pair (d : Dev) (n : Nat) (x : Mailbox) : (d.setMb n x).pair = d.pair := rfl
@[simp] theorem Dev.setMb_fumPorts (d : Dev) (n : Nat) (x : Mailbox) : (d.setMb n x).fumPorts = d.fumPorts := rfl
@[simp] theorem Dev.setMb_fumSources (d : Dev) (n : Nat) (x : Mailbox) : (d.setMb n x).fumSources = d.fumSources := rfl
@[simp] theorem Dev.setMb_crc16 (d : Dev) (n : Nat) (x : Mailbox) : (d.setMb n x).crc16 = d.crc16 := rfl
@[simp] theorem Dev.setMb_crc32 (d : Dev) (n : Nat) (x : Mailbox) : (d.setMb n x).crc32 = d.crc32 := rfl
@[simp] theorem Dev.setMb_crc32c (d : Dev) (n : Nat) (x : Mailbox) : (d.setMb n x).crc32c = d.crc32c := rfl
@[simp] theorem Dev.setMb_sinter (d : Dev) (n : Nat) (x : Mailbox) : (d.setMb n x).sinter = d.sinter := rfl
@[simp] theorem Dev.setMb_cnt (d : Dev) (n : Nat) (x : Mailbox) : (d.setMb n x).cnt = d.cnt := rfl
@[simp] theorem Dev.setMb_log (d : Dev) (n : Nat) (x : Mailbox) : (d.setMb n x).log = d.log := rfl
@[simp] theorem Dev.setMb_pwr (d : Dev) (n : Nat) (x : Mailbox) : (d.setMb n x).pwr = d.pwr := rfl
@[simp] theorem Dev.setMb_svc (d : Dev) (n : Nat) (x : Mailbox) : (d.setMb n x).svc = d.svc := rfl
@[simp] theorem Dev.setMb_path (d : Dev) (n : Nat) (x : Mailbox) : (d.setMb n x).path = d.path := rfl
@[simp] theorem Dev.setMb_free (d : Dev) (n : Nat) (x : Mailbox) : (d.setMb n x).free = d.free := rfl

@[simp] theorem Dev.setMb_mb (d : Dev) (n i : Nat) (x : Mailbox) :
    (d.setMb n x).mb i = if i = n then x else d.mb i := by
  simp [Dev.setMb, Dev.mb, Tab.get_set]

/-! ### Dev.setDomain -/

@[simp] theorem Dev.setDomain_fc (d : Dev) (k : Nat) (x : Domain) : (d.setDomain k x).fc = d.fc := rfl
@[simp] theorem Dev.setDomain_anchor (d : Dev) (k : Nat) (x : Domain) : (d.setDomain k x).anchor = d.anchor := rfl
@[simp] theorem Dev.setDomain_pps (d : Dev) (k : Nat) (x : Domain) : (d.setDomain k x).pps = d.pps := rfl
@[simp] theorem Dev.setDomain_sched (d : Dev) (k : Nat) (x : Domain) : (d.setDomain k x).sched = d.sched := rfl
@[simp] theorem Dev.setDomain_ports (d : Dev) (k : Nat) (x : Domain) : (d.setDomain k x).ports = d.ports := rfl
@[simp] theorem Dev.setDomain_lanes (d : Dev) (k : Nat) (x : Domain) : (d.setDomain k x).lanes = d.lanes := rfl
@[simp] theorem Dev.setDomain_clientLanesUp (d : Dev) (k : Nat) (x : Domain) : (d.setDomain k x).clientLanesUp = d.clientLanesUp := rfl
@[simp] theorem Dev.setDomain_odu (d : Dev) (k : Nat) (x : Domain) : (d.setDomain k x).odu = d.odu := rfl
@[simp] theorem Dev.setDomain_chans (d : Dev) (k : Nat) (x : Domain) : (d.setDomain k x).chans = d.chans := rfl
@[simp] theorem Dev.setDomain_clients (d : Dev) (k : Nat) (x : Domain) : (d.setDomain k x).clients = d.clients := rfl
@[simp] theorem Dev.setDomain_cald (d : Dev) (k : Nat) (x : Domain) : (d.setDomain k x).cald = d.cald := rfl
@[simp] theorem Dev.setDomain_groups (d : Dev) (k : Nat) (x : Domain) : (d.setDomain k x).groups = d.groups := rfl
@[simp] theorem Dev.setDomain_layers (d : Dev) (k : Nat) (x : Domain) : (d.setDomain k x).layers = d.layers := rfl
@[simp] theorem Dev.setDomain_pms (d : Dev) (k : Nat) (x : Domain) : (d.setDomain k x).pms = d.pms := rfl
@[simp] theorem Dev.setDomain_pmDev (d : Dev) (k : Nat) (x : Domain) : (d.setDomain k x).pmDev = d.pmDev := rfl
@[simp] theorem Dev.setDomain_pgs (d : Dev) (k : Nat) (x : Domain) : (d.setDomain k x).pgs = d.pgs := rfl
@[simp] theorem Dev.setDomain_tokens (d : Dev) (k : Nat) (x : Domain) : (d.setDomain k x).tokens = d.tokens := rfl
@[simp] theorem Dev.setDomain_acts (d : Dev) (k : Nat) (x : Domain) : (d.setDomain k x).acts = d.acts := rfl
@[simp] theorem Dev.setDomain_evalFc (d : Dev) (k : Nat) (x : Domain) : (d.setDomain k x).evalFc = d.evalFc := rfl
@[simp] theorem Dev.setDomain_ahead (d : Dev) (k : Nat) (x : Domain) : (d.setDomain k x).ahead = d.ahead := rfl
@[simp] theorem Dev.setDomain_pair (d : Dev) (k : Nat) (x : Domain) : (d.setDomain k x).pair = d.pair := rfl
@[simp] theorem Dev.setDomain_fumPorts (d : Dev) (k : Nat) (x : Domain) : (d.setDomain k x).fumPorts = d.fumPorts := rfl
@[simp] theorem Dev.setDomain_fumSources (d : Dev) (k : Nat) (x : Domain) : (d.setDomain k x).fumSources = d.fumSources := rfl
@[simp] theorem Dev.setDomain_crc16 (d : Dev) (k : Nat) (x : Domain) : (d.setDomain k x).crc16 = d.crc16 := rfl
@[simp] theorem Dev.setDomain_crc32 (d : Dev) (k : Nat) (x : Domain) : (d.setDomain k x).crc32 = d.crc32 := rfl
@[simp] theorem Dev.setDomain_crc32c (d : Dev) (k : Nat) (x : Domain) : (d.setDomain k x).crc32c = d.crc32c := rfl
@[simp] theorem Dev.setDomain_host (d : Dev) (k : Nat) (x : Domain) : (d.setDomain k x).host = d.host := rfl
@[simp] theorem Dev.setDomain_sinter (d : Dev) (k : Nat) (x : Domain) : (d.setDomain k x).sinter = d.sinter := rfl
@[simp] theorem Dev.setDomain_cnt (d : Dev) (k : Nat) (x : Domain) : (d.setDomain k x).cnt = d.cnt := rfl
@[simp] theorem Dev.setDomain_log (d : Dev) (k : Nat) (x : Domain) : (d.setDomain k x).log = d.log := rfl
@[simp] theorem Dev.setDomain_svc (d : Dev) (k : Nat) (x : Domain) : (d.setDomain k x).svc = d.svc := rfl
@[simp] theorem Dev.setDomain_path (d : Dev) (k : Nat) (x : Domain) : (d.setDomain k x).path = d.path := rfl
@[simp] theorem Dev.setDomain_free (d : Dev) (k : Nat) (x : Domain) : (d.setDomain k x).free = d.free := rfl

@[simp] theorem Dev.setDomain_domain (d : Dev) (k i : Nat) (x : Domain) :
    (d.setDomain k x).domain i = if i = k then x else d.domain i := by
  simp [Dev.setDomain, Dev.domain, Tab.get_set]

/-! ### Dev.setCpath -/

@[simp] theorem Dev.setCpath_fc (d : Dev) (ch : Nat) (p : ChanPath) : (d.setCpath ch p).fc = d.fc := rfl
@[simp] theorem Dev.setCpath_anchor (d : Dev) (ch : Nat) (p : ChanPath) : (d.setCpath ch p).anchor = d.anchor := rfl
@[simp] theorem Dev.setCpath_pps (d : Dev) (ch : Nat) (p : ChanPath) : (d.setCpath ch p).pps = d.pps := rfl
@[simp] theorem Dev.setCpath_sched (d : Dev) (ch : Nat) (p : ChanPath) : (d.setCpath ch p).sched = d.sched := rfl
@[simp] theorem Dev.setCpath_ports (d : Dev) (ch : Nat) (p : ChanPath) : (d.setCpath ch p).ports = d.ports := rfl
@[simp] theorem Dev.setCpath_lanes (d : Dev) (ch : Nat) (p : ChanPath) : (d.setCpath ch p).lanes = d.lanes := rfl
@[simp] theorem Dev.setCpath_clientLanesUp (d : Dev) (ch : Nat) (p : ChanPath) : (d.setCpath ch p).clientLanesUp = d.clientLanesUp := rfl
@[simp] theorem Dev.setCpath_odu (d : Dev) (ch : Nat) (p : ChanPath) : (d.setCpath ch p).odu = d.odu := rfl
@[simp] theorem Dev.setCpath_chans (d : Dev) (ch : Nat) (p : ChanPath) : (d.setCpath ch p).chans = d.chans := rfl
@[simp] theorem Dev.setCpath_clients (d : Dev) (ch : Nat) (p : ChanPath) : (d.setCpath ch p).clients = d.clients := rfl
@[simp] theorem Dev.setCpath_cald (d : Dev) (ch : Nat) (p : ChanPath) : (d.setCpath ch p).cald = d.cald := rfl
@[simp] theorem Dev.setCpath_groups (d : Dev) (ch : Nat) (p : ChanPath) : (d.setCpath ch p).groups = d.groups := rfl
@[simp] theorem Dev.setCpath_layers (d : Dev) (ch : Nat) (p : ChanPath) : (d.setCpath ch p).layers = d.layers := rfl
@[simp] theorem Dev.setCpath_pms (d : Dev) (ch : Nat) (p : ChanPath) : (d.setCpath ch p).pms = d.pms := rfl
@[simp] theorem Dev.setCpath_pmDev (d : Dev) (ch : Nat) (p : ChanPath) : (d.setCpath ch p).pmDev = d.pmDev := rfl
@[simp] theorem Dev.setCpath_pgs (d : Dev) (ch : Nat) (p : ChanPath) : (d.setCpath ch p).pgs = d.pgs := rfl
@[simp] theorem Dev.setCpath_tokens (d : Dev) (ch : Nat) (p : ChanPath) : (d.setCpath ch p).tokens = d.tokens := rfl
@[simp] theorem Dev.setCpath_acts (d : Dev) (ch : Nat) (p : ChanPath) : (d.setCpath ch p).acts = d.acts := rfl
@[simp] theorem Dev.setCpath_evalFc (d : Dev) (ch : Nat) (p : ChanPath) : (d.setCpath ch p).evalFc = d.evalFc := rfl
@[simp] theorem Dev.setCpath_ahead (d : Dev) (ch : Nat) (p : ChanPath) : (d.setCpath ch p).ahead = d.ahead := rfl
@[simp] theorem Dev.setCpath_pair (d : Dev) (ch : Nat) (p : ChanPath) : (d.setCpath ch p).pair = d.pair := rfl
@[simp] theorem Dev.setCpath_fumPorts (d : Dev) (ch : Nat) (p : ChanPath) : (d.setCpath ch p).fumPorts = d.fumPorts := rfl
@[simp] theorem Dev.setCpath_fumSources (d : Dev) (ch : Nat) (p : ChanPath) : (d.setCpath ch p).fumSources = d.fumSources := rfl
@[simp] theorem Dev.setCpath_crc16 (d : Dev) (ch : Nat) (p : ChanPath) : (d.setCpath ch p).crc16 = d.crc16 := rfl
@[simp] theorem Dev.setCpath_crc32 (d : Dev) (ch : Nat) (p : ChanPath) : (d.setCpath ch p).crc32 = d.crc32 := rfl
@[simp] theorem Dev.setCpath_crc32c (d : Dev) (ch : Nat) (p : ChanPath) : (d.setCpath ch p).crc32c = d.crc32c := rfl
@[simp] theorem Dev.setCpath_host (d : Dev) (ch : Nat) (p : ChanPath) : (d.setCpath ch p).host = d.host := rfl
@[simp] theorem Dev.setCpath_sinter (d : Dev) (ch : Nat) (p : ChanPath) : (d.setCpath ch p).sinter = d.sinter := rfl
@[simp] theorem Dev.setCpath_cnt (d : Dev) (ch : Nat) (p : ChanPath) : (d.setCpath ch p).cnt = d.cnt := rfl
@[simp] theorem Dev.setCpath_log (d : Dev) (ch : Nat) (p : ChanPath) : (d.setCpath ch p).log = d.log := rfl
@[simp] theorem Dev.setCpath_pwr (d : Dev) (ch : Nat) (p : ChanPath) : (d.setCpath ch p).pwr = d.pwr := rfl
@[simp] theorem Dev.setCpath_svc (d : Dev) (ch : Nat) (p : ChanPath) : (d.setCpath ch p).svc = d.svc := rfl
@[simp] theorem Dev.setCpath_free (d : Dev) (ch : Nat) (p : ChanPath) : (d.setCpath ch p).free = d.free := rfl

/-! ### Dev.setStream -/

@[simp] theorem Dev.setStream_fc (d : Dev) (owner index : Nat) (b : DeskewBuf) : (d.setStream owner index b).fc = d.fc := rfl
@[simp] theorem Dev.setStream_anchor (d : Dev) (owner index : Nat) (b : DeskewBuf) : (d.setStream owner index b).anchor = d.anchor := rfl
@[simp] theorem Dev.setStream_pps (d : Dev) (owner index : Nat) (b : DeskewBuf) : (d.setStream owner index b).pps = d.pps := rfl
@[simp] theorem Dev.setStream_sched (d : Dev) (owner index : Nat) (b : DeskewBuf) : (d.setStream owner index b).sched = d.sched := rfl
@[simp] theorem Dev.setStream_ports (d : Dev) (owner index : Nat) (b : DeskewBuf) : (d.setStream owner index b).ports = d.ports := rfl
@[simp] theorem Dev.setStream_lanes (d : Dev) (owner index : Nat) (b : DeskewBuf) : (d.setStream owner index b).lanes = d.lanes := rfl
@[simp] theorem Dev.setStream_clientLanesUp (d : Dev) (owner index : Nat) (b : DeskewBuf) : (d.setStream owner index b).clientLanesUp = d.clientLanesUp := rfl
@[simp] theorem Dev.setStream_odu (d : Dev) (owner index : Nat) (b : DeskewBuf) : (d.setStream owner index b).odu = d.odu := rfl
@[simp] theorem Dev.setStream_chans (d : Dev) (owner index : Nat) (b : DeskewBuf) : (d.setStream owner index b).chans = d.chans := rfl
@[simp] theorem Dev.setStream_clients (d : Dev) (owner index : Nat) (b : DeskewBuf) : (d.setStream owner index b).clients = d.clients := rfl
@[simp] theorem Dev.setStream_cald (d : Dev) (owner index : Nat) (b : DeskewBuf) : (d.setStream owner index b).cald = d.cald := rfl
@[simp] theorem Dev.setStream_groups (d : Dev) (owner index : Nat) (b : DeskewBuf) : (d.setStream owner index b).groups = d.groups := rfl
@[simp] theorem Dev.setStream_layers (d : Dev) (owner index : Nat) (b : DeskewBuf) : (d.setStream owner index b).layers = d.layers := rfl
@[simp] theorem Dev.setStream_pms (d : Dev) (owner index : Nat) (b : DeskewBuf) : (d.setStream owner index b).pms = d.pms := rfl
@[simp] theorem Dev.setStream_pmDev (d : Dev) (owner index : Nat) (b : DeskewBuf) : (d.setStream owner index b).pmDev = d.pmDev := rfl
@[simp] theorem Dev.setStream_pgs (d : Dev) (owner index : Nat) (b : DeskewBuf) : (d.setStream owner index b).pgs = d.pgs := rfl
@[simp] theorem Dev.setStream_tokens (d : Dev) (owner index : Nat) (b : DeskewBuf) : (d.setStream owner index b).tokens = d.tokens := rfl
@[simp] theorem Dev.setStream_acts (d : Dev) (owner index : Nat) (b : DeskewBuf) : (d.setStream owner index b).acts = d.acts := rfl
@[simp] theorem Dev.setStream_evalFc (d : Dev) (owner index : Nat) (b : DeskewBuf) : (d.setStream owner index b).evalFc = d.evalFc := rfl
@[simp] theorem Dev.setStream_ahead (d : Dev) (owner index : Nat) (b : DeskewBuf) : (d.setStream owner index b).ahead = d.ahead := rfl
@[simp] theorem Dev.setStream_pair (d : Dev) (owner index : Nat) (b : DeskewBuf) : (d.setStream owner index b).pair = d.pair := rfl
@[simp] theorem Dev.setStream_fumPorts (d : Dev) (owner index : Nat) (b : DeskewBuf) : (d.setStream owner index b).fumPorts = d.fumPorts := rfl
@[simp] theorem Dev.setStream_fumSources (d : Dev) (owner index : Nat) (b : DeskewBuf) : (d.setStream owner index b).fumSources = d.fumSources := rfl
@[simp] theorem Dev.setStream_crc16 (d : Dev) (owner index : Nat) (b : DeskewBuf) : (d.setStream owner index b).crc16 = d.crc16 := rfl
@[simp] theorem Dev.setStream_crc32 (d : Dev) (owner index : Nat) (b : DeskewBuf) : (d.setStream owner index b).crc32 = d.crc32 := rfl
@[simp] theorem Dev.setStream_crc32c (d : Dev) (owner index : Nat) (b : DeskewBuf) : (d.setStream owner index b).crc32c = d.crc32c := rfl
@[simp] theorem Dev.setStream_host (d : Dev) (owner index : Nat) (b : DeskewBuf) : (d.setStream owner index b).host = d.host := rfl
@[simp] theorem Dev.setStream_sinter (d : Dev) (owner index : Nat) (b : DeskewBuf) : (d.setStream owner index b).sinter = d.sinter := rfl
@[simp] theorem Dev.setStream_cnt (d : Dev) (owner index : Nat) (b : DeskewBuf) : (d.setStream owner index b).cnt = d.cnt := rfl
@[simp] theorem Dev.setStream_log (d : Dev) (owner index : Nat) (b : DeskewBuf) : (d.setStream owner index b).log = d.log := rfl
@[simp] theorem Dev.setStream_pwr (d : Dev) (owner index : Nat) (b : DeskewBuf) : (d.setStream owner index b).pwr = d.pwr := rfl
@[simp] theorem Dev.setStream_svc (d : Dev) (owner index : Nat) (b : DeskewBuf) : (d.setStream owner index b).svc = d.svc := rfl
@[simp] theorem Dev.setStream_free (d : Dev) (owner index : Nat) (b : DeskewBuf) : (d.setStream owner index b).free = d.free := rfl

/-! ### Dev.setMonitor -/

@[simp] theorem Dev.setMonitor_fc (d : Dev) (g k : Nat) (m : PathMon) : (d.setMonitor g k m).fc = d.fc := rfl
@[simp] theorem Dev.setMonitor_anchor (d : Dev) (g k : Nat) (m : PathMon) : (d.setMonitor g k m).anchor = d.anchor := rfl
@[simp] theorem Dev.setMonitor_pps (d : Dev) (g k : Nat) (m : PathMon) : (d.setMonitor g k m).pps = d.pps := rfl
@[simp] theorem Dev.setMonitor_sched (d : Dev) (g k : Nat) (m : PathMon) : (d.setMonitor g k m).sched = d.sched := rfl
@[simp] theorem Dev.setMonitor_ports (d : Dev) (g k : Nat) (m : PathMon) : (d.setMonitor g k m).ports = d.ports := rfl
@[simp] theorem Dev.setMonitor_lanes (d : Dev) (g k : Nat) (m : PathMon) : (d.setMonitor g k m).lanes = d.lanes := rfl
@[simp] theorem Dev.setMonitor_clientLanesUp (d : Dev) (g k : Nat) (m : PathMon) : (d.setMonitor g k m).clientLanesUp = d.clientLanesUp := rfl
@[simp] theorem Dev.setMonitor_odu (d : Dev) (g k : Nat) (m : PathMon) : (d.setMonitor g k m).odu = d.odu := rfl
@[simp] theorem Dev.setMonitor_chans (d : Dev) (g k : Nat) (m : PathMon) : (d.setMonitor g k m).chans = d.chans := rfl
@[simp] theorem Dev.setMonitor_clients (d : Dev) (g k : Nat) (m : PathMon) : (d.setMonitor g k m).clients = d.clients := rfl
@[simp] theorem Dev.setMonitor_cald (d : Dev) (g k : Nat) (m : PathMon) : (d.setMonitor g k m).cald = d.cald := rfl
@[simp] theorem Dev.setMonitor_groups (d : Dev) (g k : Nat) (m : PathMon) : (d.setMonitor g k m).groups = d.groups := rfl
@[simp] theorem Dev.setMonitor_layers (d : Dev) (g k : Nat) (m : PathMon) : (d.setMonitor g k m).layers = d.layers := rfl
@[simp] theorem Dev.setMonitor_pms (d : Dev) (g k : Nat) (m : PathMon) : (d.setMonitor g k m).pms = d.pms := rfl
@[simp] theorem Dev.setMonitor_pmDev (d : Dev) (g k : Nat) (m : PathMon) : (d.setMonitor g k m).pmDev = d.pmDev := rfl
@[simp] theorem Dev.setMonitor_pgs (d : Dev) (g k : Nat) (m : PathMon) : (d.setMonitor g k m).pgs = d.pgs := rfl
@[simp] theorem Dev.setMonitor_tokens (d : Dev) (g k : Nat) (m : PathMon) : (d.setMonitor g k m).tokens = d.tokens := rfl
@[simp] theorem Dev.setMonitor_acts (d : Dev) (g k : Nat) (m : PathMon) : (d.setMonitor g k m).acts = d.acts := rfl
@[simp] theorem Dev.setMonitor_evalFc (d : Dev) (g k : Nat) (m : PathMon) : (d.setMonitor g k m).evalFc = d.evalFc := rfl
@[simp] theorem Dev.setMonitor_ahead (d : Dev) (g k : Nat) (m : PathMon) : (d.setMonitor g k m).ahead = d.ahead := rfl
@[simp] theorem Dev.setMonitor_pair (d : Dev) (g k : Nat) (m : PathMon) : (d.setMonitor g k m).pair = d.pair := rfl
@[simp] theorem Dev.setMonitor_fumPorts (d : Dev) (g k : Nat) (m : PathMon) : (d.setMonitor g k m).fumPorts = d.fumPorts := rfl
@[simp] theorem Dev.setMonitor_fumSources (d : Dev) (g k : Nat) (m : PathMon) : (d.setMonitor g k m).fumSources = d.fumSources := rfl
@[simp] theorem Dev.setMonitor_crc16 (d : Dev) (g k : Nat) (m : PathMon) : (d.setMonitor g k m).crc16 = d.crc16 := rfl
@[simp] theorem Dev.setMonitor_crc32 (d : Dev) (g k : Nat) (m : PathMon) : (d.setMonitor g k m).crc32 = d.crc32 := rfl
@[simp] theorem Dev.setMonitor_crc32c (d : Dev) (g k : Nat) (m : PathMon) : (d.setMonitor g k m).crc32c = d.crc32c := rfl
@[simp] theorem Dev.setMonitor_host (d : Dev) (g k : Nat) (m : PathMon) : (d.setMonitor g k m).host = d.host := rfl
@[simp] theorem Dev.setMonitor_sinter (d : Dev) (g k : Nat) (m : PathMon) : (d.setMonitor g k m).sinter = d.sinter := rfl
@[simp] theorem Dev.setMonitor_cnt (d : Dev) (g k : Nat) (m : PathMon) : (d.setMonitor g k m).cnt = d.cnt := rfl
@[simp] theorem Dev.setMonitor_log (d : Dev) (g k : Nat) (m : PathMon) : (d.setMonitor g k m).log = d.log := rfl
@[simp] theorem Dev.setMonitor_pwr (d : Dev) (g k : Nat) (m : PathMon) : (d.setMonitor g k m).pwr = d.pwr := rfl
@[simp] theorem Dev.setMonitor_svc (d : Dev) (g k : Nat) (m : PathMon) : (d.setMonitor g k m).svc = d.svc := rfl
@[simp] theorem Dev.setMonitor_free (d : Dev) (g k : Nat) (m : PathMon) : (d.setMonitor g k m).free = d.free := rfl

/-! ### Dev.setLayer -/

@[simp] theorem Dev.setLayer_fc (d : Dev) (obj l : Nat) (x : Layer) : (d.setLayer obj l x).fc = d.fc := rfl
@[simp] theorem Dev.setLayer_anchor (d : Dev) (obj l : Nat) (x : Layer) : (d.setLayer obj l x).anchor = d.anchor := rfl
@[simp] theorem Dev.setLayer_pps (d : Dev) (obj l : Nat) (x : Layer) : (d.setLayer obj l x).pps = d.pps := rfl
@[simp] theorem Dev.setLayer_sched (d : Dev) (obj l : Nat) (x : Layer) : (d.setLayer obj l x).sched = d.sched := rfl
@[simp] theorem Dev.setLayer_ports (d : Dev) (obj l : Nat) (x : Layer) : (d.setLayer obj l x).ports = d.ports := rfl
@[simp] theorem Dev.setLayer_lanes (d : Dev) (obj l : Nat) (x : Layer) : (d.setLayer obj l x).lanes = d.lanes := rfl
@[simp] theorem Dev.setLayer_clientLanesUp (d : Dev) (obj l : Nat) (x : Layer) : (d.setLayer obj l x).clientLanesUp = d.clientLanesUp := rfl
@[simp] theorem Dev.setLayer_odu (d : Dev) (obj l : Nat) (x : Layer) : (d.setLayer obj l x).odu = d.odu := rfl
@[simp] theorem Dev.setLayer_chans (d : Dev) (obj l : Nat) (x : Layer) : (d.setLayer obj l x).chans = d.chans := rfl
@[simp] theorem Dev.setLayer_clients (d : Dev) (obj l : Nat) (x : Layer) : (d.setLayer obj l x).clients = d.clients := rfl
@[simp] theorem Dev.setLayer_cald (d : Dev) (obj l : Nat) (x : Layer) : (d.setLayer obj l x).cald = d.cald := rfl
@[simp] theorem Dev.setLayer_groups (d : Dev) (obj l : Nat) (x : Layer) : (d.setLayer obj l x).groups = d.groups := rfl
@[simp] theorem Dev.setLayer_pms (d : Dev) (obj l : Nat) (x : Layer) : (d.setLayer obj l x).pms = d.pms := rfl
@[simp] theorem Dev.setLayer_pmDev (d : Dev) (obj l : Nat) (x : Layer) : (d.setLayer obj l x).pmDev = d.pmDev := rfl
@[simp] theorem Dev.setLayer_pgs (d : Dev) (obj l : Nat) (x : Layer) : (d.setLayer obj l x).pgs = d.pgs := rfl
@[simp] theorem Dev.setLayer_tokens (d : Dev) (obj l : Nat) (x : Layer) : (d.setLayer obj l x).tokens = d.tokens := rfl
@[simp] theorem Dev.setLayer_acts (d : Dev) (obj l : Nat) (x : Layer) : (d.setLayer obj l x).acts = d.acts := rfl
@[simp] theorem Dev.setLayer_evalFc (d : Dev) (obj l : Nat) (x : Layer) : (d.setLayer obj l x).evalFc = d.evalFc := rfl
@[simp] theorem Dev.setLayer_ahead (d : Dev) (obj l : Nat) (x : Layer) : (d.setLayer obj l x).ahead = d.ahead := rfl
@[simp] theorem Dev.setLayer_pair (d : Dev) (obj l : Nat) (x : Layer) : (d.setLayer obj l x).pair = d.pair := rfl
@[simp] theorem Dev.setLayer_fumPorts (d : Dev) (obj l : Nat) (x : Layer) : (d.setLayer obj l x).fumPorts = d.fumPorts := rfl
@[simp] theorem Dev.setLayer_fumSources (d : Dev) (obj l : Nat) (x : Layer) : (d.setLayer obj l x).fumSources = d.fumSources := rfl
@[simp] theorem Dev.setLayer_crc16 (d : Dev) (obj l : Nat) (x : Layer) : (d.setLayer obj l x).crc16 = d.crc16 := rfl
@[simp] theorem Dev.setLayer_crc32 (d : Dev) (obj l : Nat) (x : Layer) : (d.setLayer obj l x).crc32 = d.crc32 := rfl
@[simp] theorem Dev.setLayer_crc32c (d : Dev) (obj l : Nat) (x : Layer) : (d.setLayer obj l x).crc32c = d.crc32c := rfl
@[simp] theorem Dev.setLayer_host (d : Dev) (obj l : Nat) (x : Layer) : (d.setLayer obj l x).host = d.host := rfl
@[simp] theorem Dev.setLayer_sinter (d : Dev) (obj l : Nat) (x : Layer) : (d.setLayer obj l x).sinter = d.sinter := rfl
@[simp] theorem Dev.setLayer_cnt (d : Dev) (obj l : Nat) (x : Layer) : (d.setLayer obj l x).cnt = d.cnt := rfl
@[simp] theorem Dev.setLayer_log (d : Dev) (obj l : Nat) (x : Layer) : (d.setLayer obj l x).log = d.log := rfl
@[simp] theorem Dev.setLayer_pwr (d : Dev) (obj l : Nat) (x : Layer) : (d.setLayer obj l x).pwr = d.pwr := rfl
@[simp] theorem Dev.setLayer_svc (d : Dev) (obj l : Nat) (x : Layer) : (d.setLayer obj l x).svc = d.svc := rfl
@[simp] theorem Dev.setLayer_path (d : Dev) (obj l : Nat) (x : Layer) : (d.setLayer obj l x).path = d.path := rfl
@[simp] theorem Dev.setLayer_free (d : Dev) (obj l : Nat) (x : Layer) : (d.setLayer obj l x).free = d.free := rfl

/-! ### Dev.setPm -/

@[simp] theorem Dev.setPm_fc (d : Dev) (obj l : Nat) (x : PmEntity) : (d.setPm obj l x).fc = d.fc := rfl
@[simp] theorem Dev.setPm_anchor (d : Dev) (obj l : Nat) (x : PmEntity) : (d.setPm obj l x).anchor = d.anchor := rfl
@[simp] theorem Dev.setPm_pps (d : Dev) (obj l : Nat) (x : PmEntity) : (d.setPm obj l x).pps = d.pps := rfl
@[simp] theorem Dev.setPm_sched (d : Dev) (obj l : Nat) (x : PmEntity) : (d.setPm obj l x).sched = d.sched := rfl
@[simp] theorem Dev.setPm_ports (d : Dev) (obj l : Nat) (x : PmEntity) : (d.setPm obj l x).ports = d.ports := rfl
@[simp] theorem Dev.setPm_lanes (d : Dev) (obj l : Nat) (x : PmEntity) : (d.setPm obj l x).lanes = d.lanes := rfl
@[simp] theorem Dev.setPm_clientLanesUp (d : Dev) (obj l : Nat) (x : PmEntity) : (d.setPm obj l x).clientLanesUp = d.clientLanesUp := rfl
@[simp] theorem Dev.setPm_odu (d : Dev) (obj l : Nat) (x : PmEntity) : (d.setPm obj l x).odu = d.odu := rfl
@[simp] theorem Dev.setPm_chans (d : Dev) (obj l : Nat) (x : PmEntity) : (d.setPm obj l x).chans = d.chans := rfl
@[simp] theorem Dev.setPm_clients (d : Dev) (obj l : Nat) (x : PmEntity) : (d.setPm obj l x).clients = d.clients := rfl
@[simp] theorem Dev.setPm_cald (d : Dev) (obj l : Nat) (x : PmEntity) : (d.setPm obj l x).cald = d.cald := rfl
@[simp] theorem Dev.setPm_groups (d : Dev) (obj l : Nat) (x : PmEntity) : (d.setPm obj l x).groups = d.groups := rfl
@[simp] theorem Dev.setPm_layers (d : Dev) (obj l : Nat) (x : PmEntity) : (d.setPm obj l x).layers = d.layers := rfl
@[simp] theorem Dev.setPm_pmDev (d : Dev) (obj l : Nat) (x : PmEntity) : (d.setPm obj l x).pmDev = d.pmDev := rfl
@[simp] theorem Dev.setPm_pgs (d : Dev) (obj l : Nat) (x : PmEntity) : (d.setPm obj l x).pgs = d.pgs := rfl
@[simp] theorem Dev.setPm_tokens (d : Dev) (obj l : Nat) (x : PmEntity) : (d.setPm obj l x).tokens = d.tokens := rfl
@[simp] theorem Dev.setPm_acts (d : Dev) (obj l : Nat) (x : PmEntity) : (d.setPm obj l x).acts = d.acts := rfl
@[simp] theorem Dev.setPm_evalFc (d : Dev) (obj l : Nat) (x : PmEntity) : (d.setPm obj l x).evalFc = d.evalFc := rfl
@[simp] theorem Dev.setPm_ahead (d : Dev) (obj l : Nat) (x : PmEntity) : (d.setPm obj l x).ahead = d.ahead := rfl
@[simp] theorem Dev.setPm_pair (d : Dev) (obj l : Nat) (x : PmEntity) : (d.setPm obj l x).pair = d.pair := rfl
@[simp] theorem Dev.setPm_fumPorts (d : Dev) (obj l : Nat) (x : PmEntity) : (d.setPm obj l x).fumPorts = d.fumPorts := rfl
@[simp] theorem Dev.setPm_fumSources (d : Dev) (obj l : Nat) (x : PmEntity) : (d.setPm obj l x).fumSources = d.fumSources := rfl
@[simp] theorem Dev.setPm_crc16 (d : Dev) (obj l : Nat) (x : PmEntity) : (d.setPm obj l x).crc16 = d.crc16 := rfl
@[simp] theorem Dev.setPm_crc32 (d : Dev) (obj l : Nat) (x : PmEntity) : (d.setPm obj l x).crc32 = d.crc32 := rfl
@[simp] theorem Dev.setPm_crc32c (d : Dev) (obj l : Nat) (x : PmEntity) : (d.setPm obj l x).crc32c = d.crc32c := rfl
@[simp] theorem Dev.setPm_host (d : Dev) (obj l : Nat) (x : PmEntity) : (d.setPm obj l x).host = d.host := rfl
@[simp] theorem Dev.setPm_sinter (d : Dev) (obj l : Nat) (x : PmEntity) : (d.setPm obj l x).sinter = d.sinter := rfl
@[simp] theorem Dev.setPm_cnt (d : Dev) (obj l : Nat) (x : PmEntity) : (d.setPm obj l x).cnt = d.cnt := rfl
@[simp] theorem Dev.setPm_log (d : Dev) (obj l : Nat) (x : PmEntity) : (d.setPm obj l x).log = d.log := rfl
@[simp] theorem Dev.setPm_pwr (d : Dev) (obj l : Nat) (x : PmEntity) : (d.setPm obj l x).pwr = d.pwr := rfl
@[simp] theorem Dev.setPm_svc (d : Dev) (obj l : Nat) (x : PmEntity) : (d.setPm obj l x).svc = d.svc := rfl
@[simp] theorem Dev.setPm_path (d : Dev) (obj l : Nat) (x : PmEntity) : (d.setPm obj l x).path = d.path := rfl
@[simp] theorem Dev.setPm_free (d : Dev) (obj l : Nat) (x : PmEntity) : (d.setPm obj l x).free = d.free := rfl

/-! ### Dev.setReq -/

@[simp] theorem Dev.setReq_fc (d : Dev) (r : Nat) (x : Requester) : (d.setReq r x).fc = d.fc := rfl
@[simp] theorem Dev.setReq_anchor (d : Dev) (r : Nat) (x : Requester) : (d.setReq r x).anchor = d.anchor := rfl
@[simp] theorem Dev.setReq_pps (d : Dev) (r : Nat) (x : Requester) : (d.setReq r x).pps = d.pps := rfl
@[simp] theorem Dev.setReq_sched (d : Dev) (r : Nat) (x : Requester) : (d.setReq r x).sched = d.sched := rfl
@[simp] theorem Dev.setReq_ports (d : Dev) (r : Nat) (x : Requester) : (d.setReq r x).ports = d.ports := rfl
@[simp] theorem Dev.setReq_lanes (d : Dev) (r : Nat) (x : Requester) : (d.setReq r x).lanes = d.lanes := rfl
@[simp] theorem Dev.setReq_clientLanesUp (d : Dev) (r : Nat) (x : Requester) : (d.setReq r x).clientLanesUp = d.clientLanesUp := rfl
@[simp] theorem Dev.setReq_odu (d : Dev) (r : Nat) (x : Requester) : (d.setReq r x).odu = d.odu := rfl
@[simp] theorem Dev.setReq_chans (d : Dev) (r : Nat) (x : Requester) : (d.setReq r x).chans = d.chans := rfl
@[simp] theorem Dev.setReq_clients (d : Dev) (r : Nat) (x : Requester) : (d.setReq r x).clients = d.clients := rfl
@[simp] theorem Dev.setReq_groups (d : Dev) (r : Nat) (x : Requester) : (d.setReq r x).groups = d.groups := rfl
@[simp] theorem Dev.setReq_layers (d : Dev) (r : Nat) (x : Requester) : (d.setReq r x).layers = d.layers := rfl
@[simp] theorem Dev.setReq_pms (d : Dev) (r : Nat) (x : Requester) : (d.setReq r x).pms = d.pms := rfl
@[simp] theorem Dev.setReq_pmDev (d : Dev) (r : Nat) (x : Requester) : (d.setReq r x).pmDev = d.pmDev := rfl
@[simp] theorem Dev.setReq_pgs (d : Dev) (r : Nat) (x : Requester) : (d.setReq r x).pgs = d.pgs := rfl
@[simp] theorem Dev.setReq_tokens (d : Dev) (r : Nat) (x : Requester) : (d.setReq r x).tokens = d.tokens := rfl
@[simp] theorem Dev.setReq_acts (d : Dev) (r : Nat) (x : Requester) : (d.setReq r x).acts = d.acts := rfl
@[simp] theorem Dev.setReq_evalFc (d : Dev) (r : Nat) (x : Requester) : (d.setReq r x).evalFc = d.evalFc := rfl
@[simp] theorem Dev.setReq_ahead (d : Dev) (r : Nat) (x : Requester) : (d.setReq r x).ahead = d.ahead := rfl
@[simp] theorem Dev.setReq_pair (d : Dev) (r : Nat) (x : Requester) : (d.setReq r x).pair = d.pair := rfl
@[simp] theorem Dev.setReq_fumPorts (d : Dev) (r : Nat) (x : Requester) : (d.setReq r x).fumPorts = d.fumPorts := rfl
@[simp] theorem Dev.setReq_fumSources (d : Dev) (r : Nat) (x : Requester) : (d.setReq r x).fumSources = d.fumSources := rfl
@[simp] theorem Dev.setReq_crc16 (d : Dev) (r : Nat) (x : Requester) : (d.setReq r x).crc16 = d.crc16 := rfl
@[simp] theorem Dev.setReq_crc32 (d : Dev) (r : Nat) (x : Requester) : (d.setReq r x).crc32 = d.crc32 := rfl
@[simp] theorem Dev.setReq_crc32c (d : Dev) (r : Nat) (x : Requester) : (d.setReq r x).crc32c = d.crc32c := rfl
@[simp] theorem Dev.setReq_host (d : Dev) (r : Nat) (x : Requester) : (d.setReq r x).host = d.host := rfl
@[simp] theorem Dev.setReq_sinter (d : Dev) (r : Nat) (x : Requester) : (d.setReq r x).sinter = d.sinter := rfl
@[simp] theorem Dev.setReq_cnt (d : Dev) (r : Nat) (x : Requester) : (d.setReq r x).cnt = d.cnt := rfl
@[simp] theorem Dev.setReq_log (d : Dev) (r : Nat) (x : Requester) : (d.setReq r x).log = d.log := rfl
@[simp] theorem Dev.setReq_pwr (d : Dev) (r : Nat) (x : Requester) : (d.setReq r x).pwr = d.pwr := rfl
@[simp] theorem Dev.setReq_svc (d : Dev) (r : Nat) (x : Requester) : (d.setReq r x).svc = d.svc := rfl
@[simp] theorem Dev.setReq_path (d : Dev) (r : Nat) (x : Requester) : (d.setReq r x).path = d.path := rfl
@[simp] theorem Dev.setReq_free (d : Dev) (r : Nat) (x : Requester) : (d.setReq r x).free = d.free := rfl

/-! ### Dev.setPrbs -/

@[simp] theorem Dev.setPrbs_fc (d : Dev) (obj : Nat) (x : Prbs) : (d.setPrbs obj x).fc = d.fc := rfl
@[simp] theorem Dev.setPrbs_anchor (d : Dev) (obj : Nat) (x : Prbs) : (d.setPrbs obj x).anchor = d.anchor := rfl
@[simp] theorem Dev.setPrbs_pps (d : Dev) (obj : Nat) (x : Prbs) : (d.setPrbs obj x).pps = d.pps := rfl
@[simp] theorem Dev.setPrbs_sched (d : Dev) (obj : Nat) (x : Prbs) : (d.setPrbs obj x).sched = d.sched := rfl
@[simp] theorem Dev.setPrbs_ports (d : Dev) (obj : Nat) (x : Prbs) : (d.setPrbs obj x).ports = d.ports := rfl
@[simp] theorem Dev.setPrbs_lanes (d : Dev) (obj : Nat) (x : Prbs) : (d.setPrbs obj x).lanes = d.lanes := rfl
@[simp] theorem Dev.setPrbs_clientLanesUp (d : Dev) (obj : Nat) (x : Prbs) : (d.setPrbs obj x).clientLanesUp = d.clientLanesUp := rfl
@[simp] theorem Dev.setPrbs_odu (d : Dev) (obj : Nat) (x : Prbs) : (d.setPrbs obj x).odu = d.odu := rfl
@[simp] theorem Dev.setPrbs_chans (d : Dev) (obj : Nat) (x : Prbs) : (d.setPrbs obj x).chans = d.chans := rfl
@[simp] theorem Dev.setPrbs_clients (d : Dev) (obj : Nat) (x : Prbs) : (d.setPrbs obj x).clients = d.clients := rfl
@[simp] theorem Dev.setPrbs_cald (d : Dev) (obj : Nat) (x : Prbs) : (d.setPrbs obj x).cald = d.cald := rfl
@[simp] theorem Dev.setPrbs_groups (d : Dev) (obj : Nat) (x : Prbs) : (d.setPrbs obj x).groups = d.groups := rfl
@[simp] theorem Dev.setPrbs_layers (d : Dev) (obj : Nat) (x : Prbs) : (d.setPrbs obj x).layers = d.layers := rfl
@[simp] theorem Dev.setPrbs_pms (d : Dev) (obj : Nat) (x : Prbs) : (d.setPrbs obj x).pms = d.pms := rfl
@[simp] theorem Dev.setPrbs_pmDev (d : Dev) (obj : Nat) (x : Prbs) : (d.setPrbs obj x).pmDev = d.pmDev := rfl
@[simp] theorem Dev.setPrbs_pgs (d : Dev) (obj : Nat) (x : Prbs) : (d.setPrbs obj x).pgs = d.pgs := rfl
@[simp] theorem Dev.setPrbs_tokens (d : Dev) (obj : Nat) (x : Prbs) : (d.setPrbs obj x).tokens = d.tokens := rfl
@[simp] theorem Dev.setPrbs_acts (d : Dev) (obj : Nat) (x : Prbs) : (d.setPrbs obj x).acts = d.acts := rfl
@[simp] theorem Dev.setPrbs_evalFc (d : Dev) (obj : Nat) (x : Prbs) : (d.setPrbs obj x).evalFc = d.evalFc := rfl
@[simp] theorem Dev.setPrbs_ahead (d : Dev) (obj : Nat) (x : Prbs) : (d.setPrbs obj x).ahead = d.ahead := rfl
@[simp] theorem Dev.setPrbs_pair (d : Dev) (obj : Nat) (x : Prbs) : (d.setPrbs obj x).pair = d.pair := rfl
@[simp] theorem Dev.setPrbs_fumPorts (d : Dev) (obj : Nat) (x : Prbs) : (d.setPrbs obj x).fumPorts = d.fumPorts := rfl
@[simp] theorem Dev.setPrbs_fumSources (d : Dev) (obj : Nat) (x : Prbs) : (d.setPrbs obj x).fumSources = d.fumSources := rfl
@[simp] theorem Dev.setPrbs_crc16 (d : Dev) (obj : Nat) (x : Prbs) : (d.setPrbs obj x).crc16 = d.crc16 := rfl
@[simp] theorem Dev.setPrbs_crc32 (d : Dev) (obj : Nat) (x : Prbs) : (d.setPrbs obj x).crc32 = d.crc32 := rfl
@[simp] theorem Dev.setPrbs_crc32c (d : Dev) (obj : Nat) (x : Prbs) : (d.setPrbs obj x).crc32c = d.crc32c := rfl
@[simp] theorem Dev.setPrbs_host (d : Dev) (obj : Nat) (x : Prbs) : (d.setPrbs obj x).host = d.host := rfl
@[simp] theorem Dev.setPrbs_sinter (d : Dev) (obj : Nat) (x : Prbs) : (d.setPrbs obj x).sinter = d.sinter := rfl
@[simp] theorem Dev.setPrbs_cnt (d : Dev) (obj : Nat) (x : Prbs) : (d.setPrbs obj x).cnt = d.cnt := rfl
@[simp] theorem Dev.setPrbs_log (d : Dev) (obj : Nat) (x : Prbs) : (d.setPrbs obj x).log = d.log := rfl
@[simp] theorem Dev.setPrbs_pwr (d : Dev) (obj : Nat) (x : Prbs) : (d.setPrbs obj x).pwr = d.pwr := rfl
@[simp] theorem Dev.setPrbs_path (d : Dev) (obj : Nat) (x : Prbs) : (d.setPrbs obj x).path = d.path := rfl
@[simp] theorem Dev.setPrbs_free (d : Dev) (obj : Nat) (x : Prbs) : (d.setPrbs obj x).free = d.free := rfl

@[simp] theorem Dev.setCpath_cpath (d : Dev) (ch i : Nat) (p : ChanPath) :
    (d.setCpath ch p).cpath i = if i = ch then p else d.cpath i := by
  simp [Dev.setCpath, Dev.cpath, Tab.get_set]

@[simp] theorem Dev.setPrbs_prbs (d : Dev) (obj i : Nat) (x : Prbs) :
    (d.setPrbs obj x).prbs i = if i = obj then x else d.prbs i := by
  simp [Dev.setPrbs, Dev.prbs, Tab.get_set]

@[simp] theorem Dev.setReq_req (d : Dev) (r i : Nat) (x : Requester) :
    (d.setReq r x).req i = if i = r then x else d.req i := by
  simp [Dev.setReq, Dev.req, Tab.get_set]

/-! ### Raising a vector and an event -/

@[simp] theorem Dev.vector_fc (d : Dev) (v : Nat) : (d.vector v).fc = d.fc := rfl
@[simp] theorem Dev.vector_anchor (d : Dev) (v : Nat) : (d.vector v).anchor = d.anchor := rfl
@[simp] theorem Dev.vector_pps (d : Dev) (v : Nat) : (d.vector v).pps = d.pps := rfl
@[simp] theorem Dev.vector_sched (d : Dev) (v : Nat) : (d.vector v).sched = d.sched := rfl
@[simp] theorem Dev.vector_ports (d : Dev) (v : Nat) : (d.vector v).ports = d.ports := rfl
@[simp] theorem Dev.vector_lanes (d : Dev) (v : Nat) : (d.vector v).lanes = d.lanes := rfl
@[simp] theorem Dev.vector_clientLanesUp (d : Dev) (v : Nat) : (d.vector v).clientLanesUp = d.clientLanesUp := rfl
@[simp] theorem Dev.vector_odu (d : Dev) (v : Nat) : (d.vector v).odu = d.odu := rfl
@[simp] theorem Dev.vector_chans (d : Dev) (v : Nat) : (d.vector v).chans = d.chans := rfl
@[simp] theorem Dev.vector_clients (d : Dev) (v : Nat) : (d.vector v).clients = d.clients := rfl
@[simp] theorem Dev.vector_cald (d : Dev) (v : Nat) : (d.vector v).cald = d.cald := rfl
@[simp] theorem Dev.vector_groups (d : Dev) (v : Nat) : (d.vector v).groups = d.groups := rfl
@[simp] theorem Dev.vector_layers (d : Dev) (v : Nat) : (d.vector v).layers = d.layers := rfl
@[simp] theorem Dev.vector_pms (d : Dev) (v : Nat) : (d.vector v).pms = d.pms := rfl
@[simp] theorem Dev.vector_pmDev (d : Dev) (v : Nat) : (d.vector v).pmDev = d.pmDev := rfl
@[simp] theorem Dev.vector_pgs (d : Dev) (v : Nat) : (d.vector v).pgs = d.pgs := rfl
@[simp] theorem Dev.vector_tokens (d : Dev) (v : Nat) : (d.vector v).tokens = d.tokens := rfl
@[simp] theorem Dev.vector_acts (d : Dev) (v : Nat) : (d.vector v).acts = d.acts := rfl
@[simp] theorem Dev.vector_evalFc (d : Dev) (v : Nat) : (d.vector v).evalFc = d.evalFc := rfl
@[simp] theorem Dev.vector_ahead (d : Dev) (v : Nat) : (d.vector v).ahead = d.ahead := rfl
@[simp] theorem Dev.vector_pair (d : Dev) (v : Nat) : (d.vector v).pair = d.pair := rfl
@[simp] theorem Dev.vector_fumPorts (d : Dev) (v : Nat) : (d.vector v).fumPorts = d.fumPorts := rfl
@[simp] theorem Dev.vector_fumSources (d : Dev) (v : Nat) : (d.vector v).fumSources = d.fumSources := rfl
@[simp] theorem Dev.vector_crc16 (d : Dev) (v : Nat) : (d.vector v).crc16 = d.crc16 := rfl
@[simp] theorem Dev.vector_crc32 (d : Dev) (v : Nat) : (d.vector v).crc32 = d.crc32 := rfl
@[simp] theorem Dev.vector_crc32c (d : Dev) (v : Nat) : (d.vector v).crc32c = d.crc32c := rfl
@[simp] theorem Dev.vector_sinter (d : Dev) (v : Nat) : (d.vector v).sinter = d.sinter := rfl
@[simp] theorem Dev.vector_cnt (d : Dev) (v : Nat) : (d.vector v).cnt = d.cnt := rfl
@[simp] theorem Dev.vector_log (d : Dev) (v : Nat) : (d.vector v).log = d.log := rfl
@[simp] theorem Dev.vector_pwr (d : Dev) (v : Nat) : (d.vector v).pwr = d.pwr := rfl
@[simp] theorem Dev.vector_svc (d : Dev) (v : Nat) : (d.vector v).svc = d.svc := rfl
@[simp] theorem Dev.vector_path (d : Dev) (v : Nat) : (d.vector v).path = d.path := rfl
@[simp] theorem Dev.vector_free (d : Dev) (v : Nat) : (d.vector v).free = d.free := rfl

@[simp] theorem Dev.raise_fc (d : Dev) (code obj : Nat) (l : List Byte) : (d.raise code obj l).fc = d.fc := rfl
@[simp] theorem Dev.raise_anchor (d : Dev) (code obj : Nat) (l : List Byte) : (d.raise code obj l).anchor = d.anchor := rfl
@[simp] theorem Dev.raise_pps (d : Dev) (code obj : Nat) (l : List Byte) : (d.raise code obj l).pps = d.pps := rfl
@[simp] theorem Dev.raise_sched (d : Dev) (code obj : Nat) (l : List Byte) : (d.raise code obj l).sched = d.sched := rfl
@[simp] theorem Dev.raise_ports (d : Dev) (code obj : Nat) (l : List Byte) : (d.raise code obj l).ports = d.ports := rfl
@[simp] theorem Dev.raise_lanes (d : Dev) (code obj : Nat) (l : List Byte) : (d.raise code obj l).lanes = d.lanes := rfl
@[simp] theorem Dev.raise_clientLanesUp (d : Dev) (code obj : Nat) (l : List Byte) : (d.raise code obj l).clientLanesUp = d.clientLanesUp := rfl
@[simp] theorem Dev.raise_odu (d : Dev) (code obj : Nat) (l : List Byte) : (d.raise code obj l).odu = d.odu := rfl
@[simp] theorem Dev.raise_chans (d : Dev) (code obj : Nat) (l : List Byte) : (d.raise code obj l).chans = d.chans := rfl
@[simp] theorem Dev.raise_clients (d : Dev) (code obj : Nat) (l : List Byte) : (d.raise code obj l).clients = d.clients := rfl
@[simp] theorem Dev.raise_cald (d : Dev) (code obj : Nat) (l : List Byte) : (d.raise code obj l).cald = d.cald := rfl
@[simp] theorem Dev.raise_groups (d : Dev) (code obj : Nat) (l : List Byte) : (d.raise code obj l).groups = d.groups := rfl
@[simp] theorem Dev.raise_layers (d : Dev) (code obj : Nat) (l : List Byte) : (d.raise code obj l).layers = d.layers := rfl
@[simp] theorem Dev.raise_pms (d : Dev) (code obj : Nat) (l : List Byte) : (d.raise code obj l).pms = d.pms := rfl
@[simp] theorem Dev.raise_pmDev (d : Dev) (code obj : Nat) (l : List Byte) : (d.raise code obj l).pmDev = d.pmDev := rfl
@[simp] theorem Dev.raise_pgs (d : Dev) (code obj : Nat) (l : List Byte) : (d.raise code obj l).pgs = d.pgs := rfl
@[simp] theorem Dev.raise_tokens (d : Dev) (code obj : Nat) (l : List Byte) : (d.raise code obj l).tokens = d.tokens := rfl
@[simp] theorem Dev.raise_acts (d : Dev) (code obj : Nat) (l : List Byte) : (d.raise code obj l).acts = d.acts := rfl
@[simp] theorem Dev.raise_evalFc (d : Dev) (code obj : Nat) (l : List Byte) : (d.raise code obj l).evalFc = d.evalFc := rfl
@[simp] theorem Dev.raise_ahead (d : Dev) (code obj : Nat) (l : List Byte) : (d.raise code obj l).ahead = d.ahead := rfl
@[simp] theorem Dev.raise_pair (d : Dev) (code obj : Nat) (l : List Byte) : (d.raise code obj l).pair = d.pair := rfl
@[simp] theorem Dev.raise_fumPorts (d : Dev) (code obj : Nat) (l : List Byte) : (d.raise code obj l).fumPorts = d.fumPorts := rfl
@[simp] theorem Dev.raise_fumSources (d : Dev) (code obj : Nat) (l : List Byte) : (d.raise code obj l).fumSources = d.fumSources := rfl
@[simp] theorem Dev.raise_crc16 (d : Dev) (code obj : Nat) (l : List Byte) : (d.raise code obj l).crc16 = d.crc16 := rfl
@[simp] theorem Dev.raise_crc32 (d : Dev) (code obj : Nat) (l : List Byte) : (d.raise code obj l).crc32 = d.crc32 := rfl
@[simp] theorem Dev.raise_crc32c (d : Dev) (code obj : Nat) (l : List Byte) : (d.raise code obj l).crc32c = d.crc32c := rfl
@[simp] theorem Dev.raise_sinter (d : Dev) (code obj : Nat) (l : List Byte) : (d.raise code obj l).sinter = d.sinter := rfl
@[simp] theorem Dev.raise_cnt (d : Dev) (code obj : Nat) (l : List Byte) : (d.raise code obj l).cnt = d.cnt := rfl
@[simp] theorem Dev.raise_pwr (d : Dev) (code obj : Nat) (l : List Byte) : (d.raise code obj l).pwr = d.pwr := rfl
@[simp] theorem Dev.raise_svc (d : Dev) (code obj : Nat) (l : List Byte) : (d.raise code obj l).svc = d.svc := rfl
@[simp] theorem Dev.raise_path (d : Dev) (code obj : Nat) (l : List Byte) : (d.raise code obj l).path = d.path := rfl
@[simp] theorem Dev.raise_free (d : Dev) (code obj : Nat) (l : List Byte) : (d.raise code obj l).free = d.free := rfl

@[simp] theorem Dev.tick_fc (d : Dev) (c k : Nat) : (d.tick c k).fc = d.fc := by unfold Dev.tick; split <;> rfl
@[simp] theorem Dev.tick_anchor (d : Dev) (c k : Nat) : (d.tick c k).anchor = d.anchor := by unfold Dev.tick; split <;> rfl
@[simp] theorem Dev.tick_pps (d : Dev) (c k : Nat) : (d.tick c k).pps = d.pps := by unfold Dev.tick; split <;> rfl
@[simp] theorem Dev.tick_sched (d : Dev) (c k : Nat) : (d.tick c k).sched = d.sched := by unfold Dev.tick; split <;> rfl
@[simp] theorem Dev.tick_ports (d : Dev) (c k : Nat) : (d.tick c k).ports = d.ports := by unfold Dev.tick; split <;> rfl
@[simp] theorem Dev.tick_lanes (d : Dev) (c k : Nat) : (d.tick c k).lanes = d.lanes := by unfold Dev.tick; split <;> rfl
@[simp] theorem Dev.tick_clientLanesUp (d : Dev) (c k : Nat) : (d.tick c k).clientLanesUp = d.clientLanesUp := by unfold Dev.tick; split <;> rfl
@[simp] theorem Dev.tick_odu (d : Dev) (c k : Nat) : (d.tick c k).odu = d.odu := by unfold Dev.tick; split <;> rfl
@[simp] theorem Dev.tick_chans (d : Dev) (c k : Nat) : (d.tick c k).chans = d.chans := by unfold Dev.tick; split <;> rfl
@[simp] theorem Dev.tick_clients (d : Dev) (c k : Nat) : (d.tick c k).clients = d.clients := by unfold Dev.tick; split <;> rfl
@[simp] theorem Dev.tick_cald (d : Dev) (c k : Nat) : (d.tick c k).cald = d.cald := by unfold Dev.tick; split <;> rfl
@[simp] theorem Dev.tick_groups (d : Dev) (c k : Nat) : (d.tick c k).groups = d.groups := by unfold Dev.tick; split <;> rfl
@[simp] theorem Dev.tick_layers (d : Dev) (c k : Nat) : (d.tick c k).layers = d.layers := by unfold Dev.tick; split <;> rfl
@[simp] theorem Dev.tick_pms (d : Dev) (c k : Nat) : (d.tick c k).pms = d.pms := by unfold Dev.tick; split <;> rfl
@[simp] theorem Dev.tick_pmDev (d : Dev) (c k : Nat) : (d.tick c k).pmDev = d.pmDev := by unfold Dev.tick; split <;> rfl
@[simp] theorem Dev.tick_pgs (d : Dev) (c k : Nat) : (d.tick c k).pgs = d.pgs := by unfold Dev.tick; split <;> rfl
@[simp] theorem Dev.tick_tokens (d : Dev) (c k : Nat) : (d.tick c k).tokens = d.tokens := by unfold Dev.tick; split <;> rfl
@[simp] theorem Dev.tick_acts (d : Dev) (c k : Nat) : (d.tick c k).acts = d.acts := by unfold Dev.tick; split <;> rfl
@[simp] theorem Dev.tick_evalFc (d : Dev) (c k : Nat) : (d.tick c k).evalFc = d.evalFc := by unfold Dev.tick; split <;> rfl
@[simp] theorem Dev.tick_ahead (d : Dev) (c k : Nat) : (d.tick c k).ahead = d.ahead := by unfold Dev.tick; split <;> rfl
@[simp] theorem Dev.tick_pair (d : Dev) (c k : Nat) : (d.tick c k).pair = d.pair := by unfold Dev.tick; split <;> rfl
@[simp] theorem Dev.tick_fumPorts (d : Dev) (c k : Nat) : (d.tick c k).fumPorts = d.fumPorts := by unfold Dev.tick; split <;> rfl
@[simp] theorem Dev.tick_fumSources (d : Dev) (c k : Nat) : (d.tick c k).fumSources = d.fumSources := by unfold Dev.tick; split <;> rfl
@[simp] theorem Dev.tick_crc16 (d : Dev) (c k : Nat) : (d.tick c k).crc16 = d.crc16 := by unfold Dev.tick; split <;> rfl
@[simp] theorem Dev.tick_crc32 (d : Dev) (c k : Nat) : (d.tick c k).crc32 = d.crc32 := by unfold Dev.tick; split <;> rfl
@[simp] theorem Dev.tick_crc32c (d : Dev) (c k : Nat) : (d.tick c k).crc32c = d.crc32c := by unfold Dev.tick; split <;> rfl
@[simp] theorem Dev.tick_host (d : Dev) (c k : Nat) : (d.tick c k).host = d.host := by unfold Dev.tick; split <;> rfl
@[simp] theorem Dev.tick_sinter (d : Dev) (c k : Nat) : (d.tick c k).sinter = d.sinter := by unfold Dev.tick; split <;> rfl
@[simp] theorem Dev.tick_log (d : Dev) (c k : Nat) : (d.tick c k).log = d.log := by unfold Dev.tick; split <;> rfl
@[simp] theorem Dev.tick_pwr (d : Dev) (c k : Nat) : (d.tick c k).pwr = d.pwr := by unfold Dev.tick; split <;> rfl
@[simp] theorem Dev.tick_svc (d : Dev) (c k : Nat) : (d.tick c k).svc = d.svc := by unfold Dev.tick; split <;> rfl
@[simp] theorem Dev.tick_path (d : Dev) (c k : Nat) : (d.tick c k).path = d.path := by unfold Dev.tick; split <;> rfl
@[simp] theorem Dev.tick_free (d : Dev) (c k : Nat) : (d.tick c k).free = d.free := by unfold Dev.tick; split <;> rfl

end Sys2Proof.Machine
end

