-- ==== Sys2Proof/Laws/Ops.lean ====
section
/-! SUPPORT. What running a command on the device can do: the outcome, the queue, the memories, the events it leaves. -/

namespace Sys2Proof.Machine

open Sys2Proof

/-! ### Sorting the events of one command -/

theorem mem_insertBy {α : Type} (f : α → Nat) (a x : α) (l : List α) : x ∈ insertBy f a l ↔ x = a ∨ x ∈ l := by
  induction l with
  | nil => simp [insertBy]
  | cons b t ih =>
    unfold insertBy
    split
    · simp
    · simp only [List.mem_cons, ih]
      constructor
      · rintro (h | h | h) <;> simp [h]
      · rintro (h | h | h) <;> simp [h]

/-- Sorting loses nothing and adds nothing. -/
theorem mem_sortBy {α : Type} (f : α → Nat) (x : α) (l : List α) : x ∈ sortBy f l ↔ x ∈ l := by
  have key : ∀ (l acc : List α), x ∈ l.foldl (fun acc a => insertBy f a acc) acc ↔ x ∈ acc ∨ x ∈ l := by
    intro l
    induction l with
    | nil => simp
    | cons a t ih =>
      intro acc
      simp only [List.foldl_cons, ih, mem_insertBy, List.mem_cons]
      constructor
      · rintro ((h | h) | h) <;> simp [h]
      · rintro (h | h | h) <;> simp [h]
  simpa [sortBy] using key l []

@[simp] theorem sortBy_nil {α : Type} (f : α → Nat) : sortBy f [] = [] := rfl

@[simp] theorem sortBy_singleton {α : Type} (f : α → Nat) (a : α) : sortBy f [a] = [a] := rfl

/-! ### Settling -/

@[simp] theorem State.settle_pending (s : State) (d : Dev) : (s.settle d).pending = s.pending := rfl

@[simp] theorem State.settle_mem (s : State) (d : Dev) : (s.settle d).mem = s.mem := rfl

/-- No response waits after a command. -/
@[simp] theorem State.settle_out (s : State) (d : Dev) : (s.settle d).dev.host.out = [] := rfl

theorem State.settle_bar1 (s : State) (d : Dev) : (s.settle d).bar1 = s.bar1.puts d.host.out := rfl

/-- Rings of a command that answers nothing. -/
theorem State.settle_bar1_of_nil (s : State) (d : Dev) (h : d.host.out = []) : (s.settle d).bar1 = s.bar1 := by
  simp [State.settle_bar1, h, Memory.puts]

@[simp] theorem State.settle_arising (s : State) (d : Dev) :
    (s.settle d).dev.log.arising =
      d.log.arising.take s.dev.log.arising.length ++ sortBy Event.key (d.log.arising.drop s.dev.log.arising.length) := rfl

/-- A command that raises no event. -/
theorem State.settle_arising_none (s : State) (d : Dev) (h : d.log.arising = s.dev.log.arising) :
    (s.settle d).dev.log.arising = s.dev.log.arising := by
  simp [h]

/-- A command that raises one event. -/
theorem State.settle_arising_one (s : State) (d : Dev) (e : Event) (h : d.log.arising = s.dev.log.arising ++ [e]) :
    (s.settle d).dev.log.arising = s.dev.log.arising ++ [e] := by
  simp [h]

/-! ### Running -/

theorem State.always_eq (s : State) (f : Dev → Dev) : s.always f = .next (s.settle (f s.dev)) := rfl

/-- A powered device takes the effect. -/
theorem State.run_eq (s : State) (f : Dev → Dev) (p : s.dev.powered = true) : s.run f = .next (s.settle (f s.dev)) := by
  simp [State.run, State.always, p]

/-- A powered device whose moment has come takes the effect. -/
theorem State.runIf_eq (s : State) (c : Dev → Bool) (f : Dev → Dev) (p : s.dev.powered = true) (h : c s.dev = true) :
    s.runIf c f = .next (s.settle (f s.dev)) := by
  simp [State.runIf, State.run_eq s _ p, h]

/-- A device without power takes no effect. -/
theorem State.run_unpowered (s : State) (f : Dev → Dev) (p : s.dev.powered = false) : s.run f = .next (s.settle s.dev) := by
  simp [State.run, State.always, p]

/-- A step whose moment has not come takes no effect. -/
theorem State.runIf_not (s : State) (c : Dev → Bool) (f : Dev → Dev) (h : c s.dev = false) :
    s.runIf c f = .next (s.settle s.dev) := by
  by_cases p : s.dev.powered = true
  · simp [State.runIf, State.run_eq s _ p, h]
  · simp [State.runIf, State.run_unpowered s _ (by simpa using p)]

/-- Settling the device as it stood changes nothing, once its responses are written. -/
theorem State.settle_self (s : State) (h : s.dev.host.out = []) : s.settle s.dev = s := by
  obtain ⟨dev, mem, bar1, pending⟩ := s
  have c : dev.calm dev.log.arising.length = dev := by
    unfold Dev.calm
    have e : { dev.host with out := [] } = dev.host := by
      cases g : dev.host with | mk => simp_all
    simp [e]
  simp [State.settle, c, Memory.puts, show dev.host.out = [] from h]

end Sys2Proof.Machine
end

