-- ==== Sys2Proof/Laws/Command.lean ====
section
/-! SUPPORT. What the shared path of the command interface changes: taking, answering, holding and ending a command touch
the host attachment and the log only, and a core that a command is offered to takes it. -/

namespace Sys2Proof.Machine

open Sys2Proof

/-! ### Dev.respond -/

@[simp] theorem Dev.respond_fc (d : Dev) (c : Cmd) (st : Nat) (l : List Byte) (f : Nat) (t : Option Nat) (m : Bool) :
    (d.respond c st l f t m).fc = d.fc := by
  unfold Dev.respond; dsimp only; split <;> split <;> (try split) <;> rfl
@[simp] theorem Dev.respond_anchor (d : Dev) (c : Cmd) (st : Nat) (l : List Byte) (f : Nat) (t : Option Nat) (m : Bool) :
    (d.respond c st l f t m).anchor = d.anchor := by
  unfold Dev.respond; dsimp only; split <;> split <;> (try split) <;> rfl
@[simp] theorem Dev.respond_pps (d : Dev) (c : Cmd) (st : Nat) (l : List Byte) (f : Nat) (t : Option Nat) (m : Bool) :
    (d.respond c st l f t m).pps = d.pps := by
  unfold Dev.respond; dsimp only; split <;> split <;> (try split) <;> rfl
@[simp] theorem Dev.respond_sched (d : Dev) (c : Cmd) (st : Nat) (l : List Byte) (f : Nat) (t : Option Nat) (m : Bool) :
    (d.respond c st l f t m).sched = d.sched := by
  unfold Dev.respond; dsimp only; split <;> split <;> (try split) <;> rfl
@[simp] theorem Dev.respond_ports (d : Dev) (c : Cmd) (st : Nat) (l : List Byte) (f : Nat) (t : Option Nat) (m : Bool) :
    (d.respond c st l f t m).ports = d.ports := by
  unfold Dev.respond; dsimp only; split <;> split <;> (try split) <;> rfl
@[simp] theorem Dev.respond_lanes (d : Dev) (c : Cmd) (st : Nat) (l : List Byte) (f : Nat) (t : Option Nat) (m : Bool) :
    (d.respond c st l f t m).lanes = d.lanes := by
  unfold Dev.respond; dsimp only; split <;> split <;> (try split) <;> rfl
@[simp] theorem Dev.respond_clientLanesUp (d : Dev) (c : Cmd) (st : Nat) (l : List Byte) (f : Nat) (t : Option Nat) (m : Bool) :
    (d.respond c st l f t m).clientLanesUp = d.clientLanesUp := by
  unfold Dev.respond; dsimp only; split <;> split <;> (try split) <;> rfl
@[simp] theorem Dev.respond_odu (d : Dev) (c : Cmd) (st : Nat) (l : List Byte) (f : Nat) (t : Option Nat) (m : Bool) :
    (d.respond c st l f t m).odu = d.odu := by
  unfold Dev.respond; dsimp only; split <;> split <;> (try split) <;> rfl
@[simp] theorem Dev.respond_chans (d : Dev) (c : Cmd) (st : Nat) (l : List Byte) (f : Nat) (t : Option Nat) (m : Bool) :
    (d.respond c st l f t m).chans = d.chans := by
  unfold Dev.respond; dsimp only; split <;> split <;> (try split) <;> rfl
@[simp] theorem Dev.respond_clients (d : Dev) (c : Cmd) (st : Nat) (l : List Byte) (f : Nat) (t : Option Nat) (m : Bool) :
    (d.respond c st l f t m).clients = d.clients := by
  unfold Dev.respond; dsimp only; split <;> split <;> (try split) <;> rfl
@[simp] theorem Dev.respond_cald (d : Dev) (c : Cmd) (st : Nat) (l : List Byte) (f : Nat) (t : Option Nat) (m : Bool) :
    (d.respond c st l f t m).cald = d.cald := by
  unfold Dev.respond; dsimp only; split <;> split <;> (try split) <;> rfl
@[simp] theorem Dev.respond_groups (d : Dev) (c : Cmd) (st : Nat) (l : List Byte) (f : Nat) (t : Option Nat) (m : Bool) :
    (d.respond c st l f t m).groups = d.groups := by
  unfold Dev.respond; dsimp only; split <;> split <;> (try split) <;> rfl
@[simp] theorem Dev.respond_layers (d : Dev) (c : Cmd) (st : Nat) (l : List Byte) (f : Nat) (t : Option Nat) (m : Bool) :
    (d.respond c st l f t m).layers = d.layers := by
  unfold Dev.respond; dsimp only; split <;> split <;> (try split) <;> rfl
@[simp] theorem Dev.respond_pms (d : Dev) (c : Cmd) (st : Nat) (l : List Byte) (f : Nat) (t : Option Nat) (m : Bool) :
    (d.respond c st l f t m).pms = d.pms := by
  unfold Dev.respond; dsimp only; split <;> split <;> (try split) <;> rfl
@[simp] theorem Dev.respond_pmDev (d : Dev) (c : Cmd) (st : Nat) (l : List Byte) (f : Nat) (t : Option Nat) (m : Bool) :
    (d.respond c st l f t m).pmDev = d.pmDev := by
  unfold Dev.respond; dsimp only; split <;> split <;> (try split) <;> rfl
@[simp] theorem Dev.respond_pgs (d : Dev) (c : Cmd) (st : Nat) (l : List Byte) (f : Nat) (t : Option Nat) (m : Bool) :
    (d.respond c st l f t m).pgs = d.pgs := by
  unfold Dev.respond; dsimp only; split <;> split <;> (try split) <;> rfl
@[simp] theorem Dev.respond_tokens (d : Dev) (c : Cmd) (st : Nat) (l : List Byte) (f : Nat) (t : Option Nat) (m : Bool) :
    (d.respond c st l f t m).tokens = d.tokens := by
  unfold Dev.respond; dsimp only; split <;> split <;> (try split) <;> rfl
@[simp] theorem Dev.respond_acts (d : Dev) (c : Cmd) (st : Nat) (l : List Byte) (f : Nat) (t : Option Nat) (m : Bool) :
    (d.respond c st l f t m).acts = d.acts := by
  unfold Dev.respond; dsimp only; split <;> split <;> (try split) <;> rfl
@[simp] theorem Dev.respond_evalFc (d : Dev) (c : Cmd) (st : Nat) (l : List Byte) (f : Nat) (t : Option Nat) (m : Bool) :
    (d.respond c st l f t m).evalFc = d.evalFc := by
  unfold Dev.respond; dsimp only; split <;> split <;> (try split) <;> rfl
@[simp] theorem Dev.respond_pair (d : Dev) (c : Cmd) (st : Nat) (l : List Byte) (f : Nat) (t : Option Nat) (m : Bool) :
    (d.respond c st l f t m).pair = d.pair := by
  unfold Dev.respond; dsimp only; split <;> split <;> (try split) <;> rfl
@[simp] theorem Dev.respond_fumPorts (d : Dev) (c : Cmd) (st : Nat) (l : List Byte) (f : Nat) (t : Option Nat) (m : Bool) :
    (d.respond c st l f t m).fumPorts = d.fumPorts := by
  unfold Dev.respond; dsimp only; split <;> split <;> (try split) <;> rfl
@[simp] theorem Dev.respond_fumSources (d : Dev) (c : Cmd) (st : Nat) (l : List Byte) (f : Nat) (t : Option Nat) (m : Bool) :
    (d.respond c st l f t m).fumSources = d.fumSources := by
  unfold Dev.respond; dsimp only; split <;> split <;> (try split) <;> rfl
@[simp] theorem Dev.respond_crc16 (d : Dev) (c : Cmd) (st : Nat) (l : List Byte) (f : Nat) (t : Option Nat) (m : Bool) :
    (d.respond c st l f t m).crc16 = d.crc16 := by
  unfold Dev.respond; dsimp only; split <;> split <;> (try split) <;> rfl
@[simp] theorem Dev.respond_crc32 (d : Dev) (c : Cmd) (st : Nat) (l : List Byte) (f : Nat) (t : Option Nat) (m : Bool) :
    (d.respond c st l f t m).crc32 = d.crc32 := by
  unfold Dev.respond; dsimp only; split <;> split <;> (try split) <;> rfl
@[simp] theorem Dev.respond_crc32c (d : Dev) (c : Cmd) (st : Nat) (l : List Byte) (f : Nat) (t : Option Nat) (m : Bool) :
    (d.respond c st l f t m).crc32c = d.crc32c := by
  unfold Dev.respond; dsimp only; split <;> split <;> (try split) <;> rfl
@[simp] theorem Dev.respond_cnt (d : Dev) (c : Cmd) (st : Nat) (l : List Byte) (f : Nat) (t : Option Nat) (m : Bool) :
    (d.respond c st l f t m).cnt = d.cnt := by
  unfold Dev.respond; dsimp only; split <;> split <;> (try split) <;> rfl
@[simp] theorem Dev.respond_sinter (d : Dev) (c : Cmd) (st : Nat) (l : List Byte) (f : Nat) (t : Option Nat) (m : Bool) :
    (d.respond c st l f t m).sinter = d.sinter := by
  unfold Dev.respond; dsimp only; split <;> split <;> (try split) <;> rfl
@[simp] theorem Dev.respond_pwr (d : Dev) (c : Cmd) (st : Nat) (l : List Byte) (f : Nat) (t : Option Nat) (m : Bool) :
    (d.respond c st l f t m).pwr = d.pwr := by
  unfold Dev.respond; dsimp only; split <;> split <;> (try split) <;> rfl
@[simp] theorem Dev.respond_svc (d : Dev) (c : Cmd) (st : Nat) (l : List Byte) (f : Nat) (t : Option Nat) (m : Bool) :
    (d.respond c st l f t m).svc = d.svc := by
  unfold Dev.respond; dsimp only; split <;> split <;> (try split) <;> rfl
@[simp] theorem Dev.respond_free (d : Dev) (c : Cmd) (st : Nat) (l : List Byte) (f : Nat) (t : Option Nat) (m : Bool) :
    (d.respond c st l f t m).free = d.free := by
  unfold Dev.respond; dsimp only; split <;> split <;> (try split) <;> rfl

/-! ### Dev.unhold -/

@[simp] theorem Dev.unhold_fc (d : Dev) (o : Nat) : (d.unhold o).fc = d.fc := rfl
@[simp] theorem Dev.unhold_anchor (d : Dev) (o : Nat) : (d.unhold o).anchor = d.anchor := rfl
@[simp] theorem Dev.unhold_pps (d : Dev) (o : Nat) : (d.unhold o).pps = d.pps := rfl
@[simp] theorem Dev.unhold_sched (d : Dev) (o : Nat) : (d.unhold o).sched = d.sched := rfl
@[simp] theorem Dev.unhold_ports (d : Dev) (o : Nat) : (d.unhold o).ports = d.ports := rfl
@[simp] theorem Dev.unhold_lanes (d : Dev) (o : Nat) : (d.unhold o).lanes = d.lanes := rfl
@[simp] theorem Dev.unhold_clientLanesUp (d : Dev) (o : Nat) : (d.unhold o).clientLanesUp = d.clientLanesUp := rfl
@[simp] theorem Dev.unhold_odu (d : Dev) (o : Nat) : (d.unhold o).odu = d.odu := rfl
@[simp] theorem Dev.unhold_chans (d : Dev) (o : Nat) : (d.unhold o).chans = d.chans := rfl
@[simp] theorem Dev.unhold_clients (d : Dev) (o : Nat) : (d.unhold o).clients = d.clients := rfl
@[simp] theorem Dev.unhold_cald (d : Dev) (o : Nat) : (d.unhold o).cald = d.cald := rfl
@[simp] theorem Dev.unhold_groups (d : Dev) (o : Nat) : (d.unhold o).groups = d.groups := rfl
@[simp] theorem Dev.unhold_layers (d : Dev) (o : Nat) : (d.unhold o).layers = d.layers := rfl
@[simp] theorem Dev.unhold_pms (d : Dev) (o : Nat) : (d.unhold o).pms = d.pms := rfl
@[simp] theorem Dev.unhold_pmDev (d : Dev) (o : Nat) : (d.unhold o).pmDev = d.pmDev := rfl
@[simp] theorem Dev.unhold_pgs (d : Dev) (o : Nat) : (d.unhold o).pgs = d.pgs := rfl
@[simp] theorem Dev.unhold_tokens (d : Dev) (o : Nat) : (d.unhold o).tokens = d.tokens := rfl
@[simp] theorem Dev.unhold_acts (d : Dev) (o : Nat) : (d.unhold o).acts = d.acts := rfl
@[simp] theorem Dev.unhold_evalFc (d : Dev) (o : Nat) : (d.unhold o).evalFc = d.evalFc := rfl
@[simp] theorem Dev.unhold_pair (d : Dev) (o : Nat) : (d.unhold o).pair = d.pair := rfl
@[simp] theorem Dev.unhold_fumPorts (d : Dev) (o : Nat) : (d.unhold o).fumPorts = d.fumPorts := rfl
@[simp] theorem Dev.unhold_fumSources (d : Dev) (o : Nat) : (d.unhold o).fumSources = d.fumSources := rfl
@[simp] theorem Dev.unhold_crc16 (d : Dev) (o : Nat) : (d.unhold o).crc16 = d.crc16 := rfl
@[simp] theorem Dev.unhold_crc32 (d : Dev) (o : Nat) : (d.unhold o).crc32 = d.crc32 := rfl
@[simp] theorem Dev.unhold_crc32c (d : Dev) (o : Nat) : (d.unhold o).crc32c = d.crc32c := rfl
@[simp] theorem Dev.unhold_cnt (d : Dev) (o : Nat) : (d.unhold o).cnt = d.cnt := rfl
@[simp] theorem Dev.unhold_sinter (d : Dev) (o : Nat) : (d.unhold o).sinter = d.sinter := rfl
@[simp] theorem Dev.unhold_pwr (d : Dev) (o : Nat) : (d.unhold o).pwr = d.pwr := rfl
@[simp] theorem Dev.unhold_svc (d : Dev) (o : Nat) : (d.unhold o).svc = d.svc := rfl
@[simp] theorem Dev.unhold_free (d : Dev) (o : Nat) : (d.unhold o).free = d.free := rfl
@[simp] theorem Dev.unhold_log (d : Dev) (o : Nat) : (d.unhold o).log = d.log := rfl

/-! ### Dev.unqueue -/

@[simp] theorem Dev.unqueue_fc (d : Dev) (c : Cmd) : (d.unqueue c).fc = d.fc := rfl
@[simp] theorem Dev.unqueue_anchor (d : Dev) (c : Cmd) : (d.unqueue c).anchor = d.anchor := rfl
@[simp] theorem Dev.unqueue_pps (d : Dev) (c : Cmd) : (d.unqueue c).pps = d.pps := rfl
@[simp] theorem Dev.unqueue_sched (d : Dev) (c : Cmd) : (d.unqueue c).sched = d.sched := rfl
@[simp] theorem Dev.unqueue_ports (d : Dev) (c : Cmd) : (d.unqueue c).ports = d.ports := rfl
@[simp] theorem Dev.unqueue_lanes (d : Dev) (c : Cmd) : (d.unqueue c).lanes = d.lanes := rfl
@[simp] theorem Dev.unqueue_clientLanesUp (d : Dev) (c : Cmd) : (d.unqueue c).clientLanesUp = d.clientLanesUp := rfl
@[simp] theorem Dev.unqueue_odu (d : Dev) (c : Cmd) : (d.unqueue c).odu = d.odu := rfl
@[simp] theorem Dev.unqueue_chans (d : Dev) (c : Cmd) : (d.unqueue c).chans = d.chans := rfl
@[simp] theorem Dev.unqueue_clients (d : Dev) (c : Cmd) : (d.unqueue c).clients = d.clients := rfl
@[simp] theorem Dev.unqueue_cald (d : Dev) (c : Cmd) : (d.unqueue c).cald = d.cald := rfl
@[simp] theorem Dev.unqueue_groups (d : Dev) (c : Cmd) : (d.unqueue c).groups = d.groups := rfl
@[simp] theorem Dev.unqueue_layers (d : Dev) (c : Cmd) : (d.unqueue c).layers = d.layers := rfl
@[simp] theorem Dev.unqueue_pms (d : Dev) (c : Cmd) : (d.unqueue c).pms = d.pms := rfl
@[simp] theorem Dev.unqueue_pmDev (d : Dev) (c : Cmd) : (d.unqueue c).pmDev = d.pmDev := rfl
@[simp] theorem Dev.unqueue_pgs (d : Dev) (c : Cmd) : (d.unqueue c).pgs = d.pgs := rfl
@[simp] theorem Dev.unqueue_tokens (d : Dev) (c : Cmd) : (d.unqueue c).tokens = d.tokens := rfl
@[simp] theorem Dev.unqueue_acts (d : Dev) (c : Cmd) : (d.unqueue c).acts = d.acts := rfl
@[simp] theorem Dev.unqueue_evalFc (d : Dev) (c : Cmd) : (d.unqueue c).evalFc = d.evalFc := rfl
@[simp] theorem Dev.unqueue_pair (d : Dev) (c : Cmd) : (d.unqueue c).pair = d.pair := rfl
@[simp] theorem Dev.unqueue_fumPorts (d : Dev) (c : Cmd) : (d.unqueue c).fumPorts = d.fumPorts := rfl
@[simp] theorem Dev.unqueue_fumSources (d : Dev) (c : Cmd) : (d.unqueue c).fumSources = d.fumSources := rfl
@[simp] theorem Dev.unqueue_crc16 (d : Dev) (c : Cmd) : (d.unqueue c).crc16 = d.crc16 := rfl
@[simp] theorem Dev.unqueue_crc32 (d : Dev) (c : Cmd) : (d.unqueue c).crc32 = d.crc32 := rfl
@[simp] theorem Dev.unqueue_crc32c (d : Dev) (c : Cmd) : (d.unqueue c).crc32c = d.crc32c := rfl
@[simp] theorem Dev.unqueue_cnt (d : Dev) (c : Cmd) : (d.unqueue c).cnt = d.cnt := rfl
@[simp] theorem Dev.unqueue_sinter (d : Dev) (c : Cmd) : (d.unqueue c).sinter = d.sinter := rfl
@[simp] theorem Dev.unqueue_pwr (d : Dev) (c : Cmd) : (d.unqueue c).pwr = d.pwr := rfl
@[simp] theorem Dev.unqueue_svc (d : Dev) (c : Cmd) : (d.unqueue c).svc = d.svc := rfl
@[simp] theorem Dev.unqueue_free (d : Dev) (c : Cmd) : (d.unqueue c).free = d.free := rfl
@[simp] theorem Dev.unqueue_log (d : Dev) (c : Cmd) : (d.unqueue c).log = d.log := rfl

/-! ### Dev.hold -/

@[simp] theorem Dev.hold_fc (d : Dev) (w : Waiting) : (d.hold w).fc = d.fc := rfl
@[simp] theorem Dev.hold_anchor (d : Dev) (w : Waiting) : (d.hold w).anchor = d.anchor := rfl
@[simp] theorem Dev.hold_pps (d : Dev) (w : Waiting) : (d.hold w).pps = d.pps := rfl
@[simp] theorem Dev.hold_sched (d : Dev) (w : Waiting) : (d.hold w).sched = d.sched := rfl
@[simp] theorem Dev.hold_ports (d : Dev) (w : Waiting) : (d.hold w).ports = d.ports := rfl
@[simp] theorem Dev.hold_lanes (d : Dev) (w : Waiting) : (d.hold w).lanes = d.lanes := rfl
@[simp] theorem Dev.hold_clientLanesUp (d : Dev) (w : Waiting) : (d.hold w).clientLanesUp = d.clientLanesUp := rfl
@[simp] theorem Dev.hold_odu (d : Dev) (w : Waiting) : (d.hold w).odu = d.odu := rfl
@[simp] theorem Dev.hold_chans (d : Dev) (w : Waiting) : (d.hold w).chans = d.chans := rfl
@[simp] theorem Dev.hold_clients (d : Dev) (w : Waiting) : (d.hold w).clients = d.clients := rfl
@[simp] theorem Dev.hold_cald (d : Dev) (w : Waiting) : (d.hold w).cald = d.cald := rfl
@[simp] theorem Dev.hold_groups (d : Dev) (w : Waiting) : (d.hold w).groups = d.groups := rfl
@[simp] theorem Dev.hold_layers (d : Dev) (w : Waiting) : (d.hold w).layers = d.layers := rfl
@[simp] theorem Dev.hold_pms (d : Dev) (w : Waiting) : (d.hold w).pms = d.pms := rfl
@[simp] theorem Dev.hold_pmDev (d : Dev) (w : Waiting) : (d.hold w).pmDev = d.pmDev := rfl
@[simp] theorem Dev.hold_pgs (d : Dev) (w : Waiting) : (d.hold w).pgs = d.pgs := rfl
@[simp] theorem Dev.hold_tokens (d : Dev) (w : Waiting) : (d.hold w).tokens = d.tokens := rfl
@[simp] theorem Dev.hold_acts (d : Dev) (w : Waiting) : (d.hold w).acts = d.acts := rfl
@[simp] theorem Dev.hold_evalFc (d : Dev) (w : Waiting) : (d.hold w).evalFc = d.evalFc := rfl
@[simp] theorem Dev.hold_pair (d : Dev) (w : Waiting) : (d.hold w).pair = d.pair := rfl
@[simp] theorem Dev.hold_fumPorts (d : Dev) (w : Waiting) : (d.hold w).fumPorts = d.fumPorts := rfl
@[simp] theorem Dev.hold_fumSources (d : Dev) (w : Waiting) : (d.hold w).fumSources = d.fumSources := rfl
@[simp] theorem Dev.hold_crc16 (d : Dev) (w : Waiting) : (d.hold w).crc16 = d.crc16 := rfl
@[simp] theorem Dev.hold_crc32 (d : Dev) (w : Waiting) : (d.hold w).crc32 = d.crc32 := rfl
@[simp] theorem Dev.hold_crc32c (d : Dev) (w : Waiting) : (d.hold w).crc32c = d.crc32c := rfl
@[simp] theorem Dev.hold_cnt (d : Dev) (w : Waiting) : (d.hold w).cnt = d.cnt := rfl
@[simp] theorem Dev.hold_sinter (d : Dev) (w : Waiting) : (d.hold w).sinter = d.sinter := rfl
@[simp] theorem Dev.hold_pwr (d : Dev) (w : Waiting) : (d.hold w).pwr = d.pwr := rfl
@[simp] theorem Dev.hold_svc (d : Dev) (w : Waiting) : (d.hold w).svc = d.svc := rfl
@[simp] theorem Dev.hold_free (d : Dev) (w : Waiting) : (d.hold w).free = d.free := rfl
@[simp] theorem Dev.hold_log (d : Dev) (w : Waiting) : (d.hold w).log = d.log := rfl

/-! ### Dev.makeJob -/

@[simp] theorem Dev.makeJob_fc (d : Dev) (o : Nat) : (d.makeJob o).fc = d.fc := rfl
@[simp] theorem Dev.makeJob_anchor (d : Dev) (o : Nat) : (d.makeJob o).anchor = d.anchor := rfl
@[simp] theorem Dev.makeJob_pps (d : Dev) (o : Nat) : (d.makeJob o).pps = d.pps := rfl
@[simp] theorem Dev.makeJob_sched (d : Dev) (o : Nat) : (d.makeJob o).sched = d.sched := rfl
@[simp] theorem Dev.makeJob_ports (d : Dev) (o : Nat) : (d.makeJob o).ports = d.ports := rfl
@[simp] theorem Dev.makeJob_lanes (d : Dev) (o : Nat) : (d.makeJob o).lanes = d.lanes := rfl
@[simp] theorem Dev.makeJob_clientLanesUp (d : Dev) (o : Nat) : (d.makeJob o).clientLanesUp = d.clientLanesUp := rfl
@[simp] theorem Dev.makeJob_odu (d : Dev) (o : Nat) : (d.makeJob o).odu = d.odu := rfl
@[simp] theorem Dev.makeJob_chans (d : Dev) (o : Nat) : (d.makeJob o).chans = d.chans := rfl
@[simp] theorem Dev.makeJob_clients (d : Dev) (o : Nat) : (d.makeJob o).clients = d.clients := rfl
@[simp] theorem Dev.makeJob_cald (d : Dev) (o : Nat) : (d.makeJob o).cald = d.cald := rfl
@[simp] theorem Dev.makeJob_groups (d : Dev) (o : Nat) : (d.makeJob o).groups = d.groups := rfl
@[simp] theorem Dev.makeJob_layers (d : Dev) (o : Nat) : (d.makeJob o).layers = d.layers := rfl
@[simp] theorem Dev.makeJob_pms (d : Dev) (o : Nat) : (d.makeJob o).pms = d.pms := rfl
@[simp] theorem Dev.makeJob_pmDev (d : Dev) (o : Nat) : (d.makeJob o).pmDev = d.pmDev := rfl
@[simp] theorem Dev.makeJob_pgs (d : Dev) (o : Nat) : (d.makeJob o).pgs = d.pgs := rfl
@[simp] theorem Dev.makeJob_tokens (d : Dev) (o : Nat) : (d.makeJob o).tokens = d.tokens := rfl
@[simp] theorem Dev.makeJob_acts (d : Dev) (o : Nat) : (d.makeJob o).acts = d.acts := rfl
@[simp] theorem Dev.makeJob_evalFc (d : Dev) (o : Nat) : (d.makeJob o).evalFc = d.evalFc := rfl
@[simp] theorem Dev.makeJob_pair (d : Dev) (o : Nat) : (d.makeJob o).pair = d.pair := rfl
@[simp] theorem Dev.makeJob_fumPorts (d : Dev) (o : Nat) : (d.makeJob o).fumPorts = d.fumPorts := rfl
@[simp] theorem Dev.makeJob_fumSources (d : Dev) (o : Nat) : (d.makeJob o).fumSources = d.fumSources := rfl
@[simp] theorem Dev.makeJob_crc16 (d : Dev) (o : Nat) : (d.makeJob o).crc16 = d.crc16 := rfl
@[simp] theorem Dev.makeJob_crc32 (d : Dev) (o : Nat) : (d.makeJob o).crc32 = d.crc32 := rfl
@[simp] theorem Dev.makeJob_crc32c (d : Dev) (o : Nat) : (d.makeJob o).crc32c = d.crc32c := rfl
@[simp] theorem Dev.makeJob_cnt (d : Dev) (o : Nat) : (d.makeJob o).cnt = d.cnt := rfl
@[simp] theorem Dev.makeJob_sinter (d : Dev) (o : Nat) : (d.makeJob o).sinter = d.sinter := rfl
@[simp] theorem Dev.makeJob_pwr (d : Dev) (o : Nat) : (d.makeJob o).pwr = d.pwr := rfl
@[simp] theorem Dev.makeJob_svc (d : Dev) (o : Nat) : (d.makeJob o).svc = d.svc := rfl
@[simp] theorem Dev.makeJob_free (d : Dev) (o : Nat) : (d.makeJob o).free = d.free := rfl
@[simp] theorem Dev.makeJob_log (d : Dev) (o : Nat) : (d.makeJob o).log = d.log := rfl

/-! ### Dev.answer -/

@[simp] theorem Dev.answer_fc (d : Dev) (c : Cmd) (st : Nat) (l : List Byte) : (d.answer c st l).fc = d.fc := by simp [Dev.answer]
@[simp] theorem Dev.answer_anchor (d : Dev) (c : Cmd) (st : Nat) (l : List Byte) : (d.answer c st l).anchor = d.anchor := by simp [Dev.answer]
@[simp] theorem Dev.answer_pps (d : Dev) (c : Cmd) (st : Nat) (l : List Byte) : (d.answer c st l).pps = d.pps := by simp [Dev.answer]
@[simp] theorem Dev.answer_sched (d : Dev) (c : Cmd) (st : Nat) (l : List Byte) : (d.answer c st l).sched = d.sched := by simp [Dev.answer]
@[simp] theorem Dev.answer_ports (d : Dev) (c : Cmd) (st : Nat) (l : List Byte) : (d.answer c st l).ports = d.ports := by simp [Dev.answer]
@[simp] theorem Dev.answer_lanes (d : Dev) (c : Cmd) (st : Nat) (l : List Byte) : (d.answer c st l).lanes = d.lanes := by simp [Dev.answer]
@[simp] theorem Dev.answer_clientLanesUp (d : Dev) (c : Cmd) (st : Nat) (l : List Byte) : (d.answer c st l).clientLanesUp = d.clientLanesUp := by simp [Dev.answer]
@[simp] theorem Dev.answer_odu (d : Dev) (c : Cmd) (st : Nat) (l : List Byte) : (d.answer c st l).odu = d.odu := by simp [Dev.answer]
@[simp] theorem Dev.answer_chans (d : Dev) (c : Cmd) (st : Nat) (l : List Byte) : (d.answer c st l).chans = d.chans := by simp [Dev.answer]
@[simp] theorem Dev.answer_clients (d : Dev) (c : Cmd) (st : Nat) (l : List Byte) : (d.answer c st l).clients = d.clients := by simp [Dev.answer]
@[simp] theorem Dev.answer_cald (d : Dev) (c : Cmd) (st : Nat) (l : List Byte) : (d.answer c st l).cald = d.cald := by simp [Dev.answer]
@[simp] theorem Dev.answer_groups (d : Dev) (c : Cmd) (st : Nat) (l : List Byte) : (d.answer c st l).groups = d.groups := by simp [Dev.answer]
@[simp] theorem Dev.answer_layers (d : Dev) (c : Cmd) (st : Nat) (l : List Byte) : (d.answer c st l).layers = d.layers := by simp [Dev.answer]
@[simp] theorem Dev.answer_pms (d : Dev) (c : Cmd) (st : Nat) (l : List Byte) : (d.answer c st l).pms = d.pms := by simp [Dev.answer]
@[simp] theorem Dev.answer_pmDev (d : Dev) (c : Cmd) (st : Nat) (l : List Byte) : (d.answer c st l).pmDev = d.pmDev := by simp [Dev.answer]
@[simp] theorem Dev.answer_pgs (d : Dev) (c : Cmd) (st : Nat) (l : List Byte) : (d.answer c st l).pgs = d.pgs := by simp [Dev.answer]
@[simp] theorem Dev.answer_tokens (d : Dev) (c : Cmd) (st : Nat) (l : List Byte) : (d.answer c st l).tokens = d.tokens := by simp [Dev.answer]
@[simp] theorem Dev.answer_acts (d : Dev) (c : Cmd) (st : Nat) (l : List Byte) : (d.answer c st l).acts = d.acts := by simp [Dev.answer]
@[simp] theorem Dev.answer_evalFc (d : Dev) (c : Cmd) (st : Nat) (l : List Byte) : (d.answer c st l).evalFc = d.evalFc := by simp [Dev.answer]
@[simp] theorem Dev.answer_pair (d : Dev) (c : Cmd) (st : Nat) (l : List Byte) : (d.answer c st l).pair = d.pair := by simp [Dev.answer]
@[simp] theorem Dev.answer_fumPorts (d : Dev) (c : Cmd) (st : Nat) (l : List Byte) : (d.answer c st l).fumPorts = d.fumPorts := by simp [Dev.answer]
@[simp] theorem Dev.answer_fumSources (d : Dev) (c : Cmd) (st : Nat) (l : List Byte) : (d.answer c st l).fumSources = d.fumSources := by simp [Dev.answer]
@[simp] theorem Dev.answer_crc16 (d : Dev) (c : Cmd) (st : Nat) (l : List Byte) : (d.answer c st l).crc16 = d.crc16 := by simp [Dev.answer]
@[simp] theorem Dev.answer_crc32 (d : Dev) (c : Cmd) (st : Nat) (l : List Byte) : (d.answer c st l).crc32 = d.crc32 := by simp [Dev.answer]
@[simp] theorem Dev.answer_crc32c (d : Dev) (c : Cmd) (st : Nat) (l : List Byte) : (d.answer c st l).crc32c = d.crc32c := by simp [Dev.answer]
@[simp] theorem Dev.answer_cnt (d : Dev) (c : Cmd) (st : Nat) (l : List Byte) : (d.answer c st l).cnt = d.cnt := by simp [Dev.answer]
@[simp] theorem Dev.answer_sinter (d : Dev) (c : Cmd) (st : Nat) (l : List Byte) : (d.answer c st l).sinter = d.sinter := by simp [Dev.answer]
@[simp] theorem Dev.answer_pwr (d : Dev) (c : Cmd) (st : Nat) (l : List Byte) : (d.answer c st l).pwr = d.pwr := by simp [Dev.answer]
@[simp] theorem Dev.answer_svc (d : Dev) (c : Cmd) (st : Nat) (l : List Byte) : (d.answer c st l).svc = d.svc := by simp [Dev.answer]
@[simp] theorem Dev.answer_free (d : Dev) (c : Cmd) (st : Nat) (l : List Byte) : (d.answer c st l).free = d.free := by simp [Dev.answer]

/-! ### Dev.finish -/

@[simp] theorem Dev.finish_fc (d : Dev) (w : Waiting) (st : Nat) (l : List Byte) : (d.finish w st l).fc = d.fc := by
  unfold Dev.finish; dsimp only; split <;> simp
@[simp] theorem Dev.finish_anchor (d : Dev) (w : Waiting) (st : Nat) (l : List Byte) : (d.finish w st l).anchor = d.anchor := by
  unfold Dev.finish; dsimp only; split <;> simp
@[simp] theorem Dev.finish_pps (d : Dev) (w : Waiting) (st : Nat) (l : List Byte) : (d.finish w st l).pps = d.pps := by
  unfold Dev.finish; dsimp only; split <;> simp
@[simp] theorem Dev.finish_sched (d : Dev) (w : Waiting) (st : Nat) (l : List Byte) : (d.finish w st l).sched = d.sched := by
  unfold Dev.finish; dsimp only; split <;> simp
@[simp] theorem Dev.finish_ports (d : Dev) (w : Waiting) (st : Nat) (l : List Byte) : (d.finish w st l).ports = d.ports := by
  unfold Dev.finish; dsimp only; split <;> simp
@[simp] theorem Dev.finish_lanes (d : Dev) (w : Waiting) (st : Nat) (l : List Byte) : (d.finish w st l).lanes = d.lanes := by
  unfold Dev.finish; dsimp only; split <;> simp
@[simp] theorem Dev.finish_clientLanesUp (d : Dev) (w : Waiting) (st : Nat) (l : List Byte) : (d.finish w st l).clientLanesUp = d.clientLanesUp := by
  unfold Dev.finish; dsimp only; split <;> simp
@[simp] theorem Dev.finish_odu (d : Dev) (w : Waiting) (st : Nat) (l : List Byte) : (d.finish w st l).odu = d.odu := by
  unfold Dev.finish; dsimp only; split <;> simp
@[simp] theorem Dev.finish_chans (d : Dev) (w : Waiting) (st : Nat) (l : List Byte) : (d.finish w st l).chans = d.chans := by
  unfold Dev.finish; dsimp only; split <;> simp
@[simp] theorem Dev.finish_clients (d : Dev) (w : Waiting) (st : Nat) (l : List Byte) : (d.finish w st l).clients = d.clients := by
  unfold Dev.finish; dsimp only; split <;> simp
@[simp] theorem Dev.finish_cald (d : Dev) (w : Waiting) (st : Nat) (l : List Byte) : (d.finish w st l).cald = d.cald := by
  unfold Dev.finish; dsimp only; split <;> simp
@[simp] theorem Dev.finish_groups (d : Dev) (w : Waiting) (st : Nat) (l : List Byte) : (d.finish w st l).groups = d.groups := by
  unfold Dev.finish; dsimp only; split <;> simp
@[simp] theorem Dev.finish_layers (d : Dev) (w : Waiting) (st : Nat) (l : List Byte) : (d.finish w st l).layers = d.layers := by
  unfold Dev.finish; dsimp only; split <;> simp
@[simp] theorem Dev.finish_pms (d : Dev) (w : Waiting) (st : Nat) (l : List Byte) : (d.finish w st l).pms = d.pms := by
  unfold Dev.finish; dsimp only; split <;> simp
@[simp] theorem Dev.finish_pmDev (d : Dev) (w : Waiting) (st : Nat) (l : List Byte) : (d.finish w st l).pmDev = d.pmDev := by
  unfold Dev.finish; dsimp only; split <;> simp
@[simp] theorem Dev.finish_pgs (d : Dev) (w : Waiting) (st : Nat) (l : List Byte) : (d.finish w st l).pgs = d.pgs := by
  unfold Dev.finish; dsimp only; split <;> simp
@[simp] theorem Dev.finish_tokens (d : Dev) (w : Waiting) (st : Nat) (l : List Byte) : (d.finish w st l).tokens = d.tokens := by
  unfold Dev.finish; dsimp only; split <;> simp
@[simp] theorem Dev.finish_acts (d : Dev) (w : Waiting) (st : Nat) (l : List Byte) : (d.finish w st l).acts = d.acts := by
  unfold Dev.finish; dsimp only; split <;> simp
@[simp] theorem Dev.finish_evalFc (d : Dev) (w : Waiting) (st : Nat) (l : List Byte) : (d.finish w st l).evalFc = d.evalFc := by
  unfold Dev.finish; dsimp only; split <;> simp
@[simp] theorem Dev.finish_pair (d : Dev) (w : Waiting) (st : Nat) (l : List Byte) : (d.finish w st l).pair = d.pair := by
  unfold Dev.finish; dsimp only; split <;> simp
@[simp] theorem Dev.finish_fumPorts (d : Dev) (w : Waiting) (st : Nat) (l : List Byte) : (d.finish w st l).fumPorts = d.fumPorts := by
  unfold Dev.finish; dsimp only; split <;> simp
@[simp] theorem Dev.finish_fumSources (d : Dev) (w : Waiting) (st : Nat) (l : List Byte) : (d.finish w st l).fumSources = d.fumSources := by
  unfold Dev.finish; dsimp only; split <;> simp
@[simp] theorem Dev.finish_crc16 (d : Dev) (w : Waiting) (st : Nat) (l : List Byte) : (d.finish w st l).crc16 = d.crc16 := by
  unfold Dev.finish; dsimp only; split <;> simp
@[simp] theorem Dev.finish_crc32 (d : Dev) (w : Waiting) (st : Nat) (l : List Byte) : (d.finish w st l).crc32 = d.crc32 := by
  unfold Dev.finish; dsimp only; split <;> simp
@[simp] theorem Dev.finish_crc32c (d : Dev) (w : Waiting) (st : Nat) (l : List Byte) : (d.finish w st l).crc32c = d.crc32c := by
  unfold Dev.finish; dsimp only; split <;> simp
@[simp] theorem Dev.finish_cnt (d : Dev) (w : Waiting) (st : Nat) (l : List Byte) : (d.finish w st l).cnt = d.cnt := by
  unfold Dev.finish; dsimp only; split <;> simp
@[simp] theorem Dev.finish_sinter (d : Dev) (w : Waiting) (st : Nat) (l : List Byte) : (d.finish w st l).sinter = d.sinter := by
  unfold Dev.finish; dsimp only; split <;> simp
@[simp] theorem Dev.finish_pwr (d : Dev) (w : Waiting) (st : Nat) (l : List Byte) : (d.finish w st l).pwr = d.pwr := by
  unfold Dev.finish; dsimp only; split <;> simp
@[simp] theorem Dev.finish_svc (d : Dev) (w : Waiting) (st : Nat) (l : List Byte) : (d.finish w st l).svc = d.svc := by
  unfold Dev.finish; dsimp only; split <;> simp
@[simp] theorem Dev.finish_free (d : Dev) (w : Waiting) (st : Nat) (l : List Byte) : (d.finish w st l).free = d.free := by
  unfold Dev.finish; dsimp only; split <;> simp

end Sys2Proof.Machine
end

