-- ==== Sys2Proof/Laws/Serve.lean ====
section
/-! SUPPORT. What a core does with the command it is offered, and the answer that then stands in the ring. -/

namespace Sys2Proof.Machine

open Sys2Proof

/-! ### What an event and a response leave of the host attachment -/

@[simp] theorem HostIf.vector_out (h : HostIf) (v : Nat) : (h.vector v).out = h.out := by
  unfold HostIf.vector; split <;> (try split) <;> rfl

@[simp] theorem HostIf.vector_mbs (h : HostIf) (v : Nat) : (h.vector v).mbs = h.mbs := by
  unfold HostIf.vector; split <;> (try split) <;> rfl

@[simp] theorem HostIf.vector_queue (h : HostIf) (v : Nat) : (h.vector v).queue = h.queue := by
  unfold HostIf.vector; split <;> (try split) <;> rfl

@[simp] theorem HostIf.vector_waiting (h : HostIf) (v : Nat) : (h.vector v).waiting = h.waiting := by
  unfold HostIf.vector; split <;> (try split) <;> rfl

@[simp] theorem Dev.raise_out (d : Dev) (code obj : Nat) (l : List Byte) : (d.raise code obj l).host.out = d.host.out := by
  unfold Dev.raise Dev.raiseAs; dsimp only; repeat' split
  all_goals simp

@[simp] theorem Dev.raise_mbs (d : Dev) (code obj : Nat) (l : List Byte) : (d.raise code obj l).host.mbs = d.host.mbs := by
  unfold Dev.raise Dev.raiseAs; dsimp only; repeat' split
  all_goals simp

@[simp] theorem Dev.raise_queue (d : Dev) (code obj : Nat) (l : List Byte) :
    (d.raise code obj l).host.queue = d.host.queue := by
  unfold Dev.raise Dev.raiseAs; dsimp only; repeat' split
  all_goals simp

@[simp] theorem Dev.raise_waiting (d : Dev) (code obj : Nat) (l : List Byte) :
    (d.raise code obj l).host.waiting = d.host.waiting := by
  unfold Dev.raise Dev.raiseAs; dsimp only; repeat' split
  all_goals simp

/-- An event is added at the end of those that arose. -/
@[simp] theorem Dev.raise_arising (d : Dev) (code obj : Nat) (l : List Byte) :
    (d.raise code obj l).log.arising = d.log.arising ++ [d.eventOf code obj l] := rfl

/-- The response slot is the one more to be written. -/
theorem Dev.answer_out (d : Dev) (c : Cmd) (st : Nat) (pl : List Byte) :
    (d.answer c st pl).host.out = d.host.out ++ [(d.rspSlot c.mb, d.slotOf c st pl)] := by
  have e : (Option.isSome (none : Option Nat)) = false := rfl
  unfold Dev.answer Dev.respond; dsimp only
  repeat' split
  all_goals simp [Dev.vector, Dev.setMb, Dev.rspSlot, Dev.slotOf, b2n]

theorem Dev.answer_rspProd (d : Dev) (c : Cmd) (st : Nat) (pl : List Byte) :
    ((d.answer c st pl).mb c.mb).rspProd = ((d.mb c.mb).rspProd + 1) % 2 ^ 16 := by
  unfold Dev.answer Dev.respond; dsimp only
  repeat' split
  all_goals simp [Dev.vector, Dev.setMb, Dev.mb, Tab.get_set_self]

@[simp] theorem Dev.answer_queue (d : Dev) (c : Cmd) (st : Nat) (pl : List Byte) :
    (d.answer c st pl).host.queue = d.host.queue := by
  unfold Dev.answer Dev.respond; dsimp only
  repeat' split
  all_goals simp [Dev.vector, Dev.setMb]

/-! ### Taking -/

/-- A core takes the command it is offered. -/
theorem Dev.take_of_offers (d : Dev) (core op : Nat) (ops : List Nat) (c : Cmd) (h : d.offers core op c = true)
    (m : ops.contains op = true) : d.take core ops = some (d.unqueue c, c) := by
  simp only [Dev.offers, Bool.and_eq_true, beq_iff_eq] at h
  obtain ⟨⟨⟨⟨⟨f, w⟩, b⟩, r⟩, o⟩, _⟩ := h
  have dr : ∀ n, Dev.drain n d = d := by
    intro n
    cases n with
    | zero => rfl
    | succ n => simp [Dev.drain, b, o, r, w]
  simp only [Dev.take, f, dr, b, if_true, o, m]

theorem Dev.precheck_of_offers (d : Dev) (core op : Nat) (c : Cmd) (h : d.offers core op c = true) :
    (d.unqueue c).precheck c = none := by
  simp only [Dev.offers, Bool.and_eq_true, Option.isNone_iff_eq_none] at h
  exact h.2

/-- A core that can take a command belongs to a running device. -/
theorem Dev.powered_of_offers (d : Dev) (core op : Nat) (c : Cmd) (h : d.offers core op c = true) : d.powered = true := by
  simp only [Dev.offers, Dev.coreFree, Bool.and_eq_true] at h
  simp [Dev.powered, h.1.1.1.1.1.1.1.1.1.1.2]

/-- A command that changes no state is answered at once. -/
theorem Dev.serveRead_of_offers (d : Dev) (core op : Nat) (c : Cmd) (f : Dev → Cmd → Nat × List Byte)
    (h : d.offers core op c = true) :
    d.serveRead core [op] f = (d.unqueue c).answer c (f (d.unqueue c) c).1 (f (d.unqueue c) c).2 := by
  simp [Dev.serveRead, Dev.take_of_offers d core op [op] c h (by simp), Dev.precheck_of_offers d core op c h]

/-- A command that changes state and passes its own checks is accepted. -/
theorem Dev.serve_of_offers (d : Dev) (core op : Nat) (c : Cmd) (check : Dev → Cmd → Check)
    (accept : Dev → Nat → Cmd → Dev) (h : d.offers core op c = true) (k : check (d.unqueue c) c = none) :
    d.serve core [op] check accept = accept (d.unqueue c) core c := by
  simp [Dev.serve, Dev.take_of_offers d core op [op] c h (by simp), Dev.precheck_of_offers d core op c h, k, firstRefusal]

/-- What a step answers, once the device after it is that of an answer to `c`. -/
theorem State.answers_of_answer (s : State) (c : Cmd) (st : Nat) (pl : List Byte) (h : s.handedOver = true) :
    s.answers (s.settle ((s.dev.unqueue c).answer c st pl)) c st pl := by
  have o : s.dev.host.out = [] := by simpa [State.handedOver] using h
  refine ⟨?_, ?_, ?_, rfl⟩
  · have e : (s.dev.unqueue c).host.out = [] := o
    rw [State.settle_bar1, Dev.answer_out, e]
    simp [Memory.puts]
    rfl
  · have e := Dev.answer_rspProd (s.dev.unqueue c) c st pl
    exact e
  · show ((s.dev.unqueue c).answer c st pl).host.queue = _
    simp [Dev.unqueue]

end Sys2Proof.Machine
end

