-- ==== Sys2Proof/WellFormed.lean ====
section
/-! DEFINITION. Which commands something outside can present: every number in the range that the manual gives its
object or field (R13, R22, R338, R339). The meanings stand for every term; an ill-formed one names no object. -/

namespace Sys2Proof

open Sys2Proof.Machine

/-- The numbers of the objects (R13, R338, R339). -/
def isCore (n : Nat) : Bool := n < 4
def isSlice (n : Nat) : Bool := n < 4
def isPort (n : Nat) : Bool := n < 8
def isChannel (n : Nat) : Bool := n < 256
def isLane (n : Nat) : Bool := n < 64
def isGroup (n : Nat) : Bool := n < 32
def isMember (n : Nat) : Bool := n < 8
def isPg (n : Nat) : Bool := n < 128
def isMailbox (n : Nat) : Bool := n < 8
def isSource (n : Nat) : Bool := n < 520
def isDomain (n : Nat) : Bool := n < 324
def isInstance (n : Nat) : Bool := n < 16
def isUnit (n : Nat) : Bool := n < 3
def isObject (n : Nat) : Bool := n < 2 ^ 32
def isPosition (n : Nat) : Bool := n < 15_296

/-- Where a TTI is accepted: an existing port, or one of the seven levels of a flow of an object (R98, R127). -/
def Machine.TtiSite.wf : TtiSite → Bool
  | .sm p => isPort p
  | .level o f l => isObject o && f < 2 && l < 7

/-- Registers are reached inside a BAR, by accesses of 1, 2, 4 or 8 bytes whose value fits (R316, R317). -/
def Machine.RegWrite.wf : RegWrite → Bool
  | .bar0 off w v => off + w ≤ 0x1_0000 && [1, 2, 4, 8].contains w && v < 256 ^ w
  | .bar1 off b => off + b.length ≤ 0x4_0000
  | .busMaster _ => true

/-- A window access lies inside BAR2 (R326). -/
def winWf (off : Nat) : WinAccess → Bool
  | .read n => off + n ≤ 2 ^ 32
  | .write b => off + b.length ≤ 2 ^ 32

/-- What a Beat brought names existing units only. -/
def Machine.BeatInput.wf (i : BeatInput) : Bool :=
  i.stepPins < 256 &&
  i.fec.all (fun f => isPort f.port && isInstance f.inst) &&
  i.overhead.all (fun f => isObject f.obj && f.flow < 2 && isInstance f.inst && f.mfas < 256) &&
  i.blocks.all (fun b => isObject b.obj && b.layer < 256) &&
  i.poison.all (fun p => isChannel p.1 && p.2.1 < 2) &&
  i.missed.all (fun m => m.die < 5) &&
  i.lines.all (fun l => isPort l.port) &&
  i.clients.all (fun c => isLane c.cp) &&
  i.farPoison.all (fun p => isObject p.1) &&
  i.prbs.all (fun p => isObject p.obj) &&
  i.books.all (fun p => isObject p.1) &&
  i.gmp.all (fun p => isChannel p.1 && p.2.1 < 3) &&
  i.slotFault.all (fun p => isPort p.1 && p.2.1 < 2) &&
  i.credits.all (fun p => isSlice p.1) &&
  i.fumSent.all (fun p => isPort p.1) &&
  i.fumPoison.all (fun p => isPort p.1) &&
  i.cells.all (fun p => p.1 < 24_576)

/-- Whether a command is one that can arrive. -/
def Instr.wf : Instr → Bool
  | .beatBoundary i => i.wf
  | .coalescedSummaryStaged => true
  | .anchorReferenceBoundary src pos => src < 3 && isPosition pos
  | .anchorReferenceLost => true
  | .ppsEdge _ pos => isPosition pos
  | .ppsLost => true
  | .pmSecondBoundary => true
  | .untimedCommandEffect => true
  | .timedCommandApply => true
  | .doorbell mb => isMailbox mb
  | .rspConsWrite mb v => isMailbox mb && v < 2 ^ 32
  | .announcedCommandAcknowledged mb => isMailbox mb
  | .coreWatchdogExpiry c => isCore c
  | .allCoresHalted => true
  | .sysIdentify c => isCore c
  | .sysStatus c => isCore c
  | .sysCancel c => isCore c
  | .sysEcho c => isCore c
  | .sysMbxGrant c => isCore c
  | .sysWindowSet c => isCore c
  | .fwStage c => isCore c
  | .fwStageComplete _ => true
  | .fwActivate c => isCore c
  | .fwRollback c => isCore c
  | .fwPauseBegin => true
  | .fwPauseEnd => true
  | .fwTrialSuccess => true
  | .fwTrialFailure cause => cause < 3
  | .timeAnchorSet c => isCore c
  | .timeRead c => isCore c
  | .timePpsSet c => isCore c
  | .timePending c => isCore c
  | .schedLoad c => isCore c
  | .schedStoreDone _ => true
  | .schedVerify c _ => isCore c
  | .schedSwap c => isCore c
  | .schedStatus c => isCore c
  | .schedDiscard c => isCore c
  | .swapArm => true
  | .swapCommitDecision acks _ => acks < 32
  | .swapEffect latched => latched < 32
  | .standbyCommitMissing => true
  | .lpEnable c => isCore c
  | .lpStatus c => isCore c
  | .lpLaneSet c => isCore c
  | .lpLadderPolicy c => isCore c
  | .lpLadderStep c => isCore c
  | .lpOtuOhSet c => isCore c
  | .laneUp l => isLane l
  | .laneDown l => isLane l
  | .flexoFrameStateChange p i st => isPort p && isInstance i && st < 3
  | .flexoGroupStateChange p _ => isPort p
  | .otucFrameStateChange p i _ => isPort p && isInstance i
  | .otucMultiframeStateChange p i _ => isPort p && isInstance i
  | .portMultiframeAligned p => isPort p
  | .portMultiframeLost p => isPort p
  | .sgIndicationAsserted p w => isPort p && w < 5
  | .sgIndicationCleared p w => isPort p && w < 5
  | .ttiAccepted site t => site.wf && t.length == 64
  | .rxMfStart p pos _ => isPort p && isPosition pos
  | .rxGenerationMark p m => isPort p && m < 2 ^ 16
  | .lccReqReceived p w i => isPort p && w < 2 ^ 16 && i < 2 ^ 16
  | .lccAnnReceived p w i => isPort p && w < 2 ^ 16 && i < 2 ^ 16
  | .lccMessageReceived p ws => isPort p && ws.all (· < 2 ^ 16)
  | .lccFallback p => isPort p
  | .rxStepApply p => isPort p
  | .rxStepResync p => isPort p
  | .stepPinQualified p => isPort p
  | .ladderRequestTimeout p => isPort p
  | .ladderAnnounceStart p => isPort p
  | .ladderStepApply p => isPort p
  | .oduTtiSet c => isCore c
  | .oduTcmSet c => isCore c
  | .oduOhWrite c => isCore c
  | .oduOhRead c => isCore c
  | .dmMeasureDone o l => isObject o && l < 7
  | .chStatus c => isCore c
  | .chMaint c => isCore c
  | .chMaintExpiry ch f => isChannel ch && f < 2
  | .cpConfig c => isCore c
  | .chRateRead c => isCore c
  | .rateTrackerPeriod ch st => isChannel ch && st < 3
  | .receivedCount ch st v _ => isChannel ch && 3 ≤ st && st < 6 && v < 2 ^ 24
  | .rampStateEnd ch => isChannel ch
  | .blockLockGained ch => isChannel ch
  | .blockLockLost ch => isChannel ch
  | .sgStatus c => isCore c
  | .skewRead c => isCore c
  | .farBudgetRead c => isCore c
  | .arbDeadlineSet c => isCore c
  | .dieLinkDown s => isSlice s
  | .sliceFailureDeclared s _ => isSlice s
  | .deskewRelease g _ l => isGroup g && l.all isMember
  | .sgUp g => isGroup g
  | .farDeskewUnavailable cause => 1 ≤ cause && cause ≤ 3
  | .alignedSignaturePeriod g w p _ _ => isPg g && w < 2 ^ 32 && p < 2 ^ 32
  | .alignedMatchTimeout g => isPg g
  | .arbiterGrant r _ => r < 2
  | .arbCutoff _ => true
  | .farReadDeadlineMiss o _ _ => isObject o
  | .defRead c => isCore c
  | .defMask c => isCore c
  | .defDegSet c => isCore c
  | .pmRead c => isCore c
  | .pmBinSet c => isCore c
  | .defectRaised o l d => isObject o && l < 256 && d < 16
  | .defectCleared o l d => isObject o && l < 256 && d < 16
  | .consequentActionEvaluation => true
  | .holdoffExpiry g p => isPg g && p < 2
  | .wtrExpiry g => isPg g
  | .apsAccepted g a => isPg g && a.length == 4
  | .pathMonitorFrameChange g p _ => isPg g && p < 2
  | .dfopNrTimeout g => isPg g
  | .pgCommand c => isCore c
  | .pgStatus c => isCore c
  | .pgTimers c => isCore c
  | .galuloFrameReceived f => isPosition f.pos
  | .stateCorrectionApply => true
  | .sinterTwinCommit => true
  | .mirrorAckTimeout => true
  | .digestCompare => true
  | .resyncAlign p => p < 72
  | .resyncTimeout p => p < 72
  | .galuloLinkUp => true
  | .galuloLinkDown n => n < 16
  | .galuloFrameTimeout => true
  | .pairAliveInLow => true
  | .keepaliveWatchdogExpiry => true
  | .failureTakeover => true
  | .xstbySample _ _ => true
  | .xstbyDiscrepancy => true
  | .waitTimeoutActive => true
  | .fcAdoption => true
  | .joinPhaseComplete => true
  | .joinPhaseTimeout => true
  | .joinRetry => true
  | .handoverEffect => true
  | .handoverNoAnswer => true
  | .pairSet c => isCore c
  | .pairJoin c => isCore c
  | .pairStatus c => isCore c
  | .pairTakeover c => isCore c
  | .pairYield c => isCore c
  | .pairDiscrepancySet c => isCore c
  | .fumPortSet c => isCore c
  | .fumBind c => isCore c
  | .fumUnbind c => isCore c
  | .fumUnbindComplete src => isSource src
  | .fumStatus c => isCore c
  | .fumPeek c => isCore c
  | .gccLineFrameReceived src _ _ => isSource src
  | .fumPortFrameReceived p _ _ => isPort p
  | .fumItemBoundary p => isPort p
  | .fumBankExchange p => isPort p
  | .fumUnderrun p => isPort p
  | .fumImportFrameSent src => isSource src
  | .crcCtxSelWrite u v => isUnit u && v < 2 ^ 32
  | .crcCfgWrite u v => isUnit u && v < 2 ^ 32
  | .crcDataBWrite u v => isUnit u && v < 2 ^ 8
  | .crcDataHWrite u v => isUnit u && v < 2 ^ 16
  | .crcDataWWrite u v => isUnit u && v < 2 ^ 32
  | .crcValueWrite u v => isUnit u && v < 2 ^ 32
  | .fcLoRead => true
  | .lwfLostRead => true
  | .lwfPop v => v < 2 ^ 32
  | .registerWrite w => w.wf
  | .hostWindowAccess off a => winWf off a
  | .lateWriteFault m id a w c => m < 9 && id < 16 && a < 2 ^ 40 && w < 8 && 1 ≤ c && c ≤ 5
  | .dmaTransferFailed _ => true
  | .perstNAsserted => true
  | .pcieLinkChange _ _ w sp => w ≤ 16 && sp ≤ 4
  | .pcieFlr => true
  | .sinterRead c => isCore c
  | .sinterWrite c => isCore c
  | .sinterWear c => isCore c
  | .sinterBar0Write off w v => off + w ≤ 0x1_0000 && [1, 2, 4, 8].contains w && v < 256 ^ w
  | .sinterCommit _ _ => true
  | .cntRead c => isCore c
  | .cntChainSet c => isCore c
  | .cntFilterSet c => isCore c
  | .geyserSet c => isCore c
  | .geyserPost c => isCore c
  | .geyserSnapshot => true
  | .geyserDumpWritten => true
  | .evtRead c => isCore c
  | .evtMask c => isCore c
  | .evtBlackboxRead c => isCore c
  | .eventStaged => true
  | .tephraRecordWrite => true
  | .overflowSummaryStaged => true
  | .logMemoryFault slot _ => slot < 8_192
  | .pwrDomainSet c => isCore c
  | .pwrStatus c => isCore c
  | .pwrDormant c => isCore c
  | .domainRisingStart d => isDomain d
  | .domainReady d => isDomain d
  | .vaonApplied => true
  | .railReached _ => true
  | .railFault o => 1 ≤ o && o ≤ 7
  | .railFaultRestart => true
  | .resetN => true
  | .boot _ => true
  | .refclkBad _ => true
  | .refclkGood _ => true
  | .dormReq _ => true
  | .dormantEntry => true
  | .wake => true
  | .prbsSet c => isCore c
  | .prbsRead c => isCore c
  | .prbsSyncChange o _ => isObject o
  | .loopSet c => isCore c
  | .lockChallenge c => isCore c
  | .lockRespond c => isCore c
  | .lockPassword c => isCore c
  | .lockClose c => isCore c
  | .lockPasswordSet c => isCore c
  | .vendorDiagnostic c => isCore c
  | .nonceExpiry => true
  | .lockBackoffEnd => true
  | .lockSessionExpiry => true
  | .jtagInstruction _ => true
  | .uartCharacterReceived _ _ => true
  | .uartCounterRead => true
  | .pmbStart u => u < 2
  | .pmbArbitrationLost u => u < 2
  | .pmbRetry u => u < 2
  | .pmbTransactionDone u _ _ => u < 2
  | .schedLoadComplete _ => true
  | .domainOff d => isDomain d
  | .dieLinkUp s => isSlice s
  | .powerRemoved _ => true
  | .pairAliveInHigh => true
  | .fumTransparentByteReceived p _ => isPort p
  | .clientLaneDown l => isLane l
  | .clientLaneUp l => isLane l
  | .clientOtuFrameStateChange l _ _ => isLane l

end Sys2Proof
end

