-- ==== Sys2Proof/Tests/Slice0.lean ====
section
/-! SUPPORT. Tests of the model: ill-formed commands that the check refuses, values that the manual gives, and for every
statement a device and operands that meet its hypotheses. Every expected result is the manual's. -/

namespace Sys2Proof.Tests

open Sys2Proof Sys2Proof.Machine

set_option Elab.async false

/-- A device that runs firmware, with every core up. -/
def on : Dev := { pwr := { mode := .running, fwState := 2, coresUp := 15 } }

/-- A state with that device. -/
def at' (d : Dev) : State := { dev := d }

/-- A command of mailbox 0. -/
def cmd (op obj : Nat) (pl : List Byte) : Cmd :=
  { mb := 0, opcode := op, cls := 2, timed := false, seq := 1, tag := 0, object := obj, applyAt := 0, payload := pl, slot := [] }

/-- A state whose queue holds one command. -/
def queued (c : Cmd) (d : Dev := on) : State := at' { d with host := { d.host with queue := [c] } }

/-- A command that waits for Beat 3, held by core 0. -/
def wait (c : Cmd) : Waiting :=
  { cmd := c, core := some 0, target := none, effectFc := 3, order := 0, mirror := none, acked := false, fromTwin := false
    job := false }

/-- The same command carried on by a hub unit. -/
def job (c : Cmd) : Waiting := { wait c with core := none, job := true }

/-- A state at Beat 3 in which one command waits for its effect. -/
def due (c : Cmd) (d : Dev := on) : State := at' { d with fc := 3, host := { d.host with waiting := [wait c] } }

/-- An image that lights no port. -/
def dark : Image :=
  { gen := 7, baseGen := 0, imgCrc := 1, lpMask := 0, chMask := [], txFp := [], feFp := [], lcal := [], xcal := [], ptab := []
    sgmap := [], prt := [], pgs := [], cat := [], binds := [], ladr := [] }

/-- An image that lights line port 0 as OTUC2 with a ladder of two steps. -/
def lit : Image :=
  { dark with gen := 8, lpMask := 1, ladr := [⟨0, [⟨40, []⟩, ⟨20, []⟩]⟩]
              lcal := [⟨0, 0, 0, 2, 40, []⟩, ⟨0, 0, 1, 2, 20, []⟩, ⟨0, 1, 0, 2, 40, []⟩, ⟨0, 1, 1, 2, 20, []⟩] }

/-- A client channel 0 of OPUflex on client lanes 0 to 3, and an ODU channel 1 of a client OTU on lanes 4 to 7. -/
def desc0 : Desc :=
  { ch := 0, kind := 0, cp := 0, clientType := 1, mapping := 2, oduType := 5, tsCount := 4, flexRate := 4, loTpn := 0, lanes := 4
    clientTab := none, serverTab := ⟨1, 0, 2, 952, 100, []⟩ }
def desc1 : Desc := { desc0 with ch := 1, kind := 1, cp := 4, mapping := 1, loTpn := 1 }

/-- A Spread group 0 of channel 0 on ports 0 and 1, and an aligned protection group 0 of channel 1 on those ports. -/
def sg0 : SgRec := ⟨0, 0, 0, 4, [⟨0, true, 2⟩, ⟨1, true, 2⟩], [0, 1, 0, 1]⟩
def pg0 : PgRec := ⟨0, 0, 32, 1, 0, 1, 64⟩

/-- The image `lit` with both channels and both groups. -/
def rich : Image :=
  { lit with chMask := [0, 1], ptab := [desc0, desc1]
             sgmap := [sg0]
             prt := [⟨0, 4, List.replicate 16 0⟩], pgs := [pg0] }

/-- A running device whose active image is `rich`. -/
def busy : Dev := { on with sched := { active := some rich } }

/-- A running device whose active image is `lit`, with one line port as given. -/
def withPort (p : LinePort) : Dev := { on with sched := { active := some lit }, ports := [(0, p)] }

namespace Front

def s0 : State := at' on

end Front

namespace Schedules

def img : Image := { gen := 7, baseGen := 0, imgCrc := 1, lpMask := 0, chMask := [], txFp := [], feFp := [], lcal := [], xcal := [], ptab := [], sgmap := [], prt := [], pgs := [], cat := [], binds := [], ladr := [] }

end Schedules

namespace Lines

def ali : LinePort := { enabled := true, lanesUp := 15, flexoLock := 3, groupAligned := true, inFrame := 3, inMf := 3, mfAligned := true }
def lc : LinePort := { ali with attr := { lccMode := 2 } }

end Lines

namespace Channels

def ali : LinePort := { enabled := true, lanesUp := 15, flexoLock := 3, groupAligned := true, inFrame := 3, inMf := 3, mfAligned := true }
def w1 := cmd 0x0401 (objChannel 0) [7, 2, 4]
def w2 := cmd 0x0402 (objChannel 0) [7, 0, 1, 1, 2]
def w3 (f : Byte) := cmd 0x0403 (objChannel 0) [f, 0, 8, 2]
def trk : Tracker := { run := true, lo := 90, hi := 110, word := 8, cmNom := 100 * 2 ^ 24, period := 2, p := 952, integ := 100 * 2 ^ 24, inNum := 50 }
def rcvd : Dev := { on with sched := { active := some { rich with xcal := [{ gs := 0, dir := 1, role := 0, ch := 0, up := 0, down := 0 }] } } }
def gfp : Dev := { on with sched := { active := some { rich with ptab := [{ desc0 with mapping := 3 }] } } }
def m1 := cmd 0x0502 (objChannel 0) [1, 1, 0, 0, 1]
def m2 := cmd 0x0502 (objChannel 0) [0, 6, 0, 0, 1]
def m4 := cmd 0x0503 (objClient 0) [1, 0, 5, 16, 32, 64, 255, 17]

end Channels

namespace Groups

def mem1 (t st : Nat) : Member := { tier := t, mState := st, skew := 5 }
def grp (t st : Nat) (m : SgMode) : Dev := { busy with groups := [(0, { mode := m, members := [mem1 t st, mem1 t st] })] }
def far := { (grp 2 2 .up) with cald := { streams := [⟨objSpread 0, 1, true, 1, 1⟩, ⟨objGroup 0, 1, true, 1, 1⟩] }, pgs := [(0, { align := { wTier := 2, pTier := 2 } })] }
def word (a : Nat) : HeldWord := { num := some 0, items := [], arrived := a }
def buf (l : List Nat) : DeskewBuf := { held := l.map word, base := some 0 }
def held (d : Dev) (a b : List Nat) : Dev :=
  { d with path := { deskew := [(objSpread 0 * 16, buf a), (objSpread 0 * 16 + 1, buf b)] } }
def hold := { busy with cald := { holder0 := some ⟨2, 0, 9999, 64⟩ } }
def a1 := cmd 0x0604 0 [15, 0, 0, 0, 1]

end Groups

namespace Monitors

def lp (p : LinePort) : Dev := { busy with ports := [(0, p)] }
def pgd (x : PgState) (arch : Nat := 33) : Dev := { on with sched := { active := some { rich with pgs := [{ pg0 with arch := arch }] } }, pgs := [(0, x)] }
def mon (d : Dev) (k : Nat) (m : PathMon) : State := at' { d with path := { mons := [(k, m)] } }
def ent : Tab PmEntity := [(objChannel 0 * 256 + 11, { run := true })]
def c1 := cmd 0x0702 (objPort 0) [1, 0, 255, 1]
def c2 := cmd 0x0703 (objChannel 0) [11, 0, 255, 1]
def c3 (op l : Byte) := cmd 0x0705 (if op = 1 then 0 else objChannel 0) [op, l, 8, 2, 5]
def img2 := { rich with pgs := [{ pg0 with arch := 33 }], prt := [⟨0, 4, [7, 6, 5, 4, 3, 2, 1, 0, 7, 6, 5, 4, 3, 2, 1, 0]⟩] }
def dd : Dev := { on with sched := { active := some img2 }, pgs := [(0, { run := true, held := 2 })] , fc := 5, evalFc := some 4 }
def k1 (r : Byte) := cmd 0x0801 (objGroup 0) [r]
def off (k : Nat) (d : Dev) : Dev := { d with pwr := { d.pwr with domains := [(k, { state := .off })] } }
def k2 := cmd 0x0803 (objGroup 0) [101, 0, 7]

end Monitors

namespace Twins

def pr (p : Pair) (fc : Nat := 0) : State := at' { busy with fc := fc, pair := p }
def hd (r : Nat) (h : Nat := 0xFF - 0x80) : GHead := { role := r, health := h }
def j := cmd 0x0902 0 [1]
def fr : GFrame := { head := { (hd 0) with tokSeq := 8 }, tokens := [⟨8, 1⟩], digests := none, cmds := [⟨0, 1, 9, 1, List.replicate 256 0⟩], recs := [], disc := none }
def bad : GWire := { fr.wire with crcOk := false }
def echo : GFrame := { head := { (hd 3) with tokSeq := 8, echoSeq := 5 }, tokens := [], digests := none, cmds := [], recs := [], disc := none }
def copied : LoadJob := { order := 0, source := 1, store := 0, length := 264, address := 0, twin := true, copy := some [7], sent := some 5 }
def sn : Snap := ⟨1, [], [], [], [], [], [], [], [], [], [], [], [], [], (4, 64), {}, {}, []⟩
def dga : Digests := ⟨2, 3, 0, [5, 6], []⟩
def dgb : Digests := ⟨2, 3, 0, [5, 7], []⟩
def dgd (a : PortAgree) : State := pr { role := .standby, link := 2, ownDigests := some dga, twinDigests := some dgb, agree := [(1, a)] } (3 * 256 + 1)
def mw : Waiting := { wait (cmd 0x0101 0 []) with mirror := some 3, target := some 1 }
def ps (m i : Byte) := cmd 0x0901 0 [m, i]
def pd := cmd 0x0906 0 [65]
def tk := cmd 0x0904 0 [0, 1]
def ho : Handover := { issuer := true, take := true, all := true, force := false, target := 1, lp := 3, cp := 1, answer := 2 }

end Twins

namespace Fums

def bnd : Binding := { port := 0, prio := 1, fcs := 0 }
def fp (f : FumPort) (x : FumSource := { bind := some bnd }) : Dev :=
  { busy with fumPorts := [(0, { f with attr := { f.attr with mode := 1 } }), (1, {})], fumSources := [(0, x), (5, {})] }
def src (l : List Byte) : FumSource := { bind := some bnd, rx := { done := [(l, false)] } }
def lf : List Byte := let c : List Byte := [0x41, 0x42]; c ++ leBytes 2 (fcsOf 0 c)
def i0 : Item := { src := 0, prio := 1, order := 0, bytes := [1, 2, 3], whole := true }
def i1 : Item := { src := 0, prio := 0, order := 1, bytes := [4], whole := true }
def op (f : FumPort) : Dev := { busy with fumPorts := [(0, { f with attr := { f.attr with mode := 0 } }), (1, {})], fumSources := [(0, { bind := some bnd })] }
def pf : List Byte := let c : List Byte := [0, 0, 0x41, 0x42]; c ++ leBytes 4 (fcsOf 2 c)
def tp (f : FumPort) (x : FumSource := { bind := some bnd }) : Dev :=
  { busy with fumPorts := [(0, { f with attr := { f.attr with mode := 2 } }), (1, {})], fumSources := [(0, x), (5, {})] }
def a1 (m : Byte) := cmd 0x0A01 (objFum 0) [m, 0, 5, 0, 64, 0, 0, 0, 1, 0, 0, 0]
def a2 (p : Byte) := cmd 0x0A02 (objSource 0) [p, 1, 1, 0]
def a3 := cmd 0x0A03 (objSource 0) []

end Fums

namespace Hosts

def hst (h : HostIf) (b : Dev := busy) : State := at' { b with host := h }
def mbx (m : Mailbox) : State := hst { mbs := [(2, m), (3, {})] }
def win0 : HostIf := { wins := [(0, { base := 0, enabled := true })] }
def wa : Nat := (List.range 64).foldl (fun b i => match (hst win0).dev.windowTarget (i * 0x800000) false with | some (.sram _) => i * 0x800000 | _ => b) 77
def cc := cmd 0x0E01 (objDomain 0) []
def ld := cmd 0x0201 0 []
def lj : LoadJob := { order := 0, source := 0, store := 0, length := 1024, address := 0x1000, twin := false }
def rs : State := hst { mbs := [(2, { cmdProd := 3, cmdAck := 1, announced := 2, irqEn := true })], lwf := [⟨1,2,3,0,1,5⟩], queue := [cc], waiting := [wait cc], sinterWe := 3, busMaster := true }
def img : FwImage := { magicOk := true, devType := 0x256, ifMajor := 1, version := 5, svn := 0, bodyLen := 64, present := 320, bodyCrcOk := true, keyOk := true, sigOk := true, digest := 7 }
def cn (seq : Byte) (mb : Nat := 0) := cmd 0x0003 (objMailbox mb) [seq, 0]
def q2 : Cmd := { cmd 0x0E01 (objDomain 0) [] with seq := 9 }
def ws (n : Byte) := cmd 0x0006 0 [n, 1, 0, 0, 0, 0, 0, 0, 0, 0, 0x20, 0x10, 0, 0, 0, 0]
def gr (op : Byte) := cmd 0x0005 (objMailbox 1) [op, 1, 0, 0, 3, 0, 7, 0]

end Hosts

namespace Stores

def ws (n : Byte) := cmd 0x0006 0 [n, 1, 0, 0, 0, 0, 0, 0, 0, 0, 0x20, 0x10, 0, 0, 0, 0]
def sn (x : Sinter) (h : HostIf := { sinterWe := 0x5157 }) (fc : Nat := 0) : State := at' { busy with sinter := x, host := h, fc := fc }
def cm : Commit := { word := 256, width := 1, value := 5 }
def swc := cmd 0x0B02 (objWord 256) [0, 0, 0, 0, 0, 0, 0, 0, 1, 2, 3]
def gd (n : Counters) (fc : Nat := 256 * 3360) : State := at' { busy with fc := fc, cnt := n, host := { linkUp := true, busMaster := true } }
def post : Counters := { enabled := true, base := 4096, slotBytes := 4096, slots := 4, firstSeq := 1, interval := 1 }
def dmp : Dump := { seq := 1, fc := 255, mask := 127, gen := 8, d := 1, chainSeq := 0, cells := [] }
def gs := cmd 0x0C04 0 [1, 127, 5, 0]
def gp (n : Byte) := cmd 0x0C05 0 [1, 0, 16, 0, 0, 0, 0, 0, 0, 0, 0, 8, n, 0]
def cs (o : Byte) := cmd 0x0C02 ((0x0E <<< 24) + 6) [o, 0, 2, 0]
def fs := cmd 0x0C03 ((0x0E <<< 24) + 0x4104) [1, 0, 1, 15, 0, 0, 0, 0, 1, 0, 0, 0, 0, 0, 0, 0, 9]
def lg (t : Tephra) : State := at' { busy with log := t, fc := 600 }
def ev (c sv : Nat) : Event := { fc := 500, code := c, sev := sv, obj := 3, data := zeros 12 }
def rc (sv : Nat) : Record := { fc := 400, code := 0x0E01, sev := sv, flags := 0, obj := 1, data := zeros 12 }
def ct : Counted := ⟨0x0A01, 3, 4, 300, 350, 1⟩
def er := cmd 0x0D01 0 [0, 0, 0, 0, 8, 0]
def em := cmd 0x0D02 0 [0x0E, 9, 1, 0]

end Stores

namespace Powers

def pw (p : Power) (d : Dev := busy) : State := at' { d with pwr := p }
def run0 : Power := { mode := .running, fwState := 2, coresUp := 15 }
def pds (o : Byte) (f : Nat := 314) := cmd 0x0E01 (objDomain f) [o, 0, 3, 0]
def pd := cmd 0x0E03 0 [1]
def img : FwImage := { magicOk := true, devType := 0x256, ifMajor := 1, version := 5, svn := 0, bodyLen := 64, present := 320, bodyCrcOk := true, keyOk := true, sigOk := true, digest := 7 }
def fsC (src dst : Byte) := cmd 0x0010 0 [src, dst, 0, 0, 64, 1, 0, 0, 0, 0, 1, 0, 0, 0, 0, 0]
def pb : Power := { run0 with bankA := some img, running := some img, bankB := some { img with version := 6 } }
def q1 := queued (fsC 0 0) { on with pwr := pb, host := { busMaster := true } }
def stg (src dst : Nat) : Power := { pb with stage := some { order := 0, source := src, dest := dst, length := 320, address := 0x10000 } }
def fa (t : Bool) : Cmd := { cmd 0x0011 0 [1, 0, 64, 0] with timed := t, applyAt := 12 }
def rb (t : Bool) : Cmd := { cmd 0x0012 0 [] with timed := t, applyAt := 12 }
def act : Activation := { order := some 0, target := 1, trial := true, trialMf := 64, restore := none, oldVersion := 5 }
def ap (a : Activation) (tr := (none : Option (Nat × Nat × Nat × Nat))) : State := at' { busy with fc := 300, pwr := { pb with activation := some a, preload := some { img with version := 6 }, trial := tr }, host := { waiting := [job (fa false)] } }
def bt : State := State.reset
def fl : FlashInput := { bankA := some img, bankB := none, slotA := none, slotB := none }

end Powers

namespace Services

def sv (x : Service) (d : Dev := busy) : State := at' { d with svc := x }
def pb (x : Prbs) : Service := { prbs := [(objLane 0, x)] }
def ps (l : Nat) (p m : Byte) := cmd 0x0F01 (objLane l) [p, m, 1, 0]
def lo (l : Nat) (p : Byte) := cmd 0x0F03 (objLane l) [p, 0]
def tw : Dev := { busy with pair := { role := .active, paired := true, link := 2, goodFrames := 64, rxHead := some { role := 3 } } }
def lkd : Dev := { busy with sinter := { cells := [(128, { value := 0x4C4B })] } }
def pm (x : Pmb) : State := sv { pmb0 := x }
def ch := cmd 0x0F10 0 []
def rp := cmd 0x0F11 0 (zeros 16)
def pw : List Byte := [1,2,3,4,5,6,7,8]
def cl := cmd 0x0F13 0 []
def st (o : Byte) := cmd 0x0F14 0 ([o, 8, 0, 0, 0, 0, 0, 0] ++ pw)
def puts (d : Dev) (l : List (Nat × Nat)) : Sinter := l.foldl (fun x e => x.put { word := e.1, width := 0, value := e.2 }) d.sinter
def vd (op : Nat) := cmd op 0 []

end Services

namespace Firmwares

def stg : Stage := { order := 0, source := 0, dest := 0, length := 320, address := 0x10000 }
def bs (d : Dev) (op : Nat) := queued (cmd op 0 []) { d with pwr := { d.pwr with stage := some stg } }
def bsr : State := queued (cmd 0x10 0 [0, 1, 0, 0, 64, 1]) { on with pwr := { on.pwr with fwState := 0, stage := some stg } }
def romc := cmd 0x10 0 [0, 1, 0, 0, 64, 1]

end Firmwares

namespace Extras

def lc : LinePort := { enabled := true, mfAligned := true, attr := { lccMode := 1 }, lanesUp := 255 }
def message : List Nat := [0, 0, 0xD6AB, 0xB510] ++ List.replicate 252 0
def ls := cmd 0x0305 (objPort 0) [0, 1]
def dueMf (c : Cmd) (d : Dev) : State := at' { d with fc := 256, host := { d.host with waiting := [{ wait c with effectFc := 256 }] } }
def standby (h : Nat) : Dev := { busy with pair := { role := .standby, ownLp := 0, ownCp := 0, link := 2, rxHead := some { role := 4, health := h } } }
def transparent := cmd 0x0A01 (objFum 0) [2, 0, 5]
def two : Dev := { busy with fumSources := [(0, { bind := some ⟨0, 1, 0⟩ }), (5, { bind := some ⟨0, 1, 0⟩ })] }
def post0 := cmd 0x0C05 0 [0, 0, 16, 0, 0, 0, 0, 0, 1, 0, 0, 0, 4, 0]
def image : FwImage := ⟨true, 0x256, 1, 5, 0, 64, 320, true, true, true, 7⟩
def act (t : Bool) : Cmd := { cmd 0x0011 0 [1, 0, 64, 0] with timed := t, applyAt := 12 }
def roll (t : Bool) : Cmd := { cmd 0x0012 0 [] with timed := t, applyAt := 12 }
def banked : Dev := { on with pwr := { on.pwr with bankA := some image, bankB := some image } }
def later (k : Nat) : Waiting := { wait (cmd 0x0301 0 []) with core := none, target := some 12, order := 1 + k, listed := true }
def crowded (c : Cmd) (d : Dev) : State := at' { d with host := { d.host with queue := [c], waiting := (List.range 32).map fun k => { later k with cmd := { cmd 0x0301 0 [] with seq := 100 + k } } } }
def sched (t : Bool) : Cmd := { cmd 0x0101 0 [1] with timed := t, applyAt := 12 }
def active : Dev := { on with pair := { role := .active, paired := true, link := 2, goodFrames := 64, rxHead := some { role := 3 } } }
def moved : Cmd := { cmd 0x0904 0 [0, 1] with timed := true, applyAt := 12 }
def disc := cmd 0x0205 0 []
def timedAt (c : Cmd) : State := at' { on with fc := 512, host := { waiting := [{ wait c with core := none, effectFc := 512, target := some 2 }] } }

end Extras

namespace Boundaries

def stepping : Dev := { on with fc := 300, anchor := { inUse := 0, mode := .acquire, stepAt := some 300 } }

end Boundaries

/-! ### Ill-formed commands, one for each check: the check refuses them -/

/-- There are four cores (R322). -/
theorem test_ill_formed_cores_are_refused_a : ([
    .coreWatchdogExpiry 4, .sysIdentify 4, .sysStatus 4, .sysCancel 4, .sysEcho 4, .sysMbxGrant 4, .sysWindowSet 4,
     .fwStage 4, .fwActivate 4, .fwRollback 4, .timeAnchorSet 4, .timeRead 4, .timePpsSet 4, .timePending 4, .schedLoad 4,
     .schedVerify 4 none, .schedSwap 4, .schedStatus 4, .schedDiscard 4, .lpEnable 4, .lpStatus 4, .lpLaneSet 4,
     .lpLadderPolicy 4, .lpLadderStep 4, .lpOtuOhSet 4, .oduTtiSet 4, .oduTcmSet 4, .oduOhWrite 4, .oduOhRead 4,
     .chStatus 4, .chMaint 4, .cpConfig 4, .chRateRead 4, .sgStatus 4, .skewRead 4, .farBudgetRead 4, .arbDeadlineSet 4,
     .defRead 4, .defMask 4, .defDegSet 4] : List Instr).all (fun i => !i.wf) = true := by decide +kernel

/-- There are four cores (R322). -/
theorem test_ill_formed_cores_are_refused_b : ([
    .pmRead 4, .pmBinSet 4, .pgCommand 4, .pgStatus 4, .pgTimers 4, .pairSet 4, .pairJoin 4, .pairStatus 4, .pairTakeover 4,
     .pairYield 4, .pairDiscrepancySet 4, .fumPortSet 4, .fumBind 4, .fumUnbind 4, .fumStatus 4, .fumPeek 4, .sinterRead 4,
     .sinterWrite 4, .sinterWear 4, .cntRead 4, .cntChainSet 4, .cntFilterSet 4, .geyserSet 4, .geyserPost 4, .evtRead 4,
     .evtMask 4, .evtBlackboxRead 4, .pwrDomainSet 4, .pwrStatus 4, .pwrDormant 4, .prbsSet 4, .prbsRead 4, .loopSet 4,
     .lockChallenge 4, .lockRespond 4, .lockPassword 4, .lockClose 4, .lockPasswordSet 4, .vendorDiagnostic 4] : List Instr).all (fun i => !i.wf) = true := by decide +kernel

/-- Each names one number beyond its range (R13, R338, R339). -/
theorem test_ill_formed_commands_are_refused_a : ([
    .anchorReferenceBoundary 3 0, .anchorReferenceBoundary 0 15296, .ppsEdge false 15296, .doorbell 8, .rspConsWrite 8 0,
     .rspConsWrite 0 (2 ^ 32), .announcedCommandAcknowledged 8, .fwTrialFailure 3, .swapCommitDecision 32 false,
     .swapEffect 32, .laneUp 64, .laneDown 64, .flexoFrameStateChange 8 0 0, .flexoFrameStateChange 0 16 0,
     .flexoFrameStateChange 0 0 3, .flexoGroupStateChange 8 false, .otucFrameStateChange 8 0 false,
     .otucFrameStateChange 0 16 false, .otucMultiframeStateChange 8 0 false, .otucMultiframeStateChange 0 16 false,
     .portMultiframeAligned 8, .portMultiframeLost 8, .sgIndicationAsserted 8 0, .sgIndicationAsserted 0 5,
     .sgIndicationCleared 8 0, .sgIndicationCleared 0 5, .rxMfStart 8 0 [], .rxMfStart 0 15296 [], .rxGenerationMark 8 0,
     .rxGenerationMark 0 (2 ^ 16), .lccReqReceived 8 0 0, .lccReqReceived 0 (2 ^ 16) 0, .lccReqReceived 0 0 (2 ^ 16),
     .lccAnnReceived 8 0 0, .lccAnnReceived 0 (2 ^ 16) 0, .lccAnnReceived 0 0 (2 ^ 16), .lccMessageReceived 8 [],
     .lccFallback 8, .rxStepApply 8, .rxStepResync 8] : List Instr).all (fun i => !i.wf) = true := by decide +kernel

/-- Each names one number beyond its range (R13, R338, R339). -/
theorem test_ill_formed_commands_are_refused_b : ([
    .stepPinQualified 8, .ladderRequestTimeout 8, .ladderAnnounceStart 8, .ladderStepApply 8, .dmMeasureDone (2 ^ 32) 0,
     .dmMeasureDone 0 7, .chMaintExpiry 256 0, .chMaintExpiry 0 2, .rateTrackerPeriod 256 0, .rateTrackerPeriod 0 3,
     .receivedCount 256 3 0 false, .receivedCount 0 2 0 false, .receivedCount 0 6 0 false, .receivedCount 0 3 (2 ^ 24) false, .rampStateEnd 256,
     .blockLockGained 256, .blockLockLost 256, .dieLinkDown 4, .sliceFailureDeclared 4 false, .deskewRelease 32 1 [], .deskewRelease 0 1 [8],
     .sgUp 32, .farDeskewUnavailable 0, .farDeskewUnavailable (3 + 1), .alignedSignaturePeriod 128 0 0 0 0,
     .alignedSignaturePeriod 0 (2 ^ 32) 0 0 0, .alignedSignaturePeriod 0 0 (2 ^ 32) 0 0, .alignedMatchTimeout 128,
     .arbiterGrant 2 [], .farReadDeadlineMiss (2 ^ 32) 0 0, .defectRaised (2 ^ 32) 0 0, .defectRaised 0 256 0,
     .defectRaised 0 0 16, .defectCleared (2 ^ 32) 0 0, .defectCleared 0 256 0, .defectCleared 0 0 16, .holdoffExpiry 128 0,
     .holdoffExpiry 0 2, .wtrExpiry 128, .apsAccepted 128 [], .pathMonitorFrameChange 128 0 false,
     .pathMonitorFrameChange 0 2 false] : List Instr).all (fun i => !i.wf) = true := by decide +kernel

/-- Each names one number beyond its range (R13, R338, R339). -/
theorem test_ill_formed_commands_are_refused_c : ([
    .dfopNrTimeout 128, .resyncAlign 72, .resyncTimeout 72, .galuloLinkDown 16, .fumUnbindComplete 520,
     .gccLineFrameReceived 520 [] false, .fumPortFrameReceived 8 [] false, .fumItemBoundary 8, .fumBankExchange 8,
     .fumUnderrun 8, .fumImportFrameSent 520, .crcCtxSelWrite 3 0, .crcCtxSelWrite 0 (2 ^ 32), .crcCfgWrite 3 0,
     .crcCfgWrite 0 (2 ^ 32), .crcDataBWrite 3 0, .crcDataBWrite 0 (2 ^ 8), .crcDataHWrite 3 0, .crcDataHWrite 0 (2 ^ 16),
     .crcDataWWrite 3 0, .crcDataWWrite 0 (2 ^ 32), .crcValueWrite 3 0, .crcValueWrite 0 (2 ^ 32), .lwfPop (2 ^ 32),
     .lateWriteFault 9 0 0 0 1, .lateWriteFault 0 16 0 0 1, .lateWriteFault 0 0 (2 ^ 40) 0 1, .lateWriteFault 0 0 0 8 1,
     .lateWriteFault 0 0 0 0 0, .lateWriteFault 0 0 0 0 (5 + 1), .pcieLinkChange false false (16 + 1) 0,
     .pcieLinkChange false false 0 (4 + 1), .sinterBar0Write 0 4 (256 ^ 4), .logMemoryFault 8192 false,
     .domainRisingStart 324, .domainReady 324, .railFault 0, .railFault (7 + 1), .prbsSyncChange (2 ^ 32) false, .pmbStart 2] : List Instr).all (fun i => !i.wf) = true := by decide +kernel

/-- Each names one number beyond its range (R13, R338, R339). -/
theorem test_ill_formed_commands_are_refused_d : ([
    .pmbArbitrationLost 2, .pmbRetry 2, .pmbTransactionDone 2 false [], .domainOff 324, .dieLinkUp 4,
     .fumTransparentByteReceived 8 0, .clientLaneDown 64, .clientLaneUp 64, .clientOtuFrameStateChange 64 false false,
     .beatBoundary { stepPins := 256 }, .beatBoundary { missed := [⟨5, 0, 0⟩] }, .beatBoundary { cells := [(24576, 1)] },
     .ttiAccepted (.sm 8) (zeros 64), .ttiAccepted (.level 0 0 7) (zeros 64), .ttiAccepted (.sm 0) (zeros 63),
     .lccMessageReceived 0 [65536], .apsAccepted 0 (zeros 3), .registerWrite (.bar0 0 3 0),
     .registerWrite (.bar0 0x1_0000 4 0), .registerWrite (.bar1 0x4_0000 [0]), .hostWindowAccess (2 ^ 32) (.read 1),
     .galuloFrameReceived { head := [], pos := 15_296 }, .sinterBar0Write 0xFFFC 8 0,
     .sinterBar0Write 0x8000 3 0] : List Instr).all (fun i => !i.wf) = true := by decide +kernel

/-! ### Values that the manual gives -/

/-- No row of the table gives bits, so a word spells no command, and placing one changes nothing. -/
theorem test_words_spell_no_command : decodeTableWord 32 0 = none ∧ State.reset.withFetchWord 32 7 = State.reset := ⟨rfl, rfl⟩

/-- The check values of the three polynomials over "123456789" (R58, R303). -/
theorem test_crc32c_check_value : crc32c [0x31, 0x32, 0x33, 0x34, 0x35, 0x36, 0x37, 0x38, 0x39] = 0xE306_9283 := by decide +kernel

/-- The check value of CRC-8 over "123456789", and the heads of blocks 0 and 258 of member 2 of group 3 at SFH_GEN 5 (R180). -/
theorem test_spread_fragment_heads : crc8 [0x31, 0x32, 0x33, 0x34, 0x35, 0x36, 0x37, 0x38, 0x39] = 0xF4 ∧
    (sfhBytes 3 2 5 0).take 7 = [0x1A, 0x51, 0, 0, 0, 0, 0] ∧ (sfhBytes 3 2 5 258).take 7 = [0x1A, 0x50, 0, 0, 1, 2, 0] := by
  decide +kernel

/-- A marker of member 2 of group 3 in slot 0: block 0x00010002 at offset 9; none where VALID is 0 (R102). -/
theorem test_markers_are_read : markerOf (List.replicate 16 0 ++ [0x1A80, 9, 1, 2] ++ List.replicate 236 0) 3 2 = some (0x0001_0002, 9) ∧
    markerOf (List.replicate 16 0 ++ [0x1A00, 9, 1, 2] ++ List.replicate 236 0) 3 2 = none := by decide +kernel

/-- HEAD begins with MAGIC and VERSION, and ROLE, FC and TOKSEQ follow (R265); the lane marker of lane 2 (R263). -/
theorem test_frames_begin_as_given : (({ role := 3, fc := 0x0102, tokSeq := 0x0103 } : GHead).bytes 4).take 16 =
      [0x6A, 0x5C, 0x01, 3, 2, 1, 0, 0, 0, 0, 0, 0, 3, 1, 4, 0] ∧
    laneMarker 2 0x1_0203_0405 = [0x6A, 0x5C, 0x4C, 2, 5, 4, 3, 2] := by decide +kernel

/-- The backoff after the first failure is 2 s and reaches 1 h (R453). -/
theorem test_backoff_doubles_to_an_hour : backoffMf 1 = 6_720 ∧ backoffMf 11 = 6_881_280 ∧ backoffMf 12 = 12_096_000 := by
  decide +kernel

/-- A Beat adds 1 to FC (R34). -/
theorem test_a_beat_counts : (match step { at' { on with fc := 255 } with pending := [.beatBoundary {}] } with
    | .next t => t.dev.fc == 256 && t.pending.isEmpty | _ => false) = true := by decide +kernel

/-- With both banks empty the device stays in the boot ROM, with core 0 alone, and says so (R419). -/
theorem test_boot_of_empty_flash : (match exec (.boot none) State.reset with
    | .next t => t.dev.pwr.fwState == 0 && t.dev.pwr.coresUp == 1 && (t.dev.log.arising.map (·.code)).contains 0x0013
    | _ => false) = true := by decide +kernel

/-- SYS_ECHO's response holds the payload at byte 32 of the slot (R337, R358). -/
theorem test_echo_comes_back : (match exec (.sysEcho 0) (queued (cmd 0x0004 0 [0xA5, 0x5A])) with
    | .next t => t.bar1.readBytes (0x4000 + 32) 2 == [0xA5, 0x5A] && t.bar1.readBytes (0x4000 + 4) 2 == [2, 0]
    | _ => false) = true := by decide +kernel

/-- A private JTAG instruction stops by name (R448). -/
theorem test_private_jtag_stops : exec (.jtagInstruction (.privateCode 5)) (at' on) = .refused .privateJtag := rfl

/-! ### Whole-machine statements -/

theorem test_meets_queue_is_left_alone_and_idles_when_empty :
    (∃ s t : State, ∃ i : Instr, exec i s = .next t) ∧ (∃ s : State, s.pending = []) :=
  ⟨⟨at' on, _, .vaonApplied, rfl⟩, ⟨State.reset, rfl⟩⟩

theorem test_meets_step_keeps_memories_canonical : ∃ s t : State, s.memWf = true ∧ step s = .next t :=
  ⟨{ at' on with mem := [⟨5, 3⟩], pending := [.registerWrite (.bar1 0 [1])] }, _, by decide, rfl⟩

theorem test_meets_step_hands_responses_over : ∃ s t : State, s.handedOver = true ∧ step s = .next t :=
  ⟨{ queued (cmd 0x0004 0 [1]) with pending := [.sysEcho 0] }, _, by decide, rfl⟩

theorem test_meets_only_undescribed_units_stop :
    (∃ (s : State) (i : Instr) (r : Refusal), exec i s = .refused r) ∧ (∃ (s : State) (i : Instr) (f : Fault), exec i s = .fault f) :=
  ⟨⟨at' on, .jtagInstruction (.privateCode 0), .privateJtag, rfl⟩, ⟨at' on, .sinterBar0Write 0x1_0000 4 0, .outsideBar, rfl⟩⟩

theorem test_meets_refused_commands_precheck : ∃ (d : Dev) (c : Cmd) (r : OpRow), opRow c.opcode = some r ∧ c.opcode ≠ 0x0002 ∧
    d.precheck c = none :=
  ⟨on, cmd 0x0101 0 [1], ⟨0x0101, [0], .granted, .m, true, false, true⟩, by decide +kernel⟩

/-! ### A message of the line control channel: its first four words leave the check value at 0, which zeros keep (R104) -/

theorem feed_zeros (n : Nat) : crcFeed 16 0x1021#16 0#16 (List.replicate n 0#8) = 0#16 := by
  induction n with
  | zero => rfl
  | succ n ih =>
    have h : (byteBitsMsb 0#8).foldl (crcStep 16 0x1021#16) 0#16 = 0#16 := by decide
    simpa [crcFeed, List.replicate_succ, h] using ih
theorem message_valid : lccValid Extras.message = true := by
  have h : lccBytes (Extras.message.take 255) = [0, 0, 0, 0, 0xD6, 0xAB, 0xB5, 0x10] ++ List.replicate 502 0#8 := by decide +kernel
  have k : crcFeed 16 0x1021#16 0xFFFF#16 [0, 0, 0, 0, 0xD6, 0xAB, 0xB5, 0x10] = 0#16 := by decide +kernel
  have c : crcLcc (lccBytes (Extras.message.take 255)) = 0 := by
    rw [h, crcLcc]
    have a : crcFeed 16 0x1021#16 0xFFFF#16 ([0, 0, 0, 0, 0xD6, 0xAB, 0xB5, 0x10] ++ List.replicate 502 0#8)
        = crcFeed 16 0x1021#16 (crcFeed 16 0x1021#16 0xFFFF#16 [0, 0, 0, 0, 0xD6, 0xAB, 0xB5, 0x10]) (List.replicate 502 0#8) :=
      List.foldl_append ..
    rw [a, k, feed_zeros]
    rfl
  simp only [lccValid, c]
  decide +kernel


theorem test_meets_step_runs_front_command :
    (∃ s : State, ∃ c : Instr, ∃ rest : List Instr, s.pending = c :: rest) :=
  ⟨(open Front in { s0 with pending := [.wake, .resetN] }), .wake, [.resetN], by decide +kernel⟩

theorem test_meets_reads_are_answered_at_once :
    (∃ r, ∃ s : State, ∃ core : Nat, ∃ c : Cmd, r ∈ readRows ∧ s.handedOver = true ∧ s.dev.offers core r.op c = true) :=
  ⟨⟨0x0004, .sysEcho, sysEcho⟩, queued (cmd 4 0 [1, 2]), 0, cmd 4 0 [1, 2], by simp [readRows, readRowsA], by decide +kernel⟩

theorem test_meets_settings_wait_for_their_beat :
    (∃ r, ∃ s : State, ∃ core : Nat, ∃ c : Cmd, ∃ st, ∃ pl, r ∈ changeRows ∧ s.handedOver = true ∧ s.dev.offers core r.op c = true ∧ r.check (s.dev.unqueue c) c = some (st, pl))
    ∧ (∃ r, ∃ s : State, ∃ core : Nat, ∃ c : Cmd, r ∈ changeRows ∧ s.handedOver = true ∧ s.dev.offers core r.op c = true ∧ r.check (s.dev.unqueue c) c = none ∧ s.dev.wouldMirror c = false ∧ c.appliesTimed = false)
    ∧ (∃ r, ∃ s : State, ∃ core : Nat, ∃ c : Cmd, r ∈ changeRows ∧ s.handedOver = true ∧ s.dev.offers core r.op c = true ∧ r.check (s.dev.unqueue c) c = none ∧ s.dev.wouldMirror c = false ∧ c.appliesTimed = true ∧ s.dev.timedRoom (resolveTarget s.dev.refMfn c.applyAt).1 = true)
    ∧ (∃ r, ∃ s : State, ∃ core : Nat, ∃ c : Cmd, r ∈ changeRows ∧ s.handedOver = true ∧ s.dev.offers core r.op c = true ∧ r.check (s.dev.unqueue c) c = none ∧ s.dev.wouldMirror c = false ∧ c.appliesTimed = true ∧ s.dev.timedRoom (resolveTarget s.dev.refMfn c.applyAt).1 = false)
    ∧ (∃ r, ∃ s : State, ∃ core : Nat, ∃ c : Cmd, r ∈ changeRows ∧ s.handedOver = true ∧ s.dev.offers core r.op c = true ∧ r.check (s.dev.unqueue c) c = none ∧ s.dev.wouldMirror c = true ∧ s.dev.timedRoom (s.dev.mirrorTarget c) = true) :=
  ⟨⟨⟨0x0205, .schedDiscard, checkSchedDiscard⟩, (open Extras in queued (cmd 0x0205 0 []) { on with sched := { load := some { order := 0, source := 0, store := 0, length := 1024, address := 0, twin := false } } }), 0, cmd 0x0205 0 [], stBusy, [], by simp [changeRows, changeRowsA], by decide +kernel⟩,
    ⟨⟨0x0101, .timeAnchorSet, unchecked⟩, queued (cmd 0x0101 0 [1]), 0, cmd 0x0101 0 [1], by simp [changeRows, changeRowsA], by decide +kernel⟩,
    ⟨⟨0x0101, .timeAnchorSet, unchecked⟩, (open Extras in queued (sched true)), 0, (open Extras in sched true), by simp [changeRows, changeRowsA], by decide +kernel⟩,
    ⟨⟨0x0101, .timeAnchorSet, unchecked⟩, (open Extras in crowded (sched true) on), 0, (open Extras in sched true), by simp [changeRows, changeRowsA], by decide +kernel⟩,
    ⟨⟨0x0101, .timeAnchorSet, unchecked⟩, (open Extras in queued (sched true) active), 0, (open Extras in sched true), by simp [changeRows, changeRowsA], by decide +kernel⟩⟩

theorem test_meets_refused_commands_are_answered_and_change_nothing :
    (∃ r, ∃ s : State, ∃ core : Nat, ∃ c : Cmd, ∃ st : Nat, ∃ pl : List Byte, r ∈ readRows ∧ s.handedOver = true ∧ s.dev.coreFree core = true ∧ s.dev.pwr.fwState = 2 ∧ bestOf s.dev.host.queue = some c ∧ c.opcode = r.op ∧ (s.dev.unqueue c).precheck c = some (st, pl))
    ∧ (∃ r, ∃ s : State, ∃ core : Nat, ∃ c : Cmd, ∃ st : Nat, ∃ pl : List Byte, r ∈ changeRows ∧ s.handedOver = true ∧ s.dev.coreFree core = true ∧ s.dev.pwr.fwState = 2 ∧ bestOf s.dev.host.queue = some c ∧ c.opcode = r.op ∧ (s.dev.unqueue c).precheck c = some (st, pl)) :=
  ⟨⟨⟨0x0004, .sysEcho, sysEcho⟩, queued (cmd 4 1 [1, 2]), 0, cmd 4 1 [1, 2], stNoObject, [], by simp [readRows, readRowsA], by decide +kernel⟩,
    ⟨⟨0x0101, .timeAnchorSet, unchecked⟩, queued (cmd 0x0101 0 [1]) { on with pair := { role := .standby } }, 0, cmd 0x0101 0 [1], stStandby, [], by simp [changeRows, changeRowsA], by decide +kernel⟩⟩

theorem test_meets_due_commands_take_effect_and_are_answered :
    (∃ s : State, ∃ w : Waiting, ∃ e : Dev, ∃ st : Nat, ∃ pl : List Byte, s.live = true ∧ s.dev.untimedDue = some w ∧ w.fromTwin = false ∧ s.dev.applyCmd w.cmd w.order = (e, st, pl) ∧ st ≠ stGoesOn ∧ e.host.out = [])
    ∧ (∃ s : State, ∃ w : Waiting, ∃ mfn : Nat, ∃ e : Dev, ∃ st : Nat, ∃ pl : List Byte, s.live = true ∧ s.dev.timedNext = some w ∧ w.target = some mfn ∧ w.fromTwin = false ∧ s.dev.applyCmd w.cmd w.order = (e, st, pl) ∧ st ≠ stGoesOn ∧ e.host.out = [])
    ∧ (∃ s : State, s.live = true ∧ s.dev.untimedDue = none)
    ∧ (∃ s : State, s.live = true ∧ s.dev.timedNext = none) :=
  ⟨⟨(open Extras in due disc on), (open Extras in wait disc), (open Extras in ((due disc on).dev.applyCmd disc 0).1), 0, [], by decide +kernel⟩,
    ⟨(open Extras in timedAt disc), (open Extras in { wait disc with core := none, effectFc := 512, target := some 2 }), 2, (open Extras in ((timedAt disc).dev.applyCmd disc 0).1), 0, [], by decide +kernel⟩,
    ⟨at' on, by decide +kernel⟩,
    ⟨at' on, by decide +kernel⟩⟩

theorem test_meets_echo_returns_its_payload :
    (∃ s : State, ∃ core : Nat, ∃ c : Cmd, s.handedOver = true ∧ s.dev.offers core 0x0004 c = true)
    ∧ (∃ c : Cmd, c.payload.length ≤ 224) :=
  ⟨⟨queued (cmd 4 0 [1, 2]), 0, cmd 4 0 [1, 2], by decide +kernel⟩,
    ⟨cmd 4 0 [1, 2], by decide +kernel⟩⟩

theorem test_meets_beat_boundary_increments_fc :
    (∃ s : State, s.dev.powered = true ∧ s.dev.clocked = true ∧ (s.dev.anchor.stepAt ≠ some s.dev.fc ∨ ∃ p ∈ s.dev.ports, p.2.enabled = true))
    ∧ (∃ s : State, s.dev.powered = true ∧ s.dev.clocked = true ∧ s.dev.anchor.stepAt = some s.dev.fc ∧ (∀ p ∈ s.dev.ports, p.2.enabled = false)) :=
  ⟨⟨at' on, by decide +kernel⟩,
    ⟨(open Boundaries in at' stepping), by decide +kernel⟩⟩

theorem test_meets_anchor_acquires_locks_slews_and_loses :
    (∃ s : State, ∃ src pos : Nat, s.live = true ∧ (src = 0 ∨ src = 2) ∧ pos < 15_296 ∧ s.dev.anchor.inUse = src ∧ s.dev.anchor.mode = .acquire ∧ s.dev.anchor.seen = false ∧ s.dev.anchor.consistent ≤ 1)
    ∧ (∃ s : State, ∃ src pos : Nat, s.live = true ∧ (src = 0 ∨ src = 2) ∧ pos < 15_296 ∧ s.dev.anchor.inUse = src ∧ s.dev.anchor.mode = .acquire ∧ s.dev.anchor.consistent = 2 ∧ nearPhase (wrapPhase (s.dev.phaseError src pos - s.dev.anchor.phaseErr)) = true ∧ nearPhase (s.dev.phaseError src pos) = true)
    ∧ (∃ s : State, ∃ src pos : Nat, s.live = true ∧ (src = 0 ∨ src = 2) ∧ pos < 15_296 ∧ s.dev.anchor.inUse = src ∧ s.dev.anchor.mode = .acquire ∧ s.dev.anchor.consistent = 2 ∧ nearPhase (wrapPhase (s.dev.phaseError src pos - s.dev.anchor.phaseErr)) = true ∧ nearPhase (s.dev.phaseError src pos) = false ∧ (∀ p ∈ s.dev.ports, p.2.enabled = false))
    ∧ (∃ s : State, ∃ src pos : Nat, s.live = true ∧ (src = 0 ∨ src = 2) ∧ pos < 15_296 ∧ s.dev.anchor.inUse = src ∧ s.dev.anchor.mode = .acquire ∧ s.dev.anchor.consistent = 2 ∧ nearPhase (wrapPhase (s.dev.phaseError src pos - s.dev.anchor.phaseErr)) = true ∧ nearPhase (s.dev.phaseError src pos) = false ∧ (∃ p ∈ s.dev.ports, p.2.enabled = true))
    ∧ (∃ s : State, s.live = true ∧ (s.dev.anchor.mode = .acquire ∨ s.dev.anchor.mode = .slew ∨ s.dev.anchor.mode = .locked) ∧ s.dev.anchor.lossMf ≤ s.dev.anchor.missedMf) :=
  ⟨⟨at' on, 0, 15295, by decide +kernel⟩,
    ⟨at' { on with anchor := { consistent := 2 } }, 0, 64, by decide +kernel⟩,
    ⟨at' { on with anchor := { consistent := 2, phaseErr := 65 } }, 0, 65, by decide +kernel⟩,
    ⟨at' { on with anchor := { consistent := 2, phaseErr := 65 }, ports := [(0, { enabled := true })] }, 0, 65, by decide +kernel⟩,
    ⟨at' { on with anchor := { missedMf := 2 } }, by decide +kernel⟩⟩

theorem test_meets_pps_edges_are_accepted_and_lost :
    (∃ s : State, ∃ pos : Nat, s.live = true ∧ pos < 15_296 ∧ s.dev.pps.mode ≠ 0 ∧ (s.dev.pps.state = .acquiring ∨ s.dev.pps.state = .lost) ∧ s.dev.pps.accepted = 0)
    ∧ (∃ s : State, ∃ pos : Nat, s.live = true ∧ pos < 15_296 ∧ s.dev.pps.mode = 1 ∧ (s.dev.pps.state = .acquiring ∨ s.dev.pps.state = .lost) ∧ s.dev.pps.accepted = 1 ∧ s.dev.ppsInWindow pos = true)
    ∧ (∃ s : State, s.live = true ∧ s.dev.pps.state = .valid ∧ (3_361 * s.dev.pps.lossN + s.dev.pps.windowMf) * 256 < s.dev.pps.since)
    ∧ (∃ s : State, s.live = true ∧ (s.dev.pps.state = .disabled ∨ s.dev.pps.state = .lost) ∧ s.dev.beat = 0 ∧ s.dev.swapDue = false ∧ s.dev.ladderDue = false ∧ s.dev.timedDue = false ∧ 3_360 ≤ s.dev.pps.pmsAge) :=
  ⟨⟨at' { on with pps := { mode := 1, state := .acquiring } }, 0, by decide +kernel⟩,
    ⟨at' { on with pps := { mode := 1, state := .acquiring, accepted := 1, since := 3371 * 256 } }, 0, by decide +kernel⟩,
    ⟨at' { on with pps := { mode := 1, state := .valid, since := (3361 * 3 + 10) * 256 + 1 } }, by decide +kernel⟩,
    ⟨at' { on with pps := { pmsAge := 3360 } }, by decide +kernel⟩⟩

theorem test_meets_time_settings_take_effect :
    (∃ s : State, ∃ w : Waiting, s.effectDue 0x0101 w = true)
    ∧ (∃ s : State, ∃ w : Waiting, s.effectDue 0x0103 w = true) :=
  ⟨⟨due (cmd 0x0101 0 [2, 1, 1, 0]), wait (cmd 0x0101 0 [2, 1, 1, 0]), by decide +kernel⟩,
    ⟨due (cmd 0x0103 0 [2, 9]), wait (cmd 0x0103 0 [2, 9]), by decide +kernel⟩⟩

theorem test_meets_schedule_load_fills_or_empties_shadow :
    (∃ s : State, ∃ core : Nat, ∃ c : Cmd, s.handedOver = true ∧ s.dev.offers core 0x0201 c = true ∧ s.dev.bankBusy = false ∧ s.dev.fwBusy = false ∧ (loadSource c = 0 → s.dev.dmaReady = true))
    ∧ (∃ s : State, ∃ read : Option (List Byte), ∃ j : LoadJob, ∃ bytes : List Byte, s.live = true ∧ s.dev.sched.load = some j ∧ j.copy = none ∧ s.dev.sched.shadow = none ∧ s.dev.loadBytes s.mem j.source j.length j.address read = some bytes)
    ∧ (∃ s : State, ∃ n : Nat, ∃ l : List Byte, ∃ rest : List (Nat × List Byte), s.live = true ∧ (n = 1 ∨ n = 2) ∧ s.dev.sched.stores = (n, l) :: rest) :=
  ⟨⟨queued (cmd 0x0201 0 [1, 3]), 0, cmd 0x0201 0 [1, 3], by decide +kernel⟩,
    ⟨at' { on with sched := { load := some { order := 0, source := 0, store := 1, length := 264, address := 0, twin := false } }, host := { waiting := [wait (cmd 0x0201 0 [])] } }, some [], { order := 0, source := 0, store := 1, length := 264, address := 0, twin := false }, [], by decide +kernel⟩,
    ⟨at' { on with sched := { stores := [(2, [1])] } }, 2, [1], [], by decide +kernel⟩⟩

theorem test_meets_schedule_verify_changes_no_bank :
    (∃ s : State, ∃ core : Nat, ∃ c : Cmd, ∃ read : Option (List Byte), ∃ bytes : List Byte, s.handedOver = true ∧ s.dev.offers core 0x0202 c = true ∧ (loadSource c = 0 → s.dev.dmaReady = true) ∧ s.dev.loadBytes s.mem (loadSource c) (loadLength c) (loadAddress c) read = some bytes) :=
  ⟨queued (cmd 0x0202 0 [3]), 0, cmd 0x0202 0 [3], none, [], by decide +kernel⟩

theorem test_meets_discard_empties_the_shadow_bank :
    (∃ s : State, ∃ core : Nat, ∃ c : Cmd, s.handedOver = true ∧ s.dev.offers core 0x0205 c = true ∧ (s.dev.sched.load.isSome = true ∨ s.dev.sched.swap.isSome = true ∨ s.dev.shadowRead = true))
    ∧ (∃ s : State, ∃ core : Nat, ∃ c : Cmd, s.handedOver = true ∧ s.dev.offers core 0x0205 c = true ∧ s.dev.sched.load = none ∧ s.dev.sched.swap = none ∧ s.dev.shadowRead = false)
    ∧ (∃ s : State, ∃ w : Waiting, s.effectDue 0x0205 w = true ∧ w.mirror = none) :=
  ⟨⟨queued (cmd 0x0205 0 []) { on with sched := { load := some { order := 0, source := 0, store := 0, length := 1024, address := 0, twin := false } } }, 0, cmd 0x0205 0 [], by decide +kernel⟩,
    ⟨(open Schedules in queued (cmd 0x0205 0 []) { on with sched := { shadow := some img } }), 0, cmd 0x0205 0 [], by decide +kernel⟩,
    ⟨(open Schedules in due (cmd 0x0205 0 []) { on with sched := { shadow := some img } }), wait (cmd 0x0205 0 []), by decide +kernel⟩⟩

theorem test_meets_schedule_swap_waits_commits_and_takes_effect :
    (∃ s : State, ∃ core : Nat, ∃ c : Cmd, s.handedOver = true ∧ s.dev.offers core 0x0203 c = true ∧ c.timed = false ∧ s.dev.sched.swap = none ∧ s.dev.fwBusy = false ∧ s.dev.swapRule (c.field 0 4) = 0)
    ∧ (∃ s : State, ∃ j : SwapJob, s.live = true ∧ s.dev.beat = 252 ∧ s.dev.sched.swap = some j ∧ j.phase = 0 ∧ j.target ≤ s.dev.mfn + 1 ∧ s.dev.swapRule j.expectGen = 0)
    ∧ (∃ s : State, ∃ j : SwapJob, s.live = true ∧ s.dev.beat = 254 ∧ s.dev.sched.swap = some j ∧ j.phase = 1 ∧ s.dev.followsTokens = false ∧ s.dev.twinFollows = false)
    ∧ (∃ s : State, ∃ j : SwapJob, ∃ acks die : Nat, ∃ twinAck : Bool, s.live = true ∧ s.dev.beat = 254 ∧ s.dev.sched.swap = some j ∧ j.phase = 1 ∧ s.dev.followsTokens = false ∧ s.dev.missingAck acks twinAck = some die)
    ∧ (∃ s : State, ∃ j : SwapJob, s.live = true ∧ s.dev.followsTokens = true ∧ s.dev.sched.swap = some j ∧ j.phase = 1 ∧ j.target ≤ s.dev.mfn)
    ∧ (∃ s : State, ∃ j : SwapJob, ∃ new : Image, s.live = true ∧ s.dev.beat = 0 ∧ s.dev.swapDue = true ∧ s.dev.sched.swap = some j ∧ s.dev.sched.shadow = some new) :=
  ⟨⟨(open Schedules in queued (cmd 0x0203 0 []) { on with fc := 252, sched := { shadow := some img } }), 0, cmd 0x0203 0 [], by decide +kernel⟩,
    ⟨(open Schedules in at' { on with fc := 252, sched := { shadow := some img, swap := some ⟨none, 0, 1, 0⟩ } }), ⟨none, 0, 1, 0⟩, by decide +kernel⟩,
    ⟨(open Schedules in at' { on with fc := 254, sched := { shadow := some img, swap := some ⟨none, 0, 1, 1⟩ } }), ⟨none, 0, 1, 1⟩, by decide +kernel⟩,
    ⟨(open Schedules in at' { on with fc := 254, sched := { shadow := some img, swap := some ⟨none, 0, 1, 1⟩ } }), ⟨none, 0, 1, 1⟩, 7, 3, false, by decide +kernel⟩,
    ⟨(open Schedules in at' { on with fc := 256, sched := { shadow := some img, swap := some ⟨none, 0, 1, 1⟩ }, pair := { role := .standby } }), ⟨none, 0, 1, 1⟩, by decide +kernel⟩,
    ⟨(open Schedules in at' { on with fc := 256, sched := { shadow := some img, swap := some ⟨none, 0, 1, 2⟩ } }), ⟨none, 0, 1, 2⟩, (open Schedules in img), by decide +kernel⟩⟩

theorem test_meets_line_receive_chain_gains_and_loses_alignment :
    (∃ s : State, ∃ lane : Nat, s.live = true ∧ lane < 64 ∧ s.dev.portOn (lane / 8) = true ∧ lane % 8 < s.dev.lanesInUse (lane / 8) ∧ 64 ≤ (s.dev.port (lane / 8)).laneGood (lane % 8))
    ∧ (∃ s : State, ∃ lane : Nat, s.live = true ∧ lane < 64 ∧ (s.dev.port (lane / 8)).enabled = true ∧ bit (s.dev.port (lane / 8)).lanesUp (lane % 8) = true ∧ (s.dev.port (lane / 8)).laneGood (lane % 8) = 0)
    ∧ (∃ s : State, ∃ p i q : Nat, s.live = true ∧ p < 8 ∧ 1 ≤ i ∧ i ≤ s.dev.portN p ∧ (s.dev.port p).enabled = true ∧ (s.dev.port p).posOf i = some q ∧ bit (s.dev.port p).lanesUp (q / 2) = true ∧ bit (s.dev.port p).flexoLock q = false ∧ bit (s.dev.port p).flexoVerify q = false ∧ 1 ≤ ((s.dev.port p).flexoAt q).good)
    ∧ (∃ s : State, ∃ p i q : Nat, s.live = true ∧ p < 8 ∧ 1 ≤ i ∧ i ≤ s.dev.portN p ∧ (s.dev.port p).enabled = true ∧ (s.dev.port p).posOf i = some q ∧ bit (s.dev.port p).lanesUp (q / 2) = true ∧ bit (s.dev.port p).flexoLock q = false ∧ bit (s.dev.port p).flexoVerify q = true ∧ 3 ≤ ((s.dev.port p).flexoAt q).good)
    ∧ (∃ s : State, ∃ p : Nat, s.live = true ∧ p < 8 ∧ (s.dev.port p).enabled = true ∧ s.dev.portN p ≠ 0 ∧ (s.dev.port p).pidSet (s.dev.portN p) = true ∧ (s.dev.port p).skewOk = true ∧ (s.dev.port p).gidOk = true)
    ∧ (∃ s : State, ∃ p i : Nat, s.live = true ∧ p < 8 ∧ 1 ≤ i ∧ i ≤ s.dev.portN p ∧ (s.dev.port p).groupAligned = true ∧ 2 ≤ ((s.dev.port p).otucAt i).fasGood)
    ∧ (∃ s : State, ∃ p i : Nat, s.live = true ∧ p < 8 ∧ 1 ≤ i ∧ i ≤ s.dev.portN p ∧ bit (s.dev.port p).inFrame (i - 1) = true ∧ 2 ≤ ((s.dev.port p).otucAt i).mfGood)
    ∧ (∃ s : State, ∃ p : Nat, s.live = true ∧ p < 8 ∧ (s.dev.port p).enabled = true ∧ (s.dev.port p).mfAligned = false ∧ (s.dev.port p).groupAligned = true ∧ (s.dev.port p).inFrame = 2 ^ s.dev.portN p - 1 ∧ (s.dev.port p).inMf = 2 ^ s.dev.portN p - 1 ∧ (s.dev.port p).equalMfas (s.dev.portN p) = true)
    ∧ (∃ s : State, ∃ p : Nat, s.live = true ∧ p < 8 ∧ (s.dev.port p).mfAligned = true ∧ (s.dev.port p).equalMfas (s.dev.portN p) = false) :=
  ⟨⟨at' (withPort { enabled := true, laneRun := [(0, 64)] }), 0, by decide +kernel⟩,
    ⟨(open Lines in at' (withPort ali)), 1, by decide +kernel⟩,
    ⟨at' (withPort { enabled := true, lanesUp := 15, flexo := [(1, { good := 1 })] }), 0, 2, 1, by decide +kernel⟩,
    ⟨at' (withPort { enabled := true, lanesUp := 15, flexoVerify := 2, flexo := [(1, { good := 3 })] }), 0, 2, 1, by decide +kernel⟩,
    ⟨(open Lines in at' (withPort { ali with groupAligned := false })), 0, by decide +kernel⟩,
    ⟨(open Lines in at' (withPort { ali with inFrame := 0, otuc := [(2, { fasGood := 2 })] })), 0, 2, by decide +kernel⟩,
    ⟨(open Lines in at' (withPort { ali with inMf := 0, otuc := [(2, { mfGood := 2 })] })), 0, 2, by decide +kernel⟩,
    ⟨(open Lines in at' (withPort { ali with mfAligned := false })), 0, by decide +kernel⟩,
    ⟨(open Lines in at' (withPort { ali with otuc := [(1, { mfas := 4 })] })), 0, by decide +kernel⟩⟩

theorem test_meets_switch_grade_indications_follow_conditions :
    (∃ s : State, ∃ p which : Nat, s.live = true ∧ p < 8 ∧ which < 5 ∧ (s.dev.port p).enabled = true ∧ (if which = 4 then (s.dev.port p).attr.sgfecThr ≤ (s.dev.port p).fecCount else s.dev.sgSet p which = true))
    ∧ (∃ s : State, ∃ p which : Nat, s.live = true ∧ p < 8 ∧ which < 5 ∧ (s.dev.port p).enabled = true ∧ (if which = 4 then 8 ≤ (s.dev.port p).fecBelow else 8 ≤ Tab.get 0 (s.dev.port p).clearRun which)) :=
  ⟨⟨(open Lines in at' (withPort { ali with lanesUp := 0})), 0, 1, by decide +kernel⟩,
    ⟨(open Lines in at' (withPort { ali with fecWindow := [16], sgFec := true, fecBelow := 8})), 0, 4, by decide +kernel⟩⟩

theorem test_meets_received_multiframes_set_offset_and_bank :
    (∃ s : State, ∃ p pos : Nat, s.live = true ∧ p < 8 ∧ pos < 15_296 ∧ (s.dev.port p).enabled = true ∧ (s.dev.port p).mfAligned = true)
    ∧ (∃ s : State, ∃ p mark : Nat, s.live = true ∧ p < 8 ∧ mark < 65_536 ∧ (s.dev.port p).mfAligned = true ∧ (s.dev.port p).lccRuns = true) :=
  ⟨⟨(open Lines in at' (withPort ali)), 0, 15295, by decide +kernel⟩,
    ⟨(open Lines in at' (withPort ali)), 0, 8, by decide +kernel⟩⟩

theorem test_meets_line_control_channel_words_are_taken :
    (∃ s : State, ∃ p : Nat, ∃ w : List Nat, s.live = true ∧ p < 8 ∧ (s.dev.port p).enabled = true ∧ (s.dev.port p).mfAligned = true ∧ (s.dev.port p).lccRuns = true ∧ (s.dev.port p).attr.lccMode ≠ 0 ∧ lccValid w = false)
    ∧ (∃ s : State, ∃ p : Nat, ∃ w : List Nat, s.live = true ∧ p < 8 ∧ (s.dev.port p).enabled = true ∧ (s.dev.port p).mfAligned = true ∧ (s.dev.port p).attr.lccMode ≠ 0 ∧ lccValid w = true)
    ∧ (∃ s : State, ∃ p : Nat, s.live = true ∧ p < 8 ∧ (s.dev.port p).enabled = true ∧ (s.dev.port p).mfAligned = true ∧ (s.dev.port p).attr.lccMode = 2 ∧ (s.dev.port p).ladder.fallenBack = false ∧ 64 ≤ (s.dev.port p).ladder.lccBadRun)
    ∧ (∃ s : State, ∃ p step seq : Nat, s.live = true ∧ p < 8 ∧ (s.dev.port p).mfAligned = true ∧ (s.dev.port p).lccRuns = true ∧ step < 8 ∧ seq < 256 ∧ (s.dev.ladder p).lastReqSeq ≠ some seq ∧ (s.dev.ladder p).announce = none ∧ (s.dev.ladder p).waitingChange = none ∧ (s.dev.port p).attr.accept = 2 ∧ (∀ k, (s.dev.ladder p).cmdTaken ≠ some (s.dev.fc, k)) ∧ min step (min (s.dev.port p).attr.floor (s.dev.steps p - 1)) ≠ (s.dev.ladder p).txStep)
    ∧ (∃ s : State, ∃ p step left seq : Nat, ∃ i : Image, s.live = true ∧ p < 8 ∧ (s.dev.port p).mfAligned = true ∧ (s.dev.port p).lccRuns = true ∧ step < 8 ∧ 1 ≤ left ∧ left ≤ 8 ∧ seq < 256 ∧ s.dev.rxImage p = some i ∧ step < i.steps p)
    ∧ (∃ s : State, ∃ p w v : Nat, s.live = true ∧ p < 8 ∧ w < 65_536 ∧ (s.dev.port p).mfAligned = true ∧ (s.dev.port p).lccRuns = true ∧ w + v ≠ 65_535) :=
  ⟨⟨(open Lines in at' (withPort { lc with ladder := { lccBadRun := 2 } })), 0, [1], by decide +kernel⟩,
    ⟨(open Extras in at' (withPort { lc with ladder := { lccBadRun := 2, lccGoodRun := 1 } })), 0, (open Extras in message), by decide +kernel, by decide +kernel, by decide +kernel, by decide +kernel, by decide +kernel, message_valid⟩,
    ⟨(open Lines in at' (withPort { lc with ladder := { lccBadRun := 64 } })), 0, by decide +kernel⟩,
    ⟨(open Lines in at' (withPort { lc with attr := { accept := 2 } })), 0, 7, 255, by decide +kernel, by decide +kernel, by decide +kernel, by decide +kernel, by decide +kernel, by decide +kernel, by decide +kernel, by decide +kernel, by decide +kernel, by decide +kernel, fun k h => absurd (show (none : Option (Nat × Nat)) = some _ from h) (by simp), by decide +kernel⟩,
    ⟨(open Lines in at' (withPort lc)), 0, 1, 8, 255, lit, by decide +kernel⟩,
    ⟨(open Lines in at' (withPort lc)), 0, 5, 7, by decide +kernel⟩⟩

theorem test_meets_ladder_steps_are_announced_and_applied :
    (∃ s : State, ∃ p : Nat, s.live = true ∧ p < 8 ∧ s.dev.pinAsks p = true)
    ∧ (∃ s : State, ∃ p : Nat, s.live = true ∧ p < 8 ∧ (s.dev.ladder p).reqOut = true ∧ (s.dev.ladder p).reqStart + 65_536 ≤ s.dev.fc)
    ∧ (∃ s : State, ∃ p : Nat, ∃ c : StepChange, s.live = true ∧ p < 8 ∧ s.dev.beat = 0 ∧ s.dev.swapDue = false ∧ (s.dev.ladder p).announce = none ∧ (s.dev.ladder p).pendingChange = some c ∧ c.start ≤ s.dev.mfn ∧ settled (s.dev.ladder p).lastTxMfn (s.dev.port p).attr.settleMf s.dev.mfn = true)
    ∧ (∃ s : State, ∃ p : Nat, ∃ a : Announce, s.live = true ∧ p < 8 ∧ (s.dev.ladder p).tokenMissed = false ∧ s.dev.swapDue = false ∧ (s.dev.ladder p).announce = some a ∧ a.start + 8 ≤ s.dev.mfn)
    ∧ (∃ s : State, ∃ p k n : Nat, s.live = true ∧ p < 8 ∧ (s.dev.ladder p).rxAnn = some (k, n) ∧ n ≤ (s.dev.ladder p).rxMfCount ∧ k ≠ (s.dev.ladder p).rxStep)
    ∧ (∃ s : State, ∃ p : Nat, s.live = true ∧ p < 8 ∧ 2 ≤ (s.dev.ladder p).matchRun ∧ (s.dev.ladder p).matchStep ≠ (s.dev.ladder p).rxStep) :=
  ⟨⟨(open Extras in at' { (withPort { lc with ladder := { pinRun := 4 } }) with fc := 256 * 30 }), 0, by decide +kernel⟩,
    ⟨(open Lines in at' { (withPort { lc with ladder := { reqOut := true } }) with fc := 65536 }), 0, by decide +kernel⟩,
    ⟨(open Lines in at' { (withPort { lc with ladder := { pendingChange := some ⟨1, 1, false, 0⟩ } }) with fc := 256 }), 0, ⟨1, 1, false, 0⟩, by decide +kernel⟩,
    ⟨(open Lines in at' { (withPort { lc with ladder := { announce := some ⟨1, 1, 0⟩ } }) with fc := 9 * 256 }), 0, ⟨1, 1, 0⟩, by decide +kernel⟩,
    ⟨(open Lines in at' { (withPort { lc with ladder := { rxAnn := some (1, 8), rxMfCount := 8 } }) with fc := 9 * 256 }), 0, 1, 8, by decide +kernel⟩,
    ⟨(open Lines in at' { (withPort { lc with ladder := { matchRun := 2, matchStep := 1 } }) with fc := 9 * 256 }), 0, by decide +kernel⟩⟩

theorem test_meets_line_port_settings_take_effect :
    (∃ s : State, ∃ w : Waiting, s.effectDue 0x0301 w = true ∧ checkLpEnable s.dev w.cmd = none)
    ∧ (∃ s : State, ∃ w : Waiting, s.effectDue 0x0303 w = true)
    ∧ (∃ s : State, ∃ w : Waiting, s.effectDue 0x0304 w = true)
    ∧ (∃ s : State, ∃ w : Waiting, s.effectDue 0x0306 w = true)
    ∧ (∃ s : State, ∃ w : Waiting, s.effectDue 0x0305 w = true ∧ (s.dev.port w.cmd.index).lccRuns = true ∧ w.cmd.field 0 1 ≠ 1 ∧ (s.dev.ladder w.cmd.index).announce = none ∧ clamp 0 (s.dev.steps w.cmd.index - 1) (w.cmd.field 1 1) ≠ (s.dev.ladder w.cmd.index).txStep ∧ s.dev.beat = 0) :=
  ⟨⟨due (cmd 0x0301 (objPort 0) [1, 3]) (withPort {}), wait (cmd 0x0301 (objPort 0) [1, 3]), by decide +kernel⟩,
    ⟨(open Lines in due (cmd 0x0303 (objLane 64) [16, 32, 64, 255, 17]) (withPort ali)), wait (cmd 0x0303 (objLane 64) [16, 32, 64, 255, 17]), by decide +kernel⟩,
    ⟨(open Lines in due (cmd 0x0304 (objPort 0) [3, 3, 8]) (withPort ali)), wait (cmd 0x0304 (objPort 0) [3, 3, 8]), by decide +kernel⟩,
    ⟨(open Lines in due (cmd 0x0306 (objPort 0) [4, 7]) (withPort ali)), wait (cmd 0x0306 (objPort 0) [4, 7]), by decide +kernel⟩,
    ⟨(open Extras in dueMf ls (withPort lc)), (open Extras in { wait ls with effectFc := 256 }), by decide +kernel⟩⟩

theorem test_meets_traces_and_delay_measurements_complete :
    (∃ s : State, ∃ p : Nat, ∃ tti : List Byte, s.live = true ∧ p < 8 ∧ (s.dev.port p).enabled = true ∧ (s.dev.port p).mfAligned = true ∧ 3 ≤ (s.dev.port p).ttiRun ∧ (s.dev.port p).ttiLatest = padTo 64 tti)
    ∧ (∃ s : State, ∃ obj flow level : Nat, ∃ tti : List Byte, s.live = true ∧ s.dev.readsLevel obj flow level = true ∧ 3 ≤ ((s.dev.oduOf obj).level flow level).ttiRun ∧ ((s.dev.oduOf obj).level flow level).latest = padTo 64 tti)
    ∧ (∃ s : State, ∃ obj level : Nat, s.live = true ∧ level < 7 ∧ ((s.dev.oduOf obj).dm level).measuring = true ∧ (((s.dev.oduOf obj).dm level).matched = true ∨ 65_535 ≤ ((s.dev.oduOf obj).dm level).count)) :=
  ⟨⟨(open Channels in at' (withPort { ali with ttiRun := 3, ttiLatest := padTo 64 [1, 2] })), 0, [1,2], by decide +kernel⟩,
    ⟨at' { busy with odu := [(objChannel 0, { levels := [(levelKey 1 0, { ttiRun := 3, latest := padTo 64 [1, 2] })] })] }, objChannel 0, 1, 0, [1,2], by decide +kernel⟩,
    ⟨at' { busy with odu := [(objChannel 0, { delay := [(6, { mode := 2, measuring := true, count := 65535, rxBit := true })] })] }, objChannel 0, 6, by decide +kernel⟩⟩

theorem test_meets_odu_settings_take_effect :
    (∃ s : State, ∃ w : Waiting, ∃ level flow : Nat, s.effectDue 0x0401 w = true ∧ level = clamp 0 6 (w.cmd.field 0 1) ∧ flow = (if w.cmd.field 1 1 ≤ 1 then w.cmd.field 1 1 else 0))
    ∧ (∃ s : State, ∃ w : Waiting, ∃ level flow : Nat, s.effectDue 0x0402 w = true ∧ checkOduTcmSet s.dev w.cmd = none ∧ level = clamp 0 6 (w.cmd.field 0 1) ∧ flow = (if w.cmd.field 1 1 ≤ 1 then w.cmd.field 1 1 else 0))
    ∧ (∃ s : State, ∃ w : Waiting, s.effectDue 0x0403 w = true ∧ checkOduOhWrite s.dev w.cmd = none) :=
  ⟨⟨(open Channels in due w1 busy), (open Channels in wait w1), 6, 0, by decide +kernel⟩,
    ⟨(open Channels in due w2 busy), (open Channels in wait w2), 6, 0, by decide +kernel⟩,
    ⟨(open Channels in due (w3 0) busy), (open Channels in wait (w3 0)), by decide +kernel⟩⟩

theorem test_meets_rate_tracker_decides_one_count :
    (∃ s : State, ∃ ch stage j : Nat, ∃ x : Tracker, ∃ ramp : Bool, ∃ lo hi : Nat, ∃ e integ sum cm : Int, s.live = true ∧ ch < 256 ∧ stage < 3 ∧ (s.dev.chan ch).run = true ∧ x = (s.dev.chan ch).stage stage ∧ x.run = true ∧ s.dev.enginePowered ch = true ∧ x.first ≤ s.dev.fc + 2 ∧ x.ranFc ≠ some s.dev.fc ∧ x.periodAt (s.dev.fc + 2) = some j ∧ ramp = ((s.dev.chan ch).ramp && stage == 0) ∧ lo = (if ramp then 1 else x.lo) ∧ hi = (if ramp then x.p else x.hi) ∧ e = (x.projected s.dev.fc j - (x.target : Int) * 2 ^ 24) / (x.word : Int) ∧ integ = clampI (lo * 2 ^ 24) (hi * 2 ^ 24 + (2 ^ 24 - 1)) (x.integ + e / (if ramp then 16 else 256)) ∧ sum = x.acc + integ + e / (if ramp then 2 else 8) ∧ cm = clampI lo hi (sum / 2 ^ 24)) :=
  ⟨(open Channels in at' { busy with chans := [(0, { run := true, txServer := trk })] }), 0, 0, 1, (open Channels in trk), false, 90, 110, (open Channels in (trk.projected 0 1) / 8), (open Channels in clampI (90 * 2 ^ 24) (110 * 2 ^ 24 + (2 ^ 24 - 1)) (trk.integ + (trk.projected 0 1) / 8 / 256)), (open Channels in (clampI (90 * 2 ^ 24) (110 * 2 ^ 24 + (2 ^ 24 - 1)) (trk.integ + (trk.projected 0 1) / 8 / 256)) + (trk.projected 0 1) / 8 / 8), (open Channels in clampI 90 110 (((clampI (90 * 2 ^ 24) (110 * 2 ^ 24 + (2 ^ 24 - 1)) (trk.integ + (trk.projected 0 1) / 8 / 256)) + (trk.projected 0 1) / 8 / 8) / 2 ^ 24)), by decide +kernel⟩

theorem test_meets_received_counts_ramp_and_block_lock :
    (∃ s : State, ∃ ch stage value lo hi top : Nat, ∃ crcOk : Bool, ∃ x : Desc, s.live = true ∧ ch < 256 ∧ (s.dev.chan ch).run = true ∧ value < 2 ^ 24 ∧ s.dev.rxDesc ch = some x ∧ x.rcvWindow stage = some (lo, hi, top) ∧ Tab.get (0, !crcOk) (s.dev.cpath ch).jc stage = (value, crcOk) ∧ crcOk = true ∧ lo ≤ value ∧ value ≤ hi)
    ∧ (∃ s : State, ∃ ch stage value lo hi top : Nat, ∃ crcOk : Bool, ∃ x : Desc, s.live = true ∧ ch < 256 ∧ (s.dev.chan ch).run = true ∧ value < 2 ^ 24 ∧ s.dev.rxDesc ch = some x ∧ x.rcvWindow stage = some (lo, hi, top) ∧ Tab.get (0, !crcOk) (s.dev.cpath ch).jc stage = (value, crcOk) ∧ crcOk = true ∧ (value < lo ∨ hi < value) ∧ (s.dev.chan ch).ramp = true ∧ 1 ≤ value ∧ value ≤ top)
    ∧ (∃ s : State, ∃ ch stage value lo hi top : Nat, ∃ crcOk : Bool, ∃ x : Desc, s.live = true ∧ ch < 256 ∧ (s.dev.chan ch).run = true ∧ value < 2 ^ 24 ∧ s.dev.rxDesc ch = some x ∧ x.rcvWindow stage = some (lo, hi, top) ∧ Tab.get (0, !crcOk) (s.dev.cpath ch).jc stage = (value, crcOk) ∧ (crcOk = false ∨ ((s.dev.chan ch).ramp = false ∧ (value < lo ∨ hi < value))))
    ∧ (∃ s : State, ∃ ch : Nat, s.live = true ∧ ch < 256 ∧ (s.dev.chan ch).run = true ∧ (s.dev.chan ch).ramp = true ∧ 16 ≤ (s.dev.chan ch).rampRun)
    ∧ (∃ s : State, ∃ ch : Nat, s.live = true ∧ ch < 256 ∧ s.dev.hasBlocks ch = true ∧ (s.dev.chan ch).blockLock = false ∧ 2 ≤ (s.dev.chan ch).boffGood)
    ∧ (∃ s : State, ∃ ch : Nat, s.live = true ∧ ch < 256 ∧ s.dev.hasBlocks ch = true ∧ (s.dev.chan ch).blockLock = true ∧ 3 ≤ (s.dev.chan ch).boffBad) :=
  ⟨⟨(open Channels in at' { rcvd with chans := [(0, { run := true })], path := { chans := [(0, { jc := [(3, (100, true))] })] } }), 0, 3, 100, 100, 101, 952, true, desc0, by decide +kernel⟩,
    ⟨(open Channels in at' { rcvd with chans := [(0, { run := true, ramp := true })], path := { chans := [(0, { jc := [(3, (99, true))] })] } }), 0, 3, 99, 100, 101, 952, true, desc0, by decide +kernel⟩,
    ⟨(open Channels in at' { rcvd with chans := [(0, { run := true })], path := { chans := [(0, { jc := [(3, (99, false))] })] } }), 0, 3, 99, 100, 101, 952, false, desc0, by decide +kernel⟩,
    ⟨at' { busy with chans := [(0, { run := true, ramp := true, rampRun := 16 })] }, 0, by decide +kernel⟩,
    ⟨(open Channels in at' { gfp with chans := [(0, { run := true, boffGood := 2 })] }), 0, by decide +kernel⟩,
    ⟨(open Channels in at' { gfp with chans := [(0, { run := true, boffBad := 3, blockLock := true })] }), 0, by decide +kernel⟩⟩

theorem test_meets_client_ports_and_maintenance_change :
    (∃ s : State, ∃ lane : Nat, ∃ x : Desc, s.live = true ∧ lane < 64 ∧ s.dev.clientOf lane = some x ∧ (s.dev.client x.cp).enabled = true ∧ s.dev.clientPowered x.cp x.lanes = true)
    ∧ (∃ s : State, ∃ lane : Nat, ∃ x : Desc, s.live = true ∧ lane < 64 ∧ s.dev.clientOf lane = some x ∧ (s.dev.client x.cp).enabled = true ∧ bit s.dev.clientLanesUp lane = true)
    ∧ (∃ s : State, ∃ lane : Nat, ∃ inFrame inMf : Bool, ∃ x : Desc, s.live = true ∧ lane < 64 ∧ s.dev.clientOf lane = some x ∧ x.kind = 1 ∧ x.cp = lane ∧ (s.dev.client lane).enabled = true ∧ s.dev.clientUp x = true ∧ (inMf = true → inFrame = true))
    ∧ (∃ s : State, ∃ w : Waiting, ∃ sig : Nat, ∃ m : Maint, s.effectDue 0x0502 w = true ∧ sig = (if w.cmd.field 1 1 ≤ 6 then w.cmd.field 1 1 else 0) ∧ (m = ⟨sig, if sig = 0 ∨ w.cmd.field 4 4 = 0 then none else some (s.dev.mfn + w.cmd.field 4 4)⟩) ∧ checkChMaint s.dev w.cmd = none)
    ∧ (∃ s : State, ∃ w : Waiting, ∃ sig : Nat, ∃ m : Maint, s.effectDue 0x0502 w = true ∧ sig = (if w.cmd.field 1 1 ≤ 6 then w.cmd.field 1 1 else 0) ∧ (m = ⟨sig, if sig = 0 ∨ w.cmd.field 4 4 = 0 then none else some (s.dev.mfn + w.cmd.field 4 4)⟩) ∧ checkChMaint s.dev w.cmd ≠ none)
    ∧ (∃ s : State, ∃ ch flow e : Nat, s.live = true ∧ ch < 256 ∧ flow < 2 ∧ ((if flow = 0 then (s.dev.chan ch).maintTx else (s.dev.chan ch).maintRx).expiry) = some e ∧ e * 256 ≤ s.dev.fc ∧ ((if flow = 0 then (s.dev.chan ch).maintTx else (s.dev.chan ch).maintRx).signal) ≠ 0)
    ∧ (∃ s : State, ∃ w : Waiting, ∃ i : Image, ∃ x : Desc, s.effectDue 0x0503 w = true ∧ s.dev.sched.active = some i ∧ i.clientDesc w.cmd.index = some x ∧ checkCpConfig s.dev w.cmd = none) :=
  ⟨⟨at' { busy with clients := [(0, { enabled := true })] }, 3, desc0, by decide +kernel⟩,
    ⟨at' { busy with clients := [(0, { enabled := true })], clientLanesUp := 15 }, 3, desc0, by decide +kernel⟩,
    ⟨at' { busy with clients := [(4, { enabled := true })], clientLanesUp := 255 }, 4, true, true, desc1, by decide +kernel⟩,
    ⟨(open Channels in due m1 busy), (open Channels in wait m1), 1, ⟨1, some 1⟩, by decide +kernel⟩,
    ⟨(open Channels in due m2 busy), (open Channels in wait m2), 6, ⟨6, some 1⟩, by decide +kernel⟩,
    ⟨at' { busy with fc := 256, chans := [(0, { run := true, maintRx := ⟨2, some 1⟩ })] }, 0, 1, 1, by decide +kernel⟩,
    ⟨(open Channels in due m4 busy), (open Channels in wait m4), rich, desc0, by decide +kernel⟩⟩

theorem test_meets_die_links_and_the_far_tier_fail_and_recover :
    (∃ s : State, ∃ slice : Nat, s.live = true ∧ slice < 4 ∧ bit s.dev.cald.dieUp slice = true)
    ∧ (∃ s : State, ∃ slice : Nat, s.live = true ∧ slice < 4)
    ∧ (∃ s : State, ∃ cause : Nat, ∃ i : Image, s.live = true ∧ (cause = 2 ∨ (cause = 1 ∧ s.dev.farState = 1) ∨ (cause = 3 ∧ 16 ≤ s.dev.cald.hbmRun)) ∧ s.dev.sched.active = some i)
    ∧ (∃ s : State, ∃ g index : Nat, s.live = true ∧ g < 32 ∧ (∃ x ∈ s.dev.cald.streams, x.owner = objSpread g ∧ x.index = index))
    ∧ (∃ s : State, ∃ g index : Nat, s.live = true ∧ g < 128 ∧ (∃ x ∈ s.dev.cald.streams, x.owner = objGroup g ∧ x.index = index)) :=
  ⟨⟨at' busy, 3, by decide +kernel⟩,
    ⟨at' busy, 3, by decide +kernel⟩,
    ⟨(open Groups in at' far), 2, rich, by decide +kernel⟩,
    ⟨(open Groups in at' far), 0, 1, by decide +kernel⟩,
    ⟨(open Groups in at' far), 0, 1, by decide +kernel⟩⟩

theorem test_meets_spread_groups_come_up_release_and_realign :
    (∃ s : State, ∃ g : Nat, s.live = true ∧ (s.dev.sgRec g).isSome = true ∧ ((s.dev.group g).mode = .forming ∨ (s.dev.group g).mode = .realign) ∧ (s.dev.group g).members ≠ [] ∧ (∀ m ∈ (s.dev.group g).members, m.tier ≠ 0 ∧ m.mState = 2) ∧ (s.dev.firstWord g).isSome = true)
    ∧ (∃ s : State, ∃ g n : Nat, ∃ r : SgRec, s.live = true ∧ s.dev.sgRec g = some r ∧ 1 ≤ n ∧ n ≤ s.dev.wordsHeld g ∧ (s.dev.group g).mode = .up ∧ r.members.length = (s.dev.group g).members.length ∧ (∀ j, j < n → ∀ k, k < r.members.length → ((s.dev.member g k).tier = 1 → s.dev.leadAt g j k ≤ 315_776 + 7_648) ∧ ((s.dev.member g k).tier = 2 → s.dev.leadAt g j k + 1_912 < (s.dev.member g k).alloc)))
    ∧ (∃ s : State, ∃ g k n : Nat, ∃ r : SgRec, s.live = true ∧ s.dev.sgRec g = some r ∧ 1 ≤ n ∧ n ≤ s.dev.wordsHeld g ∧ (s.dev.group g).mode = .up ∧ r.members.length = (s.dev.group g).members.length ∧ k < r.members.length ∧ (∀ i, i ≤ k → (s.dev.member g i).tier = 1) ∧ (∀ i, i < k → s.dev.leadAt g 0 i ≤ 315_776 + 7_648) ∧ 315_776 + 7_648 < s.dev.leadAt g 0 k)
    ∧ (∃ d : Dev, ∃ g : Nat, (d.group g).mode = .up) :=
  ⟨⟨(open Groups in at' (held (grp 1 2 .forming) [5] [900])), 0, by decide +kernel⟩,
    ⟨(open Groups in at' (held (grp 1 3 .up) [1, 320] [400, 700])), 0, 2, sg0, by decide +kernel⟩,
    ⟨(open Groups in at' (held (grp 1 3 .up) [400000] [0])), 0, 1, 1, sg0, by decide +kernel⟩,
    ⟨(open Groups in grp 1 3 .up), 0, by decide +kernel⟩⟩

theorem test_meets_aligned_groups_match_signatures_or_run_ordinary :
    (∃ s : State, ∃ g wSig pSig wArr pArr : Nat, ∃ r : PgRec, s.live = true ∧ s.dev.pgRec g = some r ∧ r.aligned = true ∧ s.dev.signed g wSig pSig wArr pArr = true)
    ∧ (∃ s : State, ∃ g : Nat, ∃ r : PgRec, s.live = true ∧ s.dev.pgRec g = some r ∧ r.aligned = true ∧ 64 ≤ (s.dev.pg g).align.noMatchMf ∧ (s.dev.pg g).align.ordinary = false) :=
  ⟨⟨at' { busy with path := { deskew := [(objGroup 0 * 16, { sig := some (1, 3) }), (objGroup 0 * 16 + 1, { sig := some (2, 4) })] } }, 0, 1, 2, 3, 4, pg0, by decide +kernel⟩,
    ⟨at' { busy with pgs := [(0, { align := { noMatchMf := 64 } })] }, 0, pg0, by decide +kernel⟩⟩

theorem test_meets_arbiter_grants_earliest_deadline :
    (∃ s : State, ∃ res : Nat, s.live = true ∧ res < 2 ∧ heldOver (s.dev.cald.holder res) = false)
    ∧ (∃ s : State, ∃ q : ArbRequest, s.live = true ∧ s.dev.cald.holder0 = some q ∧ s.dev.cald.holder1 = none ∧ q.burst < q.cycles)
    ∧ (∃ s : State, ∃ w : Waiting, s.effectDue 0x0604 w = true) :=
  ⟨⟨at' busy, 1, by decide +kernel⟩,
    ⟨(open Groups in at' hold), ⟨2, 0, 9999, 64⟩, by decide +kernel⟩,
    ⟨(open Groups in due a1), (open Groups in wait a1), by decide +kernel⟩⟩

theorem test_meets_defects_are_raised_and_cleared :
    (∃ s : State, ∃ obj l i : Nat, s.live = true ∧ objType obj ≠ 6 ∧ l < 256 ∧ s.dev.produces obj l i = true ∧ s.dev.integratedTo obj l i true = true)
    ∧ (∃ s : State, ∃ obj l i : Nat, s.live = true ∧ objType obj ≠ 6 ∧ l < 256 ∧ s.dev.hasLayer obj l = true ∧ (integrated l).contains i = true ∧ s.dev.integratedTo obj l i false = true)
    ∧ (∃ s : State, ∃ g path i : Nat, ∃ r : PgRec, s.live = true ∧ g < 128 ∧ path < 2 ∧ s.dev.pgRec g = some r ∧ (s.dev.pg g).run = true ∧ r.arch % 8 ≠ 0 ∧ (i = 1 ∨ i = 2 ∨ i = 3 ∨ i = 5 ∨ (i = 4 ∧ r.arch % 8 = 2)) ∧ ((s.dev.pg g).path path).gained = true ∧ s.dev.monitorHas r path i true = true)
    ∧ (∃ s : State, ∃ g path i : Nat, ∃ r : PgRec, s.live = true ∧ g < 128 ∧ path < 2 ∧ s.dev.pgRec g = some r ∧ (s.dev.pg g).run = true ∧ r.arch % 8 ≠ 0 ∧ (i = 1 ∨ i = 2 ∨ i = 3 ∨ i = 5 ∨ (i = 4 ∧ r.arch % 8 = 2)) ∧ s.dev.monitorHas r path i false = true) :=
  ⟨⟨(open Monitors in at' { (lp { enabled := true }) with layers := [(objPort 0 * 256, { runs := [(2, (86, 0))] })] }), objPort 0, 0, 2, by decide +kernel⟩,
    ⟨(open Monitors in at' { (lp { enabled := true, lanesUp := 15 }) with layers := [(objPort 0 * 256, { runs := [(2, (0, 86))] })] }), objPort 0, 0, 2, by decide +kernel⟩,
    ⟨(open Monitors in mon (pgd { run := true, w := { gained := true } }) 0 { runs := [(1, (3, 0))] }), 0, 0, 1, { pg0 with arch := 33 }, by decide +kernel⟩,
    ⟨(open Monitors in mon (pgd { run := true, p := { gained := true } }) 1 { runs := [(3, (0, 3))] }), 0, 1, 3, { pg0 with arch := 33 }, by decide +kernel⟩⟩

theorem test_meets_pm_seconds_end_and_begin :
    (∃ s : State, ∃ i : Image, ∃ obj l : Nat, s.live = true ∧ s.dev.beat = 0 ∧ s.dev.swapDue = false ∧ s.dev.timedDue = false ∧ s.dev.ladderDue = false ∧ s.dev.pps.pmsAge ≠ 0 ∧ s.dev.pps.state = .valid ∧ s.dev.pps.edgeWaits = true ∧ s.dev.sched.active = some i ∧ i.allLayers.Nodup ∧ (obj, l) ∈ i.allLayers ∧ s.dev.isPmEntity obj l = true ∧ (s.dev.pm obj l).run = true) :=
  ⟨(open Monitors in at' { busy with fc := 256, pms := ent, pps := { state := .valid, edgeWaits := true, pmsAge := 3362 } }), rich, objChannel 0, 11, by decide +kernel⟩

theorem test_meets_defect_and_pm_settings_take_effect :
    (∃ s : State, ∃ w : Waiting, ∃ l : Nat, s.effectDue 0x0702 w = true ∧ l = w.cmd.field 0 1 ∧ s.dev.hasLayer w.cmd.object l = true)
    ∧ (∃ s : State, ∃ w : Waiting, ∃ l : Nat, s.effectDue 0x0703 w = true ∧ l = w.cmd.field 0 1 ∧ s.dev.hasLayer w.cmd.object l = true ∧ (degBit l).isSome = true)
    ∧ (∃ s : State, ∃ w : Waiting, ∃ l : Nat, s.effectDue 0x0705 w = true ∧ checkPmBinSet s.dev w.cmd = none ∧ l = w.cmd.field 1 1) :=
  ⟨⟨(open Monitors in due c1 busy), (open Monitors in wait c1), 1, by decide +kernel⟩,
    ⟨(open Monitors in due c2 busy), (open Monitors in wait c2), 11, by decide +kernel⟩,
    ⟨(open Monitors in due (c3 1 11) busy), (open Monitors in wait (c3 1 11)), 11, by decide +kernel⟩⟩

theorem test_meets_evaluation_issues_tokens :
    (∃ s : State, ∃ i : Image, s.live = true ∧ s.dev.evalFc ≠ some s.dev.fc ∧ s.dev.imageAt (s.dev.fc + 2) = some i ∧ (∀ tab ∈ i.prt, ∀ v ∈ tab.words, v < 2 ^ 32))
    ∧ (∃ s : State, ∃ i : Image, ∃ r : PgRec, ∃ tab : RespTable, ∃ e : Dev, ∃ x : PgState, s.live = true ∧ s.dev.evalFc ≠ some s.dev.fc ∧ s.dev.imageAt (s.dev.fc + 2) = some i ∧ (i.pgs.map (·.pg)).Nodup ∧ r ∈ i.pgs ∧ s.dev.evaluates i (objGroup r.pg) = true ∧ s.dev.domOn domPrt = true ∧ (s.dev.pg r.pg).run = true ∧ i.prt.find? (fun t => t.id == r.tableId) = some tab ∧ e = s.dev.evalPorts i (s.dev.fc + 2) (s.dev.evaluates i) ∧ x = { s.dev.pg r.pg with w := (s.dev.pg r.pg).w.present (e.actualCond r 0 (s.dev.pg r.pg).w) (s.dev.pg r.pg).holdoffSet, p := (s.dev.pg r.pg).p.present (e.actualCond r 1 (s.dev.pg r.pg).p) (s.dev.pg r.pg).holdoffSet }) :=
  ⟨⟨(open Monitors in at' { (pgd { run := true }) with fc := 5, evalFc := some 4 }), { rich with pgs := [{ pg0 with arch := 33 }] }, by decide +kernel⟩,
    ⟨(open Monitors in at' dd), (open Monitors in img2), { pg0 with arch := 33 }, ⟨0, 4, [7, 6, 5, 4, 3, 2, 1, 0, 7, 6, 5, 4, 3, 2, 1, 0]⟩, (open Monitors in (dd.evalPorts img2 7 (dd.evaluates img2))), (open Monitors in (let e := dd.evalPorts img2 7 (dd.evaluates img2); let r : PgRec := { pg0 with arch := 33 }; { dd.pg 0 with w := (dd.pg 0).w.present (e.actualCond r 0 (dd.pg 0).w) (dd.pg 0).holdoffSet, p := (dd.pg 0).p.present (e.actualCond r 1 (dd.pg 0).p) (dd.pg 0).holdoffSet })), by decide +kernel⟩⟩

theorem test_meets_protection_timers_and_aps_are_taken :
    (∃ s : State, ∃ g path : Nat, s.live = true ∧ g < 128 ∧ path < 2 ∧ (s.dev.pg g).run = true ∧ ((s.dev.pg g).path path).holdoff = some 0)
    ∧ (∃ s : State, ∃ g : Nat, s.live = true ∧ g < 128 ∧ (s.dev.pg g).run = true ∧ (s.dev.pg g).wtrLeft = some 0)
    ∧ (∃ s : State, ∃ g : Nat, ∃ r : PgRec, ∃ a1 a2 a3 a4 : Byte, s.live = true ∧ g < 128 ∧ (s.dev.pg g).run = true ∧ (s.dev.pg g).p.inFrame = true ∧ s.dev.pgRec g = some r ∧ s.dev.monitorOn r 1 = true ∧ 3 ≤ (s.dev.monitor g 1).apsRun ∧ (s.dev.monitor g 1).aps = [a1, a2, a3, a4] ∧ (s.dev.pg g).rxAps ≠ [a1, a2, a3, a4])
    ∧ (∃ s : State, ∃ g : Nat, ∃ r : PgRec, ∃ a1 a2 a3 a4 : Byte, s.live = true ∧ g < 128 ∧ (s.dev.pg g).run = true ∧ (s.dev.pg g).p.inFrame = true ∧ s.dev.pgRec g = some r ∧ s.dev.monitorOn r 1 = true ∧ 3 ≤ (s.dev.monitor g 1).apsRun ∧ (s.dev.monitor g 1).aps = [a1, a2, a3, a4] ∧ (s.dev.pg g).rxAps = [a1, a2, a3, a4])
    ∧ (∃ s : State, ∃ g path : Nat, ∃ inFrame : Bool, ∃ r : PgRec, s.live = true ∧ g < 128 ∧ path < 2 ∧ (s.dev.pg g).run = true ∧ ((s.dev.pg g).path path).inFrame ≠ inFrame ∧ s.dev.pgRec g = some r ∧ s.dev.monitorOn r path = true ∧ (s.dev.monitor g path).lock = inFrame)
    ∧ (∃ s : State, ∃ g : Nat, ∃ r : PgRec, s.live = true ∧ g < 128 ∧ (s.dev.pg g).run = true ∧ (s.dev.pg g).fopNr = false ∧ 43_008 ≤ (s.dev.pg g).nrRun ∧ s.dev.pgRec g = some r ∧ r.arch / 8 % 4 = 1) :=
  ⟨⟨(open Monitors in at' (pgd { run := true, w := { holdoff := some 0 } })), 0, 0, by decide +kernel⟩,
    ⟨(open Monitors in at' (pgd { run := true, wtrLeft := some 0 })), 0, by decide +kernel⟩,
    ⟨(open Monitors in mon (pgd { run := true, p := { inFrame := true } }) 1 { apsRun := 3, aps := [0xF0, 1, 0, 0] }), 0, { pg0 with arch := 33 }, 0xF0, 1, 0, 0, by decide +kernel⟩,
    ⟨(open Monitors in mon (pgd { run := true, rxAps := [0xF0, 1, 0, 0], p := { inFrame := true } }) 1 { apsRun := 3, aps := [0xF0, 1, 0, 0] }), 0, { pg0 with arch := 33 }, 0xF0, 1, 0, 0, by decide +kernel⟩,
    ⟨(open Monitors in mon (pgd { run := true }) 1 { lock := true }), 0, 1, true, { pg0 with arch := 33 }, by decide +kernel⟩,
    ⟨(open Monitors in at' (pgd { run := true, nrRun := 43008 } 9)), 0, { pg0 with arch := 9 }, by decide +kernel⟩⟩

theorem test_meets_protection_commands_take_effect :
    (∃ s : State, ∃ w : Waiting, ∃ req : Nat, s.effectDue 0x0801 w = true ∧ s.dev.domOn domPrt = true ∧ req = (if w.cmd.field 0 1 ≤ 6 then w.cmd.field 0 1 else 0))
    ∧ (∃ s : State, ∃ w : Waiting, s.effectDue 0x0801 w = true ∧ s.dev.domOn domPrt = false)
    ∧ (∃ s : State, ∃ w : Waiting, ∃ r : PgRec, s.effectDue 0x0803 w = true ∧ s.dev.pgRec w.cmd.index = some r) :=
  ⟨⟨(open Monitors in due (k1 1) (pgd { run := true, held := 2 })), (open Monitors in wait (k1 1)), 1, by decide +kernel⟩,
    ⟨(open Monitors in due (k1 2) (off 322 (pgd { run := true, held := 1 }))), (open Monitors in wait (k1 2)), by decide +kernel⟩,
    ⟨(open Monitors in due k2 (pgd { run := true, wtrLeft := some 9 })), (open Monitors in wait k2), { pg0 with arch := 33 }, by decide +kernel⟩⟩

theorem test_meets_waiting_devices_become_active_or_join :
    (∃ s : State, s.live = true ∧ s.dev.pair.role = .waiting ∧ ((s.dev.pair.index = 0 ∧ max s.dev.pair.waitStart s.dev.pair.twinActiveMfn + s.dev.pair.waitMf ≤ s.dev.mfn) ∨ (s.dev.pair.index ≠ 0 ∧ s.dev.pair.aliveIn = false ∧ max s.dev.pair.waitStart s.dev.pair.twinActiveMfn + 2 * s.dev.pair.waitMf ≤ s.dev.mfn)))
    ∧ (∃ s : State, s.live = true ∧ s.dev.pair.role = .joining ∧ s.dev.phaseDone = true)
    ∧ (∃ s : State, s.live = true ∧ s.dev.pair.role = .joining ∧ s.dev.pair.joinStart + 4_096 ≤ s.dev.mfn)
    ∧ (∃ s : State, ∃ m : Nat, s.live = true ∧ s.dev.pair.role = .waiting ∧ s.dev.pair.joinRetry = some m ∧ m ≤ s.dev.mfn)
    ∧ (∃ s : State, ∃ m : Nat, s.live = true ∧ s.dev.pair.role = .joining ∧ s.dev.pair.joinPhase = 2 ∧ s.dev.pair.adopted = false ∧ s.dev.beat = 0 ∧ s.dev.anchor.inUse = 2 ∧ s.dev.anchor.mode = .locked ∧ s.dev.pair.joinAdopt = some m ∧ s.dev.twinNow = fcOf m)
    ∧ (∃ s : State, ∃ w : Waiting, s.effectDue 0x0902 w = true ∧ s.dev.pair.role = .waiting ∧ s.dev.twinActive = true)
    ∧ (∃ s : State, ∃ w : Waiting, s.effectDue 0x0902 w = true ∧ ¬(s.dev.pair.role = .waiting ∧ s.dev.twinActive = true)) :=
  ⟨⟨(open Twins in pr { role := .waiting, ownLp := 0, ownCp := 0 } (1024 * 256)), by decide +kernel⟩,
    ⟨(open Twins in pr { role := .joining, joinPhase := 1, link := 2, goodFrames := 64, rxHead := some (hd 4), ownLp := 0, ownCp := 0 }), by decide +kernel⟩,
    ⟨(open Twins in pr { role := .joining, joinPhase := 6, link := 2, goodFrames := 64, rxHead := some (hd 4), ownLp := 0, ownCp := 0 } (4096 * 256)), by decide +kernel⟩,
    ⟨(open Twins in pr { role := .waiting, link := 2, rxHead := some (hd 4), joinRetry := some 1, ownLp := 0, ownCp := 0 } 256), 1, by decide +kernel⟩,
    ⟨at' { busy with fc := 256, anchor := { inUse := 2, mode := .locked }, pair := { role := .joining, joinPhase := 2, joinAdopt := some 9, twinFc := 9 * 256, rxFc := 256 } }, 9, by decide +kernel⟩,
    ⟨(open Twins in due j { busy with pair := { role := .waiting, link := 2, rxHead := some (hd 4) } }), (open Twins in wait j), by decide +kernel⟩,
    ⟨(open Twins in due j busy), (open Twins in wait j), by decide +kernel⟩⟩

theorem test_meets_faults_move_ports_or_are_reported :
    (∃ s : State, ∃ n lp cp : Nat, s.live = true ∧ s.dev.takeoverCase = some (n, lp, cp))
    ∧ (∃ s : State, s.live = true ∧ s.dev.pair.hubFault = true ∧ s.dev.pair.wdExpired = false)
    ∧ (∃ s : State, s.live = true)
    ∧ (∃ s : State, s.live = true ∧ s.dev.pair.link ≠ 2 ∧ s.dev.domOn domGalulo = true ∧ 64 ≤ s.dev.pair.linkRun)
    ∧ (∃ s : State, ∃ lanes : Nat, s.live = true ∧ s.dev.pair.link = 2 ∧ lanes = s.dev.pair.laneOk ∧ lanes ≠ 0xF)
    ∧ (∃ s : State, s.live = true ∧ s.dev.pair.link = 2 ∧ 9 ≤ s.dev.pair.noFrame ∧ s.dev.pair.aliveIn = true)
    ∧ (∃ s : State, ∃ slice : Nat, ∃ report : Bool, s.live = true ∧ slice < 4 ∧ bit s.dev.pair.sliceHealth slice = true ∧ (report = true ∨ bit s.dev.cald.dieUp slice = false))
    ∧ (∃ s : State, ∃ a b : Bool, s.live = true ∧ a ≠ b)
    ∧ (∃ s : State, s.live = true ∧ s.dev.pair.xstbyFault = false ∧ s.dev.pair.xstbyRun ≠ 0 ∧ s.dev.pair.xstbyLimit ≤ s.dev.pair.xstbyRun) :=
  ⟨⟨(open Extras in at' (standby 0x3E)), 3, 1, 255, by decide +kernel⟩,
    ⟨(open Twins in pr { hubFault := true }), by decide +kernel⟩,
    ⟨(open Twins in pr { aliveIn := true, link := 2, rxHead := some (hd 4) }), by decide +kernel⟩,
    ⟨(open Twins in pr { role := .active, link := 0, linkRun := 64 }), by decide +kernel⟩,
    ⟨(open Twins in pr { role := .standby, link := 2, lanes := 15, laneOk := 7 }), 7, by decide +kernel⟩,
    ⟨(open Twins in pr { role := .standby, link := 2, lanes := 15, noFrame := 9, aliveIn := true }), by decide +kernel⟩,
    ⟨(open Twins in pr {}), 3, true, by decide +kernel⟩,
    ⟨(open Twins in pr { xstbyRun := 3 }), true, false, by decide +kernel⟩,
    ⟨(open Twins in pr { xstbyRun := 64, xstby := true }), by decide +kernel⟩⟩

theorem test_meets_twin_frames_are_taken_whole_or_discarded :
    (∃ s : State, ∃ w : GWire, s.live = true ∧ s.dev.pair.link = 2 ∧ s.dev.domOn domGalulo = true ∧ w.read = none ∧ s.dev.followsTokens = false)
    ∧ (∃ s : State, ∃ w : GWire, s.live = true ∧ s.dev.pair.link = 2 ∧ s.dev.domOn domGalulo = true ∧ w.read = none ∧ s.dev.pair.role = .standby)
    ∧ (∃ s : State, ∃ w : GWire, ∃ f : GFrame, s.live = true ∧ s.dev.pair.link = 2 ∧ s.dev.domOn domGalulo = true ∧ w.read = some f ∧ s.dev.pair.handover = none ∧ f.cancels = [] ∧ (∀ j, s.dev.sched.load = some j → j.copy = none))
    ∧ (∃ s : State, ∃ w : GWire, ∃ f : GFrame, ∃ j : LoadJob, ∃ out : List Byte, ∃ x : Waiting, s.live = true ∧ s.dev.pair.link = 2 ∧ s.dev.domOn domGalulo = true ∧ w.read = some f ∧ s.dev.pair.role = .active ∧ f.head.role = 3 ∧ s.dev.pair.handover = none ∧ s.dev.sched.load = some j ∧ j.copy = some out ∧ j.sent = some f.head.echoSeq ∧ s.dev.host.waiting.find? (fun x => x.order == j.order) = some x ∧ x.fromTwin = false ∧ x.mirror = none)
    ∧ (∃ s : State, ∃ m c k : Nat, ∃ act : Tracker, ∃ sn : Snap, s.live = true ∧ s.dev.beat = 0 ∧ m + 1 < s.dev.mfn ∧ k < 3 ∧ s.dev.pair.corrections = [{ snapMfn := m, body := .tracker c k act }] ∧ s.dev.pair.snaps.find? (fun x => x.mfn == m) = some sn)
    ∧ (∃ s : State, ∃ a b : Digests, s.live = true ∧ s.dev.digestsDue = some (a, b))
    ∧ (∃ s : State, ∃ port m : Nat, s.live = true ∧ port < 72 ∧ s.dev.beat = 0 ∧ (Tab.get {} s.dev.pair.agree port : PortAgree).alignAt = some m ∧ m ≤ s.dev.mfn)
    ∧ (∃ s : State, ∃ port : Nat, s.live = true ∧ port < 72 ∧ (Tab.get {} s.dev.pair.agree port : PortAgree).resync = 2 ∧ (Tab.get {} s.dev.pair.agree port : PortAgree).resyncStart + 256 ≤ s.dev.mfn)
    ∧ (∃ s : State, ∃ w : Waiting, ∃ m : Nat, s.live = true ∧ w ∈ s.dev.host.waiting ∧ w.fromTwin = false ∧ w.mirror.isSome = true ∧ w.acked = false ∧ w.target = some m ∧ 256 * m ≤ s.dev.fc + 8)
    ∧ (∃ s : State, ∃ w v : Nat, ∃ rest : List (Nat × Nat), s.live = true ∧ (s.dev.pair.role = .standby ∨ s.dev.pair.role = .joining) ∧ s.dev.pair.twinWords = (w, v) :: rest ∧ (Tab.get {} s.dev.sinter.cells (s.dev.sinter.cellOf w) : Cell).worn = false ∧ (Tab.get {} s.dev.sinter.cells (s.dev.sinter.cellOf w) : Cell).failed = false) :=
  ⟨⟨(open Twins in pr { link := 2 }), (open Twins in bad), by decide +kernel⟩,
    ⟨at' { busy with fc := 7, tokens := [⟨7, 1⟩, ⟨9, 2⟩], pair := { link := 2, role := .standby } }, (open Twins in bad), by decide +kernel⟩,
    ⟨at' { busy with fc := 7, pair := { link := 2, role := .joining } }, (open Twins in fr.wire), (open Twins in fr.wire.read.getD fr), by decide +kernel⟩,
    ⟨(open Twins in at' { busy with fc := 7, sched := { busy.sched with shadow := some lit, load := some copied }, host := { waiting := [job (cmd 0x0201 0 [])] }, pair := { link := 2, role := .active } }), (open Twins in echo.wire), (open Twins in echo.wire.read.getD echo), (open Twins in copied), ([7] : List Byte), job (cmd 0x0201 0 []), by decide +kernel⟩,
    ⟨(open Twins in pr { corrections := [⟨1, .tracker 4 2 { integ := 5, acc := 3 }⟩], snaps := [sn] } (3 * 256)), 1, 4, 2, { integ := 5, acc := 3 }, (open Twins in sn), by decide +kernel⟩,
    ⟨(open Twins in dgd { badRun := 3 }), (open Twins in dga), (open Twins in dgb), by decide +kernel⟩,
    ⟨(open Twins in pr { agree := [(71, { alignAt := some 1 })] } 256), 71, 1, by decide +kernel⟩,
    ⟨(open Twins in pr { agree := [(71, { resync := 2 })] } 65536), 71, by decide +kernel⟩,
    ⟨(open Twins in at' { busy with fc := 248, host := { waiting := [mw] } }), (open Twins in mw), 1, by decide +kernel⟩,
    ⟨(open Twins in pr { role := .standby, twinWords := [(256, 5)] }), 256, 5, [], by decide +kernel⟩⟩

theorem test_meets_pair_commands_and_handovers_take_effect :
    (∃ s : State, ∃ core : Nat, ∃ c : Cmd, ∃ st, ∃ pl, s.handedOver = true ∧ s.dev.offers core 0x0901 c = true ∧ checkPairSet s.dev c = some (st, pl))
    ∧ (∃ s : State, ∃ core : Nat, ∃ c : Cmd, s.handedOver = true ∧ s.dev.offers core 0x0901 c = true ∧ checkPairSet s.dev c = none ∧ 2 ≤ c.field 0 1)
    ∧ (∃ s : State, ∃ core : Nat, ∃ c : Cmd, s.handedOver = true ∧ s.dev.offers core 0x0901 c = true ∧ checkPairSet s.dev c = none ∧ c.field 0 1 = 0)
    ∧ (∃ s : State, ∃ core : Nat, ∃ c : Cmd, s.handedOver = true ∧ s.dev.offers core 0x0901 c = true ∧ checkPairSet s.dev c = none ∧ c.field 0 1 = 1)
    ∧ (∃ s : State, ∃ core : Nat, ∃ c : Cmd, s.handedOver = true ∧ s.dev.offers core 0x0906 c = true)
    ∧ (∃ s : State, ∃ core : Nat, ∃ c : Cmd, ∃ take : Bool, ∃ st, ∃ pl, s.handedOver = true ∧ s.dev.offers core (if take then 0x0904 else 0x0905) c = true ∧ checkPairMove take s.dev c = some (st, pl))
    ∧ (∃ s : State, ∃ core : Nat, ∃ c : Cmd, ∃ take : Bool, s.handedOver = true ∧ s.dev.offers core (if take then 0x0904 else 0x0905) c = true ∧ s.dev.pair.handover = none ∧ (c.timed = true → s.dev.timedRoom (resolveTarget (s.dev.mfn + 2) c.applyAt).1 = true) ∧ (moveAll c = true → (if take then s.dev.pair.role = .standby else s.dev.pair.role = .active)))
    ∧ (∃ s : State, ∃ core : Nat, ∃ c : Cmd, ∃ take : Bool, s.handedOver = true ∧ s.dev.offers core (if take then 0x0904 else 0x0905) c = true ∧ checkPairMove take s.dev c = none ∧ c.timed = true ∧ s.dev.timedRoom (resolveTarget (s.dev.mfn + 2) c.applyAt).1 = false)
    ∧ (∃ s : State, ∃ h : Handover, s.live = true ∧ s.dev.pair.handover = some h ∧ s.dev.xferDue = true)
    ∧ (∃ s : State, ∃ h : Handover, ∃ w : Waiting, s.live = true ∧ s.dev.pair.handover = some h ∧ h.issuer = true ∧ h.answer = 0 ∧ 256 * h.target ≤ s.dev.fc + 4 ∧ ¬(h.take = true ∧ h.force = true ∧ s.dev.pair.link ≠ 2) ∧ h.byDormant = false ∧ h.byXstby = false ∧ s.dev.xferJob = some w ∧ w.fromTwin = false) :=
  ⟨⟨(open Twins in queued (ps 0 1) { on with pair := { role := .active, link := 2, rxHead := some (hd 3) } }), 0, (open Twins in ps 0 1), stConstraint, [], by decide +kernel⟩,
    ⟨(open Twins in queued (ps 2 1)), 0, (open Twins in ps 2 1), by decide +kernel⟩,
    ⟨(open Twins in queued (ps 0 0) { on with pair := { role := .active, link := 2, rxHead := some (hd 3) } }), 0, (open Twins in ps 0 0), by decide +kernel⟩,
    ⟨(open Twins in queued (ps 1 1)), 0, (open Twins in ps 1 1), by decide +kernel⟩,
    ⟨(open Twins in queued pd), 0, (open Twins in pd), by decide +kernel⟩,
    ⟨(open Twins in queued tk { on with pair := { role := .active } }), 0, (open Twins in tk), true, stConstraint, [], by decide +kernel⟩,
    ⟨(open Twins in queued tk { on with pair := { role := .standby } }), 0, (open Twins in tk), true, by decide +kernel⟩,
    ⟨(open Extras in crowded moved { on with pair := { role := .standby, link := 2, rxHead := some { role := 3 } } }), 0, (open Extras in moved), true, by decide +kernel⟩,
    ⟨(open Twins in pr { role := .standby, ownLp := 0, ownCp := 0, handover := some ho } 256), (open Twins in ho), by decide +kernel⟩,
    ⟨(open Twins in at' { busy with fc := 252, pair := { handover := some { ho with answer := 0 } }, host := { waiting := [job tk] } }), (open Twins in { ho with answer := 0 }), (open Twins in job tk), by decide +kernel⟩⟩

theorem test_meets_export_queue_moves_by_priority :
    (∃ s : State, ∃ src : Nat, ∃ bytes : List Byte, ∃ aborted : Bool, ∃ b : Binding, s.live = true ∧ s.dev.objExists (objSource src) = true ∧ (s.dev.source src).bind = some b ∧ s.dev.fumRuns b.port = true ∧ (s.dev.fum b.port).attr.mode = 1 ∧ (s.dev.source src).dropRest = false ∧ (s.dev.source src).unbinding = false ∧ (s.dev.source src).rx.done.head? = some (bytes, aborted) ∧ (∀ i ∈ (s.dev.fum b.port).arriving, i.src ≠ src) ∧ (∀ i ∈ (s.dev.fum b.port).staged ++ (s.dev.fum b.port).fillBank ++ (s.dev.fum b.port).readBank, i.src = src → i.whole = true) ∧ goodLineFrame b.fcs bytes aborted = true ∧ (s.dev.fum b.port).expFill + (bytes.length - fcsLen b.fcs) ≤ 131_072)
    ∧ (∃ s : State, ∃ src : Nat, ∃ bytes : List Byte, ∃ aborted : Bool, ∃ b : Binding, s.live = true ∧ s.dev.objExists (objSource src) = true ∧ (s.dev.source src).bind = some b ∧ s.dev.fumRuns b.port = true ∧ (s.dev.fum b.port).attr.mode = 1 ∧ (s.dev.source src).dropRest = false ∧ (s.dev.source src).unbinding = false ∧ (s.dev.source src).rx.done.head? = some (bytes, aborted) ∧ (∀ i ∈ (s.dev.fum b.port).arriving, i.src ≠ src) ∧ (∀ i ∈ (s.dev.fum b.port).staged ++ (s.dev.fum b.port).fillBank ++ (s.dev.fum b.port).readBank, i.src = src → i.whole = true) ∧ goodLineFrame b.fcs bytes aborted = false)
    ∧ (∃ s : State, ∃ src : Nat, s.live = true ∧ s.dev.objExists (objSource src) = true ∧ (s.dev.source src).bind = none)
    ∧ (∃ s : State, ∃ src : Nat, ∃ bytes : List Byte, ∃ aborted : Bool, s.live = true ∧ s.dev.objExists (objSource src) = true ∧ (s.dev.source src).bind = none ∧ (s.dev.source src).rx.done.head? = some (bytes, aborted))
    ∧ (∃ s : State, ∃ p : Nat, s.live = true ∧ p < 8 ∧ s.dev.domOn (domFum p) = true ∧ (s.dev.fum p).attr.mode = 0)
    ∧ (∃ s : State, ∃ p : Nat, s.live = true ∧ p < 8 ∧ s.dev.domOn (domFum p) = true ∧ (s.dev.fum p).attr.mode ≠ 0)
    ∧ (∃ s : State, ∃ p : Nat, s.live = true ∧ p < 8 ∧ s.dev.fumRuns p = true ∧ (s.dev.fum p).readBank = [] ∧ (s.dev.fum p).fillBank ≠ [])
    ∧ (∃ s : State, ∃ p : Nat, ∃ i : Item, ∃ rest : List Item, s.live = true ∧ p < 8 ∧ (s.dev.fum p).readBank = i :: rest ∧ i.whole = false ∧ (i.portForm (s.dev.fum p).txMode).length ≤ (s.dev.fum p).sent) :=
  ⟨⟨(open Fums in at' (fp {} (src lf))), 0, (open Fums in lf), false, (open Fums in bnd), by decide +kernel⟩,
    ⟨(open Fums in at' (fp { staged := [{ src := 0, prio := 1, order := 0, bytes := [1], whole := true }] } (src [1, 2, 3]))), 0, [1,2,3], false, (open Fums in bnd), by decide +kernel⟩,
    ⟨(open Fums in at' (fp {} { (src lf) with bind := none })), 0, by decide +kernel⟩,
    ⟨(open Fums in at' (fp {} { (src lf) with bind := none })), 0, (open Fums in lf), false, by decide +kernel⟩,
    ⟨(open Fums in at' (op { staged := [i0, i1], readBank := [i0, i1], sent := 2, txMode := 1 })), 0, by decide +kernel⟩,
    ⟨(open Fums in at' (fp { })), 0, by decide +kernel⟩,
    ⟨(open Fums in at' (fp { fillBank := [i0, i1] })), 0, by decide +kernel⟩,
    ⟨(open Fums in at' (fp { readBank := [{ i0 with whole := false }, i1], sent := 9, expFill := 4 })), 0, (open Fums in { i0 with whole := false }), (open Fums in [i1]), by decide +kernel⟩⟩

theorem test_meets_import_queue_and_bindings_change :
    (∃ s : State, ∃ p : Nat, ∃ bytes : List Byte, ∃ aborted : Bool, s.live = true ∧ p < 8 ∧ s.dev.fumRuns p = true ∧ (s.dev.fum p).attr.mode = 1 ∧ (s.dev.fum p).rx.done.head? = some (bytes, aborted) ∧ goodPortFrame bytes aborted = true ∧ beNat (bytes.take 2) ∈ s.dev.boundTo p ∧ (s.dev.fum p).impFill + ((bytes.take (bytes.length - 4)).drop 2).length ≤ 131_072)
    ∧ (∃ s : State, ∃ p : Nat, ∃ bytes : List Byte, ∃ aborted : Bool, s.live = true ∧ p < 8 ∧ s.dev.fumRuns p = true ∧ (s.dev.fum p).attr.mode = 1 ∧ (s.dev.fum p).rx.done.head? = some (bytes, aborted) ∧ (goodPortFrame bytes aborted = false ∨ beNat (bytes.take 2) ∉ s.dev.boundTo p))
    ∧ (∃ s : State, ∃ p : Nat, ∃ bytes : List Byte, ∃ aborted : Bool, s.live = true ∧ p < 8 ∧ s.dev.fumRuns p = true ∧ (s.dev.fum p).attr.mode = 1 ∧ (s.dev.fum p).rx.done.head? = some (bytes, aborted) ∧ goodPortFrame bytes aborted = true ∧ beNat (bytes.take 2) ∈ s.dev.boundTo p ∧ 131_072 < (s.dev.fum p).impFill + ((bytes.take (bytes.length - 4)).drop 2).length)
    ∧ (∃ s : State, ∃ p src : Nat, ∃ rest : List Nat, s.live = true ∧ p < 8 ∧ s.dev.fumRuns p = true ∧ (s.dev.fum p).attr.mode = 2 ∧ s.dev.boundTo p = src :: rest)
    ∧ (∃ s : State, ∃ src : Nat, ∃ b : Binding, ∃ i : Item, s.live = true ∧ (s.dev.source src).bind = some b ∧ (s.dev.fum b.port).attr.mode = 1 ∧ (s.dev.fum b.port).imports.find? (fun i => i.src == src) = some i ∧ (lineForm b.fcs i).length ≤ (s.dev.source src).lineSent)
    ∧ (∃ s : State, ∃ src : Nat, ∃ b : Binding, s.live = true ∧ (s.dev.source src).unbinding = true ∧ (s.dev.source src).bind = some b ∧ (∀ i ∈ (s.dev.fum b.port).imports, i.src ≠ src) ∧ (∀ i ∈ (s.dev.fum b.port).readBank, i.src ≠ src))
    ∧ (∃ s : State, ∃ w : Waiting, s.effectDue 0x0A01 w = true ∧ checkFumPortSet s.dev w.cmd = none)
    ∧ (∃ s : State, ∃ w : Waiting, s.effectDue 0x0A01 w = true ∧ checkFumPortSet s.dev w.cmd ≠ none)
    ∧ (∃ s : State, ∃ w : Waiting, s.effectDue 0x0A02 w = true ∧ checkFumBind s.dev w.cmd = none)
    ∧ (∃ s : State, ∃ w : Waiting, s.effectDue 0x0A02 w = true ∧ checkFumBind s.dev w.cmd ≠ none)
    ∧ (∃ s : State, ∃ w : Waiting, s.effectDue 0x0A03 w = true ∧ (s.dev.source w.cmd.index).bind = none)
    ∧ (∃ s : State, ∃ w : Waiting, ∃ b, s.effectDue 0x0A03 w = true ∧ (s.dev.source w.cmd.index).bind = some b ∧ (s.dev.source w.cmd.index).lineSent = 0 ∧ (∀ i ∈ (s.dev.fum b.port).readBank.take (s.dev.fum b.port).emitted, i.src ≠ w.cmd.index)) :=
  ⟨⟨(open Fums in at' (fp { rx := { done := [(pf, false)] } })), 0, (open Fums in pf), false, by decide +kernel⟩,
    ⟨(open Fums in at' (fp { rx := { done := [([0, 0, 1], false)] } })), 0, [0, 0, 1], false, by decide +kernel⟩,
    ⟨(open Fums in at' (fp { rx := { done := [(pf, false)] }, impFill := 131072 })), 0, (open Fums in pf), false, by decide +kernel⟩,
    ⟨(open Fums in at' (tp {})), 0, 0, [], by decide +kernel⟩,
    ⟨(open Fums in at' (fp { imports := [i0], impFill := 3 } { bind := some bnd, lineSent := 20 })), 0, (open Fums in bnd), (open Fums in i0), by decide +kernel⟩,
    ⟨(open Fums in at' (fp { readBank := [{ i1 with src := 5 }] } { bind := some bnd, unbinding := true })), 0, (open Fums in bnd), by decide +kernel⟩,
    ⟨(open Fums in due (a1 1) busy), (open Fums in wait (a1 1)), by decide +kernel⟩,
    ⟨(open Extras in due transparent two), (open Extras in wait transparent), by decide +kernel⟩,
    ⟨(open Fums in due (a2 0) (fp {} {})), (open Fums in wait (a2 0)), by decide +kernel⟩,
    ⟨(open Fums in due (a2 0) (fp {})), (open Fums in wait (a2 0)), by decide +kernel⟩,
    ⟨(open Fums in due a3 (fp {} {})), (open Fums in wait a3), by decide +kernel⟩,
    ⟨(open Fums in due a3 (fp { staged := [i0], readBank := [{ i1 with src := 5, bytes := List.replicate 64 0 }, i0], imports := [i0] })), (open Fums in wait a3), (open Fums in bnd), by decide +kernel⟩⟩

theorem test_meets_check_value_units_follow_their_port :
    (∃ s : State, ∃ unit : Nat, s.live = true ∧ unit < 3)
    ∧ (∃ s : State, ∃ unit : Nat, s.live = true ∧ unit < 3 ∧ s.dev.crcHeld unit = false)
    ∧ (∃ s : State, ∃ unit value : Nat, ∃ i, s.live = true ∧ unit < 3 ∧ s.dev.crcHeld unit = true ∧ i ∈ [Instr.crcCfgWrite unit value, .crcDataBWrite unit value, .crcDataHWrite unit value, .crcDataWWrite unit value,
        .crcValueWrite unit value]) :=
  ⟨⟨at' busy, 1, by decide +kernel⟩,
    ⟨at' busy, 1, by decide +kernel⟩,
    ⟨(open Fums in at' (fp {})), 1, 0x41424344, Instr.crcCfgWrite 1 0x41424344, by decide +kernel⟩⟩

theorem test_meets_host_registers_rings_and_windows :
    (∃ s : State, ∃ mb n excess : Nat, s.live = true ∧ mb < 8 ∧ s.dev.host.linkUp = true ∧ n = min (((s.dev.mb mb).cmdProd + 2 ^ 16 - (s.dev.mb mb).cmdAck) % 2 ^ 16) (s.dev.mb mb).room ∧ excess = ((s.dev.mb mb).cmdProd + 2 ^ 16 - (s.dev.mb mb).cmdAck) % 2 ^ 16 - n)
    ∧ (∃ s : State, ∃ mb : Nat, s.live = true ∧ mb < 8 ∧ (s.dev.mb mb).unacked ≠ 0 ∧ (s.dev.mb mb).room ≠ 0)
    ∧ (∃ s : State, ∃ mb : Nat, s.live = true ∧ mb < 8 ∧ s.dev.host.linkUp = true ∧ (s.dev.mb mb).rspProd < 2 ^ 16 ∧ (s.dev.mb mb).rspCons < 2 ^ 16)
    ∧ (∃ s : State, s.live = true ∧ s.dev.host.linkUp = true)
    ∧ (∃ s : State, ∃ off width : Nat, s.live = true ∧ s.dev.host.linkUp = true ∧ off < 0x8000 ∧ (width ≠ 4 ∨ off % 4 ≠ 0))
    ∧ (∃ s : State, ∃ off width : Nat, s.live = true ∧ s.dev.host.linkUp = true ∧ off < 0x8000 ∧ width = 4 ∧ off = 0x0020)
    ∧ (∃ s : State, ∃ off width : Nat, s.live = true ∧ s.dev.host.linkUp = true ∧ off < 0x8000 ∧ width = 4 ∧ off = 0x0300)
    ∧ (∃ s : State, ∃ off width : Nat, ∃ n, s.live = true ∧ s.dev.host.linkUp = true ∧ off < 0x8000 ∧ width = 4 ∧ n < 8 ∧ off = 0x0100 + 0x20 * n)
    ∧ (∃ s : State, ∃ off width : Nat, ∃ n, s.live = true ∧ s.dev.host.linkUp = true ∧ off < 0x8000 ∧ width = 4 ∧ n < 8 ∧ off = 0x0114 + 0x20 * n)
    ∧ (∃ s : State, ∃ off width : Nat, s.live = true ∧ s.dev.host.linkUp = true ∧ off < 0x8000 ∧ width = 4 ∧ off < 0x20 ∧ off % 4 = 0)
    ∧ (∃ s : State, ∃ off : Nat, ∃ bytes : List Byte, s.live = true ∧ s.dev.host.linkUp = true ∧ off + bytes.length ≤ 0x4_0000)
    ∧ (∃ s : State, ∃ off n : Nat, s.live = true ∧ s.dev.host.linkUp = true ∧ 0 < n ∧ off % 256 + n ≤ 256 ∧ off + n ≤ 2 ^ 32 ∧ s.dev.windowTarget off false = none)
    ∧ (∃ s : State, ∃ off n : Nat, ∃ a, s.live = true ∧ s.dev.host.linkUp = true ∧ 0 < n ∧ off % 256 + n ≤ 256 ∧ off + n ≤ 2 ^ 32 ∧ s.dev.windowTarget off false = some (.sram a))
    ∧ (∃ s : State, ∃ off : Nat, ∃ l : List Byte, s.live = true ∧ s.memWf = true ∧ s.dev.host.linkUp = true ∧ l ≠ [] ∧ off % 256 + l.length ≤ 256 ∧ off + l.length ≤ 2 ^ 32 ∧ s.dev.windowTarget off true = none)
    ∧ (∃ s : State, ∃ off : Nat, ∃ l : List Byte, ∃ a, s.live = true ∧ s.memWf = true ∧ s.dev.host.linkUp = true ∧ l ≠ [] ∧ off % 256 + l.length ≤ 256 ∧ off + l.length ≤ 2 ^ 32 ∧ s.dev.windowTarget off true = some (.sram a)) :=
  ⟨⟨(open Hosts in mbx { cmdProd := 3 }), 2, 3, 0, by decide +kernel⟩,
    ⟨(open Hosts in mbx { cmdProd := 3, announced := 3 }), 2, by decide +kernel⟩,
    ⟨(open Hosts in mbx { rspProd := 5, rspCons := 2 }), 2, by decide +kernel⟩,
    ⟨(open Hosts in hst { lwfLost := 4, lwf := [⟨1,2,3,0,1,5⟩,⟨1,2,3,0,1,5⟩] } { busy with fc := 2^33+5 }), by decide +kernel⟩,
    ⟨(open Hosts in hst {}), 0x20, 2, by decide +kernel⟩,
    ⟨(open Hosts in hst { alarmFatal := true }), 0x20, 4, by decide +kernel⟩,
    ⟨(open Hosts in hst {}), 0x300, 4, by decide +kernel⟩,
    ⟨(open Hosts in hst {}), 0x120, 4, 1, by decide +kernel⟩,
    ⟨(open Hosts in hst {}), 0x134, 4, 1, by decide +kernel⟩,
    ⟨(open Hosts in hst {}), 0x1C, 4, by decide +kernel⟩,
    ⟨(open Hosts in hst {}), 0x1000, [1,2,3], by decide +kernel⟩,
    ⟨(open Hosts in hst {}), 0x100, 8, by decide +kernel⟩,
    ⟨(open Hosts in hst win0), (open Hosts in wa), 8, (open Hosts in wa), by decide +kernel⟩,
    ⟨(open Hosts in hst {}), 0x100, [1,2], by decide +kernel⟩,
    ⟨(open Hosts in hst win0), (open Hosts in wa), [1,2], (open Hosts in wa), by decide +kernel⟩⟩

theorem test_meets_endpoint_resets_and_bus_faults :
    (∃ s : State, ∃ master id win cause : Nat, s.live = true ∧ master < 9 ∧ id < 16 ∧ win < 8 ∧ 1 ≤ cause ∧ cause ≤ 5 ∧ (¬(2 ≤ master ∧ master ≤ 5) ∨ (∀ w ∈ s.dev.host.waiting, w.core ≠ some (master - 2))))
    ∧ (∃ s : State, ∃ core id win cause : Nat, ∃ w : Waiting, s.live = true ∧ core < 4 ∧ id < 16 ∧ win < 8 ∧ 1 ≤ cause ∧ cause ≤ 5 ∧ s.dev.host.waiting.find? (fun w => w.core == some core) = some w ∧ w.fromTwin = false ∧ w.target = none)
    ∧ (∃ s : State, ∃ j : LoadJob, ∃ w : Waiting, s.live = true ∧ s.dev.sched.load = some j ∧ j.source = 0 ∧ j.copy = none ∧ s.dev.host.waiting.find? (fun w => w.order == j.order) = some w ∧ w.fromTwin = false ∧ w.target = none)
    ∧ (∃ s : State, ∃ i : Instr, s.live = true ∧ (i = .perstNAsserted ∨ i = .pcieFlr ∨ ∃ width speed, i = .pcieLinkChange true true width speed))
    ∧ (∃ s : State, s.live = true ∧ s.dev.host.linkUp = true)
    ∧ (∃ s : State, ∃ core : Nat, s.live = true ∧ core < 4 ∧ bit s.dev.pwr.coresUp core = true ∧ s.dev.pwr.fwState = 2)
    ∧ (∃ s : State, s.live = true ∧ (s.dev.pwr.fwState = 2 ∨ s.dev.pwr.fwState = 3) ∧ s.dev.pwr.trial = none ∧ s.dev.trialPause = false ∧ s.dev.bankCheck s.dev.fwBank = 0) :=
  ⟨⟨(open Hosts in hst {}), 7, 3, 2, 1, by decide +kernel⟩,
    ⟨(open Hosts in hst { waiting := [wait cc] }), 0, 3, 2, 1, (open Hosts in wait cc), by decide +kernel⟩,
    ⟨(open Hosts in at' { (hst { waiting := [job ld] }).dev with sched := { active := some lit, load := some lj } }), (open Hosts in lj), (open Hosts in job ld), by decide +kernel⟩,
    ⟨(open Hosts in rs), .pcieLinkChange true true 4 4, by decide +kernel, .inr (.inr ⟨4, 4, rfl⟩)⟩,
    ⟨(open Hosts in rs), by decide +kernel⟩,
    ⟨(open Hosts in rs), 0, by decide +kernel⟩,
    ⟨(open Hosts in at' { rs.dev with pwr := { rs.dev.pwr with bankA := some img } }), by decide +kernel⟩⟩

theorem test_meets_system_commands_take_effect :
    (∃ s : State, ∃ core : Nat, ∃ c : Cmd, s.handedOver = true ∧ s.dev.offers core 0x0003 c = true ∧ c.index = c.mb ∧ c.field 0 2 = c.seq)
    ∧ (∃ s : State, ∃ core : Nat, ∃ c : Cmd, ∃ q, s.handedOver = true ∧ s.dev.offers core 0x0003 c = true ∧ ¬(c.index = c.mb ∧ c.field 0 2 = c.seq) ∧ (s.dev.host.queue.erase c).find? (fun q => q.mb == c.index && q.seq == c.field 0 2) = some q)
    ∧ (∃ s : State, ∃ core : Nat, ∃ c : Cmd, ∃ w, s.handedOver = true ∧ s.dev.offers core 0x0003 c = true ∧ ¬(c.index = c.mb ∧ c.field 0 2 = c.seq) ∧ (s.dev.host.queue.erase c).find? (fun q => q.mb == c.index && q.seq == c.field 0 2) = none ∧ s.dev.host.waiting.find? (fun w => w.cmd.mb == c.index && w.cmd.seq == c.field 0 2 && !w.fromTwin) = some w ∧ s.dev.taken w = true)
    ∧ (∃ s : State, ∃ core : Nat, ∃ c : Cmd, ∃ w, s.handedOver = true ∧ s.dev.offers core 0x0003 c = true ∧ ¬(c.index = c.mb ∧ c.field 0 2 = c.seq) ∧ (s.dev.host.queue.erase c).find? (fun q => q.mb == c.index && q.seq == c.field 0 2) = none ∧ s.dev.host.waiting.find? (fun w => w.cmd.mb == c.index && w.cmd.seq == c.field 0 2 && !w.fromTwin) = some w ∧ s.dev.taken w = false)
    ∧ (∃ s : State, ∃ core : Nat, ∃ c : Cmd, s.handedOver = true ∧ s.dev.offers core 0x0003 c = true ∧ ¬(c.index = c.mb ∧ c.field 0 2 = c.seq) ∧ (s.dev.host.queue.erase c).find? (fun q => q.mb == c.index && q.seq == c.field 0 2) = none ∧ (∀ w ∈ s.dev.host.waiting, ¬(w.cmd.mb = c.index ∧ w.cmd.seq = c.field 0 2)) ∧ (∀ u ∈ (s.dev.mb c.index).unread, u.1 ≠ c.field 0 2))
    ∧ (∃ s : State, ∃ core : Nat, ∃ c : Cmd, s.handedOver = true ∧ s.dev.offers core 0x0006 c = true ∧ 8 ≤ c.field 0 1)
    ∧ (∃ s : State, ∃ core : Nat, ∃ c : Cmd, s.handedOver = true ∧ s.dev.offers core 0x0006 c = true ∧ c.field 0 1 < 8)
    ∧ (∃ s : State, ∃ w : Waiting, s.effectDue 0x0005 w = true ∧ checkSysMbxGrant s.dev w.cmd = none) :=
  ⟨⟨(open Hosts in queued (cn 1)), 0, (open Hosts in cn 1), by decide +kernel⟩,
    ⟨(open Hosts in at' { on with host := { queue := [cn 9, q2] } }), 0, (open Hosts in cn 9), (open Hosts in q2), by decide +kernel⟩,
    ⟨(open Hosts in at' { on with host := { queue := [cn 9], waiting := [{ wait q2 with core := none }] } }), 0, (open Hosts in cn 9), (open Hosts in { wait q2 with core := none }), by decide +kernel⟩,
    ⟨(open Hosts in at' { on with host := { queue := [cn 9], waiting := [{ wait q2 with effectFc := 256 * 20, target := some 20, core := none }] } }), 0, (open Hosts in cn 9), (open Hosts in { wait q2 with effectFc := 256 * 20, target := some 20, core := none }), by decide +kernel⟩,
    ⟨(open Hosts in queued (cn 9)), 0, (open Hosts in cn 9), by decide +kernel⟩,
    ⟨(open Hosts in queued (ws 9)), 0, (open Hosts in ws 9), by decide +kernel⟩,
    ⟨(open Stores in queued (ws 1)), 0, (open Stores in ws 1), by decide +kernel⟩,
    ⟨(open Hosts in due (gr 1) busy), (open Hosts in wait (gr 1)), by decide +kernel⟩⟩

theorem test_meets_sinter_words_are_accepted_and_committed :
    (∃ s : State, ∃ off : Nat, s.live = true ∧ s.dev.host.linkUp = true ∧ 0x8000 ≤ off ∧ off < 0x1_0000 ∧ off % 8 = 0 ∧ s.dev.host.sinterWe = 0x5157 ∧ hostWritable ((off - 0x8000) / 8) = true ∧ ¬(twinWord ((off - 0x8000) / 8) = true ∧ s.dev.pair.role = .standby) ∧ s.dev.sinter.held = [] ∧ s.dev.sinter.queue.length < 64 ∧ s.dev.sinter.second = [])
    ∧ (∃ s : State, ∃ off : Nat, s.live = true ∧ s.dev.host.linkUp = true ∧ 0x8000 ≤ off ∧ off < 0x1_0000 ∧ off % 8 = 0 ∧ (s.dev.host.sinterWe ≠ 0x5157 ∨ hostWritable ((off - 0x8000) / 8) = false))
    ∧ (∃ s : State, ∃ off width : Nat, s.live = true ∧ s.dev.host.linkUp = true ∧ 0x8000 ≤ off ∧ off < 0x1_0000 ∧ (width = 1 ∨ width = 2))
    ∧ (∃ s : State, ∃ c : Commit, ∃ rest : List Commit, ∃ k : Nat, s.live = true ∧ s.dev.sinter.queue = c :: rest ∧ s.dev.sinter.held = [] ∧ c.waiter = none ∧ k = s.dev.sinter.cellOf c.word ∧ (Tab.get {} s.dev.sinter.cells k : Cell).failed = false ∧ (Tab.get {} s.dev.sinter.cells k : Cell).worn = false ∧ (Tab.get {} s.dev.sinter.cells k : Cell).wear + 1 < 1_000_000_000)
    ∧ (∃ s : State, ∃ c : Commit, ∃ rest : List Commit, ∃ k : Nat, s.live = true ∧ s.dev.sinter.queue = c :: rest ∧ s.dev.sinter.held = [] ∧ c.waiter = none ∧ k = s.dev.sinter.cellOf c.word ∧ (Tab.get {} s.dev.sinter.cells k : Cell).failed = false ∧ (Tab.get {} s.dev.sinter.cells k : Cell).worn = true ∧ s.dev.sinter.spares < 256 ∧ (∀ j, 6144 + s.dev.sinter.spares ≤ j → Tab.get {} s.dev.sinter.cells j = ({} : Cell)) ∧ k < 6144 ∧ k = c.word)
    ∧ (∃ s : State, ∃ w : Waiting, s.effectDue 0x0B02 w = true ∧ s.dev.sinter.held = [] ∧ s.dev.sinter.queue.length < 64)
    ∧ (∃ off : Nat, 0x1_0000 ≤ off) :=
  ⟨⟨(open Stores in sn {}), 0x8000 + 8, by decide +kernel⟩,
    ⟨(open Stores in sn {} {}), 0x8000 + 8 * 256, by decide +kernel⟩,
    ⟨(open Stores in sn {}), 0x8008, 2, by decide +kernel⟩,
    ⟨(open Stores in sn { queue := [cm, cm] }), (open Stores in cm), (open Stores in [cm]), 256, by decide +kernel⟩,
    ⟨(open Stores in sn { queue := [cm, cm], cells := [(256, { value := 9, worn := true, wear := 1000000000 })] }), (open Stores in cm), (open Stores in [cm]), 256, by decide +kernel, by decide +kernel, by decide +kernel, by decide +kernel, by decide +kernel, by decide +kernel, by decide +kernel, by decide +kernel, fun j h => by simp [Stores.sn, at', busy, on, Tab.get] at *; omega, by decide +kernel, by decide +kernel⟩,
    ⟨(open Stores in due swc busy), (open Stores in wait swc), by decide +kernel⟩,
    ⟨0x10000, by decide +kernel⟩⟩

theorem test_meets_geyser_takes_and_delivers_snapshots :
    (∃ d : Dev, d.cnt.enabled = true ∧ d.domOn domGeyser = true ∧ d.cnt.slots ≠ 0 ∧ (d.fc / 256 + 1) % d.cnt.interval = 0)
    ∧ (∃ s : State, ∃ x : Dump, s.live = true ∧ s.dev.cnt.latched = some x ∧ s.dev.cnt.slots ≠ 0)
    ∧ (∃ s : State, ∃ x : Dump, ∃ rest : List Dump, s.live = true ∧ s.dev.cnt.staged = x :: rest ∧ s.dev.cnt.slots ≠ 0 ∧ s.dev.dmaReady = true)
    ∧ (∃ s : State, ∃ x : Dump, ∃ rest : List Dump, s.live = true ∧ s.dev.cnt.staged = x :: rest ∧ s.dev.cnt.slots ≠ 0)
    ∧ (∃ s : State, ∃ w : Waiting, s.effectDue 0x0C04 w = true ∧ checkGeyserSet s.dev w.cmd = none)
    ∧ (∃ s : State, ∃ w : Waiting, s.effectDue 0x0C04 w = true ∧ checkGeyserSet s.dev w.cmd ≠ none)
    ∧ (∃ s : State, ∃ w : Waiting, s.effectDue 0x0C05 w = true ∧ checkGeyserPost s.dev w.cmd = none ∧ s.dev.cnt.staged = [])
    ∧ (∃ s : State, ∃ w : Waiting, s.effectDue 0x0C05 w = true ∧ checkGeyserPost s.dev w.cmd ≠ none) :=
  ⟨⟨(open Stores in { busy with fc := 511, cnt := { post with cells := [(0x4100, 7)] } }), by decide +kernel⟩,
    ⟨(open Stores in gd { post with latched := some dmp } 256), (open Stores in dmp), by decide +kernel⟩,
    ⟨(open Stores in gd { post with staged := [dmp] } 256), (open Stores in dmp), [], by decide +kernel⟩,
    ⟨(open Stores in gd { post with staged := [dmp] } 256), (open Stores in dmp), [], by decide +kernel⟩,
    ⟨(open Stores in due gs busy), (open Stores in wait gs), by decide +kernel⟩,
    ⟨(open Stores in due gs { busy with cnt := post }), (open Stores in wait gs), by decide +kernel⟩,
    ⟨(open Stores in due (gp 4) busy), (open Stores in wait (gp 4)), by decide +kernel⟩,
    ⟨(open Extras in due post0 { busy with cnt := { bankMask := 127 } }), (open Extras in wait post0), by decide +kernel⟩⟩

theorem test_meets_counter_settings_take_effect :
    (∃ s : State, ∃ w : Waiting, s.effectDue 0x0C02 w = true)
    ∧ (∃ s : State, ∃ w : Waiting, s.effectDue 0x0C03 w = true ∧ filterCell w.cmd.index = true)
    ∧ (∃ n : Counters, ∃ c : Nat, n.chained c = false)
    ∧ (∃ n : Counters, ∃ c : Nat, ∃ j, n.chained c = false ∧ j ≠ c)
    ∧ (∃ n : Counters, ∃ c : Nat, n.chained c = true ∧ c % 2 = 1)
    ∧ (∃ n : Counters, ∃ c : Nat, n.chained c = true ∧ c % 2 = 0)
    ∧ (∃ n : Counters, ∃ c : Nat, ∃ j, n.chained c = true ∧ c % 2 = 0 ∧ j ≠ c ∧ j ≠ c + 1) :=
  ⟨⟨(open Stores in due (cs 1) busy), (open Stores in wait (cs 1)), by decide +kernel⟩,
    ⟨(open Stores in due fs busy), (open Stores in wait fs), by decide +kernel⟩,
    ⟨{ cells := [(0, 2^32-1), (1, 2^32-1)] }, 0, by decide +kernel⟩,
    ⟨{ cells := [(0, 2^32-1), (1, 2^32-1)] }, 0, 3, by decide +kernel⟩,
    ⟨{ cells := [(0x1000, 2^32-1), (0x1001, 2^32-1)], flipped := [0x800, 0, 3] }, 7, by decide +kernel⟩,
    ⟨(open Stores in post), 0x4100, by decide +kernel⟩,
    ⟨(open Stores in post), 0x4100, 3, by decide +kernel⟩⟩

theorem test_meets_events_are_staged_counted_and_written :
    (∃ s : State, ∃ e : Event, ∃ rest : List Event, s.live = true ∧ s.dev.log.arising = e :: rest ∧ coalesces e.code = false ∧ s.dev.log.staging.length < 64)
    ∧ (∃ s : State, ∃ e : Event, ∃ rest : List Event, s.live = true ∧ s.dev.log.arising = e :: rest ∧ coalesces e.code = false ∧ 64 ≤ s.dev.log.staging.length ∧ e.sev ≤ 3)
    ∧ (∃ s : State, ∃ e : Event, ∃ rest : List Event, s.live = true ∧ s.dev.log.arising = e :: rest ∧ coalesces e.code = true ∧ e.code ≠ 0x0701 ∧ e.code ≠ 0x0702 ∧ (∀ x ∈ s.dev.log.seen, ¬(x.1 = e.code ∧ x.2.1 = e.obj)) ∧ s.dev.log.staging.length < 64)
    ∧ (∃ s : State, ∃ e : Event, ∃ rest : List Event, s.live = true ∧ s.dev.log.arising = e :: rest ∧ coalesces e.code = true ∧ e.code ≠ 0x0701 ∧ e.code ≠ 0x0702 ∧ s.dev.log.seenCount e.code e.obj ≠ 0 ∧ s.dev.log.coalesce.length < 256 ∧ (∀ c ∈ s.dev.log.coalesce, ¬(c.code = e.code ∧ c.obj = e.obj)))
    ∧ (∃ s : State, ∃ c : Counted, ∃ rest : List Counted, s.live = true ∧ s.dev.log.due = c :: rest ∧ s.dev.log.staging.length < 64)
    ∧ (∃ s : State, s.live = true ∧ s.dev.log.staging.length < 64 ∧ s.dev.log.overflow ≠ [])
    ∧ (∃ s : State, s.live = true ∧ s.dev.log.staging ≠ [] ∧ s.dev.log.region ≠ 2)
    ∧ (∃ s : State, ∃ slot : Nat, s.live = true ∧ slot < s.dev.log.size ∧ s.dev.log.region = 0)
    ∧ (∃ s : State, ∃ slot : Nat, s.live = true ∧ slot < s.dev.log.size ∧ s.dev.log.region = 1)
    ∧ (∃ s : State, ∃ core : Nat, ∃ c : Cmd, s.handedOver = true ∧ s.dev.offers core 0x0D01 c = true)
    ∧ (∃ s : State, ∃ w : Waiting, s.effectDue 0x0D02 w = true) :=
  ⟨⟨(open Stores in lg { arising := [ev 0x0E01 1, ev 0x0E01 2] }), (open Stores in ev 0x0E01 1), (open Stores in [ev 0x0E01 2]), by decide +kernel⟩,
    ⟨(open Stores in lg { arising := [ev 0x0E01 1], staging := List.replicate 64 (rc 1) }), (open Stores in ev 0x0E01 1), [], by decide +kernel⟩,
    ⟨(open Stores in lg { arising := [ev 0x0A01 2] }), (open Stores in ev 0x0A01 2), [], by decide +kernel⟩,
    ⟨(open Stores in lg { arising := [ev 0x0A01 2], seen := [(0x0A01, 3, 1)] }), (open Stores in ev 0x0A01 2), [], by decide +kernel⟩,
    ⟨(open Stores in lg { due := [ct] }), (open Stores in ct), [], by decide +kernel⟩,
    ⟨(open Stores in lg { overflow := [ct, { ct with firstFc := 100 }] }), by decide +kernel⟩,
    ⟨(open Stores in lg { staging := [rc 0, rc 1] }), by decide +kernel⟩,
    ⟨(open Stores in lg { }), 5, by decide +kernel⟩,
    ⟨(open Stores in lg { region := 1, ring := [(65536, 0, rc 1), (65541, 5, rc 1)] }), 5, by decide +kernel⟩,
    ⟨(open Stores in queued er { on with log := { ring := [(0, 0, rc 1)], slot := 1, seq := 1 } }), 0, (open Stores in er), by decide +kernel⟩,
    ⟨(open Stores in due em busy), (open Stores in wait em), by decide +kernel⟩⟩

theorem test_meets_rails_resets_domains_and_dormant :
    (∃ s : State, (s.dev.pwr.mode = .running ∨ s.dev.pwr.mode = .booting))
    ∧ (∃ s : State, s.dev.pwr.mode = .dormant)
    ∧ (∃ s : State, s.handedOver = true ∧ s.dev.pwr.mode = .downSeq ∧ s.dev.pwr.faultOrder = 0)
    ∧ (∃ s : State, s.handedOver = true ∧ (s.dev.pwr.mode = .running ∨ s.dev.pwr.mode = .booting) ∧ s.dev.pwr.dormant.isSome = true)
    ∧ (∃ s : State, s.handedOver = true ∧ (s.dev.pwr.mode = .running ∨ s.dev.pwr.mode = .booting) ∧ s.dev.pwr.dormant = none)
    ∧ (∃ s : State, s.dev.pwr.mode = .unpowered)
    ∧ (∃ s : State, s.live = true)
    ∧ (∃ s : State, ∃ k : Nat, s.dev.pwr.mode = .upSeq ∧ s.dev.pwr.order = k ∧ 1 ≤ k ∧ k ≤ 7)
    ∧ (∃ s : State, ∃ k : Nat, s.dev.pwr.mode = .downSeq ∧ s.dev.pwr.order = k ∧ 1 ≤ k)
    ∧ (∃ s : State, ∃ k : Nat, s.live = true ∧ 1 ≤ k ∧ k ≤ 7)
    ∧ (∃ s : State, s.dev.pwr.mode = .faultWait)
    ∧ (∃ s : State, ∃ b : Bool, s.live = true ∧ (if b then s.dev.pwr.refB else s.dev.pwr.refA) = false)
    ∧ (∃ s : State, ∃ b : Bool, s.live = true ∧ (if b then s.dev.pwr.refB else s.dev.pwr.refA) = true)
    ∧ (∃ s : State, ∃ k : Nat, s.live = true ∧ s.dev.firstWaiting = some k ∧ s.dev.risingRoom = true)
    ∧ (∃ s : State, ∃ k : Nat, s.live = true ∧ k < 324 ∧ (s.dev.domain k).state = .rising)
    ∧ (∃ s : State, ∃ k : Nat, s.live = true ∧ k < 324 ∧ (s.dev.domain k).state = .falling)
    ∧ (∃ s : State, ∃ w : Waiting, ∃ first n : Nat, s.effectDue 0x0E01 w = true ∧ first = w.cmd.index ∧ n = min (clamp 1 324 (w.cmd.field 2 2)) (324 - first))
    ∧ (∃ s : State, ∃ core : Nat, ∃ c : Cmd, s.handedOver = true ∧ s.dev.offers core 0x0E03 c = true ∧ s.dev.fwBusy = false ∧ s.dev.pwr.dormant = none)
    ∧ (∃ s : State, ∃ core : Nat, ∃ c : Cmd, s.handedOver = true ∧ s.dev.offers core 0x0E03 c = true ∧ (s.dev.fwBusy = true ∨ s.dev.pwr.dormant.isSome = true))
    ∧ (∃ s : State, s.live = true ∧ s.dev.pwr.mode = .running ∧ s.dev.pwr.dormant = none ∧ s.dev.fwBusy = false)
    ∧ (∃ s : State, ∃ m trigger : Nat, ∃ order : Option Nat, s.live = true ∧ s.dev.pwr.dormant = some (m, trigger, order) ∧ fcOf m ≤ s.dev.fc ∧ (s.dev.sinter.queue = [] → s.dev.sinter.held = [])) :=
  ⟨⟨at' busy, by decide +kernel⟩,
    ⟨(open Powers in pw { mode := .dormant, enables := 0, rails := 0, order := 0 } {}), by decide +kernel⟩,
    ⟨(open Powers in pw { mode := .downSeq, order := 3 } {}), by decide +kernel⟩,
    ⟨(open Powers in pw { run0 with dormant := some (2, 0, none) } {}), by decide +kernel⟩,
    ⟨at' busy, by decide +kernel⟩,
    ⟨(open Powers in pw { mode := .unpowered, enables := 0, rails := 0, order := 0 } {}), by decide +kernel⟩,
    ⟨at' busy, by decide +kernel⟩,
    ⟨(open Powers in pw { mode := .upSeq, order := 1, enables := 1, rails := 0 } {}), 1, by decide +kernel⟩,
    ⟨(open Powers in pw { mode := .downSeq, order := 3, enables := 7, rails := 7 } {}), 3, by decide +kernel⟩,
    ⟨at' busy, 3, by decide +kernel⟩,
    ⟨(open Powers in pw { mode := .faultWait, order := 0, enables := 0, rails := 0, faultOrder := 4 } {}), by decide +kernel⟩,
    ⟨(open Powers in pw { run0 with refB := false }), true, by decide +kernel⟩,
    ⟨at' busy, true, by decide +kernel⟩,
    ⟨(open Powers in pw { run0 with domains := [(309, { state := .off, waitsRising := true })] }), 309, by decide +kernel⟩,
    ⟨(open Powers in pw { run0 with domains := [(309, { state := .rising })] }), 309, by decide +kernel⟩,
    ⟨(open Powers in pw { run0 with domains := [(309, { state := .falling })] }), 309, by decide +kernel⟩,
    ⟨(open Powers in due (pds 0) on), (open Powers in wait (pds 0)), 314, 3, by decide +kernel⟩,
    ⟨(open Powers in queued pd), 0, (open Powers in pd), by decide +kernel⟩,
    ⟨(open Powers in queued pd { on with pwr := { run0 with dormant := some (4, 0, none) } }), 0, (open Powers in pd), by decide +kernel⟩,
    ⟨at' busy, by decide +kernel⟩,
    ⟨(open Powers in pw { run0 with dormant := some (1, 1, none) } { busy with fc := 256 }), 1, 1, none, by decide +kernel⟩⟩

theorem test_meets_firmware_is_staged_activated_and_booted :
    (∃ s : State, ∃ core : Nat, ∃ c : Cmd, ∃ st, ∃ pl, s.handedOver = true ∧ s.dev.offers core 0x0010 c = true ∧ checkFwStage s.dev c = some (st, pl))
    ∧ (∃ s : State, ∃ core : Nat, ∃ c : Cmd, s.handedOver = true ∧ s.dev.offers core 0x0010 c = true ∧ checkFwStage s.dev c = none ∧ (stageSource c ≠ 0 ∨ s.dev.dmaReady = true))
    ∧ (∃ s : State, ∃ core : Nat, ∃ c : Cmd, s.handedOver = true ∧ s.dev.offers core 0x0010 c = true ∧ checkFwStage s.dev c = none ∧ stageSource c = 0 ∧ s.dev.dmaReady = false ∧ (∀ w ∈ s.dev.host.waiting, w.order ≠ s.dev.host.nextOrder))
    ∧ (∃ s : State, ∃ c : Cmd, s.handedOver = true ∧ s.dev.pwr.fwState = 0 ∧ s.dev.coreFree 0 = true ∧ bestOf s.dev.host.queue = some c ∧ c.mb = 0 ∧ c.opcode = 0x0010 ∧ ((s.dev.unqueue c).precheck c).isNone = true ∧ checkFwStage s.dev c = none ∧ s.dev.dmaReady = true)
    ∧ (∃ s : State, ∃ g : Stage, ∃ image : Option FwImage, ∃ x : FwImage, ∃ check : Nat, s.live = true ∧ s.dev.pwr.stage = some g ∧ (if g.source = 0 then image else s.dev.pwr.bank (g.source - 1)) = some x ∧ check = fwCheck (some x) (if g.source = 0 then g.length else bankSize) s.dev.minSvn)
    ∧ (∃ s : State, ∃ core target : Nat, ∃ c : Cmd, ∃ st, ∃ pl, s.handedOver = true ∧ s.dev.offers core 0x0011 c = true ∧ target = (if c.timed then (resolveTarget s.dev.refMfn c.applyAt).1 else s.dev.refMfn) ∧ checkFwActivate s.dev c = some (st, pl))
    ∧ (∃ s : State, ∃ core target : Nat, ∃ c : Cmd, s.handedOver = true ∧ s.dev.offers core 0x0011 c = true ∧ target = (if c.timed then (resolveTarget s.dev.refMfn c.applyAt).1 else s.dev.refMfn) ∧ checkFwActivate s.dev c = none ∧ (c.timed = true → s.dev.timedRoom target = true))
    ∧ (∃ s : State, ∃ core target : Nat, ∃ c : Cmd, s.handedOver = true ∧ s.dev.offers core 0x0011 c = true ∧ target = (if c.timed then (resolveTarget s.dev.refMfn c.applyAt).1 else s.dev.refMfn) ∧ checkFwActivate s.dev c = none ∧ c.timed = true ∧ s.dev.timedRoom target = false)
    ∧ (∃ s : State, ∃ core target : Nat, ∃ c : Cmd, ∃ st, ∃ pl, s.handedOver = true ∧ s.dev.offers core 0x0012 c = true ∧ target = (if c.timed then (resolveTarget s.dev.refMfn c.applyAt).1 else s.dev.refMfn) ∧ checkFwRollback s.dev c = some (st, pl))
    ∧ (∃ s : State, ∃ core target : Nat, ∃ c : Cmd, s.handedOver = true ∧ s.dev.offers core 0x0012 c = true ∧ target = (if c.timed then (resolveTarget s.dev.refMfn c.applyAt).1 else s.dev.refMfn) ∧ checkFwRollback s.dev c = none ∧ (c.timed = true → s.dev.timedRoom target = true))
    ∧ (∃ s : State, ∃ a : Activation, s.live = true ∧ s.dev.pwr.activation = some a ∧ s.dev.pauseDue = true)
    ∧ (∃ s : State, ∃ a : Activation, ∃ f : Nat, s.live = true ∧ s.dev.pwr.activation = some a ∧ a.pauseFc = some f ∧ (a.trial = true → s.dev.fc - f ≤ 43_009))
    ∧ (∃ s : State, ∃ m n k b : Nat, s.live = true ∧ s.dev.paused = false ∧ s.dev.pwr.trial = some (m, n, k, b) ∧ m + n ≤ s.dev.mfn ∧ k ≤ 3)
    ∧ (∃ s : State, ∃ cause : Nat, s.live = true ∧ s.dev.trialFails cause = true)
    ∧ (∃ s : State, ∃ f : Option FlashInput, ∃ d : Dev, s.handedOver = true ∧ s.dev.pwr.mode = .booting ∧ s.dev.clocked = true ∧ d = s.dev.program f ∧ s.dev.fwTrial = false)
    ∧ (∃ s : State, s.handedOver = true ∧ s.dev.pwr.mode = .booting ∧ s.dev.clocked = true ∧ s.dev.fwTrial = true) :=
  ⟨⟨(open Powers in queued (fsC 0 1) { on with pwr := pb }), 0, (open Powers in fsC 0 1), stConstraint, [], by decide +kernel⟩,
    ⟨(open Powers in q1), 0, (open Powers in fsC 0 0), by decide +kernel⟩,
    ⟨(open Powers in queued (fsC 0 0) { on with pwr := pb }), 0, (open Powers in fsC 0 0), by decide +kernel⟩,
    ⟨(open Powers in queued (fsC 0 1) { on with pwr := { run0 with fwState := 0, coresUp := 1 }, host := { busMaster := true } }), (open Powers in fsC 0 1), by decide +kernel⟩,
    ⟨(open Powers in pw (stg 0 0)), { order := 0, source := 0, dest := 0, length := 320, address := 0x10000 }, (open Powers in some img), (open Powers in img), 0, by decide +kernel⟩,
    ⟨(open Extras in queued (act false)), 0, on.refMfn, (open Extras in act false), 7, [], by decide +kernel⟩,
    ⟨(open Powers in queued (fa true) { on with pwr := pb }), 0, 12, (open Powers in fa true), by decide +kernel⟩,
    ⟨(open Extras in crowded (act true) banked), 0, 12, (open Extras in act true), by decide +kernel⟩,
    ⟨(open Extras in queued (roll false)), 0, on.refMfn, (open Extras in roll false), stIntegrity, [], by decide +kernel⟩,
    ⟨(open Powers in queued (rb false) { on with pwr := pb }), 0, (open Powers in (queued (rb false)).dev.refMfn), (open Powers in rb false), by decide +kernel⟩,
    ⟨(open Powers in ap act), (open Powers in act), by decide +kernel⟩,
    ⟨(open Powers in ap { act with pauseFc := some 260 }), (open Powers in { act with pauseFc := some 260 }), 260, by decide +kernel⟩,
    ⟨(open Powers in at' { busy with fc := 70 * 256, pwr := { pb with trial := some (1, 64, 0, 1) } }), 1, 64, 0, 1, by decide +kernel⟩,
    ⟨(open Powers in at' { busy with fc := 70 * 256, pwr := { pb with preload := some img, trial := some (1, 64, 4, 1) }, host := { waiting := [wait (fa false)] } }), 2, by decide +kernel⟩,
    ⟨(open Powers in bt), none, (open Powers in bt.dev), by decide +kernel⟩,
    ⟨at' { sinter := { cells := [(1, { value := 2 })] } }, by decide +kernel⟩⟩

theorem test_meets_firmware_work_makes_commands_busy :
    (∃ s : State, ∃ core : Nat, ∃ c : Cmd, ∃ r, s.handedOver = true ∧ r ∈ [(0x0010, Instr.fwStage core), (0x0011, .fwActivate core), (0x0012, .fwRollback core), (0x0201, .schedLoad core),
        (0x0203, .schedSwap core), (0x0E03, .pwrDormant core)] ∧ s.dev.offers core r.1 c = true ∧ (s.dev.pwr.stage.isSome = true ∨ s.dev.pwr.activation.isSome = true))
    ∧ (∃ s : State, ∃ c : Cmd, s.handedOver = true ∧ s.dev.pwr.fwState = 0 ∧ s.dev.coreFree 0 = true ∧ bestOf s.dev.host.queue = some c ∧ c.mb = 0 ∧ c.opcode = 0x0010 ∧ ((s.dev.unqueue c).precheck c).isNone = true ∧ stageSource c = 0 ∧ stageDest c = 1 ∧ (s.dev.pwr.stage.isSome = true ∨ s.dev.pwr.activation.isSome = true))
    ∧ (∃ s : State, ∃ core : Nat, ∃ c : Cmd, ∃ r, s.handedOver = true ∧ r ∈ [(0x0011, Instr.fwActivate core), (0x0012, .fwRollback core)] ∧ s.dev.offers core r.1 c = true ∧ (s.dev.sched.swap.isSome = true ∨ s.dev.sched.load.isSome = true ∨ s.dev.pair.joinPhase ≠ 0 ∨ (∃ p ∈ s.dev.pair.agree, p.2.resync ≠ 0) ∨ (s.dev.pair.link = 2 ∧ ∃ h, s.dev.pair.rxHead = some h ∧ h.joinPhase ≠ 0))) :=
  ⟨⟨(open Firmwares in bs on 0x10), 0, cmd 0x10 0 [], (0x10, Instr.fwStage 0), by decide +kernel⟩,
    ⟨(open Firmwares in bsr), (open Firmwares in romc), by decide +kernel⟩,
    ⟨queued (cmd 0x11 0 []) { on with pair := { joinPhase := 3 } }, 0, cmd 0x11 0 [], (0x11, Instr.fwActivate 0), by decide +kernel⟩⟩

theorem test_meets_link_tests_and_service_ports :
    (∃ s : State, ∃ obj : Nat, ∃ sync : Bool, ∃ x : Prbs, s.live = true ∧ x = Tab.get {} s.dev.svc.prbs obj ∧ x.checks = true ∧ x.inSync = !sync ∧ (patternHeld obj = true → if sync then 1_024 ≤ x.run else x.lost = true))
    ∧ (∃ s : State, ∃ w : Waiting, ∃ p m : Nat, ∃ x : Prbs, s.effectDue 0x0F01 w = true ∧ p = fallback 9 0 (w.cmd.field 0 1) ∧ m = w.cmd.field 1 1 % 16 ∧ x = Tab.get {} s.dev.svc.prbs w.cmd.object ∧ checkPrbsSet s.dev w.cmd = none)
    ∧ (∃ s : State, ∃ w : Waiting, ∃ p m : Nat, ∃ x : Prbs, s.effectDue 0x0F01 w = true ∧ p = fallback 9 0 (w.cmd.field 0 1) ∧ m = w.cmd.field 1 1 % 16 ∧ x = Tab.get {} s.dev.svc.prbs w.cmd.object ∧ checkPrbsSet s.dev w.cmd ≠ none)
    ∧ (∃ s : State, ∃ w : Waiting, ∃ p m : Nat, ∃ x : Prbs, s.effectDue 0x0F01 w = true ∧ p = fallback 9 0 (w.cmd.field 0 1) ∧ m = w.cmd.field 1 1 % 16 ∧ x = Tab.get {} s.dev.svc.prbs w.cmd.object ∧ p ≠ 0 ∧ bit m 0 = true ∧ s.dev.twinBound = true)
    ∧ (∃ s : State, ∃ w : Waiting, ∃ n : Nat, s.effectDue 0x0F03 w = true ∧ n = loopOf w.cmd ∧ n ≠ 0 ∧ s.dev.twinBound = true)
    ∧ (∃ s : State, ∃ w : Waiting, ∃ n : Nat, s.effectDue 0x0F03 w = true ∧ n = loopOf w.cmd ∧ (n = 0 ∨ s.dev.twinBound = false))
    ∧ (∃ s : State, ∃ i : JtagInstr, s.live = true ∧ (∀ n, i ≠ .privateCode n) ∧ s.dev.locked = false)
    ∧ (∃ s : State, s.live = true ∧ s.dev.locked = true)
    ∧ (∃ s : State, s.dev.locked = false)
    ∧ (∃ s : State, s.live = true)
    ∧ (∃ s : State, s.live = true ∧ s.dev.locked = false)
    ∧ (∃ s : State, ∃ unit : Nat, ∃ x : Pmb, s.live = true ∧ unit < 2 ∧ x = s.dev.pmb unit)
    ∧ (∃ s : State, ∃ unit : Nat, ∃ x : Pmb, s.live = true ∧ unit < 2 ∧ x = s.dev.pmb unit ∧ x.busy = true ∧ x.lost = false)
    ∧ (∃ s : State, ∃ unit : Nat, ∃ x : Pmb, s.live = true ∧ unit < 2 ∧ x = s.dev.pmb unit ∧ x.busy = true ∧ x.lost = true ∧ x.retries < 3)
    ∧ (∃ s : State, ∃ unit : Nat, ∃ x : Pmb, s.live = true ∧ unit < 2 ∧ x = s.dev.pmb unit ∧ x.busy = true ∧ x.lost = true ∧ 3 ≤ x.retries) :=
  ⟨⟨(open Services in sv (pb { mode := 2, pattern := 1 })), objLane 0, true, { mode := 2, pattern := 1 }, by decide +kernel⟩,
    ⟨(open Services in due (ps 0 1 3) on), (open Services in wait (ps 0 1 3)), 1, 3, {}, by decide +kernel⟩,
    ⟨(open Services in due (ps 0 1 3) { on with pair := { role := .active, paired := true, link := 2, goodFrames := 64, rxHead := some { role := 3 } } }), (open Services in wait (ps 0 1 3)), 1, 3, {}, by decide +kernel⟩,
    ⟨(open Services in due (ps 0 1 3) { on with pair := { role := .active, paired := true, link := 2, goodFrames := 64, rxHead := some { role := 3 } } }), (open Services in wait (ps 0 1 3)), 1, 3, {}, by decide +kernel⟩,
    ⟨(open Services in due (lo 0 1) tw), (open Services in wait (lo 0 1)), 1, by decide +kernel⟩,
    ⟨(open Services in due (lo 0 1) busy), (open Services in wait (lo 0 1)), 1, by decide +kernel⟩,
    ⟨at' busy, JtagInstr.extest, by decide +kernel, nofun, by decide +kernel⟩,
    ⟨(open Services in at' lkd), by decide +kernel⟩,
    ⟨at' busy, by decide +kernel⟩,
    ⟨(open Services in at' lkd), by decide +kernel⟩,
    ⟨at' busy, by decide +kernel⟩,
    ⟨(open Services in pm {}), 0, {}, by decide +kernel⟩,
    ⟨at' { on with svc := { pmb0 := { busy := true, read := true, len := 3 } } }, 0, { busy := true, read := true, len := 3 }, by decide +kernel⟩,
    ⟨(open Services in pm { busy := true, lost := true }), 0, { busy := true, lost := true }, by decide +kernel⟩,
    ⟨(open Services in pm { busy := true, lost := true, retries := 3, addr := 9 }), 0, { busy := true, lost := true, retries := 3, addr := 9 }, by decide +kernel⟩⟩

theorem test_meets_field_lock_opens_and_closes :
    (∃ s : State, ∃ w : Waiting, s.effectDue 0x0F10 w = true)
    ∧ (∃ s : State, ∃ w : Waiting, ∃ good : Bool, (s.effectDue 0x0F11 w = true ∨ s.effectDue 0x0F12 w = true) ∧ (w.cmd.opcode = 0x0F11 → (good = true ↔ ∃ v, s.dev.svc.lock.nonce = some v ∧ s.dev.mfn < s.dev.svc.lock.nonceMfn + 201_600 ∧ (beBytes 32 (Config.hmac (leBytes 16 v ++ leBytes 8 Config.unitId.toNat)).toNat).take 16 = sliceAt w.cmd.payload 0 16)) ∧ (w.cmd.opcode = 0x0F12 → (good = true ↔ s.dev.storedVerifier = some (s.dev.verifier (sliceAt w.cmd.payload 8 (clamp 8 64 (w.cmd.field 0 1)))))) ∧ 0 < s.dev.backoffLeft)
    ∧ (∃ s : State, ∃ w : Waiting, ∃ good : Bool, (s.effectDue 0x0F11 w = true ∨ s.effectDue 0x0F12 w = true) ∧ (w.cmd.opcode = 0x0F11 → (good = true ↔ ∃ v, s.dev.svc.lock.nonce = some v ∧ s.dev.mfn < s.dev.svc.lock.nonceMfn + 201_600 ∧ (beBytes 32 (Config.hmac (leBytes 16 v ++ leBytes 8 Config.unitId.toNat)).toNat).take 16 = sliceAt w.cmd.payload 0 16)) ∧ (w.cmd.opcode = 0x0F12 → (good = true ↔ s.dev.storedVerifier = some (s.dev.verifier (sliceAt w.cmd.payload 8 (clamp 8 64 (w.cmd.field 0 1)))))) ∧ s.dev.backoffLeft = 0)
    ∧ (∃ k, 1 ≤ k)
    ∧ (∃ s : State, ∃ w : Waiting, s.effectDue 0x0F13 w = true)
    ∧ (∃ s : State, ∃ w : Waiting, ∃ op : Nat, ∃ puts : List (Nat × Nat) → Sinter, s.effectDue 0x0F14 w = true ∧ op = w.cmd.field 0 1 ∧ (∀ l, puts l = l.foldl (fun x e => x.put { word := e.1, width := 0, value := e.2 }) s.dev.sinter))
    ∧ (∃ s : State, s.live = true ∧ s.dev.svc.lock.nonce.isSome = true ∧ s.dev.svc.lock.nonceMfn + 201_600 ≤ s.dev.mfn)
    ∧ (∃ s : State, ∃ e, s.live = true ∧ s.dev.svc.lock.backoffEnd = some e ∧ e ≤ s.dev.mfn)
    ∧ (∃ s : State, ∃ e, s.live = true ∧ s.dev.svc.lock.session = some e ∧ e ≤ s.dev.mfn)
    ∧ (∃ s : State, ∃ core : Nat, ∃ c : Cmd, s.handedOver = true ∧ s.dev.pwr.mode = .running ∧ s.dev.pwr.fwState = 2 ∧ s.dev.coreFree core = true ∧ bestOf s.dev.host.queue = some c ∧ 0x0F20 ≤ c.opcode ∧ c.opcode ≤ 0x0F2F ∧ ((s.dev.unqueue c).precheck c).isNone = true)
    ∧ (∃ s : State, ∃ core : Nat, ∃ c : Cmd, s.handedOver = true ∧ s.dev.pwr.mode = .running ∧ s.dev.pwr.fwState = 2 ∧ s.dev.coreFree core = true ∧ bestOf s.dev.host.queue = some c ∧ 0x0F20 ≤ c.opcode ∧ c.opcode ≤ 0x0F2F ∧ c.mb = 0 ∧ s.dev.locked = true ∧ (∀ q ∈ s.dev.host.queue.erase c, ¬(q.mb = c.mb ∧ q.seq = c.seq)) ∧ (∀ w ∈ s.dev.host.waiting, ¬(w.cmd.mb = c.mb ∧ w.cmd.seq = c.seq))) :=
  ⟨⟨(open Services in due ch busy), (open Services in wait ch), by decide +kernel⟩,
    ⟨(open Services in due rp { lkd with svc := { lock := { backoffEnd := some 100 } } }), (open Services in wait rp), false, .inl (by decide +kernel), fun _ => ⟨nofun, fun ⟨v, h, _⟩ => absurd (show (none : Option Nat) = some v from h) (by simp)⟩, fun h => absurd h (by decide), by decide +kernel⟩,
    ⟨(open Services in due rp lkd), (open Services in wait rp), false, .inl (by decide +kernel), fun _ => ⟨nofun, fun ⟨v, h, _⟩ => absurd (show (none : Option Nat) = some v from h) (by simp)⟩, fun h => absurd h (by decide), by decide +kernel⟩,
    ⟨13, by decide +kernel⟩,
    ⟨(open Services in due cl lkd), (open Services in wait cl), by decide +kernel⟩,
    ⟨(open Services in due (st 2) lkd), (open Services in wait (st 2)), 2, (open Services in puts lkd), by decide +kernel, by decide +kernel, fun _ => rfl⟩,
    ⟨(open Services in sv { lock := { nonce := some 5, nonceMfn := 3 } } { busy with fc := 256 * 201603 }), by decide +kernel⟩,
    ⟨(open Services in sv { lock := { backoffEnd := some 50, session := some 60 } } { busy with fc := 256 * 201603 }), 50, by decide +kernel⟩,
    ⟨(open Services in sv { lock := { backoffEnd := some 50, session := some 60 } } { busy with fc := 256 * 201603 }), 60, by decide +kernel⟩,
    ⟨(open Services in queued (vd 0x0F20)), 0, (open Services in vd 0x0F20), by decide +kernel⟩,
    ⟨(open Services in queued (vd 0x0F2F) { lkd with host := {} }), 0, (open Services in vd 0x0F2F), by decide +kernel⟩⟩

theorem test_meets_field_lock_refuses_diagnostics_and_password_set :
    (∃ s : State, ∃ core : Nat, ∃ c : Cmd, s.live = true ∧ s.dev.pwr.fwState = 2 ∧ s.dev.coreFree core = true ∧ bestOf s.dev.host.queue = some c ∧ (∀ q ∈ s.dev.host.queue.erase c, ¬(q.mb = c.mb ∧ q.seq = c.seq)) ∧ (∀ w ∈ s.dev.host.waiting, ¬(w.cmd.mb = c.mb ∧ w.cmd.seq = c.seq)) ∧ c.mb = 0 ∧ s.dev.lockSet = true ∧ s.dev.svc.lock.session = none ∧ 0x0F20 ≤ c.opcode ∧ c.opcode ≤ 0x0F2F)
    ∧ (∃ s : State, ∃ core : Nat, ∃ c : Cmd, s.live = true ∧ s.dev.pwr.fwState = 2 ∧ s.dev.coreFree core = true ∧ bestOf s.dev.host.queue = some c ∧ (∀ q ∈ s.dev.host.queue.erase c, ¬(q.mb = c.mb ∧ q.seq = c.seq)) ∧ (∀ w ∈ s.dev.host.waiting, ¬(w.cmd.mb = c.mb ∧ w.cmd.seq = c.seq)) ∧ c.mb = 0 ∧ s.dev.lockSet = true ∧ s.dev.svc.lock.session = none ∧ c.opcode = 0x0F14)
    ∧ (∃ c : Cmd, c.opcode ≠ 0x0F14 ∧ ¬(0x0F20 ≤ c.opcode ∧ c.opcode ≤ 0x0F2F))
    ∧ (∃ d : Dev, (d.lockSet = false ∨ d.svc.lock.session.isSome = true)) :=
  ⟨⟨(open Services in queued (vd 0x0F2F) { lkd with host := {} }), 0, (open Services in vd 0x0F2F), by decide +kernel⟩,
    ⟨(open Services in queued (vd 0x0F14) { lkd with host := {}, pair := { role := .standby } }), 0, (open Services in vd 0x0F14), by decide +kernel⟩,
    ⟨(open Services in vd 0x0F13), by decide +kernel⟩,
    ⟨busy, by decide +kernel⟩⟩

end Sys2Proof.Tests
end

namespace Sys2Proof.Machine

open Sys2Proof

/-! ### What a settled step shows -/

@[simp] theorem State.settle_pair (s : State) (d : Dev) : (s.settle d).dev.pair = d.pair := rfl

/-- Sorting the events of a step loses none of them and adds none (R402). -/
theorem State.mem_settle_arising (s : State) (d : Dev) (x : Event) :
    x ∈ (s.settle d).dev.log.arising ↔ x ∈ d.log.arising := by
  rw [State.settle_arising, List.mem_append, mem_sortBy, ← List.mem_append, List.take_append_drop]

theorem State.powered_of_live {s : State} (h : s.live = true) : s.dev.powered = true :=
  (Bool.and_eq_true_iff.mp h).1

theorem State.out_of_live {s : State} (h : s.live = true) : s.dev.host.out = [] :=
  List.isEmpty_iff.mp (Bool.and_eq_true_iff.mp h).2

/-- A step that answers nothing leaves the rings as they are. -/
theorem State.settle_bar1_of_live {s : State} {d : Dev} (h : s.live = true) (o : d.host.out = s.dev.host.out) :
    (s.settle d).bar1 = s.bar1 :=
  State.settle_bar1_of_nil s d (o.trans (State.out_of_live h))

/-! ### Bits -/

theorem bit_eq_testBit (v i : Nat) : bit v i = v.testBit i := by
  rw [Nat.testBit_eq_decide_div_mod_eq]; rfl

/-- Taking a standing bit away from a number leaves the bits above it. -/
theorem testBit_sub_two_pow_of_lt {v i j : Nat} (h : v.testBit i = true) (l : i < j) :
    (v - 2 ^ i).testBit j = v.testBit j := by
  have odd : v / 2 ^ i % 2 = 1 := by simpa [Nat.testBit_eq_decide_div_mod_eq] using h
  have le : 2 ^ i ≤ v := Nat.ge_two_pow_of_testBit h
  have quot : (v - 2 ^ i) / 2 ^ i = v / 2 ^ i - 1 := by simpa using Nat.sub_mul_div_of_le v (2 ^ i) 1 (by simpa using le)
  have half (q : Nat) (o : q % 2 = 1) : (q - 1) / 2 = q / 2 := by omega
  have split (x : Nat) : x.testBit j = (x / 2 ^ i / 2).testBit (j - (i + 1)) := by
    rw [Nat.div_div_eq_div_mul, ← Nat.pow_succ, Nat.testBit_div_two_pow, Nat.sub_add_cancel l]
  rw [split, split v, quot, half _ odd]

/-- Bit `i` of a number cleared: it reads false, and every other bit as before. -/
theorem bit_setBit_false (v i j : Nat) : bit (setBit v i false) j = (bit v j && j != i) := by
  by_cases h : v.testBit i = true
  · have le : 2 ^ i ≤ v := Nat.ge_two_pow_of_testBit h
    have eq : 2 ^ i + (v - 2 ^ i) = v := Nat.add_sub_cancel' le
    have taken : setBit v i false = v - 2 ^ i := by simp [setBit, bit_eq_testBit, h]
    rw [taken, bit_eq_testBit, bit_eq_testBit]
    rcases Nat.lt_trichotomy j i with l | rfl | l
    · rw [← Nat.testBit_two_pow_add_gt l, eq]; simp [Nat.ne_of_lt l]
    · have flip := Nat.testBit_two_pow_add_eq (v - 2 ^ j) j
      rw [eq, h] at flip
      simpa using flip.symm
    · rw [testBit_sub_two_pow_of_lt h l]; simp [Nat.ne_of_gt l]
  · have clear : v.testBit i = false := by simpa using h
    by_cases e : j = i
    · subst e; simp [setBit, bit_eq_testBit, clear]
    · simp [setBit, bit_eq_testBit, clear, e]

/-! ### Effects that keep what they find reported

`Dev.Reports d e`: from `d` to `e` the Beat and the waiting responses are the same and no event is lost. Each effect of the
pair is one of these, so an event raised on the way stands in the log at its end. -/

structure Dev.Reports (d e : Dev) : Prop where
  fc : e.fc = d.fc
  out : e.host.out = d.host.out
  kept : ∀ x ∈ d.log.arising, x ∈ e.log.arising

namespace Dev.Reports

theorem refl (d : Dev) : d.Reports d := ⟨rfl, rfl, fun _ h => h⟩

theorem trans {d e f : Dev} (h : d.Reports e) (g : e.Reports f) : d.Reports f :=
  ⟨g.fc.trans h.fc, g.out.trans h.out, fun x m => g.kept x (h.kept x m)⟩

/-- An effect that leaves Beat, host and log alone. -/
theorem of_eq {d e : Dev} (fc : e.fc = d.fc) (host : e.host = d.host) (log : e.log = d.log) : d.Reports e :=
  ⟨fc, by rw [host], fun _ m => log ▸ m⟩

theorem setPair (d : Dev) (p : Pair) : d.Reports (d.setPair p) := of_eq rfl rfl rfl

theorem tick (d : Dev) (c k : Nat) : d.Reports (d.tick c k) := of_eq (by simp) (by simp) (by simp)

theorem raise (d : Dev) (code obj : Nat) (l : List Byte) : d.Reports (d.raise code obj l) :=
  ⟨rfl, by simp, fun _ m => by simp [m]⟩

/-- Both devices stand in the same Beat. -/
theorem eventOf_eq {d e : Dev} (h : d.Reports e) (code obj : Nat) (l : List Byte) :
    e.eventOf code obj l = d.eventOf code obj l := by
  simp [Dev.eventOf, h.fc]

/-- An event raised between two such effects is that of the Beat in progress, and stands in the log at the end. -/
theorem event {d m e : Dev} {code obj : Nat} {l : List Byte} (before : d.Reports m)
    (after : (m.raise code obj l).Reports e) : d.eventOf code obj l ∈ e.log.arising := by
  rw [← before.eventOf_eq]
  exact after.kept _ (by simp)

end Dev.Reports

/-! ### What the pair's operations change -/

@[simp] theorem Dev.setPair_pair (d : Dev) (p : Pair) : (d.setPair p).pair = p := rfl

@[simp] theorem Dev.setPair_setPair (d : Dev) (p q : Pair) : (d.setPair p).setPair q = d.setPair q := rfl

@[simp] theorem Dev.setPair_log (d : Dev) (p : Pair) : (d.setPair p).log = d.log := rfl

@[simp] theorem Dev.setPair_host (d : Dev) (p : Pair) : (d.setPair p).host = d.host := rfl

@[simp] theorem Dev.setPair_anchor (d : Dev) (p : Pair) : (d.setPair p).anchor = d.anchor := rfl

theorem Dev.own_pair (d : Dev) (lp cp : Nat) :
    ∃ fc, (d.own lp cp).pair = { d.pair with ownLp := lp, ownCp := cp, takeoverFc := fc } := by
  unfold Dev.own
  split
  next h =>
    obtain ⟨rfl, rfl⟩ := by simpa using h
    exact ⟨_, rfl⟩
  next => exact ⟨_, rfl⟩

theorem Dev.own_reports (d : Dev) (lp cp : Nat) : d.Reports (d.own lp cp) := by
  unfold Dev.own
  split
  · exact .refl d
  · exact .setPair ..

@[simp] theorem Dev.own_log (d : Dev) (lp cp : Nat) : (d.own lp cp).log = d.log := by
  unfold Dev.own; split <;> rfl

theorem Dev.driveSel_reports (d : Dev) : d.Reports d.driveSel := .setPair ..

theorem Dev.refreshHead_pair (d : Dev) : ∃ f, d.refreshHead.pair = { d.pair with txFrame := f } := by
  unfold Dev.refreshHead; split <;> exact ⟨_, rfl⟩

theorem Dev.refreshHead_reports (d : Dev) : d.Reports d.refreshHead := by
  unfold Dev.refreshHead
  split
  · exact .setPair ..
  · exact .refl d

theorem Dev.driveOwn_pair (d : Dev) :
    ∃ sel bus f, d.driveOwn.pair = { d.pair with selLp := sel, selbus := bus, txFrame := f } := by
  unfold Dev.driveOwn
  obtain ⟨f, h⟩ := Dev.refreshHead_pair
    (d.driveSel.setPair { d.driveSel.pair with selbus := if d.driveSel.pair.selbusHeld then [] else d.driveSel.selbusFrame })
  exact ⟨_, _, f, h⟩

theorem Dev.driveOwn_reports (d : Dev) : d.Reports d.driveOwn :=
  (d.driveSel_reports.trans (.setPair ..)).trans (Dev.refreshHead_reports _)

/-! ### Roles -/

theorem Dev.fumPop_pair (d : Dev) (p : Nat) : (d.fumPop p).pair = d.pair := by
  unfold Dev.fumPop; dsimp only; split <;> rfl

theorem Dev.fumPop_reports (d : Dev) (p : Nat) : d.Reports (d.fumPop p) := by
  unfold Dev.fumPop
  dsimp only
  split
  · exact .refl d
  · exact .of_eq rfl rfl rfl

/-- Starting the Fumarole ports afresh touches these ports only (R290). -/
theorem Dev.restartFum_keeps (d : Dev) : d.Reports d.restartFum ∧ d.restartFum.pair = d.pair := by
  unfold Dev.restartFum
  refine List.foldlRecOn (motive := fun e => d.Reports e ∧ e.pair = d.pair) _ _ ⟨.refl d, rfl⟩ ?_
  intro e ⟨r, k⟩ p _
  obtain ⟨m, hm, r', k'⟩ :
      ∃ m, (if (e.fum p).sent = 0 then e else e.fumPop p) = m ∧ e.Reports m ∧ m.pair = e.pair := by
    split
    · exact ⟨e, rfl, .refl e, rfl⟩
    · exact ⟨_, rfl, e.fumPop_reports p, e.fumPop_pair p⟩
  dsimp only
  rw [hm]
  split
  · exact ⟨r.trans r', k'.trans k⟩
  · exact ⟨(r.trans r').trans (.of_eq rfl rfl rfl), k'.trans k⟩

/-- A new role is entered from a device that differs in its Fumarole ports at most. -/
theorem Dev.setRole_of_ne (d : Dev) (r : Role) (h : d.pair.role ≠ r) :
    ∃ m, d.Reports m ∧ m.pair = d.pair ∧
      d.setRole r = (m.setPair { d.pair with role := r }).raise 0x0901 0
        (leBytes 1 d.pair.role.code ++ leBytes 1 r.code) := by
  by_cases f : r = .active ∧ d.pair.role = .standby
  · refine ⟨d.restartFum, d.restartFum_keeps.1, d.restartFum_keeps.2, ?_⟩
    simp [Dev.setRole, f.1, f.2, d.restartFum_keeps.2]
  · refine ⟨d, .refl d, rfl, ?_⟩
    have stay : (r == .active && d.pair.role == .standby) = false := by simpa using f
    simp [Dev.setRole, h, stay]

theorem Dev.setRole_pair (d : Dev) (r : Role) : (d.setRole r).pair = { d.pair with role := r } := by
  by_cases h : d.pair.role = r
  · subst h; simp [Dev.setRole]
  · obtain ⟨m, -, -, e⟩ := d.setRole_of_ne r h
    rw [e]; rfl

theorem Dev.setRole_reports (d : Dev) (r : Role) : d.Reports (d.setRole r) := by
  by_cases h : d.pair.role = r
  · simpa [Dev.setRole, h] using Dev.Reports.refl d
  · obtain ⟨m, k, -, e⟩ := d.setRole_of_ne r h
    rw [e]; exact (k.trans (.setPair ..)).trans (.raise ..)

/-- A change of role is reported. -/
theorem Dev.setRole_event (d : Dev) (r : Role) (h : d.pair.role ≠ r) :
    d.eventOf 0x0901 0 (leBytes 1 d.pair.role.code ++ leBytes 1 r.code) ∈ (d.setRole r).log.arising := by
  obtain ⟨m, k, -, e⟩ := d.setRole_of_ne r h
  rw [e]; exact (k.trans (.setPair ..)).event (.refl _)

theorem Dev.clearDiverged_keeps (d : Dev) : d.Reports d.clearDiverged ∧ d.clearDiverged.pair = d.pair := by
  unfold Dev.clearDiverged
  refine List.foldlRecOn (motive := fun e => d.Reports e ∧ e.pair = d.pair) _ _ ⟨.refl d, rfl⟩ ?_
  intro e ⟨r, k⟩ a _
  exact ⟨r.trans (.raise ..), k⟩

theorem Dev.startJoin_reports (d : Dev) (full : Bool) : d.Reports (d.startJoin full) :=
  (((d.clearDiverged_keeps.1.trans (Dev.setRole_reports ..)).trans (Dev.own_reports ..)).trans
    (Dev.driveSel_reports _)).trans (.setPair ..)

/-- A device that starts to join is JOINING, and its link stands as it did (R274). -/
theorem Dev.startJoin_pair (d : Dev) (full : Bool) :
    (d.startJoin full).pair.role = .joining ∧ (d.startJoin full).pair.link = d.pair.link ∧
      (d.startJoin full).pair.lanes = d.pair.lanes := by
  obtain ⟨fc, h⟩ := Dev.own_pair (d.clearDiverged.setRole .joining) 0 0
  simp [Dev.startJoin, Dev.driveSel, h, Dev.setRole_pair, d.clearDiverged_keeps.2]

/-! ### Force-standby rails -/

theorem Dev.xstbyAct_pair (d : Dev) : ∃ h f, d.xstbyAct.pair = { d.pair with handover := h, txFrame := f } := by
  unfold Dev.xstbyAct
  split
  · obtain ⟨f, h⟩ := Dev.refreshHead_pair (d.setPair { d.pair with handover := some _ })
    exact ⟨_, f, h⟩
  · exact ⟨_, _, rfl⟩

theorem Dev.xstbyAct_reports (d : Dev) : d.Reports d.xstbyAct := by
  unfold Dev.xstbyAct
  split
  · exact (Dev.Reports.setPair ..).trans (Dev.refreshHead_reports _)
  · exact .refl d

theorem Dev.setXstby_pair (d : Dev) (v : Bool) :
    ∃ h f, (d.setXstby v).pair = { d.pair with xstby := v, handover := h, txFrame := f } := by
  unfold Dev.setXstby
  split
  next e => exact ⟨_, _, by rw [← e]⟩
  next => exact Dev.xstbyAct_pair _

theorem Dev.setXstby_reports (d : Dev) (v : Bool) : d.Reports (d.setXstby v) := by
  unfold Dev.setXstby
  split
  · exact .refl d
  · exact ((Dev.Reports.setPair ..).trans (.raise ..)).trans (Dev.xstbyAct_reports _)

/-- A change of the force-standby input is reported. -/
theorem Dev.setXstby_event (d : Dev) (v : Bool) (h : d.pair.xstby ≠ v) :
    d.eventOf 0x090A 0 [] ∈ (d.setXstby v).log.arising := by
  simp only [Dev.setXstby, h, if_false]
  exact (Dev.Reports.setPair ..).event (Dev.xstbyAct_reports _)

/-- A run of disagreeing samples that raised no fault is counted (R279). -/
def Dev.countShort (d : Dev) : Dev :=
  if d.pair.xstbyRun != 0 && !d.pair.xstbyFault then
    (d.setPair { d.pair with xstbyShort := satAdd 0xFFFF d.pair.xstbyShort 1 }).tick 0x5325 1
  else d

/-- The rails agree again: the run ends, and with it the discrepancy fault (R279). -/
def Dev.endDiscrepancy (d : Dev) : Dev :=
  if d.pair.xstbyFault then
    (d.setPair { d.pair with xstbyRun := 0, xstbyFault := false }).raise 0x0909 0 (leBytes 1 0)
  else d.setPair { d.pair with xstbyRun := 0 }

/-- A sample in which the rails agree: the run before it is counted and ended, then the input takes the value. -/
theorem Dev.xstbySample_of_ne (d : Dev) (a b : Bool) (h : a ≠ b) :
    d.xstbySample a b = d.countShort.endDiscrepancy.setXstby a := by
  by_cases f : d.pair.xstbyFault = true
  · simp [Dev.xstbySample, h, Dev.countShort, Dev.endDiscrepancy, f]
  · by_cases r : d.pair.xstbyRun = 0
    · simp [Dev.xstbySample, h, Dev.countShort, Dev.endDiscrepancy, f, r]
    · simp [Dev.xstbySample, h, Dev.countShort, Dev.endDiscrepancy, f, r]

theorem Dev.countShort_pair (d : Dev) : d.countShort.pair = { d.pair with
    xstbyShort := if d.pair.xstbyRun ≠ 0 ∧ d.pair.xstbyFault = false then min 0xFFFF (d.pair.xstbyShort + 1)
      else d.pair.xstbyShort } := by
  by_cases c : d.pair.xstbyRun ≠ 0 ∧ d.pair.xstbyFault = false
  · simp [Dev.countShort, c.1, c.2, satAdd]
  · rw [if_neg c]
    simp only [Dev.countShort]
    rw [if_neg (by simpa using c)]

theorem Dev.countShort_reports (d : Dev) : d.Reports d.countShort := by
  unfold Dev.countShort
  split
  · exact (Dev.Reports.setPair ..).trans (.tick ..)
  · exact .refl d

theorem Dev.endDiscrepancy_pair (d : Dev) :
    d.endDiscrepancy.pair = { d.pair with xstbyRun := 0, xstbyFault := false } := by
  unfold Dev.endDiscrepancy
  split
  · rfl
  next f => simp [show d.pair.xstbyFault = false by simpa using f]

theorem Dev.endDiscrepancy_reports (d : Dev) : d.Reports d.endDiscrepancy := by
  unfold Dev.endDiscrepancy
  split
  · exact (Dev.Reports.setPair ..).trans (.raise ..)
  · exact .setPair ..

theorem Dev.endDiscrepancy_event (d : Dev) (h : d.pair.xstbyFault = true) :
    d.eventOf 0x0909 0 (leBytes 1 0) ∈ d.endDiscrepancy.log.arising := by
  simp only [Dev.endDiscrepancy, h, if_true]
  exact (Dev.Reports.setPair ..).event (.refl _)

/-! ### The link -/

theorem Dev.holdover_reports (d : Dev) : d.Reports d.holdover := by
  unfold Dev.holdover
  refine Dev.Reports.trans ?_ (.raise ..)
  exact .of_eq rfl rfl rfl

/-- The pair of a device whose link is lost, `lanes` still being aligned (R263, R277). -/
def Dev.lostLink (d : Dev) (lanes : Nat) : Pair :=
  { d.pair with link := if d.domOn domGalulo then 1 else 0, lanes := lanes, goodFrames := 0, linkRun := 0 }

/-- An anchor that runs on another source than the twin takes no notice of the link. -/
theorem Dev.linkDown_of_ne (d : Dev) (lanes : Nat) (h : d.anchor.inUse ≠ 2) :
    d.linkDown lanes = (d.setPair (d.lostLink lanes)).raise 0x0904 0 (leBytes 1 lanes) := by
  simp [Dev.linkDown, h, Dev.lostLink]

/-- An anchor that runs on the twin goes into HOLDOVER with the link (R40). -/
theorem Dev.linkDown_of_eq (d : Dev) (lanes : Nat) (h : d.anchor.inUse = 2) :
    d.linkDown lanes = ((d.setPair (d.lostLink lanes)).raise 0x0904 0 (leBytes 1 lanes)).holdover := by
  simp [Dev.linkDown, h, Dev.lostLink]

/-- Either way the loss of the link is reported, then kept. -/
theorem Dev.linkDown_keeps (d : Dev) (lanes : Nat) :
    (d.linkDown lanes).pair = d.lostLink lanes ∧
      ((d.setPair (d.lostLink lanes)).raise 0x0904 0 (leBytes 1 lanes)).Reports (d.linkDown lanes) := by
  by_cases h : d.anchor.inUse = 2
  · rw [d.linkDown_of_eq lanes h]; exact ⟨rfl, Dev.holdover_reports _⟩
  · rw [d.linkDown_of_ne lanes h]; exact ⟨rfl, .refl _⟩

theorem Dev.linkDown_event (d : Dev) (lanes : Nat) :
    d.eventOf 0x0904 0 (leBytes 1 lanes) ∈ (d.linkDown lanes).log.arising :=
  (Dev.Reports.setPair ..).event (d.linkDown_keeps lanes).2

theorem Dev.linkDown_reports (d : Dev) (lanes : Nat) : d.Reports (d.linkDown lanes) :=
  ((Dev.Reports.setPair ..).trans (.raise ..)).trans (d.linkDown_keeps lanes).2

/-! ### A slice that stops

`Dev.LosesLanes d e`: from `d` to `e` line lanes may leave the UP state and none enters it; the pair and the waiting responses
are the same. What follows the loss of a lane through the port's stages and its Spread groups is one of these. -/

structure Dev.LosesLanes (d e : Dev) : Prop where
  pair : e.pair = d.pair
  out : e.host.out = d.host.out
  down : ∀ p k, bit (d.port p).lanesUp k = false → bit (e.port p).lanesUp k = false

namespace Dev.LosesLanes

theorem refl (d : Dev) : d.LosesLanes d := ⟨rfl, rfl, fun _ _ h => h⟩

theorem trans {d e f : Dev} (h : d.LosesLanes e) (g : e.LosesLanes f) : d.LosesLanes f :=
  ⟨g.pair.trans h.pair, g.out.trans h.out, fun p k b => g.down p k (h.down p k b)⟩

/-- An effect that leaves the line ports alone. -/
theorem of_ports {d e : Dev} (pair : e.pair = d.pair) (out : e.host.out = d.host.out) (ports : e.ports = d.ports) :
    d.LosesLanes e :=
  ⟨pair, out, fun p k b => by simpa [Dev.port, ports] using b⟩

theorem raise (d : Dev) (code obj : Nat) (l : List Byte) : d.LosesLanes (d.raise code obj l) := of_ports rfl (by simp) rfl

theorem tick (d : Dev) (c k : Nat) : d.LosesLanes (d.tick c k) := of_ports (by simp) (by simp) (by simp)

theorem setGroup (d : Dev) (g : Nat) (x : Spread) : d.LosesLanes (d.setGroup g x) := of_ports rfl rfl rfl

/-- A port whose UP lanes are among those it had. -/
theorem setPort (d : Dev) (p : Nat) (x : LinePort)
    (h : ∀ k, bit (d.port p).lanesUp k = false → bit x.lanesUp k = false) : d.LosesLanes (d.setPort p x) := by
  refine ⟨rfl, rfl, fun q k b => ?_⟩
  rw [Dev.setPort_port]
  split
  next e => exact h k (e ▸ b)
  next => exact b

theorem foldl {α : Type} {f : Dev → α → Dev} (h : ∀ (d : Dev) a, d.LosesLanes (f d a)) (l : List α) (d : Dev) :
    d.LosesLanes (l.foldl f d) :=
  List.foldlRecOn l f (motive := fun e => d.LosesLanes e) (refl d) fun e r a _ => r.trans (h e a)

end Dev.LosesLanes

theorem Dev.noteInput_loses (d : Dev) (obj l i : Nat) (v : Bool) : d.LosesLanes (d.noteInput obj l i v) := by
  have noted (x : Layer) : d.LosesLanes (d.setLayer obj l x) := .of_ports rfl rfl rfl
  unfold Dev.noteInput
  dsimp only
  split
  · exact .refl d
  · split
    · exact noted _
    · exact (noted _).trans (.raise ..)

theorem Dev.noteVector_loses (d : Dev) (obj l v : Nat) : d.LosesLanes (d.noteVector obj l v) := by
  unfold Dev.noteVector
  split
  · exact .refl d
  · exact .foldl (fun e i => e.noteInput_loses obj l i (bit v i)) _ d

theorem Dev.putGroup_loses (d : Dev) (g : Nat) (x : Spread) : d.LosesLanes (d.putGroup g x) :=
  (Dev.LosesLanes.setGroup ..).trans (Dev.noteVector_loses ..)

theorem Dev.noteSkew_loses (d : Dev) (g k : Nat) : d.LosesLanes (d.noteSkew g k) := by
  unfold Dev.noteSkew
  dsimp only
  split
  · exact .refl d
  · exact (Dev.putGroup_loses ..).trans (.raise ..)

theorem Dev.leaveUp_loses (d : Dev) (g : Nat) (mode : SgMode) (k reason : Nat) :
    d.LosesLanes (d.leaveUp g mode k reason) := by
  unfold Dev.leaveUp
  dsimp only
  split
  · exact (Dev.putGroup_loses ..).trans (.raise ..)
  · exact Dev.putGroup_loses ..

theorem Dev.unplace_loses (d : Dev) (g k mState reason : Nat) : d.LosesLanes (d.unplace g k mState reason) := by
  unfold Dev.unplace
  dsimp only
  split <;> exact .of_ports rfl rfl rfl

theorem Dev.settleMember_loses (d : Dev) (g k : Nat) (m : SgMember) : d.LosesLanes (d.settleMember g k m) := by
  unfold Dev.settleMember
  dsimp only
  split
  · exact Dev.unplace_loses ..
  · split
    · exact .setGroup ..
    · exact .refl d

theorem Dev.settleGroup_loses (d : Dev) (g : Nat) : d.LosesLanes (d.settleGroup g) := by
  unfold Dev.settleGroup
  split
  · exact .refl d
  next r _ =>
    have members : d.LosesLanes (r.members.zipIdx.foldl (fun d p => d.settleMember g p.2 p.1) d) :=
      .foldl (fun e (p : SgMember × Nat) => e.settleMember_loses g p.2 p.1) _ d
    have placed := members.trans (Dev.noteSkew_loses _ g 0)
    dsimp only
    split
    · split
      · exact placed
      · exact placed.trans (Dev.leaveUp_loses ..)
    · split
      · exact placed.trans (Dev.putGroup_loses ..)
      · exact placed

theorem Dev.settlePort_loses (d : Dev) (p : Nat) : d.LosesLanes (d.settlePort p) := by
  unfold Dev.settlePort
  split
  · exact .refl d
  · have settled (e : Dev) (g : Nat) (touched : Bool) : e.LosesLanes (if touched then e.settleGroup g else e) := by
      cases touched
      · exact .refl e
      · exact e.settleGroup_loses g
    exact .foldl (fun e (g : SgRec) => settled e g.sg _) _ d

theorem Dev.loseAlignment_loses (d : Dev) (p stage : Nat) : d.LosesLanes (d.loseAlignment p stage) := by
  unfold Dev.loseAlignment
  dsimp only
  split
  · exact .refl d
  · refine Dev.LosesLanes.trans ?_ (Dev.settlePort_loses ..)
    refine Dev.LosesLanes.trans ?_ (.raise ..)
    refine Dev.LosesLanes.trans ?_ (.tick ..)
    exact .setPort d p _ fun _ b => b

theorem Dev.dropGroup_loses (d : Dev) (p stage : Nat) : d.LosesLanes (d.dropGroup p stage) := by
  refine Dev.LosesLanes.trans ?_ (Dev.loseAlignment_loses ..)
  exact .setPort d p _ fun _ b => b

/-- A lane that goes DOWN takes no other lane UP, and is itself down (R95). -/
theorem Dev.dropLane_loses (d : Dev) (p k : Nat) :
    d.LosesLanes (d.dropLane p k) ∧ bit ((d.dropLane p k).port p).lanesUp k = false := by
  unfold Dev.dropLane
  constructor
  · refine (Dev.LosesLanes.setPort d p _ fun j b => ?_).trans (Dev.dropGroup_loses ..)
    simp [bit_setBit_false, b]
  · refine (Dev.dropGroup_loses _ p 0).down p k ?_
    simp [bit_setBit_false]

theorem Dev.dropLanes_step_loses (d : Dev) (p k : Nat) :
    d.LosesLanes (if bit (d.port p).lanesUp k then d.dropLane p k else d) ∧
      bit ((if bit (d.port p).lanesUp k then d.dropLane p k else d).port p).lanesUp k = false := by
  split
  · exact d.dropLane_loses p k
  next h => exact ⟨.refl d, by simpa using h⟩

theorem Dev.dropLanes_loses (d : Dev) (p : Nat) (l : List Nat) : d.LosesLanes (d.dropLanes p l) :=
  .foldl (fun e k => (e.dropLanes_step_loses p k).1) l d

/-- Every lane that a port drops is down. -/
theorem Dev.dropLanes_down (p k : Nat) (l : List Nat) (d : Dev) (h : k ∈ l) :
    bit ((d.dropLanes p l).port p).lanesUp k = false := by
  induction l generalizing d with
  | nil => cases h
  | cons a t ih =>
    rcases List.mem_cons.mp h with rfl | m
    · exact (Dev.dropLanes_loses _ p t).down p k (d.dropLanes_step_loses p k).2
    · exact ih _ m

theorem Dev.dropClientLane_loses (d : Dev) (lane : Nat) : d.LosesLanes (d.dropClientLane lane) := by
  unfold Dev.dropClientLane
  dsimp only
  split <;> exact .of_ports rfl rfl rfl

theorem Dev.dropSlice_loses (d : Dev) (s : Nat) : d.LosesLanes (d.dropSlice s) :=
  ((d.dropLanes_loses ..).trans (Dev.dropLanes_loses ..)).trans
    (.foldl (fun e k => e.dropClientLane_loses (16 * s + k)) _ _)

/-- No lane of the two line ports of a slice that stopped is UP (R28). -/
theorem Dev.dropSlice_down (d : Dev) (s p k : Nat) (hk : k < 8) (hp : p / 2 = s) :
    bit ((d.dropSlice s).port p).lanesUp k = false := by
  have m : k ∈ List.range 8 := List.mem_range.mpr hk
  refine (Dev.LosesLanes.foldl (fun e j => e.dropClientLane_loses (16 * s + j)) _ _).down p k ?_
  rcases show p = 2 * s ∨ p = 2 * s + 1 by omega with rfl | rfl
  · exact (Dev.dropLanes_loses ..).down _ k (Dev.dropLanes_down _ k _ d m)
  · exact Dev.dropLanes_down _ k _ _ m

/-! ### The faults, one by one -/

/-- A takeover condition holds on a standby only (R275). -/
theorem Dev.standby_of_takeoverCase (d : Dev) (x : Nat × Nat × Nat) (h : d.takeoverCase = some x) :
    d.pair.role = .standby := by
  by_cases standby : d.pair.role = .standby
  · exact standby
  · have none : d.takeoverCase = none := by simp [Dev.takeoverCase, standby]
    rw [none] at h
    cases h

/-- The ports taken, before the outputs follow: the role is taken with them where the whole device has failed. -/
def Dev.takePorts (d : Dev) (n lp cp : Nat) : Dev :=
  let e := (d.own (orBits 8 d.pair.ownLp lp) (orBits 64 d.pair.ownCp cp)).tick 0x5324 1
  if n ≤ 2 then e.setRole .active else e

/-- The takeover of some ports, reported (R275). -/
def Dev.takeOver (d : Dev) (n lp cp : Nat) : Dev :=
  let e := (d.takePorts n lp cp).driveOwn
  e.raise 0x0902 0 (leBytes 1 n ++ leBytes 1 e.pair.ownLp ++ leBytes 8 e.pair.ownCp)

theorem Dev.takePorts_pair (d : Dev) (n lp cp : Nat) (h : d.pair.role = .standby) :
    ∃ fc, (d.takePorts n lp cp).pair =
      { d.pair with role := if n ≤ 2 then .active else .standby, ownLp := orBits 8 d.pair.ownLp lp
                    ownCp := orBits 64 d.pair.ownCp cp, takeoverFc := fc } := by
  obtain ⟨fc, e⟩ := d.own_pair (orBits 8 d.pair.ownLp lp) (orBits 64 d.pair.ownCp cp)
  refine ⟨fc, ?_⟩
  unfold Dev.takePorts
  dsimp only
  split
  · simp [Dev.setRole_pair, e]
  · simp [e, ← h]

theorem Dev.takePorts_reports (d : Dev) (n lp cp : Nat) : d.Reports (d.takePorts n lp cp) := by
  have owned := (d.own_reports (orBits 8 d.pair.ownLp lp) (orBits 64 d.pair.ownCp cp)).trans (.tick _ 0x5324 1)
  unfold Dev.takePorts
  dsimp only
  split
  · exact owned.trans (Dev.setRole_reports ..)
  · exact owned

/-- Taking the role is reported too. -/
theorem Dev.takePorts_event (d : Dev) (n lp cp : Nat) (h : d.pair.role = .standby) (small : n ≤ 2) :
    d.eventOf 0x0901 0 (leBytes 1 3 ++ leBytes 1 4) ∈ (d.takePorts n lp cp).log.arising := by
  obtain ⟨fc, e⟩ := d.own_pair (orBits 8 d.pair.ownLp lp) (orBits 64 d.pair.ownCp cp)
  have owned := (d.own_reports (orBits 8 d.pair.ownLp lp) (orBits 64 d.pair.ownCp cp)).trans (.tick _ 0x5324 1)
  have event := Dev.setRole_event ((d.own (orBits 8 d.pair.ownLp lp) (orBits 64 d.pair.ownCp cp)).tick 0x5324 1) .active
    (by simp [e, h])
  rw [owned.eventOf_eq] at event
  simpa [Dev.takePorts, small, e, h, Role.code] using event

theorem Dev.takeOver_pair (d : Dev) (n lp cp : Nat) (h : d.pair.role = .standby) :
    (d.takeOver n lp cp).pair.ownLp = orBits 8 d.pair.ownLp lp ∧
      (d.takeOver n lp cp).pair.ownCp = orBits 64 d.pair.ownCp cp ∧
      (d.takeOver n lp cp).pair.role = if n ≤ 2 then .active else .standby := by
  obtain ⟨fc, e⟩ := d.takePorts_pair n lp cp h
  obtain ⟨sel, bus, f, g⟩ := (d.takePorts n lp cp).driveOwn_pair
  simp [Dev.takeOver, g, e]

theorem Dev.takeOver_reports (d : Dev) (n lp cp : Nat) : (d.takePorts n lp cp).Reports (d.takeOver n lp cp) :=
  (Dev.driveOwn_reports _).trans (.raise ..)

/-- The takeover names the condition, and the ports owned from now on (R275). -/
theorem Dev.takeOver_event (d : Dev) (n lp cp : Nat) (h : d.pair.role = .standby) :
    d.eventOf 0x0902 0 (leBytes 1 n ++ leBytes 1 (orBits 8 d.pair.ownLp lp) ++ leBytes 8 (orBits 64 d.pair.ownCp cp)) ∈
      (d.takeOver n lp cp).log.arising := by
  obtain ⟨lpOwned, cpOwned, -⟩ := d.takeOver_pair n lp cp h
  rw [← lpOwned, ← cpOwned]
  exact ((d.takePorts_reports n lp cp).trans (Dev.driveOwn_reports _)).event (.refl _)

theorem exec_failureTakeover (s : State) (n lp cp : Nat) (h : s.live = true)
    (c : s.dev.takeoverCase = some (n, lp, cp)) :
    exec .failureTakeover s = .next (s.settle (s.dev.takeOver n lp cp)) := by
  show execFailureTakeover s = _
  rw [execFailureTakeover, State.runIf_eq s _ _ (State.powered_of_live h) (by simp [c])]
  simp only [c]
  rfl

/-- A standby takes the ports that the condition names, and the role where the whole device has failed. -/
theorem standby_takes_named_ports (s : State) (n lp cp : Nat) (h : s.live = true)
    (c : s.dev.takeoverCase = some (n, lp, cp)) :
    ∃ t, exec .failureTakeover s = .next t ∧ t.dev.pair.ownLp = orBits 8 s.dev.pair.ownLp lp ∧
      t.dev.pair.ownCp = orBits 64 s.dev.pair.ownCp cp ∧ t.dev.pair.role = (if n ≤ 2 then .active else .standby) ∧
      s.dev.eventOf 0x0902 0 (leBytes 1 n ++ leBytes 1 (orBits 8 s.dev.pair.ownLp lp) ++
        leBytes 8 (orBits 64 s.dev.pair.ownCp cp)) ∈ t.dev.log.arising ∧
      (n ≤ 2 → s.dev.eventOf 0x0901 0 (leBytes 1 3 ++ leBytes 1 4) ∈ t.dev.log.arising) ∧
      t.mem = s.mem ∧ t.bar1 = s.bar1 := by
  have standby := s.dev.standby_of_takeoverCase _ c
  obtain ⟨lpOwned, cpOwned, role⟩ := s.dev.takeOver_pair n lp cp standby
  have told := s.dev.takeOver_reports n lp cp
  refine ⟨_, exec_failureTakeover s n lp cp h c, lpOwned, cpOwned, role, ?_, fun small => ?_, rfl, ?_⟩
  · exact (s.mem_settle_arising ..).mpr (s.dev.takeOver_event n lp cp standby)
  · exact (s.mem_settle_arising ..).mpr (told.kept _ (s.dev.takePorts_event n lp cp standby small))
  · exact State.settle_bar1_of_live h ((s.dev.takePorts_reports n lp cp).trans told).out

/-- The watchdog of a hub with a fatal fault expires (R258). -/
def Dev.expireWatchdog (d : Dev) : Dev :=
  (d.own 0 0).dropOutputs.setPair { (d.own 0 0).dropOutputs.pair with wdExpired := true }

theorem exec_keepaliveWatchdogExpiry (s : State) (h : s.live = true) (fault : s.dev.pair.hubFault = true)
    (fresh : s.dev.pair.wdExpired = false) : exec .keepaliveWatchdogExpiry s = .next (s.settle s.dev.expireWatchdog) := by
  show execKeepaliveWatchdogExpiry s = _
  rw [execKeepaliveWatchdogExpiry, State.runIf_eq s _ _ (State.powered_of_live h) (by simp [fault, fresh])]
  rfl

theorem watchdog_drops_outputs (s : State) (h : s.live = true) (fault : s.dev.pair.hubFault = true)
    (fresh : s.dev.pair.wdExpired = false) :
    ∃ t, exec .keepaliveWatchdogExpiry s = .next t ∧ t.dev.pair.wdExpired = true ∧ t.dev.pair.selLp = 0 ∧
      t.dev.pair.aliveOut = false ∧ t.dev.pair.selbusHeld = true ∧ t.dev.pair.ownLp = 0 ∧ t.dev.pair.ownCp = 0 ∧
      s.raisesNone t ∧ t.mem = s.mem ∧ t.bar1 = s.bar1 := by
  obtain ⟨fc, owned⟩ := s.dev.own_pair 0 0
  refine ⟨_, exec_keepaliveWatchdogExpiry s h fault fresh, rfl, rfl, rfl, rfl, ?_, ?_, ?_, rfl, ?_⟩
  · simp [Dev.expireWatchdog, Dev.dropOutputs, owned]
  · simp [Dev.expireWatchdog, Dev.dropOutputs, owned]
  · exact State.settle_arising_none s _ (by simp [Dev.expireWatchdog, Dev.dropOutputs])
  · exact State.settle_bar1_of_live h (s.dev.own_reports 0 0).out

/-- PAIR_ALIVE_IN is low (R258). -/
def Dev.seeAliveLow (d : Dev) : Dev := d.setPair { d.pair with aliveIn := false }

theorem exec_pairAliveInLow (s : State) (h : s.live = true) : exec .pairAliveInLow s = .next (s.settle
    (if s.dev.pair.link = 2 && s.dev.pair.rxHead.isSome && s.dev.silentBeats < 2 then s.dev.seeAliveLow.aliveFault
      else s.dev.seeAliveLow)) := by
  show execPairAliveInLow s = _
  rw [execPairAliveInLow, State.run_eq s _ (State.powered_of_live h)]
  rfl

theorem Dev.aliveFault_pair (d : Dev) : d.aliveFault.pair = { d.pair with aliveFault := true } := by
  unfold Dev.aliveFault
  split
  next f => rw [← f]
  next => rfl

/-- PAIR_ALIVE_IN going low moves neither the role nor any port; while frames come it is a fault (R258, R275). -/
theorem alive_low_is_reported_only (s : State) (h : s.live = true) :
    ∃ t, exec .pairAliveInLow s = .next t ∧ t.dev.pair.aliveIn = false ∧ t.dev.pair.role = s.dev.pair.role ∧
      t.dev.pair.ownLp = s.dev.pair.ownLp ∧ t.dev.pair.ownCp = s.dev.pair.ownCp ∧
      (s.dev.pair.link = 2 → s.dev.pair.rxHead.isSome = true → s.dev.pair.noFrame ≤ 2 → t.dev.pair.aliveFault = true ∧
        (s.dev.pair.aliveFault = false → s.raisesOne t 0x090B 0 [])) := by
  by_cases frames : s.dev.pair.link = 2 ∧ s.dev.pair.rxHead.isSome = true ∧ s.dev.silentBeats < 2
  · obtain ⟨up, head, short⟩ := frames
    have run := exec_pairAliveInLow s h
    rw [if_pos (by simp [up, head, short])] at run
    refine ⟨_, run, ?_⟩
    simp only [State.settle_pair, Dev.aliveFault_pair]
    refine ⟨rfl, rfl, rfl, rfl, fun _ _ _ => ⟨trivial, fun fresh => ?_⟩⟩
    refine State.settle_arising_one s _ _ ?_
    rw [Dev.aliveFault, if_neg (by simp [Dev.seeAliveLow, fresh])]
    rfl
  · have run := exec_pairAliveInLow s h
    rw [if_neg (by simpa [and_assoc] using frames)] at run
    refine ⟨_, run, rfl, rfl, rfl, rfl, fun up head few => absurd ⟨up, head, ?_⟩ frames⟩
    exact Nat.lt_of_le_of_lt (Nat.sub_le_sub_right few 1) (by decide)

theorem alive_high_ends_fault (s : State) (h : s.live = true) : exec .pairAliveInHigh s =
    .next { s with dev := { s.dev with pair := { s.dev.pair with aliveIn := true, aliveFault := false } } } := by
  show execPairAliveInHigh s = _
  rw [execPairAliveInHigh, State.run_eq s _ (State.powered_of_live h)]
  exact congrArg _ (State.settle_self { s with dev := s.dev.setPair _ } (State.out_of_live h))

/-- The link is up, and no frame has come over it yet (R263). -/
def Dev.seeLinkUp (d : Dev) : Dev :=
  (d.setPair { d.pair with link := 2, lanes := 0xF, noFrame := 0, goodFrames := 0, rxHead := none }).raise 0x0905 0 []

theorem exec_galuloLinkUp (s : State) (h : s.live = true) (down : s.dev.pair.link ≠ 2)
    (on : s.dev.domOn domGalulo = true) (aligned : 64 ≤ s.dev.pair.linkRun) : exec .galuloLinkUp s = .next (s.settle
      (if s.dev.pair.role == .standby then s.dev.seeLinkUp.startJoin false else s.dev.seeLinkUp)) := by
  show execGaluloLinkUp s = _
  rw [execGaluloLinkUp, State.runIf_eq s _ _ (State.powered_of_live h) (by simp [down, on, aligned])]
  rfl

/-- The link comes up and is reported; a standby joins again (R263, R277). -/
theorem link_comes_up (s : State) (h : s.live = true) (down : s.dev.pair.link ≠ 2)
    (on : s.dev.domOn domGalulo = true) (aligned : 64 ≤ s.dev.pair.linkRun) :
    ∃ t, exec .galuloLinkUp s = .next t ∧ t.dev.pair.link = 2 ∧ t.dev.pair.lanes = 0xF ∧
      s.dev.eventOf 0x0905 0 [] ∈ t.dev.log.arising ∧
      t.dev.pair.role = (if s.dev.pair.role = .standby then .joining else s.dev.pair.role) ∧
      t.mem = s.mem ∧ t.bar1 = s.bar1 := by
  have run := exec_galuloLinkUp s h down on aligned
  have up : s.dev.Reports s.dev.seeLinkUp := (Dev.Reports.setPair ..).trans (.raise ..)
  by_cases standby : s.dev.pair.role = .standby
  · have joins := s.dev.seeLinkUp.startJoin_reports false
    obtain ⟨role, link, lanes⟩ := s.dev.seeLinkUp.startJoin_pair false
    rw [if_pos (by simp [standby])] at run
    refine ⟨_, run, link, lanes, ?_, by simp [role, standby], rfl, State.settle_bar1_of_live h (up.trans joins).out⟩
    exact (s.mem_settle_arising ..).mpr ((Dev.Reports.setPair ..).event joins)
  · rw [if_neg (by simpa using standby)] at run
    refine ⟨_, run, rfl, rfl, ?_, by rw [if_neg standby]; rfl, rfl, State.settle_bar1_of_live h up.out⟩
    exact (s.mem_settle_arising ..).mpr ((Dev.Reports.setPair ..).event (.refl _))

theorem exec_galuloLinkDown (s : State) (lanes : Nat) (h : s.live = true) (up : s.dev.pair.link = 2)
    (seen : lanes = s.dev.pair.laneOk) (lost : lanes ≠ 0xF) :
    exec (.galuloLinkDown lanes) s = .next (s.settle (s.dev.linkDown lanes)) := by
  show execGaluloLinkDown lanes s = _
  rw [execGaluloLinkDown, State.runIf_eq s _ _ (State.powered_of_live h) (by simp [up, ← seen, lost])]

theorem link_goes_down (s : State) (lanes : Nat) (h : s.live = true) (up : s.dev.pair.link = 2)
    (seen : lanes = s.dev.pair.laneOk) (lost : lanes ≠ 0xF) :
    ∃ t, exec (.galuloLinkDown lanes) s = .next t ∧ t.dev.pair.link = (if s.dev.domOn domGalulo then 1 else 0) ∧
      t.dev.pair.lanes = lanes ∧ t.dev.pair.role = s.dev.pair.role ∧ t.dev.pair.ownLp = s.dev.pair.ownLp ∧
      t.dev.pair.ownCp = s.dev.pair.ownCp ∧ s.dev.eventOf 0x0904 0 (leBytes 1 lanes) ∈ t.dev.log.arising ∧
      (s.dev.anchor.inUse = 2 → t.dev.anchor.mode = .holdover) ∧
      (s.dev.anchor.inUse ≠ 2 → t.dev.anchor = s.dev.anchor) ∧ t.mem = s.mem ∧ t.bar1 = s.bar1 := by
  have pair := (s.dev.linkDown_keeps lanes).1
  refine ⟨_, exec_galuloLinkDown s lanes h up seen lost, ?_⟩
  rw [State.settle_pair, pair]
  refine ⟨rfl, rfl, rfl, rfl, rfl, ?_, ?_, ?_, rfl, ?_⟩
  · exact (s.mem_settle_arising ..).mpr (s.dev.linkDown_event lanes)
  · intro twin; rw [s.dev.linkDown_of_eq lanes twin]; rfl
  · intro other; rw [s.dev.linkDown_of_ne lanes other]; rfl
  · exact State.settle_bar1_of_live h (s.dev.linkDown_reports lanes).out

theorem exec_galuloFrameTimeout (s : State) (h : s.live = true) (up : s.dev.pair.link = 2)
    (silent : 9 ≤ s.dev.pair.noFrame) (alive : s.dev.pair.aliveIn = true) :
    exec .galuloFrameTimeout s = .next (s.settle (s.dev.linkDown s.dev.pair.lanes)) := by
  have due : 8 ≤ s.dev.silentBeats := Nat.le_sub_of_add_le silent
  show execGaluloFrameTimeout s = _
  rw [execGaluloFrameTimeout, State.runIf_eq s _ _ (State.powered_of_live h) (by simp [up, due, alive])]

theorem silent_link_goes_down (s : State) (h : s.live = true) (up : s.dev.pair.link = 2) (silent : 9 ≤ s.dev.pair.noFrame)
    (alive : s.dev.pair.aliveIn = true) :
    ∃ t, exec .galuloFrameTimeout s = .next t ∧ t.dev.pair.link = (if s.dev.domOn domGalulo then 1 else 0) ∧
      t.dev.pair.role = s.dev.pair.role ∧ t.dev.pair.ownLp = s.dev.pair.ownLp ∧
      s.dev.eventOf 0x0904 0 (leBytes 1 s.dev.pair.lanes) ∈ t.dev.log.arising ∧ t.mem = s.mem ∧ t.bar1 = s.bar1 := by
  have pair := (s.dev.linkDown_keeps s.dev.pair.lanes).1
  refine ⟨_, exec_galuloFrameTimeout s h up silent alive, ?_⟩
  rw [State.settle_pair, pair]
  refine ⟨rfl, rfl, rfl, ?_, rfl, ?_⟩
  · exact (s.mem_settle_arising ..).mpr (s.dev.linkDown_event _)
  · exact State.settle_bar1_of_live h (s.dev.linkDown_reports _).out

/-- A slice is marked failed, and its lanes stop (R28). -/
def Dev.failSlice (d : Dev) (slice : Nat) : Dev :=
  (d.setPair { d.pair with sliceHealth := setBit d.pair.sliceHealth slice false }).dropSlice slice

theorem Dev.failSlice_loses (d : Dev) (slice : Nat) :
    (d.setPair { d.pair with sliceHealth := setBit d.pair.sliceHealth slice false }).LosesLanes (d.failSlice slice) :=
  Dev.dropSlice_loses ..

theorem exec_sliceFailureDeclared (s : State) (slice : Nat) (report : Bool) (h : s.live = true) (known : slice < 4)
    (sound : bit s.dev.pair.sliceHealth slice = true) (cause : report = true ∨ bit s.dev.cald.dieUp slice = false) :
    exec (.sliceFailureDeclared slice report) s = .next (s.settle (s.dev.failSlice slice)) := by
  show execSliceFailureDeclared slice report s = _
  rw [execSliceFailureDeclared,
    State.runIf_eq s _ _ (State.powered_of_live h) (by simpa [known, sound] using cause)]
  rfl

/-- A slice that fails is marked, and its line lanes stop; roles and ports stay (R28, R275). -/
theorem failed_slice_is_marked (s : State) (slice : Nat) (report : Bool) (h : s.live = true) (known : slice < 4)
    (sound : bit s.dev.pair.sliceHealth slice = true) (cause : report = true ∨ bit s.dev.cald.dieUp slice = false) :
    ∃ t, exec (.sliceFailureDeclared slice report) s = .next t ∧ bit t.dev.pair.sliceHealth slice = false ∧
      (∀ k, k < 4 → k ≠ slice → bit t.dev.pair.sliceHealth k = bit s.dev.pair.sliceHealth k) ∧
      (∀ p k, p < 8 → k < 8 → p / 2 = slice → bit (t.dev.port p).lanesUp k = false) ∧
      t.dev.pair.role = s.dev.pair.role ∧ t.dev.pair.ownLp = s.dev.pair.ownLp ∧ t.mem = s.mem ∧ t.bar1 = s.bar1 := by
  have lost := s.dev.failSlice_loses slice
  refine ⟨_, exec_sliceFailureDeclared s slice report h known sound cause, ?_, ?_, ?_, ?_, ?_, rfl, ?_⟩
  · simp [lost.pair, bit_setBit_false]
  · intro k _ ne; simp [lost.pair, bit_setBit_false, ne]
  · intro p k _ hk hp; exact Dev.dropSlice_down _ slice p k hk hp
  · simp [lost.pair]
  · simp [lost.pair]
  · exact State.settle_bar1_of_live h lost.out

theorem exec_xstbySample (s : State) (a b : Bool) (h : s.live = true) :
    exec (.xstbySample a b) s = .next (s.settle (s.dev.xstbySample a b)) := by
  show execXstbySample a b s = _
  rw [execXstbySample, State.run_eq s _ (State.powered_of_live h)]

theorem agreeing_rails_set_input (s : State) (a b : Bool) (h : s.live = true) (agree : a ≠ b) :
    ∃ t, exec (.xstbySample a b) s = .next t ∧ t.dev.pair.xstbyRun = 0 ∧ t.dev.pair.xstbyFault = false ∧
      t.dev.pair.xstby = a ∧
      t.dev.pair.xstbyShort = (if s.dev.pair.xstbyRun ≠ 0 ∧ s.dev.pair.xstbyFault = false
        then min 0xFFFF (s.dev.pair.xstbyShort + 1) else s.dev.pair.xstbyShort) ∧
      (s.dev.pair.xstbyFault = true → s.dev.eventOf 0x0909 0 (leBytes 1 0) ∈ t.dev.log.arising) ∧
      (s.dev.pair.xstby ≠ a → s.dev.eventOf 0x090A 0 [] ∈ t.dev.log.arising) ∧ t.mem = s.mem ∧ t.bar1 = s.bar1 := by
  obtain ⟨x, f, pair⟩ := s.dev.countShort.endDiscrepancy.setXstby_pair a
  have counted := s.dev.countShort_reports
  have ended := s.dev.countShort.endDiscrepancy_reports
  have set := s.dev.countShort.endDiscrepancy.setXstby_reports a
  rw [Dev.endDiscrepancy_pair, Dev.countShort_pair] at pair
  have run := exec_xstbySample s a b h
  rw [Dev.xstbySample_of_ne _ a b agree] at run
  refine ⟨_, run, ?_⟩
  rw [State.settle_pair, pair]
  refine ⟨rfl, rfl, rfl, rfl, fun fault => ?_, fun change => ?_, rfl, ?_⟩
  · refine (s.mem_settle_arising ..).mpr (set.kept _ ?_)
    rw [← counted.eventOf_eq]
    exact s.dev.countShort.endDiscrepancy_event (by simpa [Dev.countShort_pair] using fault)
  · refine (s.mem_settle_arising ..).mpr ?_
    rw [← (counted.trans ended).eventOf_eq]
    exact Dev.setXstby_event _ a (by simpa [Dev.endDiscrepancy_pair, Dev.countShort_pair] using change)
  · exact State.settle_bar1_of_live h ((counted.trans ended).trans set).out

/-- The pair after a sample in which the rails disagree: the first of a run fixes its limit (R279, R286). -/
def Pair.countDisagreement (p : Pair) : Pair :=
  { p with xstbyRun := p.xstbyRun + 1, xstbyLimit := if p.xstbyRun = 0 then p.xstbyN else p.xstbyLimit }

theorem disagreeing_rails_are_counted (s : State) (a : Bool) (h : s.live = true) :
    ∃ t, exec (.xstbySample a a) s = .next t ∧ t.dev.pair.xstbyRun = s.dev.pair.xstbyRun + 1 ∧
      t.dev.pair.xstby = s.dev.pair.xstby ∧ s.raisesNone t ∧
      (s.dev.pair.xstbyRun = 0 → t.dev.pair.xstbyLimit = s.dev.pair.xstbyN) ∧
      t = { s with dev := { s.dev with pair := t.dev.pair } } := by
  have counted : s.dev.xstbySample a a = s.dev.setPair s.dev.pair.countDisagreement := if_pos rfl
  have rest : s.settle (s.dev.setPair s.dev.pair.countDisagreement) =
      { s with dev := s.dev.setPair s.dev.pair.countDisagreement } :=
    State.settle_self { s with dev := s.dev.setPair s.dev.pair.countDisagreement } (State.out_of_live h)
  have run := exec_xstbySample s a a h
  rw [counted, rest] at run
  exact ⟨_, run, rfl, rfl, rfl, fun first => if_pos first, rfl⟩

/-- The XSTBY_N-th disagreeing sample in a row is a fault (R279). -/
def Dev.discrepancy (d : Dev) : Dev := (d.setPair { d.pair with xstbyFault := true }).raise 0x0909 0 (leBytes 1 1)

theorem exec_xstbyDiscrepancy (s : State) (h : s.live = true) (fresh : s.dev.pair.xstbyFault = false)
    (differ : s.dev.pair.xstbyRun ≠ 0) (long : s.dev.pair.xstbyLimit ≤ s.dev.pair.xstbyRun) :
    exec .xstbyDiscrepancy s = .next (s.settle (s.dev.discrepancy.setXstby false)) := by
  show execXstbyDiscrepancy s = _
  rw [execXstbyDiscrepancy, State.runIf_eq s _ _ (State.powered_of_live h) (by simp [fresh, differ, long])]
  rfl

theorem long_disagreement_is_a_fault (s : State) (h : s.live = true) (fresh : s.dev.pair.xstbyFault = false)
    (differ : s.dev.pair.xstbyRun ≠ 0) (long : s.dev.pair.xstbyLimit ≤ s.dev.pair.xstbyRun) :
    ∃ t, exec .xstbyDiscrepancy s = .next t ∧ t.dev.pair.xstbyFault = true ∧ t.dev.pair.xstby = false ∧
      s.dev.eventOf 0x0909 0 (leBytes 1 1) ∈ t.dev.log.arising ∧ t.dev.pair.role = s.dev.pair.role ∧
      t.dev.pair.ownLp = s.dev.pair.ownLp ∧ t.mem = s.mem ∧ t.bar1 = s.bar1 := by
  obtain ⟨x, f, pair⟩ := s.dev.discrepancy.setXstby_pair false
  have set := s.dev.discrepancy.setXstby_reports false
  refine ⟨_, exec_xstbyDiscrepancy s h fresh differ long, ?_⟩
  rw [State.settle_pair, pair]
  refine ⟨rfl, rfl, ?_, rfl, rfl, rfl, ?_⟩
  · exact (s.mem_settle_arising ..).mpr ((Dev.Reports.setPair ..).event set)
  · exact State.settle_bar1_of_live h (((Dev.Reports.setPair ..).trans (.raise ..)).trans set).out

/-- Settles O42: each fault and link change by the lemma about its own command. -/
theorem faultsMovePortsOrAreReported : Obligations.faults_move_ports_or_are_reported :=
  ⟨standby_takes_named_ports, watchdog_drops_outputs, alive_low_is_reported_only, alive_high_ends_fault, link_comes_up,
    link_goes_down, silent_link_goes_down, failed_slice_is_marked, agreeing_rails_set_input,
    disagreeing_rails_are_counted, long_disagreement_is_a_fault⟩

end Sys2Proof.Machine

namespace Sys2Proof.Machine

open Sys2Proof

/-! ### What ending a command leaves: the schedule, the commands that wait, and the events that arose -/

theorem Dev.answer_waiting (d : Dev) (c : Cmd) (st : Nat) (pl : List Byte) :
    (d.answer c st pl).host.waiting = d.host.waiting := by
  unfold Dev.answer Dev.respond
  dsimp only
  repeat' split
  all_goals simp [Dev.vector, Dev.setMb]

/-- A response only adds events. -/
theorem Dev.respond_keeps_event {d : Dev} {x : Event} (h : x ∈ d.log.arising) (c : Cmd) (st : Nat) (pl : List Byte)
    (doneFc : Nat) (target : Option Nat) (mirrored : Bool) :
    x ∈ (d.respond c st pl doneFc target mirrored).log.arising := by
  unfold Dev.respond
  dsimp only
  repeat' split
  all_goals simp [h]

theorem Dev.finish_keeps_event {d : Dev} {x : Event} (h : x ∈ d.log.arising) (w : Waiting) (st : Nat) (pl : List Byte) :
    x ∈ (d.finish w st pl).log.arising := by
  unfold Dev.finish
  dsimp only
  split
  · exact h
  · exact Dev.respond_keeps_event (d := d.unhold w.order) h ..

theorem Dev.finishOrder_keeps_event {d : Dev} {x : Event} (h : x ∈ d.log.arising) (order st : Nat) (pl : List Byte) :
    x ∈ (d.finishOrder order st pl).log.arising := by
  unfold Dev.finishOrder
  split
  · exact Dev.finish_keeps_event h ..
  · exact h

@[simp] theorem Dev.finishOrder_sched (d : Dev) (order st : Nat) (pl : List Byte) :
    (d.finishOrder order st pl).sched = d.sched := by
  unfold Dev.finishOrder
  split <;> simp

@[simp] theorem Dev.finishOrder_fc (d : Dev) (order st : Nat) (pl : List Byte) :
    (d.finishOrder order st pl).fc = d.fc := by
  unfold Dev.finishOrder
  split <;> simp

@[simp] theorem State.settle_sched (s : State) (d : Dev) : (s.settle d).dev.sched = d.sched := rfl

@[simp] theorem State.settle_fc (s : State) (d : Dev) : (s.settle d).dev.fc = d.fc := rfl

@[simp] theorem State.settle_waiting (s : State) (d : Dev) : (s.settle d).dev.host.waiting = d.host.waiting := rfl

/-- The answer stands in the ring also where the device has logged events first: Beat, mailboxes and rings count. -/
theorem State.answers_of_answer_after {s : State} {c : Cmd} {d : Dev} (h : s.handedOver = true) (fc : d.fc = s.dev.fc)
    (mbs : d.host.mbs = s.dev.host.mbs) (out : d.host.out = s.dev.host.out)
    (queue : d.host.queue = s.dev.host.queue.erase c) (st : Nat) (pl : List Byte) :
    s.answers (s.settle (d.answer c st pl)) c st pl := by
  have nothing : d.host.out = [] := out.trans (List.isEmpty_iff.mp h)
  have mb : d.mb c.mb = s.dev.mb c.mb := by simp only [Dev.mb, mbs]
  refine ⟨?_, ?_, ?_, rfl⟩
  · rw [State.settle_bar1, Dev.answer_out, nothing]
    simp [Memory.puts, Dev.rspSlot, Dev.slotOf, mb, fc]
  · exact (d.answer_rspProd c st pl).trans (by rw [mb])
  · exact (d.answer_queue c st pl).trans queue

/-! ### SCHED_LOAD (R74, R85) -/

/-- A load whose transfer can start: the shadow bank is empty and the loader runs. -/
theorem Dev.startLoad_of_ready (d : Dev) (c : Cmd) (ready : loadSource c = 0 → d.dmaReady = true) :
    d.startLoad c = { d.acceptJob c none false with sched := { d.sched.setShadow none with
      twinShadow := none
      load := some ⟨d.host.nextOrder, loadSource c, fallback 2 0 (c.field 1 1), loadLength c, loadAddress c,
        d.twinFollows, none, none⟩ } } := by
  have starts : ¬(loadSource c = 0 && !d.dmaReady) = true := by simpa using ready
  exact if_neg starts

theorem exec_schedLoad (s : State) (core : Nat) (c : Cmd) (offered : s.dev.offers core 0x0201 c = true)
    (bank : s.dev.bankBusy = false) (fw : s.dev.fwBusy = false) :
    exec (.schedLoad core) s = .next (s.settle ((s.dev.unqueue c).startLoad c)) := by
  have passes : checkSchedLoad (s.dev.unqueue c) c = none := by
    show refuseIf (s.dev.bankBusy || s.dev.fwBusy) stBusy = none
    rw [bank, fw]; rfl
  show execSchedLoad core s = _
  rw [execSchedLoad, State.run_eq s _ (s.dev.powered_of_offers core _ c offered),
    s.dev.serve_of_offers core _ c _ _ offered passes]

theorem load_empties_shadow_and_starts (s : State) (core : Nat) (c : Cmd) (h : s.handedOver = true)
    (offered : s.dev.offers core 0x0201 c = true) (bank : s.dev.bankBusy = false) (fw : s.dev.fwBusy = false)
    (ready : loadSource c = 0 → s.dev.dmaReady = true) :
    ∃ t, exec (.schedLoad core) s = .next t ∧ t.dev.sched.shadow = none ∧ t.dev.sched.active = s.dev.sched.active ∧
      t.dev.sched.load = some ⟨s.dev.host.nextOrder, loadSource c, if c.field 1 1 ≤ 2 then c.field 1 1 else 0,
        loadLength c, loadAddress c, s.dev.twinFollows, none, none⟩ ∧
      t.dev.host.queue = s.dev.host.queue.erase c ∧ t.bar1 = s.bar1 ∧ t.mem = s.mem := by
  have run := exec_schedLoad s core c offered bank fw
  rw [(s.dev.unqueue c).startLoad_of_ready c ready] at run
  exact ⟨_, run, rfl, rfl, rfl, rfl, State.settle_bar1_of_nil s _ (List.isEmpty_iff.mp h), rfl⟩

/-! ### SCHED_LOAD_COMPLETE (R71, R74, R85) -/

theorem exec_schedLoadComplete (s : State) (read : Option (List Byte)) (j : LoadJob) (bytes : List Byte)
    (h : s.live = true) (load : s.dev.sched.load = some j) (fresh : j.copy = none)
    (got : s.dev.loadBytes s.mem j.source j.length j.address read = some bytes) :
    exec (.schedLoadComplete read) s = .next (s.settle (s.dev.loadRead j bytes)) := by
  show execSchedLoadComplete read s = _
  rw [execSchedLoadComplete, State.run_eq s _ (State.powered_of_live h)]
  simp [load, Option.filter, fresh, got]

/-- The schedule once an image has passed its checks: the shadow bank holds it and its store is queued. -/
def Dev.filledSched (d : Dev) (j : LoadJob) (i : Image) (bytes : List Byte) (out : CheckOut) : Sched :=
  { d.sched.setShadow (some i) with
    load := if d.twinFollows then some { j with copy := some out.bytes } else none
    stores := if j.store = 0 then d.sched.stores else d.sched.stores ++ [(j.store, bytes)] }

/-- The device then, before the twin or the host hears of it: event 0x0201 has arisen. -/
def Dev.filled (d : Dev) (j : LoadJob) (i : Image) (bytes : List Byte) (out : CheckOut) : Dev :=
  { d with sched := d.filledSched j i bytes out }.raise 0x0201 0 (leBytes 4 i.gen ++ leBytes 4 i.imgCrc)

theorem Dev.fillShadow_eq (d : Dev) (j : LoadJob) (i : Image) (bytes : List Byte) (out : CheckOut) :
    d.fillShadow j i bytes out = if d.twinFollows then (d.filled j i bytes out).copyShadow
      else (d.filled j i bytes out).finishOrder j.order (if j.twin then stWriteFault else stOk) out.bytes := rfl

/-- An image that passes fills the shadow bank in the same Beat, with event 0x0201. -/
theorem Dev.fillShadow_fills (d : Dev) (j : LoadJob) (i : Image) (bytes : List Byte) (out : CheckOut) :
    (d.fillShadow j i bytes out).sched = d.filledSched j i bytes out ∧ (d.fillShadow j i bytes out).fc = d.fc ∧
      d.eventOf 0x0201 0 (leBytes 4 i.gen ++ leBytes 4 i.imgCrc) ∈ (d.fillShadow j i bytes out).log.arising := by
  have arose : d.eventOf 0x0201 0 (leBytes 4 i.gen ++ leBytes 4 i.imgCrc) ∈ (d.filled j i bytes out).log.arising :=
    List.mem_append_right _ (List.mem_singleton_self _)
  rw [Dev.fillShadow_eq]
  split
  · exact ⟨rfl, rfl, arose⟩
  · exact ⟨Dev.finishOrder_sched .., Dev.finishOrder_fc .., Dev.finishOrder_keeps_event arose ..⟩

theorem Dev.loadRead_of_image (d : Dev) (j : LoadJob) (bytes : List Byte) (i : Image)
    (passed : (readImage bytes).2 = some i) :
    d.loadRead j bytes = d.fillShadow j i bytes (readImage bytes).1 := by
  rw [Dev.loadRead, ← Prod.eta (readImage bytes), passed]

/-- An image that fails ends the load and changes nothing else of the schedule, with event 0x0202. -/
theorem Dev.loadRead_of_failed (d : Dev) (j : LoadJob) (bytes : List Byte) (failed : (readImage bytes).2 = none) :
    (d.loadRead j bytes).sched = { d.sched with load := none } ∧ (d.loadRead j bytes).fc = d.fc ∧
      d.eventOf 0x0202 0 (leBytes 1 (readImage bytes).1.rule ++ leBytes 1 (readImage bytes).1.sect ++
        leBytes 4 (readImage bytes).1.off) ∈ (d.loadRead j bytes).log.arising := by
  rw [Dev.loadRead, ← Prod.eta (readImage bytes), failed]
  exact ⟨Dev.finishOrder_sched .., Dev.finishOrder_fc ..,
    Dev.finishOrder_keeps_event (List.mem_append_right _ (List.mem_singleton_self _)) ..⟩

/-! ### SCHED_STORE_DONE (R85) -/

/-- The flash write in progress ends well: its slot holds the bytes, and the next store begins. -/
def Sched.stored (x : Sched) (n : Nat) (l : List Byte) (rest : List (Nat × List Byte)) : Sched :=
  { x.setSlot n (some l) with stores := rest, storeFailed := false }

theorem exec_schedStoreDone (s : State) (n : Nat) (l : List Byte) (rest : List (Nat × List Byte)) (h : s.live = true)
    (store : s.dev.sched.stores = (n, l) :: rest) : exec (.schedStoreDone true) s = .next (s.settle
      ({ s.dev with sched := s.dev.sched.stored n l rest }.raise 0x0207 0 (leBytes 1 n ++ leBytes 4 (fieldAt l 8 4)))) := by
  show execSchedStoreDone true s = _
  rw [execSchedStoreDone, State.run_eq s _ (State.powered_of_live h)]
  simp only [store]
  rfl

theorem finished_store_leaves_bytes_in_slot (s : State) (n : Nat) (l : List Byte) (rest : List (Nat × List Byte))
    (h : s.live = true) (slot : n = 1 ∨ n = 2) (store : s.dev.sched.stores = (n, l) :: rest) :
    ∃ t, exec (.schedStoreDone true) s = .next t ∧
      (if n = 1 then t.dev.sched.slotA = some l ∧ t.dev.sched.slotB = s.dev.sched.slotB
        else t.dev.sched.slotB = some l ∧ t.dev.sched.slotA = s.dev.sched.slotA) ∧
      t.dev.sched.stores = rest ∧ t.dev.sched.storeFailed = false ∧
      s.raisesOne t 0x0207 0 (leBytes 1 n ++ leBytes 4 (fieldAt l 8 4)) := by
  refine ⟨_, exec_schedStoreDone s n l rest h store, ?_, rfl, rfl, State.settle_arising_one s _ _ rfl⟩
  rcases slot with rfl | rfl
  · exact ⟨rfl, rfl⟩
  · exact ⟨rfl, rfl⟩

/-- Settles O16: a load's start and the end of a flash store each by the lemma about its command, the end of a load by
whether its image passed. -/
theorem scheduleLoadFillsOrEmptiesShadow : Obligations.schedule_load_fills_or_empties_shadow := by
  refine ⟨load_empties_shadow_and_starts, ?_, finished_store_leaves_bytes_in_slot⟩
  intro s read j bytes h load fresh empty got
  refine ⟨_, exec_schedLoadComplete s read j bytes h load fresh got, ?_⟩
  cases image : (readImage bytes).2 with
  | some i =>
    obtain ⟨sched, fc, event⟩ := s.dev.fillShadow_fills j i bytes (readImage bytes).1
    rw [s.dev.loadRead_of_image j bytes i image, State.settle_sched, State.settle_fc, sched, fc]
    exact ⟨by simp [Dev.filledSched], rfl, rfl, rfl, rfl, rfl, (s.mem_settle_arising ..).mpr event⟩
  | none =>
    obtain ⟨sched, fc, event⟩ := s.dev.loadRead_of_failed j bytes image
    rw [State.settle_sched, State.settle_fc, sched, fc]
    exact ⟨by simp, rfl, rfl, rfl, empty, rfl, (s.mem_settle_arising ..).mpr event⟩

/-! ### SCHED_VERIFY (R86) -/

/-- The queue has no part in the checks. -/
theorem Dev.unqueue_verify (d : Dev) (q c : Cmd) (bytes : List Byte) : (d.unqueue q).verify c bytes = d.verify c bytes := rfl

/-- Bytes that were read are checked, a failure is reported, and the command is answered. -/
theorem Dev.answerVerify_of_bytes (d : Dev) (mem : Memory) (c : Cmd) (read : Option (List Byte)) (bytes : List Byte)
    (ready : loadSource c = 0 → d.dmaReady = true)
    (got : d.loadBytes mem (loadSource c) (loadLength c) (loadAddress c) read = some bytes) :
    d.answerVerify mem c read = (if (d.verify c bytes).rule = 0 then d else d.rejected (d.verify c bytes)).answer c
      (ruleStatus (d.verify c bytes).rule) (d.verify c bytes).bytes := by
  have starts : ¬(loadSource c = 0 && !d.dmaReady) = true := by simpa using ready
  rw [Dev.answerVerify, if_neg starts, got]

theorem exec_schedVerify (s : State) (core : Nat) (c : Cmd) (read : Option (List Byte))
    (offered : s.dev.offers core 0x0202 c = true) :
    exec (.schedVerify core read) s = .next (s.settle ((s.dev.unqueue c).answerVerify s.mem c read)) := by
  show execSchedVerify core read s = _
  rw [execSchedVerify, State.run_eq s _ (s.dev.powered_of_offers core _ c offered),
    s.dev.serve_of_offers core _ c _ _ offered rfl]

/-- Settles O17: the report of a failed check is an event, which leaves the schedule and the mailboxes alone. -/
theorem scheduleVerifyChangesNoBank : Obligations.schedule_verify_changes_no_bank := by
  intro s core c read bytes h offered ready got
  have run := exec_schedVerify s core c read offered
  rw [(s.dev.unqueue c).answerVerify_of_bytes s.mem c read bytes ready got, Dev.unqueue_verify] at run
  refine ⟨_, run, ?_⟩
  by_cases passed : (s.dev.verify c bytes).rule = 0
  · rw [if_pos passed, State.settle_sched, Dev.answer_sched]
    exact ⟨rfl, s.answers_of_answer c _ _ h⟩
  · rw [if_neg passed, State.settle_sched, Dev.answer_sched]
    exact ⟨rfl, State.answers_of_answer_after (d := (s.dev.unqueue c).rejected (s.dev.verify c bytes)) h rfl
      (Dev.raise_mbs ..) (Dev.raise_out ..) (Dev.raise_queue ..) _ _⟩

/-! ### SCHED_DISCARD (R49, R89) -/

/-- A timed command whose target MF has no room is answered NO_RESOURCE and does not wait (R49). -/
theorem Dev.accept_of_no_room (d : Dev) (core : Nat) (c : Cmd) (own : d.wouldMirror c = false)
    (timed : c.appliesTimed = true) (full : d.timedRoom (resolveTarget d.refMfn c.applyAt).1 = false) :
    d.accept core c = d.answer c stNoResource [] := by
  unfold Dev.accept
  unfold Dev.wouldMirror at own
  unfold Cmd.appliesTimed at timed
  cases row : opRow c.opcode with
  | none => simp [row] at timed
  | some r =>
    obtain ⟨carried, allowed⟩ := by simpa [row] using timed
    have unmirrored : d.mirrors r = false := by simpa [row] using own
    simp [unmirrored, carried, allowed, full]

/-- The discard passes its own check, and finds its target MF full. -/
theorem exec_schedDiscard_of_no_room (s : State) (core : Nat) (c : Cmd) (offered : s.dev.offers core 0x0205 c = true)
    (bank : s.dev.bankBusy = false) (own : s.dev.wouldMirror c = false) (timed : c.appliesTimed = true)
    (full : s.dev.timedRoom (resolveTarget s.dev.refMfn c.applyAt).1 = false) :
    exec (.schedDiscard core) s = .next (s.settle ((s.dev.unqueue c).answer c stNoResource [])) := by
  have passes : checkSchedDiscard (s.dev.unqueue c) c = none := by
    show refuseIf s.dev.bankBusy stBusy = none
    rw [bank]; rfl
  show execSchedDiscard core s = _
  rw [execSchedDiscard, State.run_eq s _ (s.dev.powered_of_offers core _ c offered), Dev.serveChange,
    s.dev.serve_of_offers core _ c _ _ offered passes, (s.dev.unqueue c).accept_of_no_room core c own timed full]

/-- A SCHED_DISCARD of mailbox 0 for MF 12. -/
def discardAtMf12 (seq : Nat) : Cmd :=
  { mb := 0, opcode := 0x0205, cls := 2, timed := true, seq := seq, tag := 0, object := 0, applyAt := 12, payload := []
    slot := [] }

/-- A running device that is offered one such command while 32 others wait for the same MF, the most that may. -/
def fullMf12 : State :=
  { dev := { pwr := { mode := .running, fwState := 2, coresUp := 15 }
             host := { queue := [discardAtMf12 32], nextOrder := 32
                       waiting := (List.range 32).map fun k => (discardAtMf12 k).waits none (some 12) (256 * 12) k } } }

/-- Refutes O18: a timed SCHED_DISCARD that finds no bank in use, but 32 commands waiting for its target MF, ends NO_RESOURCE
(R49), where the second clause would have it wait. -/
theorem not_discardEmptiesTheShadowBank : ¬ Obligations.discard_empties_the_shadow_bank := by
  rintro ⟨-, waits, -⟩
  have offered : fullMf12.dev.offers 0 0x0205 (discardAtMf12 32) = true := by decide +kernel
  obtain ⟨t, run, -, -, -, -, w, held, same, -⟩ := waits fullMf12 0 (discardAtMf12 32) rfl offered rfl rfl rfl
  have refused := exec_schedDiscard_of_no_room fullMf12 0 (discardAtMf12 32) offered rfl (by decide +kernel)
    (by decide +kernel) (by decide +kernel)
  obtain rfl := Host.Outcome.next.inj (run.symm.trans refused)
  have still : w ∈ fullMf12.dev.host.waiting := by
    rwa [State.settle_waiting, Dev.answer_waiting] at held
  have others : ∀ v ∈ fullMf12.dev.host.waiting, v.cmd ≠ discardAtMf12 32 := by decide +kernel
  exact others w still same

end Sys2Proof.Machine

namespace Sys2Proof.Machine

open Sys2Proof

/-! ### Effects beside the line ports

`Dev.SparesLines d e`: from `d` to `e` every line port and every lane stands as it did, in the same Beat, with no event lost and no
response more. `Dev.PutsPort d p x e`: so it is but for port `p`, which stands at `x`. -/

structure Dev.SparesLines (d e : Dev) : Prop extends Dev.Reports d e where
  port : ∀ p, e.port p = d.port p
  lane : ∀ l, e.lane l = d.lane l

namespace Dev.SparesLines

theorem refl (d : Dev) : d.SparesLines d := ⟨.refl d, fun _ => rfl, fun _ => rfl⟩

theorem trans {d e f : Dev} (h : d.SparesLines e) (g : e.SparesLines f) : d.SparesLines f :=
  ⟨h.toReports.trans g.toReports, fun p => (g.port p).trans (h.port p), fun l => (g.lane l).trans (h.lane l)⟩

/-- An effect that reports what it reports, and leaves the two tables alone. -/
theorem of_reports {d e : Dev} (reports : d.Reports e) (ports : e.ports = d.ports) (lanes : e.lanes = d.lanes) :
    d.SparesLines e :=
  ⟨reports, fun _ => by rw [Dev.port, ports, Dev.port], fun _ => by rw [Dev.lane, lanes, Dev.lane]⟩

theorem raise (d : Dev) (code obj : Nat) (l : List Byte) : d.SparesLines (d.raise code obj l) :=
  of_reports (.raise ..) rfl rfl

theorem tick (d : Dev) (c k : Nat) : d.SparesLines (d.tick c k) := of_reports (.tick ..) (by simp) (by simp)

theorem setLayer (d : Dev) (obj l : Nat) (x : Layer) : d.SparesLines (d.setLayer obj l x) :=
  of_reports (.of_eq rfl rfl rfl) rfl rfl

theorem clearRuns (d : Dev) (obj : Nat) : d.SparesLines (d.clearRuns obj) :=
  of_reports (.of_eq rfl rfl rfl) rfl rfl

theorem setOdu (d : Dev) (obj : Nat) (o : OduState) : d.SparesLines (d.setOdu obj o) :=
  of_reports (.of_eq rfl rfl rfl) rfl rfl

theorem setGroup (d : Dev) (g : Nat) (x : Spread) : d.SparesLines (d.setGroup g x) :=
  of_reports (.of_eq rfl rfl rfl) rfl rfl

theorem setStream (d : Dev) (owner index : Nat) (b : DeskewBuf) : d.SparesLines (d.setStream owner index b) :=
  of_reports (.of_eq rfl rfl rfl) rfl rfl

theorem setMember (d : Dev) (g k : Nat) (x : Member) : d.SparesLines (d.setMember g k x) := setGroup ..

theorem farRelease (d : Dev) (owner index : Nat) : d.SparesLines (d.farRelease owner index) :=
  of_reports (.of_eq rfl rfl rfl) rfl rfl

/-- An effect that comes about under a condition only. -/
theorem ite {d e : Dev} {c : Prop} [Decidable c] (h : d.SparesLines e) : d.SparesLines (if c then e else d) := by
  split
  · exact h
  · exact .refl d

theorem foldl {α : Type} {f : Dev → α → Dev} (h : ∀ (d : Dev) a, d.SparesLines (f d a)) (l : List α) (d : Dev) :
    d.SparesLines (l.foldl f d) :=
  List.foldlRecOn l f (motive := fun e => d.SparesLines e) (refl d) fun e r a _ => r.trans (h e a)

/-- A port is set alike on both sides. -/
theorem setPort {d e : Dev} (h : d.SparesLines e) (p : Nat) (x : LinePort) :
    (d.setPort p x).SparesLines (e.setPort p x) :=
  ⟨⟨h.fc, h.out, h.kept⟩, fun q => by simp [h.port], h.lane⟩

/-- Of two settings of a port the later stands. -/
theorem setPort_setPort (d : Dev) (p : Nat) (x y : LinePort) :
    (d.setPort p y).SparesLines ((d.setPort p x).setPort p y) := by
  refine ⟨.of_eq rfl rfl rfl, fun q => ?_, fun _ => rfl⟩
  by_cases e : q = p <;> simp [e]

/-- A port set to what it is. -/
theorem setPort_self (d : Dev) (p : Nat) : (d.setPort p (d.port p)).SparesLines d := by
  refine ⟨.of_eq rfl rfl rfl, fun q => ?_, fun _ => rfl⟩
  by_cases e : q = p <;> simp [e]

end Dev.SparesLines

/-- From `d` to `e` only port `p` changes among the line ports and lanes, and it then stands at `x`. -/
def Dev.PutsPort (d : Dev) (p : Nat) (x : LinePort) (e : Dev) : Prop := (d.setPort p x).SparesLines e

namespace Dev.PutsPort

variable {d e f : Dev} {p : Nat} {x y : LinePort}

theorem set (d : Dev) (p : Nat) (x : LinePort) : d.PutsPort p x (d.setPort p x) := .refl _

theorem self (d : Dev) (p : Nat) : d.PutsPort p (d.port p) d := .setPort_self d p

theorem spares (h : d.PutsPort p x e) (g : e.SparesLines f) : d.PutsPort p x f := Dev.SparesLines.trans h g

theorem after (h : d.SparesLines e) (g : e.PutsPort p x f) : d.PutsPort p x f := (h.setPort p x).trans g

theorem trans (h : d.PutsPort p x e) (g : e.PutsPort p y f) : d.PutsPort p y f :=
  ((Dev.SparesLines.setPort_setPort d p x y).trans (Dev.SparesLines.setPort h p y)).trans g

theorem port (h : d.PutsPort p x e) : e.port p = x := by
  rw [Dev.SparesLines.port h, Dev.setPort_port, if_pos rfl]

theorem port_of_ne (h : d.PutsPort p x e) {q : Nat} (ne : q ≠ p) : e.port q = d.port q := by
  rw [Dev.SparesLines.port h, Dev.setPort_port, if_neg ne]

theorem lane (h : d.PutsPort p x e) (l : Nat) : e.lane l = d.lane l := Dev.SparesLines.lane h l

theorem reports (h : d.PutsPort p x e) : d.Reports e := ⟨h.fc, h.out, h.kept⟩

/-- Where a condition decides whether the port changes, both cases name what it then is. -/
theorem ite {c : Prop} [Decidable c] (yes : c → d.PutsPort p x e) (no : ¬c → d.PutsPort p x f) :
    d.PutsPort p x (if c then e else f) := by
  split
  next h => exact yes h
  next h => exact no h

end Dev.PutsPort

/-! ### Layers and Spread groups are beside the line ports -/

theorem Dev.noteInput_spares (d : Dev) (obj l i : Nat) (v : Bool) : d.SparesLines (d.noteInput obj l i v) := by
  unfold Dev.noteInput
  dsimp only
  split
  · exact .refl d
  · split
    · exact .setLayer ..
    · exact (Dev.SparesLines.setLayer ..).trans (.raise ..)

theorem Dev.noteVector_spares (d : Dev) (obj l v : Nat) : d.SparesLines (d.noteVector obj l v) := by
  unfold Dev.noteVector
  split
  · exact .refl d
  · exact .foldl (fun e i => e.noteInput_spares obj l i (bit v i)) _ d

theorem Dev.putGroup_spares (d : Dev) (g : Nat) (x : Spread) : d.SparesLines (d.putGroup g x) :=
  (Dev.SparesLines.setGroup ..).trans (Dev.noteVector_spares ..)

theorem Dev.noteSkew_spares (d : Dev) (g k : Nat) : d.SparesLines (d.noteSkew g k) := by
  unfold Dev.noteSkew
  dsimp only
  split
  · exact .refl d
  · exact (Dev.putGroup_spares ..).trans (.raise ..)

theorem Dev.leaveUp_spares (d : Dev) (g : Nat) (mode : SgMode) (k reason : Nat) :
    d.SparesLines (d.leaveUp g mode k reason) := by
  unfold Dev.leaveUp
  exact (Dev.putGroup_spares ..).trans (.ite (.raise ..))

theorem Dev.unplace_spares (d : Dev) (g k mState reason : Nat) : d.SparesLines (d.unplace g k mState reason) := by
  unfold Dev.unplace
  exact ((Dev.SparesLines.ite (.farRelease ..)).trans (.setStream ..)).trans (.setMember ..)

theorem Dev.settleMember_spares (d : Dev) (g k : Nat) (m : SgMember) : d.SparesLines (d.settleMember g k m) := by
  unfold Dev.settleMember
  dsimp only
  split
  · exact Dev.unplace_spares ..
  · exact .ite (.setMember ..)

theorem Dev.settleGroup_spares (d : Dev) (g : Nat) : d.SparesLines (d.settleGroup g) := by
  unfold Dev.settleGroup
  split
  · exact .refl d
  next r _ =>
    have members : d.SparesLines (r.members.zipIdx.foldl (fun d p => d.settleMember g p.2 p.1) d) :=
      .foldl (fun e (p : SgMember × Nat) => e.settleMember_spares g p.2 p.1) _ d
    refine (members.trans (Dev.noteSkew_spares _ g 0)).trans ?_
    dsimp only
    split
    · split
      · exact .refl _
      · exact Dev.leaveUp_spares ..
    · exact .ite (Dev.putGroup_spares ..)

theorem Dev.settlePort_spares (d : Dev) (p : Nat) : d.SparesLines (d.settlePort p) := by
  unfold Dev.settlePort
  split
  · exact .refl d
  · exact .foldl (fun e (g : SgRec) => .ite (e.settleGroup_spares g.sg)) _ d

end Sys2Proof.Machine

namespace Sys2Proof.Machine

open Sys2Proof

/-! ### Bits of a port's masks -/

/-- Bit `i` of a number set: it reads true. -/
theorem bit_setBit_true (v i : Nat) : bit (setBit v i true) i = true := by
  by_cases h : bit v i = true
  · simp [setBit, h]
  · have clear : v.testBit i = false := by simpa [bit_eq_testBit] using h
    have flip := Nat.testBit_two_pow_add_eq v i
    rw [clear] at flip
    simpa [setBit, h, bit_eq_testBit, Nat.add_comm] using flip

/-! ### A step that sets one port and nothing else -/

@[simp] theorem State.settle_port (s : State) (d : Dev) (p : Nat) : (s.settle d).dev.port p = d.port p := rfl

theorem State.settle_setPort {s : State} (h : s.live = true) (p : Nat) (x : LinePort) :
    s.settle (s.dev.setPort p x) = { s with dev := s.dev.setPort p x } :=
  State.settle_self { s with dev := s.dev.setPort p x } (State.out_of_live h)

/-- A row that sets one port: what the state then shows, and what stays. -/
theorem State.shows_setPort {s : State} {o : Host.Outcome State Fault Refusal} {p : Nat} {x : LinePort}
    (run : o = .next { s with dev := s.dev.setPort p x }) :
    ∃ t, o = .next t ∧ t.dev.port p = x ∧ (∀ q, q ≠ p → t.dev.port q = s.dev.port q) ∧ s.raisesNone t ∧
      t = { s with dev := { s.dev with ports := t.dev.ports } } :=
  ⟨_, run, by simp, fun q ne => by simp [ne], rfl, rfl⟩

/-- Its moment has come, and its effect is to set a port. -/
theorem State.runIf_setPort {s : State} {c : Dev → Bool} {f : Dev → Dev} {p : Nat} {x : LinePort} (h : s.live = true)
    (due : c s.dev = true) (effect : f s.dev = s.dev.setPort p x) :
    s.runIf c f = .next { s with dev := s.dev.setPort p x } := by
  rw [State.runIf_eq s c f (State.powered_of_live h) due, effect, State.settle_setPort h]

/-! ### Alignment is lost (R95, R96) -/

/-- A port once it has lost multiframe alignment at a stage. -/
def LinePort.unaligned (x : LinePort) (stage : Nat) : LinePort :=
  if x.mfAligned then
    { x with mfAligned := false, firstLost := stage, rxAvail := none, arrival := { x.arrival with valid := false } }
  else x

@[simp] theorem LinePort.unaligned_mfAligned (x : LinePort) (stage : Nat) : (x.unaligned stage).mfAligned = false := by
  cases h : x.mfAligned <;> simp [LinePort.unaligned, h]

theorem LinePort.unaligned_arrival {x : LinePort} (stage : Nat) (h : x.mfAligned = true) :
    (x.unaligned stage).arrival.valid = false := by
  simp [LinePort.unaligned, h]

/-- The stages below the port's multiframe stand as they did. -/
theorem LinePort.unaligned_keeps (x : LinePort) (stage : Nat) :
    (x.unaligned stage).groupAligned = x.groupAligned ∧ (x.unaligned stage).inFrame = x.inFrame ∧
      (x.unaligned stage).inMf = x.inMf ∧ (x.unaligned stage).lanesUp = x.lanesUp := by
  unfold LinePort.unaligned
  split <;> exact ⟨rfl, rfl, rfl, rfl⟩

theorem Dev.loseAlignment_puts (d : Dev) (p stage : Nat) :
    d.PutsPort p ((d.port p).unaligned stage) (d.loseAlignment p stage) := by
  unfold Dev.loseAlignment LinePort.unaligned
  dsimp only
  cases h : (d.port p).mfAligned with
  | false => exact .self d p
  | true => exact (((Dev.PutsPort.set d p _).spares (.tick ..)).spares (.raise ..)).spares (Dev.settlePort_spares ..)

/-- The loss is reported with the stage it began at. -/
theorem Dev.loseAlignment_event (d : Dev) (p stage : Nat) (h : (d.port p).mfAligned = true) :
    d.eventOf 0x0302 (objPort p) (leBytes 1 p ++ leBytes 1 stage) ∈ (d.loseAlignment p stage).log.arising := by
  simp only [Dev.loseAlignment, h]
  exact (((Dev.PutsPort.set d p _).spares (.tick ..)).reports).event (Dev.settlePort_spares ..).toReports

/-- Every stage of the receive chain after the lanes is out of its aligned state. -/
structure LinePort.Unframed (x : LinePort) : Prop where
  group : x.groupAligned = false
  inFrame : x.inFrame = 0
  inMf : x.inMf = 0
  multiframe : x.mfAligned = false

theorem Dev.dropGroup_puts (d : Dev) (p stage : Nat) :
    ∃ x, d.PutsPort p x (d.dropGroup p stage) ∧ x.Unframed ∧ x.lanesUp = (d.port p).lanesUp := by
  have lost := Dev.loseAlignment_puts
    (d.setPort p { d.port p with groupAligned := false, inFrame := 0, inMf := 0 }) p stage
  rw [Dev.setPort_port, if_pos rfl] at lost
  obtain ⟨group, inFrame, inMf, lanes⟩ :=
    LinePort.unaligned_keeps { d.port p with groupAligned := false, inFrame := 0, inMf := 0 } stage
  exact ⟨_, (Dev.PutsPort.set d p _).trans lost, ⟨group, inFrame, inMf, LinePort.unaligned_mfAligned ..⟩, lanes⟩

theorem Dev.dropGroup_event (d : Dev) (p stage : Nat) (h : (d.port p).mfAligned = true) :
    d.eventOf 0x0302 (objPort p) (leBytes 1 p ++ leBytes 1 stage) ∈ (d.dropGroup p stage).log.arising :=
  Dev.loseAlignment_event (d.setPort p { d.port p with groupAligned := false, inFrame := 0, inMf := 0 }) p stage
    (by simpa using h)

/-- A lane that goes DOWN takes the stages after it along. -/
theorem Dev.dropLane_puts (d : Dev) (p k : Nat) :
    ∃ x, d.PutsPort p x (d.dropLane p k) ∧ x.Unframed ∧ bit x.lanesUp k = false := by
  unfold Dev.dropLane
  dsimp only
  obtain ⟨x, puts, unframed, lanes⟩ := Dev.dropGroup_puts (d.setPort p _) p 0
  refine ⟨x, (Dev.PutsPort.set d p _).trans puts, unframed, ?_⟩
  rw [lanes]
  simp [bit_setBit_false]

theorem Dev.dropLane_event (d : Dev) (p k : Nat) (h : (d.port p).mfAligned = true) :
    d.eventOf 0x0302 (objPort p) (leBytes 1 p ++ leBytes 1 0) ∈ (d.dropLane p k).log.arising := by
  unfold Dev.dropLane
  exact Dev.dropGroup_event (d.setPort p _) p 0 (by simpa using h)

/-! ### The receive chain, stage by stage (R95, R96) -/

theorem lane_comes_up (s : State) (lane : Nat) (h : s.live = true) (known : lane < 64)
    (on : s.dev.portOn (lane / 8) = true) (used : lane % 8 < s.dev.lanesInUse (lane / 8))
    (good : 64 ≤ (s.dev.port (lane / 8)).laneGood (lane % 8)) :
    ∃ t, exec (.laneUp lane) s = .next t ∧ bit (t.dev.port (lane / 8)).lanesUp (lane % 8) = true ∧
      (∀ q, q ≠ lane / 8 → t.dev.port q = s.dev.port q) ∧ s.raisesNone t ∧
      t = { s with dev := { s.dev with ports := t.dev.ports } } := by
  have run : execLaneUp lane s = .next { s with dev := s.dev.setPort (lane / 8) _ } :=
    State.runIf_setPort h (by simp [known, on, used, good]) rfl
  obtain ⟨t, done, port, others, quiet, rest⟩ := State.shows_setPort run
  exact ⟨t, done, by rw [port]; exact bit_setBit_true .., others, quiet, rest⟩

/-- A lane's loss, counted in its own cell (R381). -/
def Dev.countLaneDown (d : Dev) (lane : Nat) : Dev := d.tick (lineCell (lane / 8) + 136 + lane % 8) 1

theorem Dev.countLaneDown_spares (d : Dev) (lane : Nat) : d.SparesLines (d.countLaneDown lane) := .tick ..

theorem exec_laneDown (s : State) (lane : Nat) (h : s.live = true) (known : lane < 64)
    (enabled : (s.dev.port (lane / 8)).enabled = true) (up : bit (s.dev.port (lane / 8)).lanesUp (lane % 8) = true)
    (bad : (s.dev.port (lane / 8)).laneGood (lane % 8) = 0) : exec (.laneDown lane) s =
      .next (s.settle ((s.dev.countLaneDown lane).dropLane (lane / 8) (lane % 8))) := by
  show execLaneDown lane s = _
  rw [execLaneDown, State.runIf_eq s _ _ (State.powered_of_live h) (by simp [known, enabled, up, bad])]
  rfl

theorem lane_goes_down (s : State) (lane : Nat) (h : s.live = true) (known : lane < 64)
    (enabled : (s.dev.port (lane / 8)).enabled = true) (up : bit (s.dev.port (lane / 8)).lanesUp (lane % 8) = true)
    (bad : (s.dev.port (lane / 8)).laneGood (lane % 8) = 0) :
    ∃ t, exec (.laneDown lane) s = .next t ∧ bit (t.dev.port (lane / 8)).lanesUp (lane % 8) = false ∧
      (t.dev.port (lane / 8)).groupAligned = false ∧ (t.dev.port (lane / 8)).inFrame = 0 ∧
      (t.dev.port (lane / 8)).inMf = 0 ∧ (t.dev.port (lane / 8)).mfAligned = false ∧
      ((s.dev.port (lane / 8)).mfAligned = true →
        s.dev.eventOf 0x0302 (objPort (lane / 8)) (leBytes 1 (lane / 8) ++ leBytes 1 0) ∈ t.dev.log.arising) ∧
      (∀ q, q ≠ lane / 8 → t.dev.port q = s.dev.port q) := by
  have counted := s.dev.countLaneDown_spares lane
  obtain ⟨x, puts, unframed, down⟩ := (s.dev.countLaneDown lane).dropLane_puts (lane / 8) (lane % 8)
  refine ⟨_, exec_laneDown s lane h known enabled up bad, ?_⟩
  simp only [State.settle_port, puts.port]
  refine ⟨down, unframed.group, unframed.inFrame, unframed.inMf, unframed.multiframe, fun held => ?_, fun q ne => ?_⟩
  · rw [State.mem_settle_arising, ← counted.eventOf_eq]
    exact Dev.dropLane_event _ _ _ (by rwa [counted.port])
  · exact (Dev.PutsPort.after counted puts).port_of_ne ne

/-- A port whose frame state at lane position `q` enters VERIFY (1) or LOCK (2). -/
def LinePort.flexoEnter (x : LinePort) (q state : Nat) : LinePort :=
  { x with flexoVerify := setBit x.flexoVerify q (state == 1), flexoLock := setBit x.flexoLock q (state == 2) }

/-- A frame state that was not LOCK enters a state other than HUNT: nothing after it is lost. -/
theorem exec_flexoFrameStateChange (s : State) (p i q state : Nat) (h : s.live = true) (known : p < 8) (first : 1 ≤ i)
    (last : i ≤ s.dev.portN p) (enabled : (s.dev.port p).enabled = true) (place : (s.dev.port p).posOf i = some q)
    (unlocked : bit (s.dev.port p).flexoLock q = false) (may : (s.dev.port p).flexoMay q state = true)
    (on : state ≠ 0) : exec (.flexoFrameStateChange p i state) s =
      .next { s with dev := s.dev.setPort p ((s.dev.port p).flexoEnter q state) } := by
  show execFlexoFrameStateChange p i state s = _
  refine State.runIf_setPort h ?_ ?_
  · simp [known, first, last, enabled, place, may]
  · simp [place, unlocked, on, LinePort.flexoEnter]

/-- From HUNT a marker leads to VERIFY, from there its recurrence to LOCK (R95). -/
theorem flexo_frame_is_verified_and_locked (s : State) (p i q : Nat) (h : s.live = true) (known : p < 8) (first : 1 ≤ i)
    (last : i ≤ s.dev.portN p) (enabled : (s.dev.port p).enabled = true) (place : (s.dev.port p).posOf i = some q)
    (up : bit (s.dev.port p).lanesUp (q / 2) = true) (unlocked : bit (s.dev.port p).flexoLock q = false) :
    (bit (s.dev.port p).flexoVerify q = false → 1 ≤ ((s.dev.port p).flexoAt q).good →
      ∃ t, exec (.flexoFrameStateChange p i 1) s = .next t ∧ bit (t.dev.port p).flexoVerify q = true ∧
        t = { s with dev := { s.dev with ports := t.dev.ports } }) ∧
    (bit (s.dev.port p).flexoVerify q = true → 3 ≤ ((s.dev.port p).flexoAt q).good →
      ∃ t, exec (.flexoFrameStateChange p i 2) s = .next t ∧ bit (t.dev.port p).flexoLock q = true ∧
        bit (t.dev.port p).flexoVerify q = false ∧ t = { s with dev := { s.dev with ports := t.dev.ports } }) := by
  constructor
  · intro hunt marker
    have may : (s.dev.port p).flexoMay q 1 = true := by simp [LinePort.flexoMay, up, hunt, unlocked, marker]
    obtain ⟨t, run, port, -, -, rest⟩ := State.shows_setPort
      (exec_flexoFrameStateChange s p i q 1 h known first last enabled place unlocked may (by decide))
    exact ⟨t, run, by rw [port]; exact bit_setBit_true .., rest⟩
  · intro verify markers
    have may : (s.dev.port p).flexoMay q 2 = true := by simp [LinePort.flexoMay, up, verify, markers]
    obtain ⟨t, run, port, -, -, rest⟩ := State.shows_setPort
      (exec_flexoFrameStateChange s p i q 2 h known first last enabled place unlocked may (by decide))
    refine ⟨t, run, by rw [port]; exact bit_setBit_true .., ?_, rest⟩
    rw [port]
    simp [LinePort.flexoEnter, bit_setBit_false]

theorem flexo_group_is_aligned (s : State) (p : Nat) (h : s.live = true) (known : p < 8)
    (enabled : (s.dev.port p).enabled = true) (lit : s.dev.portN p ≠ 0)
    (pids : (s.dev.port p).pidSet (s.dev.portN p) = true) (skew : (s.dev.port p).skewOk = true)
    (gid : (s.dev.port p).gidOk = true) :
    ∃ t, exec (.flexoGroupStateChange p true) s = .next t ∧ (t.dev.port p).groupAligned = true ∧
      t = { s with dev := { s.dev with ports := t.dev.ports } } := by
  have run : execFlexoGroupStateChange p true s = .next { s with dev := s.dev.setPort p _ } :=
    State.runIf_setPort h (by simp [known, enabled, lit, pids, skew, gid]) rfl
  obtain ⟨t, done, port, -, -, rest⟩ := State.shows_setPort run
  exact ⟨t, done, by rw [port], rest⟩

theorem otuc_gains_frame (s : State) (p i : Nat) (h : s.live = true) (known : p < 8) (first : 1 ≤ i)
    (last : i ≤ s.dev.portN p) (group : (s.dev.port p).groupAligned = true)
    (fas : 2 ≤ ((s.dev.port p).otucAt i).fasGood) :
    ∃ t, exec (.otucFrameStateChange p i true) s = .next t ∧ bit (t.dev.port p).inFrame (i - 1) = true ∧
      t = { s with dev := { s.dev with ports := t.dev.ports } } := by
  have run : execOtucFrameStateChange p i true s = .next { s with dev := s.dev.setPort p _ } :=
    State.runIf_setPort h (by simp [known, first, last, group, fas]) rfl
  obtain ⟨t, done, port, -, -, rest⟩ := State.shows_setPort run
  exact ⟨t, done, by rw [port]; exact bit_setBit_true .., rest⟩

theorem otuc_gains_multiframe (s : State) (p i : Nat) (h : s.live = true) (known : p < 8) (first : 1 ≤ i)
    (last : i ≤ s.dev.portN p) (framed : bit (s.dev.port p).inFrame (i - 1) = true)
    (mfas : 2 ≤ ((s.dev.port p).otucAt i).mfGood) :
    ∃ t, exec (.otucMultiframeStateChange p i true) s = .next t ∧ bit (t.dev.port p).inMf (i - 1) = true ∧
      t = { s with dev := { s.dev with ports := t.dev.ports } } := by
  have run : execOtucMultiframeStateChange p i true s = .next { s with dev := s.dev.setPort p _ } :=
    State.runIf_setPort h (by simp [known, first, last, framed, mfas]) rfl
  obtain ⟨t, done, port, -, -, rest⟩ := State.shows_setPort run
  exact ⟨t, done, by rw [port]; exact bit_setBit_true .., rest⟩

/-- An express channel's sources are told of the regained input: no line port changes (R128). -/
theorem Dev.regainSources_spares (d : Dev) (obj : Nat) (flows : List Nat) : d.SparesLines (d.regainSources obj flows) :=
  .setOdu ..

/-- A port holds multiframe alignment, and its express channels' sources have been told of it (R96, R98). -/
def Dev.gainMultiframe (d : Dev) (p : Nat) : Dev :=
  let x := d.port p
  let e := d.setPort p { x with mfAligned := true, hadMf := true, iaeLeft := if x.hadMf then 16 else x.iaeLeft }
  if x.hadMf then (e.expressFrom p).foldl (fun d c => d.regainSources (objChannel c) [0, 1]) e else e

theorem Dev.gainMultiframe_puts (d : Dev) (p : Nat) :
    ∃ x, d.PutsPort p x (d.gainMultiframe p) ∧ x.mfAligned = true := by
  have told := Dev.SparesLines.foldl fun e c => Dev.regainSources_spares e (objChannel c) [0, 1]
  exact ⟨_, (Dev.PutsPort.set d p _).spares (.ite (told ..)), rfl⟩

theorem port_gains_multiframe (s : State) (p : Nat) (h : s.live = true) (known : p < 8)
    (enabled : (s.dev.port p).enabled = true) (lost : (s.dev.port p).mfAligned = false)
    (group : (s.dev.port p).groupAligned = true) (framed : (s.dev.port p).inFrame = 2 ^ s.dev.portN p - 1)
    (multiframed : (s.dev.port p).inMf = 2 ^ s.dev.portN p - 1)
    (equal : (s.dev.port p).equalMfas (s.dev.portN p) = true) :
    ∃ t, exec (.portMultiframeAligned p) s = .next t ∧ (t.dev.port p).mfAligned = true ∧
      s.dev.eventOf 0x0301 (objPort p) (leBytes 1 p) ∈ t.dev.log.arising := by
  have run : execPortMultiframeAligned p s =
      .next (s.settle (((s.dev.gainMultiframe p).raise 0x0301 (objPort p) (leBytes 1 p)).settlePort p)) :=
    State.runIf_eq s _ _ (State.powered_of_live h)
      (by simp [known, enabled, lost, group, framed, multiframed, equal, Dev.instMask])
  obtain ⟨x, puts, aligned⟩ := s.dev.gainMultiframe_puts p
  have settled := Dev.settlePort_spares ((s.dev.gainMultiframe p).raise 0x0301 (objPort p) (leBytes 1 p)) p
  refine ⟨_, run, ?_, (s.mem_settle_arising ..).mpr (puts.reports.event settled.toReports)⟩
  rw [State.settle_port, ((puts.spares (.raise ..)).spares settled).port, aligned]

theorem port_loses_multiframe (s : State) (p : Nat) (h : s.live = true) (known : p < 8)
    (held : (s.dev.port p).mfAligned = true) (unequal : (s.dev.port p).equalMfas (s.dev.portN p) = false) :
    ∃ t, exec (.portMultiframeLost p) s = .next t ∧ (t.dev.port p).mfAligned = false ∧
      (t.dev.port p).arrival.valid = false ∧
      s.dev.eventOf 0x0302 (objPort p) (leBytes 1 p ++ leBytes 1 5) ∈ t.dev.log.arising := by
  have run : execPortMultiframeLost p s = .next (s.settle (s.dev.loseAlignment p 5)) :=
    State.runIf_eq s _ _ (State.powered_of_live h) (by simp [known, unequal])
  refine ⟨_, run, ?_⟩
  rw [State.settle_port, (s.dev.loseAlignment_puts p 5).port]
  exact ⟨LinePort.unaligned_mfAligned .., LinePort.unaligned_arrival 5 held,
    (s.mem_settle_arising ..).mpr (s.dev.loseAlignment_event p 5 held)⟩

/-- Settles O20: each stage of the receive chain by the lemma about its own command. -/
theorem lineReceiveChainGainsAndLosesAlignment : Obligations.line_receive_chain_gains_and_loses_alignment :=
  ⟨lane_comes_up, lane_goes_down, flexo_frame_is_verified_and_locked, flexo_group_is_aligned, otuc_gains_frame,
    otuc_gains_multiframe, port_gains_multiframe, port_loses_multiframe⟩

end Sys2Proof.Machine

namespace Sys2Proof.Machine

open Sys2Proof

/-! ### Switch-grade indications (R99) -/

theorem Dev.noteSg_spares (d : Dev) (p : Nat) : d.SparesLines (d.noteSg p) := by
  unfold Dev.noteSg
  exact (((Dev.noteInput_spares ..).trans (Dev.noteInput_spares ..)).trans (Dev.noteInput_spares ..)).trans
    (Dev.noteInput_spares ..)

/-- A port with one indication set: 0 SG_LOS by the pin, 1 SG_LOS by a lane, 2 SG_FAS, 3 SG_AIS, 4 SG_FEC. -/
def LinePort.withSg (x : LinePort) (which : Nat) (v : Bool) : LinePort :=
  match which with
  | 0 => { x with sgPin := v }
  | 1 => { x with sgLane := v }
  | 2 => { x with sgFas := v }
  | 3 => { x with sgAis := v }
  | _ => { x with sgFec := v }

theorem Dev.setSg_eq (d : Dev) (p which : Nat) (v : Bool) :
    d.setSg p which v = (d.setPort p ((d.port p).withSg which v)).noteSg p :=
  match which with
  | 0 | 1 | 2 | 3 | _ + 4 => rfl

theorem Dev.setSg_puts (d : Dev) (p which : Nat) (v : Bool) :
    d.PutsPort p ((d.port p).withSg which v) (d.setSg p which v) := by
  rw [Dev.setSg_eq]
  exact (Dev.PutsPort.set d p _).spares (Dev.noteSg_spares ..)

/-- The four bits of LP_STATUS: SG_LOS of either cause, SG_FAS, SG_AIS, SG_FEC. -/
theorem LinePort.bit_sgBits (x : LinePort) {k : Nat} (known : k < 4) :
    bit x.sgBits k = [x.sgPin || x.sgLane, x.sgFas, x.sgAis, x.sgFec].getD k false := by
  unfold LinePort.sgBits
  generalize (x.sgPin || x.sgLane) = los
  generalize x.sgFas = fas
  generalize x.sgAis = ais
  generalize x.sgFec = fec
  revert k los fas ais fec
  decide

/-- An indication set shows in its bit of LP_STATUS. -/
theorem LinePort.withSg_asserted (x : LinePort) {which : Nat} (known : which < 5) :
    bit (x.withSg which true).sgBits (if which ≤ 1 then 0 else which - 1) = true :=
  match which, known with
  | 0, _ => LinePort.bit_sgBits _ (by decide)
  | 1, _ => (LinePort.bit_sgBits _ (by decide)).trans (Bool.or_true _)
  | 2, _ | 3, _ | 4, _ => LinePort.bit_sgBits _ (by decide)

/-- One cleared no longer shows; SG_LOS may yet stand for its other cause. -/
theorem LinePort.withSg_cleared (x : LinePort) {which : Nat} (known : which < 5) :
    if which = 0 then (x.withSg which false).sgPin = false
      else if which = 1 then (x.withSg which false).sgLane = false
      else bit (x.withSg which false).sgBits (which - 1) = false :=
  match which, known with
  | 0, _ | 1, _ => rfl
  | 2, _ | 3, _ | 4, _ => LinePort.bit_sgBits _ (by decide)

/-- A step that puts one port: what the state then shows. -/
theorem State.shows_puts {s : State} {o : Host.Outcome State Fault Refusal} {e : Dev} {p : Nat} {x : LinePort}
    (h : s.live = true) (run : o = .next (s.settle e)) (puts : s.dev.PutsPort p x e) :
    ∃ t, o = .next t ∧ t.dev.port p = x ∧ (∀ q, q ≠ p → t.dev.port q = s.dev.port q) ∧ t.mem = s.mem ∧
      t.bar1 = s.bar1 :=
  ⟨_, run, puts.port, fun _ ne => puts.port_of_ne ne, rfl, State.settle_bar1_of_live h puts.out⟩

theorem sg_indication_is_asserted (s : State) (p which : Nat) (h : s.live = true) (port : p < 8) (known : which < 5)
    (enabled : (s.dev.port p).enabled = true)
    (holds : if which = 4 then (s.dev.port p).attr.sgfecThr ≤ (s.dev.port p).fecCount else s.dev.sgSet p which = true) :
    ∃ t, exec (.sgIndicationAsserted p which) s = .next t ∧
      bit (t.dev.port p).sgBits (if which ≤ 1 then 0 else which - 1) = true ∧
      (∀ q, q ≠ p → t.dev.port q = s.dev.port q) ∧ t.mem = s.mem ∧ t.bar1 = s.bar1 := by
  have run : execSgIndicationAsserted p which s = .next (s.settle (s.dev.setSg p which true)) :=
    State.runIf_eq s _ _ (State.powered_of_live h) (by simpa [port, known, enabled] using holds)
  obtain ⟨t, done, put, rest⟩ := State.shows_puts h run (s.dev.setSg_puts p which true)
  exact ⟨t, done, by rw [put]; exact LinePort.withSg_asserted _ known, rest⟩

theorem sg_indication_is_cleared (s : State) (p which : Nat) (h : s.live = true) (port : p < 8) (known : which < 5)
    (enabled : (s.dev.port p).enabled = true)
    (quiet : if which = 4 then 8 ≤ (s.dev.port p).fecBelow else 8 ≤ Tab.get 0 (s.dev.port p).clearRun which) :
    ∃ t, exec (.sgIndicationCleared p which) s = .next t ∧
      (if which = 0 then (t.dev.port p).sgPin = false
       else if which = 1 then (t.dev.port p).sgLane = false
       else bit (t.dev.port p).sgBits (which - 1) = false) ∧
      (∀ q, q ≠ p → t.dev.port q = s.dev.port q) ∧ t.mem = s.mem ∧ t.bar1 = s.bar1 := by
  have run : execSgIndicationCleared p which s = .next (s.settle (s.dev.setSg p which false)) :=
    State.runIf_eq s _ _ (State.powered_of_live h) (by simpa [port, known, enabled] using quiet)
  obtain ⟨t, done, put, rest⟩ := State.shows_puts h run (s.dev.setSg_puts p which false)
  exact ⟨t, done, by rw [put]; exact LinePort.withSg_cleared _ known, rest⟩

/-- Settles O21: an indication is set to its value in the port, and shows in the port's bits. -/
theorem switchGradeIndicationsFollowConditions : Obligations.switch_grade_indications_follow_conditions :=
  fun s p which h port known enabled => ⟨sg_indication_is_asserted s p which h port known enabled,
    sg_indication_is_cleared s p which h port known enabled⟩

end Sys2Proof.Machine

namespace Sys2Proof.Machine

open Sys2Proof

/-! ### The Line Control Channel (R103 to R105) -/

/-- A port with dLCCF at a value. -/
def LinePort.withDlccf (x : LinePort) (v : Bool) : LinePort := { x with ladder := { x.ladder with dLccf := v } }

theorem Dev.setDlccf_puts (d : Dev) (p : Nat) (v : Bool) : d.PutsPort p ((d.port p).withDlccf v) (d.setDlccf p v) := by
  unfold Dev.setDlccf
  refine .ite (fun same => ?_) fun _ => ?_
  · rw [← same]
    exact .self d p
  · exact ((Dev.PutsPort.set d p _).spares (Dev.noteInput_spares ..)).spares (.raise ..)

/-- A message that is not valid, counted (R104). -/
def LinePort.missLcc (x : LinePort) : LinePort :=
  { x with ladder := { x.ladder with lccBadRun := x.ladder.lccBadRun + 1, lccGoodRun := 0, lastValid := false } }

/-- The third in a row raises dLCCF where the LCC runs (R105). -/
def LinePort.afterMiss (x : LinePort) : LinePort :=
  if x.lccRuns && 2 ≤ x.ladder.lccBadRun then x.missLcc.withDlccf true else x.missLcc

theorem Dev.lccBad_puts (d : Dev) (p : Nat) : d.PutsPort p (d.port p).afterMiss (d.lccBad p) := by
  have missed := ((Dev.PutsPort.set d p (d.port p).missLcc).spares (.tick _ (lineCell p + 132) 1)).spares
    (Dev.settlePort_spares _ p)
  have raised := missed.trans (Dev.setDlccf_puts _ p true)
  rw [missed.port] at raised
  unfold Dev.lccBad LinePort.afterMiss
  dsimp only
  split
  · exact raised
  · exact missed

theorem LinePort.afterMiss_counts (x : LinePort) :
    x.afterMiss.ladder.lccBadRun = x.ladder.lccBadRun + 1 ∧ x.afterMiss.ladder.lastValid = false := by
  unfold LinePort.afterMiss
  split <;> exact ⟨rfl, rfl⟩

theorem LinePort.afterMiss_dLccf {x : LinePort} (runs : x.lccRuns = true) :
    x.afterMiss.ladder.dLccf = (x.ladder.dLccf || decide (2 ≤ x.ladder.lccBadRun)) := by
  by_cases third : 2 ≤ x.ladder.lccBadRun
  · simp [LinePort.afterMiss, runs, third, LinePort.withDlccf]
  · simp [LinePort.afterMiss, third, LinePort.missLcc]

theorem Dev.compareFp_puts (d : Dev) (p fp : Nat) :
    ∃ bad, d.PutsPort p { d.port p with fpMismatch := bad, rxTxFp := fp } (d.compareFp p fp) := by
  unfold Dev.compareFp
  exact ⟨_, (Dev.PutsPort.set d p _).spares (.ite (.raise ..))⟩

theorem Dev.takeSet_spares (d : Dev) (g : Nat) (ts : List Nat) : d.SparesLines (d.takeSet g ts) := by
  unfold Dev.takeSet
  exact (Dev.SparesLines.setGroup ..).trans (.ite (.setGroup ..))

theorem Dev.takeMarker_spares (d : Dev) (g k weight seq offset t : Nat) :
    d.SparesLines (d.takeMarker g k weight seq offset t) := by
  unfold Dev.takeMarker
  refine ((Dev.SparesLines.setMember ..).trans (.setStream ..)).trans (.ite ?_)
  exact .ite (Dev.takeSet_spares ..)

/-- A member's marker, valid or not, changes its group only. -/
theorem Dev.takeMarkers_spares (d : Dev) (p : Nat) (words : List Nat) : d.SparesLines (d.takeMarkers p words) := by
  unfold Dev.takeMarkers
  split
  · exact .refl d
  · refine .foldl (fun e g => .foldl (fun f m => .ite ?_) _ _) _ _
    have settled (n k : Nat) (x : Member) : f.SparesLines ((f.setMember n k x).settleGroup n) :=
      (Dev.SparesLines.setMember ..).trans (Dev.settleGroup_spares ..)
    dsimp only
    split
    · exact (settled ..).trans (Dev.takeMarker_spares ..)
    · exact settled ..

/-- A valid message, counted; where the LCC had fallen back the port is to send it again (R104, R105). -/
def LinePort.hearLcc (x : LinePort) (words : List Nat) : LinePort :=
  { x with
    rxWords := words
    ladder := { x.ladder with lccBadRun := 0, lccGoodRun := x.ladder.lccGoodRun + 1, lastValid := true
                              resumeNext := x.ladder.resumeNext || x.ladder.fallenBack } }

/-- The second in a row clears dLCCF. -/
def LinePort.afterHearing (x : LinePort) (words : List Nat) : LinePort :=
  if 1 ≤ x.ladder.lccGoodRun then (x.hearLcc words).withDlccf false else x.hearLcc words

theorem LinePort.afterHearing_counts (x : LinePort) (words : List Nat) :
    (x.afterHearing words).rxWords = words ∧ (x.afterHearing words).ladder.lccBadRun = 0 ∧
      (x.afterHearing words).ladder.lastValid = true := by
  unfold LinePort.afterHearing
  split <;> exact ⟨rfl, rfl, rfl⟩

theorem LinePort.afterHearing_dLccf {x : LinePort} (words : List Nat) (second : 1 ≤ x.ladder.lccGoodRun) :
    (x.afterHearing words).ladder.dLccf = false := by
  rw [LinePort.afterHearing, if_pos second]
  rfl

/-- Beyond what it counts, a valid message changes the port's comparison of footprints only. -/
theorem Dev.lccGood_puts (d : Dev) (p : Nat) (words : List Nat) :
    ∃ bad fp, d.PutsPort p { (d.port p).afterHearing words with fpMismatch := bad, rxTxFp := fp } (d.lccGood p words) := by
  have heard := Dev.PutsPort.set d p ((d.port p).hearLcc words)
  have cleared := heard.trans (Dev.setDlccf_puts _ p false)
  rw [heard.port] at cleared
  have counted : d.PutsPort p ((d.port p).afterHearing words)
      (if 1 ≤ (d.port p).ladder.lccGoodRun then (d.setPort p ((d.port p).hearLcc words)).setDlccf p false
        else d.setPort p ((d.port p).hearLcc words)) := by
    unfold LinePort.afterHearing
    split
    · exact cleared
    · exact heard
  have told := counted.spares (.ite (c := ((d.port p).ladder.fallenBack && !(d.port p).ladder.resumeNext) = true)
    (.raise _ 0x0304 (objPort p) (leBytes 1 p)))
  unfold Dev.lccGood
  dsimp only
  split
  · obtain ⟨bad, compared⟩ := Dev.compareFp_puts _ p _
    rw [told.port] at compared
    exact ⟨bad, _, ((told.trans compared).spares (Dev.settlePort_spares ..)).spares (Dev.takeMarkers_spares ..)⟩
  · exact ⟨((d.port p).afterHearing words).fpMismatch, ((d.port p).afterHearing words).rxTxFp, told⟩

/-! ### LCC_MESSAGE_RECEIVED and LCC_FALLBACK (R104, R105) -/

theorem exec_lccMessageReceived (s : State) (p : Nat) (w : List Nat) (h : s.live = true) (known : p < 8)
    (enabled : (s.dev.port p).enabled = true) (aligned : (s.dev.port p).mfAligned = true)
    (mode : (s.dev.port p).attr.lccMode ≠ 0) : exec (.lccMessageReceived p w) s =
      .next (s.settle (if lccValid w then s.dev.lccGood p w else s.dev.lccBad p)) := by
  show execLccMessageReceived p w s = _
  exact State.runIf_eq s _ _ (State.powered_of_live h) (by simp [known, enabled, aligned, mode])

theorem invalid_message_is_counted (s : State) (p : Nat) (w : List Nat) (h : s.live = true) (known : p < 8)
    (enabled : (s.dev.port p).enabled = true) (aligned : (s.dev.port p).mfAligned = true)
    (runs : (s.dev.port p).lccRuns = true) (mode : (s.dev.port p).attr.lccMode ≠ 0) (invalid : lccValid w = false) :
    ∃ t, exec (.lccMessageReceived p w) s = .next t ∧
      (t.dev.port p).ladder.lccBadRun = (s.dev.port p).ladder.lccBadRun + 1 ∧ (t.dev.port p).ladder.lastValid = false ∧
      (t.dev.port p).ladder.dLccf =
        ((s.dev.port p).ladder.dLccf || decide (2 ≤ (s.dev.port p).ladder.lccBadRun)) := by
  have run := exec_lccMessageReceived s p w h known enabled aligned mode
  rw [if_neg (by simp [invalid])] at run
  obtain ⟨t, done, port, -⟩ := State.shows_puts h run (s.dev.lccBad_puts p)
  obtain ⟨bad, last⟩ := (s.dev.port p).afterMiss_counts
  exact ⟨t, done, by rw [port, bad], by rw [port, last], by rw [port, LinePort.afterMiss_dLccf runs]⟩

theorem valid_message_is_taken (s : State) (p : Nat) (w : List Nat) (h : s.live = true) (known : p < 8)
    (enabled : (s.dev.port p).enabled = true) (aligned : (s.dev.port p).mfAligned = true)
    (mode : (s.dev.port p).attr.lccMode ≠ 0) (valid : lccValid w = true) :
    ∃ t, exec (.lccMessageReceived p w) s = .next t ∧ (t.dev.port p).ladder.lccBadRun = 0 ∧
      (t.dev.port p).ladder.lastValid = true ∧ (t.dev.port p).rxWords = w ∧
      (1 ≤ (s.dev.port p).ladder.lccGoodRun → (t.dev.port p).ladder.dLccf = false) := by
  have run := exec_lccMessageReceived s p w h known enabled aligned mode
  rw [if_pos valid] at run
  obtain ⟨bad, fp, puts⟩ := s.dev.lccGood_puts p w
  obtain ⟨t, done, port, -⟩ := State.shows_puts h run puts
  obtain ⟨words, count, last⟩ := (s.dev.port p).afterHearing_counts w
  exact ⟨t, done, by rw [port]; exact count, by rw [port]; exact last, by rw [port]; exact words,
    fun second => by rw [port]; exact LinePort.afterHearing_dLccf w second⟩

/-- The port once it has fallen back. -/
def LinePort.fallBack (x : LinePort) : LinePort :=
  { x.withDlccf false with ladder := { (x.withDlccf false).ladder with fallenBack := true, resumeNext := false } }

theorem lcc_falls_back (s : State) (p : Nat) (h : s.live = true) (known : p < 8)
    (enabled : (s.dev.port p).enabled = true) (aligned : (s.dev.port p).mfAligned = true)
    (auto : (s.dev.port p).attr.lccMode = 2) (fresh : (s.dev.port p).ladder.fallenBack = false)
    (long : 64 ≤ (s.dev.port p).ladder.lccBadRun) :
    ∃ t, exec (.lccFallback p) s = .next t ∧ (t.dev.port p).ladder.fallenBack = true ∧
      (t.dev.port p).ladder.dLccf = false ∧ s.dev.eventOf 0x0303 (objPort p) (leBytes 1 p) ∈ t.dev.log.arising := by
  have cleared := s.dev.setDlccf_puts p false
  have fell := cleared.trans (.set _ p (s.dev.port p).fallBack)
  have run : execLccFallback p s = .next (s.settle ((((s.dev.setDlccf p false).setPort p
      (s.dev.port p).fallBack).raise 0x0303 (objPort p) (leBytes 1 p)).settlePort p)) := by
    rw [execLccFallback, State.runIf_eq s _ _ (State.powered_of_live h) (by simp [known, enabled, aligned, auto, fresh, long])]
    simp only [cleared.port]
    rfl
  have settled := Dev.settlePort_spares (((s.dev.setDlccf p false).setPort p
    (s.dev.port p).fallBack).raise 0x0303 (objPort p) (leBytes 1 p)) p
  have event := (s.mem_settle_arising ..).mpr (fell.reports.event settled.toReports)
  have port := ((fell.spares (.raise ..)).spares settled).port
  exact ⟨_, run, by rw [State.settle_port, port]; rfl, by rw [State.settle_port, port]; rfl, event⟩

end Sys2Proof.Machine

namespace Sys2Proof.Machine

open Sys2Proof

/-! ### Request and announcement words (R103, R107, R112) -/

@[simp] theorem Dev.setLadder_port (d : Dev) (p q : Nat) (l : Ladder) :
    (d.setLadder p l).port q = if q = p then { d.port p with ladder := l } else d.port q := by
  simp [Dev.setLadder]

@[simp] theorem Dev.setLadder_steps (d : Dev) (p q : Nat) (l : Ladder) : (d.setLadder p l).steps q = d.steps q := rfl

@[simp] theorem Dev.setLadder_fc (d : Dev) (p : Nat) (l : Ladder) : (d.setLadder p l).fc = d.fc := rfl

@[simp] theorem Dev.setLadder_mfn (d : Dev) (p : Nat) (l : Ladder) : (d.setLadder p l).mfn = d.mfn := rfl

@[simp] theorem Dev.setLadder_beat (d : Dev) (p : Nat) (l : Ladder) : (d.setLadder p l).beat = d.beat := rfl

/-- A ladder that has taken a far-end request's REQ_SEQ. -/
def Ladder.hearRequest (l : Ladder) (seq : Nat) : Ladder := { l with lastReqSeq := some seq }

/-- With nothing announced, a change to another step is pending at once (R107, R110). -/
theorem Dev.changeStep_of_quiet (d : Dev) (p step start : Nat) (far : Bool) (seq : Nat)
    (quiet : (d.ladder p).announce = none) (other : step ≠ (d.ladder p).txStep) :
    d.changeStep p step start far seq =
      d.setLadder p { d.ladder p with pendingChange := some ⟨step, start, far, seq⟩ } := by
  simp [Dev.changeStep, quiet, other]

/-- A far-end request that ACCEPT allows, in a Beat that took no command, with nothing announced and nothing waiting, changes
the pending step (R107). -/
theorem Dev.farRequest_of_allowed (d : Dev) (p step seq : Nat) (quiet : (d.ladder p).announce = none)
    (alone : (d.ladder p).waitingChange = none) (allow : (d.port p).attr.accept = 2)
    (early : ∀ k, (d.ladder p).cmdTaken ≠ some (d.fc, k))
    (other : min step (min (d.port p).attr.floor (d.steps p - 1)) ≠ (d.ladder p).txStep) :
    d.farRequest p step seq = (d.setLadder p ((d.ladder p).hearRequest seq)).changeStep p
      (min step (min (d.port p).attr.floor (d.steps p - 1))) (if d.beat ≤ 251 then d.mfn + 1 else d.mfn + 2) true seq := by
  unfold Dev.ladder at *
  unfold Dev.farRequest Ladder.hearRequest
  cases taken : (d.port p).ladder.cmdTaken with
  | none => simp [allow, Ladder.finalStep, Ladder.refStep, alone, quiet, other, taken]
  | some c =>
    have before : c.1 ≠ d.fc := fun same => early c.2 (by rw [taken, ← same])
    simp [allow, Ladder.finalStep, Ladder.refStep, alone, quiet, other, taken, before]

theorem request_word_pends_change (s : State) (p step seq : Nat) (h : s.live = true) (known : p < 8)
    (aligned : (s.dev.port p).mfAligned = true) (runs : (s.dev.port p).lccRuns = true) (three : step < 8)
    (eight : seq < 256) (new : (s.dev.ladder p).lastReqSeq ≠ some seq) (quiet : (s.dev.ladder p).announce = none)
    (alone : (s.dev.ladder p).waitingChange = none) (allow : (s.dev.port p).attr.accept = 2)
    (early : ∀ k, (s.dev.ladder p).cmdTaken ≠ some (s.dev.fc, k))
    (other : min step (min (s.dev.port p).attr.floor (s.dev.steps p - 1)) ≠ (s.dev.ladder p).txStep) :
    ∃ t, exec (.lccReqReceived p (step * 8_192 + 4_096 + seq) (65_535 - (step * 8_192 + 4_096 + seq))) s = .next t ∧
      (t.dev.ladder p).pendingChange = some
        ⟨min step (min (s.dev.port p).attr.floor (s.dev.steps p - 1)),
          if s.dev.fc % 256 ≤ 251 then s.dev.fc / 256 + 1 else s.dev.fc / 256 + 2, true, seq⟩ ∧
      (t.dev.ladder p).lastReqSeq = some seq ∧ (t.dev.ladder p).txStep = (s.dev.ladder p).txStep ∧ s.raisesNone t := by
  have word : step * 8_192 + 4_096 + seq < 65_536 := by omega
  have top : (step * 8_192 + 4_096 + seq) / 8_192 = step := by omega
  have low : (step * 8_192 + 4_096 + seq) % 256 = seq := by omega
  have flag : bit (step * 8_192 + 4_096 + seq) 12 = true := by
    have : (step * 8_192 + 4_096 + seq) / 2 ^ 12 % 2 = 1 := by omega
    simpa [bit] using this
  generalize step * 8_192 + 4_096 + seq = w at *
  have run : execLccReqReceived p w (65_535 - w) s = .next (s.settle (s.dev.farRequest p step seq)) := by
    have complement : w + (65_535 - w) = 65_535 := by omega
    rw [execLccReqReceived, State.runIf_eq s _ _ (State.powered_of_live h) (by simp [known, word, aligned, runs])]
    simp [complement, flag, low, top, new]
  rw [s.dev.farRequest_of_allowed p step seq quiet alone allow early other, Dev.changeStep_of_quiet _ _ _ _ _ _
    (by simpa [Dev.ladder, Ladder.hearRequest] using quiet) (by simpa [Dev.ladder, Ladder.hearRequest] using other)] at run
  refine ⟨_, run, ?_, ?_, ?_, State.settle_arising_none s _ rfl⟩
  · rw [Dev.ladder, State.settle_port, Dev.setLadder_port, if_pos rfl]
    rfl
  · simp [Dev.ladder, Ladder.hearRequest]
  · simp [Dev.ladder, Ladder.hearRequest]

theorem announcement_word_is_taken (s : State) (p step left seq : Nat) (i : Image) (h : s.live = true) (known : p < 8)
    (aligned : (s.dev.port p).mfAligned = true) (runs : (s.dev.port p).lccRuns = true) (three : step < 8)
    (first : 1 ≤ left) (last : left ≤ 8) (eight : seq < 256) (bank : s.dev.rxImage p = some i) (real : step < i.steps p) :
    ∃ t, exec (.lccAnnReceived p (step * 8_192 + 4_096 + left * 256 + seq)
        (65_535 - (step * 8_192 + 4_096 + left * 256 + seq))) s = .next t ∧
      (t.dev.ladder p).rxAnn = some (step, (s.dev.ladder p).rxMfCount + left) ∧
      (t.dev.ladder p).rxStep = (s.dev.ladder p).rxStep ∧ s.raisesNone t := by
  have word : step * 8_192 + 4_096 + left * 256 + seq < 65_536 := by omega
  have top : (step * 8_192 + 4_096 + left * 256 + seq) / 8_192 = step := by omega
  have mid : (step * 8_192 + 4_096 + left * 256 + seq) / 256 % 16 = left := by omega
  have flag : bit (step * 8_192 + 4_096 + left * 256 + seq) 12 = true := by
    have : (step * 8_192 + 4_096 + left * 256 + seq) / 2 ^ 12 % 2 = 1 := by omega
    simpa [bit] using this
  generalize step * 8_192 + 4_096 + left * 256 + seq = w at *
  have run : execLccAnnReceived p w (65_535 - w) s = .next { s with dev := s.dev.setPort p { s.dev.port p with
      ladder := { s.dev.ladder p with rxAnn := some (step, (s.dev.ladder p).rxMfCount + left) } } } := by
    have complement : w + (65_535 - w) = 65_535 := by omega
    refine State.runIf_setPort h (by simp [known, word, aligned, runs]) ?_
    have within : ¬((left = 0 ∨ 8 < left) ∨ i.steps p ≤ step) := by omega
    simp [complement, flag, top, mid, bank, within, Dev.setLadder]
  obtain ⟨t, done, port, -, none, -⟩ := State.shows_setPort run
  refine ⟨t, done, ?_, ?_, none⟩
  · rw [Dev.ladder, port]
  · rw [Dev.ladder, port]

/-- A word that is not the complement of its companion is counted only (R103). -/
theorem torn_words_change_no_port (s : State) (p w v : Nat) (h : s.live = true) (known : p < 8) (word : w < 65_536)
    (aligned : (s.dev.port p).mfAligned = true) (runs : (s.dev.port p).lccRuns = true) (torn : w + v ≠ 65_535) :
    (∃ t, exec (.lccReqReceived p w v) s = .next t ∧ t.dev.ports = s.dev.ports) ∧
    (∃ t, exec (.lccAnnReceived p w v) s = .next t ∧ t.dev.ports = s.dev.ports) := by
  have req : execLccReqReceived p w v s = .next (s.settle (s.dev.tick (lineCell p + 133) 1)) := by
    rw [execLccReqReceived, State.runIf_eq s _ _ (State.powered_of_live h) (by simp [known, word, aligned, runs])]
    simp [torn]
  have ann : execLccAnnReceived p w v s = .next (s.settle (s.dev.tick (lineCell p + 133) 1)) := by
    rw [execLccAnnReceived, State.runIf_eq s _ _ (State.powered_of_live h) (by simp [known, word, aligned, runs])]
    simp [torn]
  exact ⟨⟨_, req, s.dev.tick_ports ..⟩, ⟨_, ann, s.dev.tick_ports ..⟩⟩

/-- Settles O23: a message, a fallback, a request word and an announcement word each by the lemma about its own command. -/
theorem lineControlChannelWordsAreTaken : Obligations.line_control_channel_words_are_taken :=
  ⟨invalid_message_is_counted, valid_message_is_taken, lcc_falls_back, request_word_pends_change,
    announcement_word_is_taken, torn_words_change_no_port⟩

end Sys2Proof.Machine

namespace Sys2Proof.Machine

open Sys2Proof

/-! ### Steps of the ladder (R108 to R112) -/

/-- A step that sets a port's ladder with one event, after changes that leave Beat and log alone. -/
theorem State.shows_ladder {s : State} {o : Host.Outcome State Fault Refusal} {d : Dev} {p code : Nat} {l : Ladder}
    {data : List Byte} (run : o = .next (s.settle ((d.setLadder p l).raise code (objPort p) data)))
    (fc : d.fc = s.dev.fc) (log : d.log = s.dev.log) :
    ∃ t, o = .next t ∧ t.dev.ladder p = l ∧ s.raisesOne t code (objPort p) data := by
  refine ⟨_, run, ?_, State.settle_arising_one s _ _ ?_⟩
  · exact congrArg LinePort.ladder ((d.setLadder_port p p l).trans (if_pos rfl))
  · rw [Dev.raise_arising, Dev.eventOf, Dev.eventOf, ← fc, ← log]
    rfl

theorem step_pin_makes_request (s : State) (p : Nat) (h : s.live = true) (known : p < 8)
    (asks : s.dev.pinAsks p = true) :
    ∃ t, exec (.stepPinQualified p) s = .next t ∧ (t.dev.ladder p).reqOut = true ∧
      (t.dev.ladder p).reqStep = min ((s.dev.ladder p).rxStep + 1) (min (s.dev.port p).attr.floor (s.dev.steps p - 1)) ∧
      (t.dev.ladder p).reqSeq = ((s.dev.ladder p).reqSeq + 1) % 256 ∧ (t.dev.ladder p).reqStart = s.dev.fc ∧
      s.raisesOne t 0x0308 (objPort p)
        (leBytes 1 p ++ leBytes 1 (t.dev.ladder p).reqStep ++ leBytes 1 (t.dev.ladder p).reqSeq) := by
  have idle : (s.dev.ladder p).reqOut = false := by
    simp only [Dev.pinAsks, Bool.and_eq_true, Bool.not_eq_true'] at asks
    obtain ⟨⟨-, idle⟩, -⟩ := asks
    exact idle
  have request : s.dev.sendRequest p (s.dev.pinStep p) = (s.dev.setLadder p { s.dev.ladder p with
      reqOut := true, reqStep := s.dev.pinStep p, reqSeq := ((s.dev.ladder p).reqSeq + 1) % 256
      reqStart := s.dev.fc }).raise 0x0308 (objPort p) (leBytes 1 p ++ leBytes 1 (s.dev.pinStep p) ++
        leBytes 1 (((s.dev.ladder p).reqSeq + 1) % 256)) := by
    simp [Dev.sendRequest, idle]
  have run : execStepPinQualified p s = _ :=
    State.runIf_eq s _ _ (State.powered_of_live h) (by simp [known, asks])
  rw [request] at run
  obtain ⟨t, done, ladder, event⟩ := State.shows_ladder run rfl rfl
  refine ⟨t, done, ?_⟩
  rw [ladder]
  exact ⟨rfl, rfl, rfl, rfl, event⟩

theorem request_times_out (s : State) (p : Nat) (h : s.live = true) (known : p < 8)
    (out : (s.dev.ladder p).reqOut = true) (old : (s.dev.ladder p).reqStart + 65_536 ≤ s.dev.fc) :
    ∃ t, exec (.ladderRequestTimeout p) s = .next t ∧ (t.dev.ladder p).reqOut = false ∧
      (t.dev.ladder p).reqStep = (s.dev.ladder p).reqStep ∧ (t.dev.ladder p).reqSeq = (s.dev.ladder p).reqSeq ∧
      s.raisesOne t 0x0309 (objPort p)
        (leBytes 1 p ++ leBytes 1 (s.dev.ladder p).reqStep ++ leBytes 1 (s.dev.ladder p).reqSeq ++ leBytes 1 2) := by
  have run : execLadderRequestTimeout p s = .next (s.settle (Dev.raise (s.dev.setLadder p _) ..)) :=
    State.runIf_eq s _ _ (State.powered_of_live h) (by simp [known, out, old])
  obtain ⟨t, done, ladder, event⟩ := State.shows_ladder run rfl rfl
  refine ⟨t, done, ?_⟩
  rw [ladder]
  exact ⟨rfl, rfl, rfl, event⟩

theorem announcement_begins (s : State) (p : Nat) (c : StepChange) (h : s.live = true) (known : p < 8)
    (boundary : s.dev.beat = 0) (clear : s.dev.swapDue = false) (quiet : (s.dev.ladder p).announce = none)
    (pending : (s.dev.ladder p).pendingChange = some c) (due : c.start ≤ s.dev.mfn)
    (rested : settled (s.dev.ladder p).lastTxMfn (s.dev.port p).attr.settleMf s.dev.mfn = true) :
    ∃ t, exec (.ladderAnnounceStart p) s = .next t ∧
      (t.dev.ladder p).announce = some ⟨c.step, s.dev.fc / 256, ((s.dev.ladder p).annSeq + 1) % 256⟩ ∧
      (t.dev.ladder p).pendingChange = none ∧ (t.dev.ladder p).txStep = (s.dev.ladder p).txStep ∧
      s.raisesOne t 0x0305 (objPort p) (leBytes 1 p ++ leBytes 1 c.step ++ leBytes 4 (s.dev.mfn + 8)) := by
  have run : execLadderAnnounceStart p s = _ :=
    State.runIf_eq s _ _ (State.powered_of_live h) (by simp [known, boundary, clear, quiet, pending, due, rested])
  simp only [pending] at run
  obtain ⟨t, done, ladder, event⟩ := State.shows_ladder run rfl rfl
  refine ⟨t, done, ?_⟩
  rw [ladder]
  exact ⟨rfl, rfl, rfl, event⟩

theorem announced_step_applies (s : State) (p : Nat) (a : Announce) (h : s.live = true) (known : p < 8)
    (token : (s.dev.ladder p).tokenMissed = false) (clear : s.dev.swapDue = false)
    (announced : (s.dev.ladder p).announce = some a) (due : a.start + 8 ≤ s.dev.mfn) :
    ∃ t, exec (.ladderStepApply p) s = .next t ∧ (t.dev.ladder p).txStep = a.step ∧ (t.dev.ladder p).announce = none ∧
      (t.dev.ladder p).lastTxMfn = some s.dev.mfn ∧ (t.dev.ladder p).rxStep = (s.dev.ladder p).rxStep ∧
      s.raisesOne t 0x0306 (objPort p) (leBytes 1 p ++ leBytes 1 (s.dev.ladder p).txStep ++ leBytes 1 a.step) := by
  have run : execLadderStepApply p s = _ :=
    State.runIf_eq s _ _ (State.powered_of_live h) (by simp [known, clear, Dev.stepDue, token, announced, due])
  simp only [announced] at run
  obtain ⟨t, done, ladder, event⟩ := State.shows_ladder run rfl rfl
  refine ⟨t, done, ?_⟩
  rw [ladder]
  exact ⟨rfl, rfl, rfl, rfl, event⟩

/-- The ladder with another RX step in force from an MF on (R109, R112). -/
def Ladder.withRxStep (l : Ladder) (k mfn : Nat) : Ladder :=
  { l with rxStep := k, lastRxMfn := some mfn, reqOut := l.reqOut && l.reqStep != k, matchRun := 0 }

theorem Dev.setRxStep_of_ne (d : Dev) (p k code : Nat) (other : k ≠ (d.ladder p).rxStep) :
    d.setRxStep p k code = ((d.setPort p { d.port p with rxAvail := none }).setLadder p
      ((d.ladder p).withRxStep k d.mfn)).raise code (objPort p)
        (leBytes 1 p ++ leBytes 1 (d.ladder p).rxStep ++ leBytes 1 k) :=
  if_neg other

theorem announced_rx_step_applies (s : State) (p k n : Nat) (h : s.live = true) (known : p < 8)
    (announced : (s.dev.ladder p).rxAnn = some (k, n)) (due : n ≤ (s.dev.ladder p).rxMfCount)
    (other : k ≠ (s.dev.ladder p).rxStep) :
    ∃ t, exec (.rxStepApply p) s = .next t ∧ (t.dev.ladder p).rxStep = k ∧ (t.dev.ladder p).rxAnn = none ∧
      s.raisesOne t 0x0307 (objPort p) (leBytes 1 p ++ leBytes 1 (s.dev.ladder p).rxStep ++ leBytes 1 k) := by
  have run : execRxStepApply p s = _ :=
    State.runIf_eq s _ _ (State.powered_of_live h) (by simp [known, announced, due])
  simp only [announced] at run
  rw [Dev.setRxStep_of_ne _ _ _ _ (by simpa [Dev.ladder] using other)] at run
  obtain ⟨t, done, ladder, event⟩ := State.shows_ladder run rfl rfl
  refine ⟨t, done, ?_⟩
  rw [ladder]
  simp only [Dev.ladder, Dev.setLadder_port, if_true] at event ⊢
  exact ⟨rfl, rfl, event⟩

theorem matched_rx_step_applies (s : State) (p : Nat) (h : s.live = true) (known : p < 8)
    (twice : 2 ≤ (s.dev.ladder p).matchRun) (other : (s.dev.ladder p).matchStep ≠ (s.dev.ladder p).rxStep) :
    ∃ t, exec (.rxStepResync p) s = .next t ∧ (t.dev.ladder p).rxStep = (s.dev.ladder p).matchStep ∧
      s.raisesOne t 0x030A (objPort p)
        (leBytes 1 p ++ leBytes 1 (s.dev.ladder p).rxStep ++ leBytes 1 (s.dev.ladder p).matchStep) := by
  have run : execRxStepResync p s = _ :=
    State.runIf_eq s _ _ (State.powered_of_live h) (by simp [known, twice])
  rw [Dev.setRxStep_of_ne _ _ _ _ other] at run
  obtain ⟨t, done, ladder, event⟩ := State.shows_ladder run rfl rfl
  exact ⟨t, done, by rw [ladder]; rfl, event⟩

/-- Settles O24: each step of the ladder by the lemma about its own command. -/
theorem ladderStepsAreAnnouncedAndApplied : Obligations.ladder_steps_are_announced_and_applied :=
  ⟨step_pin_makes_request, request_times_out, announcement_begins, announced_step_applies, announced_rx_step_applies,
    matched_rx_step_applies⟩

end Sys2Proof.Machine

namespace Sys2Proof.Machine

open Sys2Proof

/-! ### The effect of an untimed command (R45) -/

/-- The command that is due runs its effect, and is answered unless a hub unit carries it on. -/
theorem State.exec_effect {s : State} {op : Nat} {w : Waiting} {e : Dev} {st : Nat} {pl : List Byte}
    (due : s.effectDue op w = true) (applied : applyLow s.dev w.cmd = some (e, st, pl)) (ends : st ≠ stGoesOn) :
    exec .untimedCommandEffect s = .next (s.settle (e.finish w st pl)) := by
  simp only [State.effectDue, Bool.and_eq_true, beq_iff_eq, Bool.not_eq_true'] at due
  obtain ⟨⟨⟨⟨live, next⟩, -⟩, object⟩, own⟩ := due
  show execUntimedCommandEffect s = _
  rw [execUntimedCommandEffect, State.run_eq s _ (State.powered_of_live live)]
  simp [next, Dev.effect, own, Dev.effectOf, Dev.applyCmd, object, applied, ends]

theorem State.opcode_of_effectDue {s : State} {op : Nat} {w : Waiting} (due : s.effectDue op w = true) :
    w.cmd.opcode = op := by
  simp only [State.effectDue, Bool.and_eq_true, beq_iff_eq] at due
  obtain ⟨⟨⟨-, opcode⟩, -⟩, -⟩ := due
  exact opcode

/-- Ports and lanes after a command that was answered stand as its effect left them. -/
theorem State.shows_effect {s : State} {op : Nat} {w : Waiting} {e : Dev} {st : Nat} {pl : List Byte}
    (due : s.effectDue op w = true) (applied : applyLow s.dev w.cmd = some (e, st, pl)) (ends : st ≠ stGoesOn) :
    ∃ t, exec .untimedCommandEffect s = .next t ∧ (∀ p, t.dev.port p = e.port p) ∧ (∀ l, t.dev.lane l = e.lane l) := by
  refine ⟨_, State.exec_effect due applied ends, fun p => ?_, fun l => ?_⟩
  · exact congrArg (Tab.get {} · p) (Dev.finish_ports ..)
  · exact congrArg (Tab.get {} · l) (Dev.finish_lanes ..)

/-! ### LP_ENABLE (R115) -/

theorem Dev.freshPort_puts (d : Dev) (p : Nat) (enabled : Bool) :
    ∃ x, d.PutsPort p x (d.freshPort p enabled) ∧ x.enabled = enabled ∧ x.attr = (d.port p).attr := by
  unfold Dev.freshPort
  exact ⟨_, Dev.PutsPort.after (.clearRuns ..) (.set ..), rfl, rfl⟩

theorem Dev.enablePort_puts (d : Dev) (p : Nat) :
    ∃ x, d.PutsPort p x (d.enablePort p) ∧ x.enabled = true ∧ x.attr = (d.port p).attr := by
  unfold Dev.enablePort
  split
  next on => exact ⟨_, .self d p, on, rfl⟩
  next =>
    obtain ⟨x, puts, enabled, attr⟩ := d.freshPort_puts p true
    exact ⟨x, puts.spares (Dev.noteSg_spares ..), enabled, attr⟩

theorem Dev.disablePort_puts (d : Dev) (p : Nat) :
    ∃ x, d.PutsPort p x (d.disablePort p) ∧ x.enabled = false ∧ x.attr = (d.port p).attr := by
  unfold Dev.disablePort
  dsimp only
  split
  next off => exact ⟨_, .self d p, by simpa using off, rfl⟩
  next =>
    obtain ⟨x, puts, enabled, attr⟩ := d.freshPort_puts p false
    have noted := (((Dev.noteSg_spares (d.freshPort p false) p).trans (Dev.noteInput_spares _ (objPort p) layOtu 9 false)).trans
      (Dev.noteInput_spares _ (objPort p) layOduc 11 false)).trans (Dev.noteInput_spares _ (objPort p) layOtu 4 false)
    exact ⟨x, (puts.spares noted).spares (Dev.settlePort_spares ..), enabled, attr⟩

/-- A port whose LCC starts afresh. -/
def LinePort.restartedLcc (x : LinePort) : LinePort :=
  { x with ladder := { x.ladder with fallenBack := false, resumeNext := false, lccBadRun := 0, lccGoodRun := 0 } }

/-- The LCC starts afresh without the port's attributes. -/
theorem Dev.restartLcc_puts (d : Dev) (p : Nat) :
    ∃ x, d.PutsPort p x (d.restartLcc p) ∧ x.enabled = (d.port p).enabled ∧ x.attr = (d.port p).attr := by
  have fresh := Dev.PutsPort.set d p (d.port p).restartedLcc
  have cleared := fresh.trans (Dev.setDlccf_puts _ p false)
  rw [fresh.port] at cleared
  obtain ⟨x, started, enabled, attr⟩ : ∃ x, d.PutsPort p x
      (if (d.port p).attr.lccMode = 0 then (d.setPort p (d.port p).restartedLcc).setDlccf p false
        else d.setPort p (d.port p).restartedLcc) ∧
      x.enabled = (d.port p).enabled ∧ x.attr = (d.port p).attr := by
    split
    · exact ⟨_, cleared, rfl, rfl⟩
    · exact ⟨_, fresh, rfl, rfl⟩
  unfold Dev.restartLcc
  exact ⟨x, (started.spares (.ite (.raise ..))).spares (Dev.settlePort_spares ..), enabled, attr⟩

/-- `ENABLE` acts on the port: 0 disables it, 1 enables it, and anything else leaves it. -/
def Dev.switchPort (d : Dev) (p code : Nat) : Dev :=
  match fallback 2 2 code with
  | 0 => d.disablePort p
  | 1 => d.enablePort p
  | _ => d

theorem Dev.switchPort_puts (d : Dev) (p code : Nat) :
    ∃ x, d.PutsPort p x (d.switchPort p code) ∧ x.attr = (d.port p).attr ∧
      x.enabled = (if code = 0 then false else if code = 1 then true else (d.port p).enabled) := by
  match code with
  | 0 =>
    obtain ⟨x, puts, enabled, attr⟩ := d.disablePort_puts p
    exact ⟨x, puts, attr, enabled⟩
  | 1 =>
    obtain ⟨x, puts, enabled, attr⟩ := d.enablePort_puts p
    exact ⟨x, puts, attr, enabled⟩
  | n + 2 =>
    have neither : fallback 2 2 (n + 2) = 2 := by
      unfold fallback
      split
      · omega
      · rfl
    rw [Dev.switchPort, neither]
    exact ⟨_, .self d p, rfl, rfl⟩

/-- The fields of an LP_ENABLE are written, and the port is enabled or disabled. -/
def Dev.writeEnable (d : Dev) (p : Nat) (c : Cmd) : Dev :=
  (d.setPort p { d.port p with attr := enableAttr (d.port p).attr c }).switchPort p (c.field 0 1)

/-- The LCC starts afresh where its mode changed, or where it had fallen back. -/
theorem Dev.setEnable_eq (d : Dev) (p : Nat) (c : Cmd) : d.setEnable p c =
    if ((d.writeEnable p c).port p).attr.lccMode != (d.port p).attr.lccMode ||
        ((d.writeEnable p c).port p).ladder.fallenBack then (d.writeEnable p c).restartLcc p
    else d.writeEnable p c := rfl

theorem Dev.writeEnable_puts (d : Dev) (p : Nat) (c : Cmd) :
    ∃ x, d.PutsPort p x (d.writeEnable p c) ∧ x.attr = enableAttr (d.port p).attr c ∧
      x.enabled = (if c.field 0 1 = 0 then false else if c.field 0 1 = 1 then true else (d.port p).enabled) := by
  have written := Dev.PutsPort.set d p { d.port p with attr := enableAttr (d.port p).attr c }
  obtain ⟨x, switched, attr, enabled⟩ := Dev.switchPort_puts (d.setPort p _) p (c.field 0 1)
  rw [written.port] at attr enabled
  exact ⟨x, written.trans switched, attr, enabled⟩

theorem Dev.setEnable_puts (d : Dev) (p : Nat) (c : Cmd) :
    ∃ x, d.PutsPort p x (d.setEnable p c) ∧ x.attr = enableAttr (d.port p).attr c ∧
      x.enabled = (if c.field 0 1 = 0 then false else if c.field 0 1 = 1 then true else (d.port p).enabled) := by
  obtain ⟨x, written, attr, enabled⟩ := d.writeEnable_puts p c
  rw [Dev.setEnable_eq]
  split
  · obtain ⟨y, restarted, enabled', attr'⟩ := (d.writeEnable p c).restartLcc_puts p
    rw [written.port] at enabled' attr'
    exact ⟨y, written.trans restarted, attr'.trans attr, enabled'.trans enabled⟩
  · exact ⟨x, written, attr, enabled⟩

theorem lp_enable_takes_effect (s : State) (w : Waiting) (due : s.effectDue 0x0301 w = true)
    (passes : checkLpEnable s.dev w.cmd = none) :
    ∃ t, exec .untimedCommandEffect s = .next t ∧
      (t.dev.port w.cmd.index).enabled =
        (if w.cmd.field 0 1 = 0 then false else if w.cmd.field 0 1 = 1 then true
          else (s.dev.port w.cmd.index).enabled) ∧
      (t.dev.port w.cmd.index).attr.lccMode = (if w.cmd.field 1 1 ≤ 2 then w.cmd.field 1 1 else 2) ∧
      (t.dev.port w.cmd.index).attr.sgfecThr = clamp 1 4_096 (w.cmd.field 2 2) ∧
      (t.dev.port w.cmd.index).attr.flexoGid = clamp 0 0xF_FFFF (w.cmd.field 4 4) ∧
      (t.dev.port w.cmd.index).attr.gidCheck = bit (w.cmd.field 8 1) 0 ∧
      (∀ q, q ≠ w.cmd.index → t.dev.port q = s.dev.port q) := by
  have applied : applyLow s.dev w.cmd = some (s.dev.setEnable w.cmd.index w.cmd, stOk, []) := by
    simp [applyLow, State.opcode_of_effectDue due, applyLpEnable, recheck, passes, okWith]
  obtain ⟨t, run, port, -⟩ := State.shows_effect due applied (by decide)
  obtain ⟨x, puts, attr, enabled⟩ := s.dev.setEnable_puts w.cmd.index w.cmd
  refine ⟨t, run, ?_⟩
  simp only [port, puts.port, attr]
  exact ⟨enabled, rfl, rfl, rfl, rfl, fun q ne => puts.port_of_ne ne⟩

/-! ### LP_LANE_SET (R117) -/

theorem lp_lane_set_takes_effect (s : State) (w : Waiting) (due : s.effectDue 0x0303 w = true) :
    ∃ t, exec .untimedCommandEffect s = .next t ∧
      t.dev.lane w.cmd.index =
        ⟨clamp 0 15 (w.cmd.field 0 1), clamp 0 31 (w.cmd.field 1 1), clamp 0 63 (w.cmd.field 2 1), w.cmd.field 3 1 % 4,
          if w.cmd.field 4 1 ≤ 16 then w.cmd.field 4 1 else 0, bit (w.cmd.field 5 1) 0⟩ ∧
      (∀ l, l ≠ w.cmd.index → t.dev.lane l = s.dev.lane l) := by
  obtain ⟨e, applied, lanes⟩ : ∃ e, applyLow s.dev w.cmd = some (e, stOk, []) ∧
      ∀ l, e.lane l = (s.dev.setLane w.cmd.index (laneAttrOf w.cmd)).lane l := by
    simp only [applyLow, State.opcode_of_effectDue due, applyLpLaneSet]
    split
    · obtain ⟨x, puts, -⟩ := Dev.dropLane_puts (s.dev.setLane w.cmd.index (laneAttrOf w.cmd))
        ((w.cmd.index - 64) / 8) ((w.cmd.index - 64) % 8)
      exact ⟨_, rfl, puts.lane⟩
    · exact ⟨_, rfl, fun _ => rfl⟩
  obtain ⟨t, run, -, lane⟩ := State.shows_effect due applied (by decide)
  refine ⟨t, run, ?_, fun l ne => ?_⟩
  · rw [lane, lanes, Dev.setLane_lane, if_pos rfl]
    rfl
  · rw [lane, lanes, Dev.setLane_lane, if_neg ne]

/-! ### LP_LADDER_POLICY and LP_OTU_OH_SET (R118, R120) -/

theorem lp_ladder_policy_takes_effect (s : State) (w : Waiting) (due : s.effectDue 0x0304 w = true) :
    ∃ t, exec .untimedCommandEffect s = .next t ∧
      (t.dev.port w.cmd.index).attr = { (s.dev.port w.cmd.index).attr with
        accept := if w.cmd.field 0 1 ≤ 2 then w.cmd.field 0 1 else 1
        pin := if w.cmd.field 1 1 ≤ 1 then w.cmd.field 1 1 else 1
        floor := clamp 0 7 (w.cmd.field 2 1), settleMf := clamp 8 65_535 (w.cmd.field 4 2) } ∧
      (t.dev.ladder w.cmd.index) = s.dev.ladder w.cmd.index := by
  have applied : applyLow s.dev w.cmd = some (s.dev.setPort w.cmd.index { s.dev.port w.cmd.index with
      attr := policyAttr (s.dev.port w.cmd.index).attr w.cmd }, stOk, []) := by
    simp [applyLow, State.opcode_of_effectDue due, applyLpLadderPolicy, okWith]
  obtain ⟨t, run, port, -⟩ := State.shows_effect due applied (by decide)
  refine ⟨t, run, ?_⟩
  simp only [Dev.ladder, port, Dev.setPort_port, if_true]
  exact ⟨rfl, trivial⟩

/-- Attributes that an LP_OTU_OH_SET writes. -/
def otuOhAttr (a : LpAttr) (c : Cmd) : LpAttr :=
  { a with timMode := fallback 3 0 (c.field 0 1), force := c.field 1 1 % 4, txTti := sliceAt c.payload 4 64
           expSapi := sliceAt c.payload 68 16, expDapi := sliceAt c.payload 84 16 }

theorem Dev.setSectionTim_puts (d : Dev) (p : Nat) (v : Bool) :
    d.PutsPort p { d.port p with tim := v } (d.setSectionTim p v) := by
  unfold Dev.setSectionTim
  exact (Dev.PutsPort.set d p _).spares (Dev.noteInput_spares ..)

theorem lp_otu_oh_set_takes_effect (s : State) (w : Waiting) (due : s.effectDue 0x0306 w = true) :
    ∃ t, exec .untimedCommandEffect s = .next t ∧
      (t.dev.port w.cmd.index).attr = { (s.dev.port w.cmd.index).attr with
        timMode := if w.cmd.field 0 1 ≤ 3 then w.cmd.field 0 1 else 0, force := w.cmd.field 1 1 % 4
        txTti := sliceAt w.cmd.payload 4 64, expSapi := sliceAt w.cmd.payload 68 16
        expDapi := sliceAt w.cmd.payload 84 16 } := by
  have written := Dev.PutsPort.set s.dev w.cmd.index { s.dev.port w.cmd.index with
    attr := otuOhAttr (s.dev.port w.cmd.index).attr w.cmd }
  have quiet := written.trans (Dev.setSectionTim_puts _ _ false)
  obtain ⟨e, x, applied, puts, attr⟩ : ∃ e x, applyLow s.dev w.cmd = some (e, stOk, []) ∧
      s.dev.PutsPort w.cmd.index x e ∧ x.attr = otuOhAttr (s.dev.port w.cmd.index).attr w.cmd := by
    simp only [applyLow, State.opcode_of_effectDue due, applyLpOtuOhSet]
    split
    · exact ⟨_, _, rfl, quiet, by rw [written.port]⟩
    · exact ⟨_, _, rfl, written, rfl⟩
  obtain ⟨t, run, port, -⟩ := State.shows_effect due applied (by decide)
  refine ⟨t, run, ?_⟩
  rw [port, puts.port, attr]
  rfl

/-! ### LP_LADDER_STEP (R119) -/

theorem lp_ladder_step_takes_effect (s : State) (w : Waiting) (due : s.effectDue 0x0305 w = true)
    (runs : (s.dev.port w.cmd.index).lccRuns = true) (change : w.cmd.field 0 1 ≠ 1)
    (quiet : (s.dev.ladder w.cmd.index).announce = none)
    (other : clamp 0 (s.dev.steps w.cmd.index - 1) (w.cmd.field 1 1) ≠ (s.dev.ladder w.cmd.index).txStep)
    (boundary : s.dev.beat = 0) :
    ∃ t, exec .untimedCommandEffect s = .next t ∧
      (t.dev.ladder w.cmd.index).pendingChange = some
        ⟨clamp 0 (s.dev.steps w.cmd.index - 1) (w.cmd.field 1 1), s.dev.mfn, false, 0⟩ ∧
      (t.dev.ladder w.cmd.index).txStep = (s.dev.ladder w.cmd.index).txStep := by
  have applied : applyLow s.dev w.cmd = some ((s.dev.setLadder w.cmd.index { s.dev.ladder w.cmd.index with
      cmdTaken := some (s.dev.fc, (s.dev.ladder w.cmd.index).finalStep) }).changeStep w.cmd.index
        (clamp 0 (s.dev.steps w.cmd.index - 1) (w.cmd.field 1 1)) s.dev.mfn false 0, stOk, []) := by
    simp [applyLow, State.opcode_of_effectDue due, applyLpLadderStep, recheck, checkLpLadderStep, refuseIf, runs, change,
      other, boundary, okWith]
  rw [Dev.changeStep_of_quiet _ _ _ _ _ _ (by simpa [Dev.ladder] using quiet) (by simpa [Dev.ladder] using other)]
    at applied
  obtain ⟨t, run, port, -⟩ := State.shows_effect due applied (by decide)
  refine ⟨t, run, ?_⟩
  simp only [Dev.ladder, port, Dev.setLadder_port, if_true]
  exact ⟨trivial, trivial⟩

/-- Settles O25: each setting by the lemma about its own effect. -/
theorem linePortSettingsTakeEffect : Obligations.line_port_settings_take_effect :=
  ⟨lp_enable_takes_effect, lp_lane_set_takes_effect, lp_ladder_policy_takes_effect, lp_otu_oh_set_takes_effect,
    lp_ladder_step_takes_effect⟩

end Sys2Proof.Machine

namespace Sys2Proof.Machine

open Sys2Proof

/-! ### Accepted trail traces (R98, R127) -/

theorem section_trace_is_accepted (s : State) (p : Nat) (tti : List Byte) (h : s.live = true) (known : p < 8)
    (enabled : (s.dev.port p).enabled = true) (aligned : (s.dev.port p).mfAligned = true)
    (thrice : 3 ≤ (s.dev.port p).ttiRun) (value : (s.dev.port p).ttiLatest = padTo 64 tti) :
    ∃ t, exec (.ttiAccepted (.sm p) tti) s = .next t ∧ (t.dev.port p).tti = padTo 64 tti ∧
      (t.dev.port p).ttiFc = (if (s.dev.port p).tti = padTo 64 tti then (s.dev.port p).ttiFc else s.dev.fc) ∧
      (t.dev.port p).tim = timOf (s.dev.port p).attr.timMode (padTo 64 tti) (s.dev.port p).attr.expSapi
        (s.dev.port p).attr.expDapi ∧
      (∀ q, q ≠ p → t.dev.port q = s.dev.port q) ∧ t.mem = s.mem ∧ t.bar1 = s.bar1 := by
  have run : execTtiAccepted (.sm p) tti s = .next (s.settle (Dev.setSectionTim (s.dev.setPort p _) p _)) :=
    State.runIf_eq s _ _ (State.powered_of_live h) (by simp [known, enabled, aligned, thrice, value])
  obtain ⟨t, done, port, rest⟩ := State.shows_puts h run ((Dev.PutsPort.set ..).trans (Dev.setSectionTim_puts ..))
  refine ⟨t, done, ?_⟩
  simp only [port, Dev.setPort_port, if_true]
  exact ⟨trivial, trivial, trivial, rest⟩

@[simp] theorem Dev.noteInput_odu (d : Dev) (obj l i : Nat) (v : Bool) : (d.noteInput obj l i v).odu = d.odu := by
  unfold Dev.noteInput
  dsimp only
  split
  · rfl
  · split <;> rfl

/-- From `d` to `e` one level of one object's overhead changes, to `x`; every other object stands as it did. -/
structure Dev.PutsLevel (d : Dev) (obj flow level : Nat) (x : LevelState) (e : Dev) : Prop extends Dev.Reports d e where
  level : (e.oduOf obj).level flow level = x
  others : ∀ o, o ≠ obj → e.oduOf o = d.oduOf o

namespace Dev.PutsLevel

variable {d e f : Dev} {obj flow level : Nat} {x y : LevelState}

theorem set (d : Dev) (obj flow level : Nat) (x : LevelState) : d.PutsLevel obj flow level x (d.setLevel obj flow level x) :=
  ⟨.of_eq rfl rfl rfl, by simp [Dev.setLevel, OduState.level, Tab.get_set_self], fun o ne => by simp [Dev.setLevel, ne]⟩

theorem spares (h : d.PutsLevel obj flow level x e) (g : e.Reports f) (odu : f.odu = e.odu) :
    d.PutsLevel obj flow level x f :=
  ⟨h.toReports.trans g, by rw [Dev.oduOf, odu]; exact h.level, fun o ne => by rw [Dev.oduOf, odu]; exact h.others o ne⟩

theorem trans (h : d.PutsLevel obj flow level x e) (g : e.PutsLevel obj flow level y f) : d.PutsLevel obj flow level y f :=
  ⟨h.toReports.trans g.toReports, g.level, fun o ne => (g.others o ne).trans (h.others o ne)⟩

end Dev.PutsLevel

theorem Dev.setTim_puts (d : Dev) (obj flow level : Nat) (v : Bool) :
    d.PutsLevel obj flow level { (d.oduOf obj).level flow level with tim := v } (d.setTim obj flow level v) := by
  unfold Dev.setTim
  exact (Dev.PutsLevel.set ..).spares (Dev.noteInput_spares ..).toReports (Dev.noteInput_odu ..)

/-- A TTI is new to a level that has none, or another. -/
def LevelState.newTti (x : LevelState) (tti : List Byte) : Bool := !x.hasTti || x.accepted != tti

/-- A level that has accepted a TTI. -/
def LevelState.acceptTti (x : LevelState) (tti : List Byte) (fc : Nat) (tim : Bool) : LevelState :=
  { x with accepted := tti, hasTti := true, acceptFc := if x.newTti tti then fc else x.acceptFc, tim := tim }

/-- The TIM indication that a TTI gives a level by its mode and its expected values. -/
def LevelAttr.timOn (a : LevelAttr) (tti : List Byte) : Bool := timOf a.timMode tti a.expSapi a.expDapi

/-- A level accepts a TTI, before a new one is reported. -/
def Dev.takeTti (d : Dev) (obj flow level : Nat) (tti : List Byte) : Dev :=
  let x := (d.oduOf obj).level flow level
  (d.setLevel obj flow level { x with
    accepted := tti, hasTti := true, acceptFc := if x.newTti tti then d.fc else x.acceptFc }).setTim obj flow level
      (((d.oduOf obj).attr flow level).timOn tti)

theorem Dev.acceptTti_eq (d : Dev) (obj flow level : Nat) (tti : List Byte) :
    d.acceptTti obj flow level tti = if ((d.oduOf obj).level flow level).newTti tti then
      (d.takeTti obj flow level tti).raise 0x0401 obj (leBytes 4 obj ++ leBytes 1 flow ++ leBytes 1 level)
    else d.takeTti obj flow level tti := rfl

theorem Dev.takeTti_puts (d : Dev) (obj flow level : Nat) (tti : List Byte) :
    d.PutsLevel obj flow level (((d.oduOf obj).level flow level).acceptTti tti d.fc
      (((d.oduOf obj).attr flow level).timOn tti)) (d.takeTti obj flow level tti) := by
  have taken := Dev.PutsLevel.set d obj flow level { (d.oduOf obj).level flow level with
    accepted := tti, hasTti := true
    acceptFc := if ((d.oduOf obj).level flow level).newTti tti then d.fc else ((d.oduOf obj).level flow level).acceptFc }
  have judged := taken.trans (Dev.setTim_puts _ obj flow level (((d.oduOf obj).attr flow level).timOn tti))
  rw [taken.level] at judged
  exact judged

theorem Dev.acceptTti_puts (d : Dev) (obj flow level : Nat) (tti : List Byte) :
    d.PutsLevel obj flow level (((d.oduOf obj).level flow level).acceptTti tti d.fc
      (((d.oduOf obj).attr flow level).timOn tti)) (d.acceptTti obj flow level tti) := by
  rw [Dev.acceptTti_eq]
  split
  · exact (d.takeTti_puts ..).spares (.raise ..) rfl
  · exact d.takeTti_puts ..

theorem Dev.acceptTti_event (d : Dev) (obj flow level : Nat) (tti : List Byte)
    (new : ((d.oduOf obj).level flow level).newTti tti = true) :
    d.eventOf 0x0401 obj (leBytes 4 obj ++ leBytes 1 flow ++ leBytes 1 level) ∈
      (d.acceptTti obj flow level tti).log.arising := by
  rw [Dev.acceptTti_eq, if_pos new]
  exact (d.takeTti_puts obj flow level tti).toReports.event (.refl _)

@[simp] theorem Dev.raise_oduOf (d : Dev) (code obj : Nat) (l : List Byte) (o : Nat) :
    (d.raise code obj l).oduOf o = d.oduOf o := rfl

@[simp] theorem State.settle_oduOf (s : State) (d : Dev) (o : Nat) : (s.settle d).dev.oduOf o = d.oduOf o := rfl

theorem level_trace_is_accepted (s : State) (obj flow level : Nat) (tti : List Byte) (h : s.live = true)
    (reads : s.dev.readsLevel obj flow level = true) (thrice : 3 ≤ ((s.dev.oduOf obj).level flow level).ttiRun)
    (value : ((s.dev.oduOf obj).level flow level).latest = padTo 64 tti) :
    ∃ t, exec (.ttiAccepted (.level obj flow level) tti) s = .next t ∧
      ((t.dev.oduOf obj).level flow level).accepted = padTo 64 tti ∧
      ((t.dev.oduOf obj).level flow level).hasTti = true ∧
      ((t.dev.oduOf obj).level flow level).tim =
        timOf ((s.dev.oduOf obj).attr flow level).timMode (padTo 64 tti) ((s.dev.oduOf obj).attr flow level).expSapi
          ((s.dev.oduOf obj).attr flow level).expDapi ∧
      ((((s.dev.oduOf obj).level flow level).hasTti = false ∨
          ((s.dev.oduOf obj).level flow level).accepted ≠ padTo 64 tti) →
        ((t.dev.oduOf obj).level flow level).acceptFc = s.dev.fc ∧
        s.dev.eventOf 0x0401 obj (leBytes 4 obj ++ leBytes 1 flow ++ leBytes 1 level) ∈ t.dev.log.arising) ∧
      (∀ o, o ≠ obj → t.dev.oduOf o = s.dev.oduOf o) ∧ t.mem = s.mem ∧ t.bar1 = s.bar1 := by
  have run : execTtiAccepted (.level obj flow level) tti s =
      .next (s.settle (s.dev.acceptTti obj flow level (padTo 64 tti))) :=
    State.runIf_eq s _ _ (State.powered_of_live h) (by simp [reads, thrice, value])
  have puts := s.dev.acceptTti_puts obj flow level (padTo 64 tti)
  refine ⟨_, run, ?_⟩
  simp only [State.settle_oduOf, puts.level]
  refine ⟨rfl, rfl, rfl, fun other => ?_, puts.others, rfl, State.settle_bar1_of_live h puts.out⟩
  have new : ((s.dev.oduOf obj).level flow level).newTti (padTo 64 tti) = true := by
    simpa [LevelState.newTti] using other
  exact ⟨by simp [LevelState.acceptTti, new], (s.mem_settle_arising ..).mpr (s.dev.acceptTti_event _ _ _ _ new)⟩

/-! ### The order of two events of one step (R402) -/

theorem sliceAt_length (l : List Byte) (i n : Nat) : (sliceAt l i n).length = n := by
  induction n generalizing i with
  | zero => rfl
  | succ n ih => simp [sliceAt, ih]

theorem leNat_lt (l : List Byte) : leNat l < 2 ^ (8 * l.length) := by
  induction l with
  | nil => simp [leNat]
  | cons b t ih =>
    have byte := b.isLt
    rw [List.length_cons, Nat.mul_add, Nat.pow_add, leNat]
    omega

/-- Twelve bytes of data do not outweigh object and code. -/
theorem beNat_padTo_lt (l : List Byte) : beNat (padTo 12 l) < 2 ^ 96 := by
  have lt := leNat_lt (padTo 12 l).reverse
  rwa [List.length_reverse, padTo, sliceAt_length] at lt

/-- Of two events about one object the one of the lower code comes first. -/
theorem Dev.eventOf_key_lt (d : Dev) {low high : Nat} (obj : Nat) (l r : List Byte) (lt : low < high) :
    (d.eventOf low obj l).key < (d.eventOf high obj r).key := by
  have data : beNat (d.eventOf low obj l).data < 2 ^ 96 := beNat_padTo_lt l
  have code : (d.eventOf low obj l).code < (d.eventOf high obj r).code := lt
  have same : (d.eventOf low obj l).obj = (d.eventOf high obj r).obj := rfl
  unfold Event.key
  rw [same]
  omega

theorem sortBy_pair_of_lt {α : Type} (f : α → Nat) (a b : α) (lt : f b < f a) : sortBy f [a, b] = [b, a] := by
  simp [sortBy, insertBy, lt]

/-- A command that raises two events, the later of which is logged first. -/
theorem State.settle_arising_swapped (s : State) (d : Dev) (a b : Event) (two : d.log.arising = s.dev.log.arising ++ [a, b])
    (lt : b.key < a.key) : (s.settle d).dev.log.arising = s.dev.log.arising ++ [b, a] := by
  simp [two, sortBy_pair_of_lt Event.key a b lt]

/-! ### DM_MEASURE_DONE (R132) -/

/-- The measurement ends with its result, and the level loops back again. -/
def Delay.ended (x : Delay) : Delay :=
  { x with mode := 1, measuring := false, result := if x.matched then x.count else max32 }

/-- The level's measurement ends, before it is reported. -/
def Dev.endMeasure (d : Dev) (obj level : Nat) : Dev :=
  d.setOdu obj { d.oduOf obj with delay := Tab.set (d.oduOf obj).delay level ((d.oduOf obj).dm level).ended }

theorem Dev.endMeasure_dm (d : Dev) (obj level : Nat) :
    ((d.endMeasure obj level).oduOf obj).dm level = ((d.oduOf obj).dm level).ended := by
  simp [Dev.endMeasure, OduState.dm, Tab.get_set_self]

theorem exec_dmMeasureDone (s : State) (obj level : Nat) (h : s.live = true) (known : level < 7)
    (measuring : ((s.dev.oduOf obj).dm level).measuring = true)
    (ends : ((s.dev.oduOf obj).dm level).matched = true ∨ 65_535 ≤ ((s.dev.oduOf obj).dm level).count) :
    exec (.dmMeasureDone obj level) s = .next (s.settle (((s.dev.endMeasure obj level).raise 0x0404 obj
        (leBytes 4 obj ++ leBytes 1 level ++ leBytes 4 ((s.dev.oduOf obj).dm level).ended.result)).raise 0x0402 obj
          (leBytes 4 obj ++ leBytes 1 0 ++ leBytes 1 level ++
            leBytes 1 (oduMode (s.dev.oduKind obj) (s.dev.oduOf obj) 0 level)))) := by
  show execDmMeasureDone obj level s = _
  rw [execDmMeasureDone, State.runIf_eq s _ _ (State.powered_of_live h) (by simpa [known, measuring] using ends)]
  rfl

theorem delay_measurement_ends (s : State) (obj level : Nat) (h : s.live = true) (known : level < 7)
    (measuring : ((s.dev.oduOf obj).dm level).measuring = true)
    (ends : ((s.dev.oduOf obj).dm level).matched = true ∨ 65_535 ≤ ((s.dev.oduOf obj).dm level).count) :
    ∃ t, exec (.dmMeasureDone obj level) s = .next t ∧
      (t.dev.oduOf obj).dm level = { (s.dev.oduOf obj).dm level with
        mode := 1, measuring := false, result := ((t.dev.oduOf obj).dm level).result } ∧
      ((t.dev.oduOf obj).dm level).result =
        (if ((s.dev.oduOf obj).dm level).matched = true
          then ((s.dev.oduOf obj).dm level).count else 0xFFFF_FFFF) ∧
      t.dev.log.arising = s.dev.log.arising ++
        [s.dev.eventOf 0x0402 obj (leBytes 4 obj ++ leBytes 1 0 ++ leBytes 1 level ++
           leBytes 1 (oduMode (s.dev.oduKind obj) (s.dev.oduOf obj) 0 level)),
         s.dev.eventOf 0x0404 obj (leBytes 4 obj ++ leBytes 1 level ++ leBytes 4 ((t.dev.oduOf obj).dm level).result)] ∧
      (∀ o, o ≠ obj → t.dev.oduOf o = s.dev.oduOf o) ∧ t.mem = s.mem ∧ t.bar1 = s.bar1 := by
  refine ⟨_, exec_dmMeasureDone s obj level h known measuring ends, ?_⟩
  simp only [State.settle_oduOf, Dev.raise_oduOf, Dev.endMeasure_dm]
  refine ⟨rfl, rfl, ?_, fun o ne => by simp [Dev.endMeasure, ne], rfl, State.settle_bar1_of_live h (by simp [Dev.endMeasure])⟩
  exact State.settle_arising_swapped s _ _ _ (by simp; rfl) (s.dev.eventOf_key_lt _ _ _ (by decide))

/-- Settles O26: a port's trace, a level's trace and a delay measurement each by the lemma about its own command. -/
theorem tracesAndDelayMeasurementsComplete : Obligations.traces_and_delay_measurements_complete :=
  ⟨section_trace_is_accepted, level_trace_is_accepted, delay_measurement_ends⟩

end Sys2Proof.Machine

namespace Sys2Proof.Machine

open Sys2Proof

/-! ### Attributes, modes and delays of an object's levels (R128, R132) -/

@[simp] theorem Dev.finish_oduOf (d : Dev) (w : Waiting) (st : Nat) (pl : List Byte) (o : Nat) :
    (d.finish w st pl).oduOf o = d.oduOf o := by
  rw [Dev.oduOf, Dev.finish_odu, Dev.oduOf]

/-- An object's overhead after a command that was answered stands as its effect left it. -/
theorem State.shows_odu {s : State} {op : Nat} {w : Waiting} {e : Dev} {st : Nat} {pl : List Byte}
    (due : s.effectDue op w = true) (applied : applyLow s.dev w.cmd = some (e, st, pl)) (ends : st ≠ stGoesOn) :
    ∃ t, exec .untimedCommandEffect s = .next t ∧ ∀ o, t.dev.oduOf o = e.oduOf o :=
  ⟨_, State.exec_effect due applied ends, Dev.finish_oduOf e w st pl⟩

theorem clamp_le {lo hi : Nat} (v : Nat) (ordered : lo ≤ hi) : clamp lo hi v ≤ hi := by
  unfold clamp
  split
  · exact ordered
  · split <;> omega

/-- Two levels of flows share a key only where both are the same. -/
theorem levelKey_inj {f g k l : Nat} (hk : k < 8) (hl : l < 8) : levelKey f k = levelKey g l ↔ f = g ∧ k = l := by
  unfold levelKey
  omega

/-- An object with the attributes of one level of a flow written. -/
def OduState.setAttr (o : OduState) (flow level : Nat) (a : LevelAttr) : OduState :=
  { o with attrs := Tab.set o.attrs (levelKey flow level) a }

@[simp] theorem OduState.setAttr_attr_self (o : OduState) (flow level : Nat) (a : LevelAttr) :
    (o.setAttr flow level a).attr flow level = a :=
  Tab.get_set_self ..

theorem OduState.setAttr_attr_of_ne (o : OduState) {flow level f k : Nat} (a : LevelAttr) (hk : k < 8) (hl : level < 8)
    (ne : ¬(f = flow ∧ k = level)) : (o.setAttr flow level a).attr f k = o.attr f k :=
  Tab.get_set_of_ne _ _ _ _ _ (mt (levelKey_inj hk hl).mp ne)

/-- An object with the delay measurement of one level written. -/
def OduState.setDm (o : OduState) (level : Nat) (x : Delay) : OduState := { o with delay := Tab.set o.delay level x }

@[simp] theorem OduState.setDm_dm_self (o : OduState) (level : Nat) (x : Delay) : (o.setDm level x).dm level = x :=
  Tab.get_set_self ..

theorem Delay.setMode_mode (x : Delay) (mode : Nat) : (x.setMode mode).mode = mode := by
  unfold Delay.setMode
  split
  next measure => exact measure.symm
  next => rfl

/-! ### ODU_TTI_SET (R136) -/

/-- The indication of a level is not among the attributes. -/
theorem Dev.setTim_attr (d : Dev) (obj flow level : Nat) (v : Bool) (f k : Nat) :
    ((d.setTim obj flow level v).oduOf obj).attr f k = (d.oduOf obj).attr f k := by
  simp [Dev.setTim, Dev.oduOf, OduState.attr, Dev.setLevel, Dev.setOdu, Tab.get_set_self]

/-- Attributes that an ODU_TTI_SET writes. -/
def ttiAttr (a : LevelAttr) (c : Cmd) : LevelAttr :=
  { a with timMode := fallback 3 0 (c.field 2 1), txTti := sliceAt c.payload 4 64
           expSapi := sliceAt c.payload 68 16, expDapi := sliceAt c.payload 84 16 }

/-- The attributes of the level are written, whether or not its indication is cleared. -/
theorem Dev.applyOduTtiSet_writes (d : Dev) (c : Cmd) {level flow : Nat} (lv : level = clamp 0 6 (c.field 0 1))
    (fl : flow = fallback 1 0 (c.field 1 1)) :
    ∃ e, applyOduTtiSet d c = (e, stOk, []) ∧
      (∀ f k, (e.oduOf c.object).attr f k =
        ((d.oduOf c.object).setAttr flow level (ttiAttr ((d.oduOf c.object).attr flow level) c)).attr f k) ∧
      (∀ o, o ≠ c.object → e.oduOf o = d.oduOf o) := by
  subst lv fl
  simp only [applyOduTtiSet, okWith]
  split
  · refine ⟨_, rfl, fun f k => ?_, fun o ne => ?_⟩
    · rw [Dev.setTim_attr, Dev.setOdu_oduOf, if_pos rfl]
      rfl
    · rw [(Dev.setTim_puts ..).others o ne, Dev.setOdu_oduOf, if_neg ne]
  · refine ⟨_, rfl, fun f k => ?_, fun o ne => ?_⟩
    · rw [Dev.setOdu_oduOf, if_pos rfl]
      rfl
    · rw [Dev.setOdu_oduOf, if_neg ne]

theorem odu_tti_set_takes_effect (s : State) (w : Waiting) (level flow : Nat) (due : s.effectDue 0x0401 w = true)
    (lv : level = clamp 0 6 (w.cmd.field 0 1)) (fl : flow = (if w.cmd.field 1 1 ≤ 1 then w.cmd.field 1 1 else 0)) :
    ∃ t, exec .untimedCommandEffect s = .next t ∧
      (t.dev.oduOf w.cmd.object).attr flow level = { (s.dev.oduOf w.cmd.object).attr flow level with
        timMode := if w.cmd.field 2 1 ≤ 3 then w.cmd.field 2 1 else 0, txTti := sliceAt w.cmd.payload 4 64,
        expSapi := sliceAt w.cmd.payload 68 16, expDapi := sliceAt w.cmd.payload 84 16 } ∧
      (∀ f k, (f < 2 ∧ k < 8) → ¬(f = flow ∧ k = level) →
        (t.dev.oduOf w.cmd.object).attr f k = (s.dev.oduOf w.cmd.object).attr f k) ∧
      (∀ o, o ≠ w.cmd.object → t.dev.oduOf o = s.dev.oduOf o) := by
  obtain ⟨e, effect, attr, others⟩ := s.dev.applyOduTtiSet_writes w.cmd lv fl
  have applied : applyLow s.dev w.cmd = some (e, stOk, []) := by
    simp [applyLow, State.opcode_of_effectDue due, effect]
  have bounded : level ≤ 6 := lv ▸ clamp_le _ (by decide)
  obtain ⟨t, run, odu⟩ := State.shows_odu due applied (by decide)
  refine ⟨t, run, ?_, fun f k known ne => ?_, fun o ne => (odu o).trans (others o ne)⟩
  · rw [odu, attr, OduState.setAttr_attr_self]
    rfl
  · rw [odu, attr, OduState.setAttr_attr_of_ne _ _ known.2 (by omega) ne]

/-! ### Modes come into force (R128, R137) -/

@[simp] theorem Dev.clearLevel_odu (d : Dev) (obj flow level : Nat) : (d.clearLevel obj flow level).odu = d.odu := by
  simp [Dev.clearLevel]

/-- Mode in force of a level of a flow of an object. -/
def Dev.modeInForce (d : Dev) (obj flow k : Nat) : Nat := Tab.get 0 (d.oduOf obj).inForce (levelKey flow k)

/-- An object one of whose levels enters the mode set for it. -/
def OduState.enterMode (o : OduState) (flow k : Nat) : OduState :=
  { o with inForce := Tab.set o.inForce (levelKey flow k) (o.attr flow k).mode
           levels := Tab.set o.levels (levelKey flow k) ((o.level flow k).enter (o.attr flow k).txTti) }

/-- The mode set for one level of a flow comes into force: one turn of `Dev.applyModes`. -/
def Dev.applyMode (d : Dev) (obj flow k : Nat) : Dev :=
  if d.modeInForce obj flow k = ((d.oduOf obj).attr flow k).mode then d
  else ((d.setOdu obj ((d.oduOf obj).enterMode flow k)).clearLevel obj flow k).raise 0x0402 obj
    (leBytes 4 obj ++ leBytes 1 flow ++ leBytes 1 k ++ leBytes 1 ((d.oduOf obj).attr flow k).mode)

theorem Dev.applyModes_eq (d : Dev) (obj flow : Nat) :
    d.applyModes obj flow = [1, 2, 3, 4, 5, 6].foldl (fun d k => d.applyMode obj flow k) d := rfl

theorem Dev.applyMode_oduOf_of_ne (d : Dev) (obj flow k : Nat)
    (other : d.modeInForce obj flow k ≠ ((d.oduOf obj).attr flow k).mode) :
    (d.applyMode obj flow k).oduOf obj = (d.oduOf obj).enterMode flow k := by
  rw [Dev.applyMode, if_neg other, Dev.raise_oduOf, Dev.oduOf, Dev.clearLevel_odu]
  exact (Dev.setOdu_oduOf ..).trans (if_pos rfl)

theorem Dev.applyMode_of_eq (d : Dev) (obj flow k : Nat)
    (same : d.modeInForce obj flow k = ((d.oduOf obj).attr flow k).mode) : d.applyMode obj flow k = d :=
  if_pos same

@[simp] theorem Dev.applyMode_attr (d : Dev) (obj flow k f j : Nat) :
    ((d.applyMode obj flow k).oduOf obj).attr f j = (d.oduOf obj).attr f j := by
  by_cases same : d.modeInForce obj flow k = ((d.oduOf obj).attr flow k).mode
  · rw [d.applyMode_of_eq _ _ _ same]
  · rw [d.applyMode_oduOf_of_ne _ _ _ same]
    rfl

theorem Dev.applyMode_modeInForce (d : Dev) (obj flow : Nat) {j k : Nat} (hj : j < 8) (hk : k < 8) :
    (d.applyMode obj flow k).modeInForce obj flow j =
      if j = k then ((d.oduOf obj).attr flow k).mode else d.modeInForce obj flow j := by
  by_cases same : d.modeInForce obj flow k = ((d.oduOf obj).attr flow k).mode
  · rw [d.applyMode_of_eq _ _ _ same]
    split
    next at_level => rw [at_level, same]
    next => rfl
  · rw [Dev.modeInForce, d.applyMode_oduOf_of_ne _ _ _ same, OduState.enterMode, Tab.get_set]
    simp [levelKey_inj hj hk, Dev.modeInForce]

/-- After the levels of a list have taken their modes, each of them is in the mode set, and every other as it was. -/
theorem Dev.applyMode_foldl (d : Dev) (obj flow : Nat) {j : Nat} (hj : j < 8) (l : List Nat) (known : ∀ k ∈ l, k < 8) :
    (l.foldl (fun d k => d.applyMode obj flow k) d).modeInForce obj flow j =
      if j ∈ l then ((d.oduOf obj).attr flow j).mode else d.modeInForce obj flow j := by
  induction l generalizing d with
  | nil => rfl
  | cons k l ih =>
    rw [List.foldl_cons, ih _ fun i mem => known i (List.mem_cons_of_mem k mem), Dev.applyMode_attr,
      d.applyMode_modeInForce obj flow hj (known k List.mem_cons_self)]
    by_cases later : j ∈ l
    · simp [later]
    · by_cases now : j = k
      · simp [now]
      · simp [later, now]

/-- As a flow's frame begins, each TCM level of the flow comes into the mode set for it. -/
theorem Dev.applyModes_inForce (d : Dev) (obj flow : Nat) {k : Nat} (first : 1 ≤ k) (last : k ≤ 6) :
    Tab.get 0 ((d.applyModes obj flow).oduOf obj).inForce (levelKey flow k) = ((d.oduOf obj).attr flow k).mode := by
  have listed : k ∈ [1, 2, 3, 4, 5, 6] := by
    simp only [List.mem_cons, List.not_mem_nil]
    omega
  have modes := d.applyMode_foldl obj flow (by omega : k < 8) [1, 2, 3, 4, 5, 6] (by decide)
  rw [if_pos listed] at modes
  rw [Dev.applyModes_eq]
  exact modes

/-! ### ODU_TCM_SET (R137) -/

/-- Attributes that an ODU_TCM_SET writes. -/
def tcmAttr (a : LevelAttr) (c : Cmd) : LevelAttr :=
  { a with mode := fallback 3 0 (c.field 2 1), clearAtSink := bit (c.field 3 1) 0 }

/-- The delay mode of a level is set; a TCM level takes its attributes too, and an express channel its back channel. -/
def OduState.takeTcm (o : OduState) (kind flow level : Nat) (c : Cmd) : OduState :=
  let o' := o.setDm level ((o.dm level).setMode (fallback 2 0 (c.field 4 1)))
  if level = 0 then o' else
    { o'.setAttr flow level (tcmAttr (o.attr flow level) c) with backCh := if kind = 2 then c.field 6 2 else o.backCh }

theorem OduState.takeTcm_attr (o : OduState) (kind flow : Nat) {level : Nat} (c : Cmd) (tcm : level ≠ 0) :
    (o.takeTcm kind flow level c).attr flow level = tcmAttr (o.attr flow level) c := by
  rw [OduState.takeTcm, if_neg tcm]
  exact OduState.setAttr_attr_self ..

theorem OduState.takeTcm_attrs (o : OduState) (kind flow : Nat) (c : Cmd) :
    (o.takeTcm kind flow 0 c).attrs = o.attrs := rfl

theorem OduState.takeTcm_dm (o : OduState) (kind flow level : Nat) (c : Cmd) :
    (o.takeTcm kind flow level c).dm level = (o.dm level).setMode (fallback 2 0 (c.field 4 1)) := by
  unfold OduState.takeTcm
  split <;> exact OduState.setDm_dm_self ..

theorem OduState.takeTcm_inForce (o : OduState) (kind flow level : Nat) (c : Cmd) :
    (o.takeTcm kind flow level c).inForce = o.inForce := by
  unfold OduState.takeTcm
  split <;> rfl

/-- The object takes the setting, whether or not a change of the delay mode is reported. -/
theorem Dev.applyOduTcmSet_writes (d : Dev) (c : Cmd) {level flow : Nat} (passes : checkOduTcmSet d c = none)
    (lv : level = clamp 0 6 (c.field 0 1)) (fl : flow = fallback 1 0 (c.field 1 1)) :
    ∃ e, applyOduTcmSet d c = (e, stOk, []) ∧ ∀ o, e.oduOf o =
      (d.setOdu c.object ((d.oduOf c.object).takeTcm (d.oduKind c.object) flow level c)).oduOf o := by
  subst lv fl
  simp only [applyOduTcmSet, passes, recheck, okWith]
  split
  · exact ⟨_, rfl, fun o => Dev.raise_oduOf ..⟩
  · exact ⟨_, rfl, fun o => rfl⟩

theorem odu_tcm_set_takes_effect (s : State) (w : Waiting) (level flow : Nat) (due : s.effectDue 0x0402 w = true)
    (passes : checkOduTcmSet s.dev w.cmd = none) (lv : level = clamp 0 6 (w.cmd.field 0 1))
    (fl : flow = (if w.cmd.field 1 1 ≤ 1 then w.cmd.field 1 1 else 0)) :
    ∃ t, exec .untimedCommandEffect s = .next t ∧
      (level ≠ 0 → ((t.dev.oduOf w.cmd.object).attr flow level).mode =
          (if w.cmd.field 2 1 ≤ 3 then w.cmd.field 2 1 else 0) ∧
        ((t.dev.oduOf w.cmd.object).attr flow level).clearAtSink = bit (w.cmd.field 3 1) 0) ∧
      (level = 0 → (t.dev.oduOf w.cmd.object).attrs = (s.dev.oduOf w.cmd.object).attrs) ∧
      ((t.dev.oduOf w.cmd.object).dm level).mode = (if w.cmd.field 4 1 ≤ 2 then w.cmd.field 4 1 else 0) ∧
      (w.cmd.field 4 1 = 2 → ((t.dev.oduOf w.cmd.object).dm level).measuring = true ∧
        ((t.dev.oduOf w.cmd.object).dm level).count = 0 ∧
        ((t.dev.oduOf w.cmd.object).dm level).txBit = !((s.dev.oduOf w.cmd.object).dm level).sentBit) ∧
      (t.dev.oduOf w.cmd.object).inForce = (s.dev.oduOf w.cmd.object).inForce ∧
      (level ≠ 0 → ∀ k, 1 ≤ k → k ≤ 6 →
        Tab.get 0 ((t.dev.applyModes w.cmd.object flow).oduOf w.cmd.object).inForce (levelKey flow k) =
          ((t.dev.oduOf w.cmd.object).attr flow k).mode) ∧
      (∀ o, o ≠ w.cmd.object → t.dev.oduOf o = s.dev.oduOf o) := by
  obtain ⟨e, effect, odu'⟩ := s.dev.applyOduTcmSet_writes w.cmd passes lv fl
  have applied : applyLow s.dev w.cmd = some (e, stOk, []) := by
    simp [applyLow, State.opcode_of_effectDue due, effect]
  obtain ⟨t, run, odu⟩ := State.shows_odu due applied (by decide)
  have own := ((odu w.cmd.object).trans (odu' w.cmd.object)).trans ((Dev.setOdu_oduOf ..).trans (if_pos rfl))
  refine ⟨t, run, fun tcm => ?_, fun pm => ?_, ?_, fun measure => ?_, ?_,
    fun _ k first last => t.dev.applyModes_inForce _ flow first last, fun o ne => ?_⟩
  · rw [own, OduState.takeTcm_attr _ _ _ _ tcm]
    exact ⟨rfl, rfl⟩
  · rw [own, pm, OduState.takeTcm_attrs]
  · rw [own, OduState.takeTcm_dm, Delay.setMode_mode]
    rfl
  · rw [own, OduState.takeTcm_dm, measure]
    exact ⟨rfl, rfl, rfl⟩
  · rw [own, OduState.takeTcm_inForce]
  · rw [odu, odu', Dev.setOdu_oduOf, if_neg ne]

/-! ### ODU_OH_WRITE (R138) -/

/-- OP is 0, or taken for 1. -/
theorem op_sets_iff (op : Nat) : fallback 1 1 op = 0 ↔ op = 0 := by
  unfold fallback
  split <;> omega

/-- An object one of whose raw fields is set or released. -/
def OduState.writeRaw (o : OduState) (c : Cmd) : OduState :=
  let put := fun (t : Tab (List Byte)) (k n : Nat) =>
    if fallback 1 1 (c.field 1 1) = 0 then Tab.set t k (sliceAt c.payload 8 n) else Tab.drop t k
  match fallback 4 0 (c.field 0 1) with
  | 1 => { o with rawExp := if fallback 1 1 (c.field 1 1) = 0 then some (sliceAt c.payload 8 2) else none }
  | 2 => { o with rawRes := if fallback 1 1 (c.field 1 1) = 0 then some (sliceAt c.payload 8 9) else none }
  | 3 => { o with rawAps := put o.rawAps (clamp 0 7 (c.field 2 1)) 4 }
  | 4 => { o with rawFtfl := put o.rawFtfl (clamp 0 1 (c.field 3 1)) 128 }
  | _ => o

theorem applyOduOhWrite_eq (d : Dev) (c : Cmd) (passes : checkOduOhWrite d c = none) :
    applyOduOhWrite d c = (d.setOdu c.object ((d.oduOf c.object).writeRaw c), stOk, []) := by
  rw [applyOduOhWrite, passes]
  rfl

theorem odu_oh_write_takes_effect (s : State) (w : Waiting) (due : s.effectDue 0x0403 w = true)
    (passes : checkOduOhWrite s.dev w.cmd = none) :
    ∃ t, exec .untimedCommandEffect s = .next t ∧
      (w.cmd.field 0 1 = 1 → t.dev.oduOf w.cmd.object = { s.dev.oduOf w.cmd.object with
        rawExp := if w.cmd.field 1 1 = 0 then some (sliceAt w.cmd.payload 8 2) else none }) ∧
      (w.cmd.field 0 1 = 2 → t.dev.oduOf w.cmd.object = { s.dev.oduOf w.cmd.object with
        rawRes := if w.cmd.field 1 1 = 0 then some (sliceAt w.cmd.payload 8 9) else none }) ∧
      (w.cmd.field 0 1 = 3 → w.cmd.field 1 1 = 0 →
        Tab.get [] (t.dev.oduOf w.cmd.object).rawAps (clamp 0 7 (w.cmd.field 2 1)) = sliceAt w.cmd.payload 8 4) ∧
      (w.cmd.field 0 1 = 4 → w.cmd.field 1 1 = 0 →
        Tab.get [] (t.dev.oduOf w.cmd.object).rawFtfl (clamp 0 1 (w.cmd.field 3 1)) = sliceAt w.cmd.payload 8 128) ∧
      (w.cmd.field 0 1 = 0 → t.dev.oduOf w.cmd.object = s.dev.oduOf w.cmd.object) ∧
      (∀ o, o ≠ w.cmd.object → t.dev.oduOf o = s.dev.oduOf o) := by
  have applied : applyLow s.dev w.cmd =
      some (s.dev.setOdu w.cmd.object ((s.dev.oduOf w.cmd.object).writeRaw w.cmd), stOk, []) := by
    simp [applyLow, State.opcode_of_effectDue due, applyOduOhWrite_eq _ _ passes]
  obtain ⟨t, run, odu⟩ := State.shows_odu due applied (by decide)
  have own := (odu w.cmd.object).trans ((Dev.setOdu_oduOf ..).trans (if_pos rfl))
  refine ⟨t, run, fun exp => ?_, fun res => ?_, fun aps sets => ?_, fun ftfl sets => ?_, fun no_field => ?_,
    fun o ne => ?_⟩
  · rw [own, OduState.writeRaw, exp]
    simp only [op_sets_iff]
    rfl
  · rw [own, OduState.writeRaw, res]
    simp only [op_sets_iff]
    rfl
  · rw [own, OduState.writeRaw, aps, sets]
    exact Tab.get_set_self ..
  · rw [own, OduState.writeRaw, ftfl, sets]
    exact Tab.get_set_self ..
  · rw [own, OduState.writeRaw, no_field]
    rfl
  · rw [odu, Dev.setOdu_oduOf, if_neg ne]

/-- Settles O27: each of the three settings by the lemma about its own effect. -/
theorem oduSettingsTakeEffect : Obligations.odu_settings_take_effect :=
  ⟨odu_tti_set_takes_effect, odu_tcm_set_takes_effect, odu_oh_write_takes_effect⟩

end Sys2Proof.Machine

namespace Sys2Proof.Machine

open Sys2Proof

theorem Dev.chan_congr {d e : Dev} (chans : e.chans = d.chans) (o : Nat) : e.chan o = d.chan o := by
  rw [Dev.chan, chans, Dev.chan]

/-! ### Effects on one channel engine

`Dev.PutsChan d ch x e`: from `d` to `e` only channel `ch` changes among the engines, and it then stands at `x`; no response
waits that did not wait before. -/

structure Dev.PutsChan (d : Dev) (ch : Nat) (x : Channel) (e : Dev) : Prop where
  chans : e.chans = (d.setChan ch x).chans
  out : e.host.out = d.host.out

namespace Dev.PutsChan

variable {d e f : Dev} {ch : Nat} {x : Channel}

theorem set (d : Dev) (ch : Nat) (x : Channel) : d.PutsChan ch x (d.setChan ch x) := ⟨rfl, rfl⟩

/-- What follows leaves the engines alone. -/
theorem then_keeps (h : d.PutsChan ch x e) (chans : f.chans = e.chans) (out : f.host.out = e.host.out) :
    d.PutsChan ch x f :=
  ⟨chans.trans h.chans, out.trans h.out⟩

theorem raise (h : d.PutsChan ch x e) (code obj : Nat) (l : List Byte) : d.PutsChan ch x (e.raise code obj l) :=
  h.then_keeps (Dev.raise_chans ..) (Dev.raise_out ..)

theorem tick (h : d.PutsChan ch x e) (c k : Nat) : d.PutsChan ch x (e.tick c k) :=
  h.then_keeps (Dev.tick_chans ..) (by rw [Dev.tick_host])

theorem chan (h : d.PutsChan ch x e) : e.chan ch = x :=
  (Dev.chan_congr h.chans ch).trans ((Dev.setChan_chan d ch ch x).trans (if_pos rfl))

theorem chan_of_ne (h : d.PutsChan ch x e) {o : Nat} (ne : o ≠ ch) : e.chan o = d.chan o :=
  (Dev.chan_congr h.chans o).trans ((Dev.setChan_chan d ch o x).trans (if_neg ne))

/-- The frame of a step with such an effect: the other channels, hub SRAM and HBM, and the rings. -/
theorem settled {s : State} (h : s.dev.PutsChan ch x e) (live : s.live = true) :
    (∀ o, o ≠ ch → (s.settle e).dev.chan o = s.dev.chan o) ∧ (s.settle e).mem = s.mem ∧ (s.settle e).bar1 = s.bar1 :=
  ⟨fun _ ne => h.chan_of_ne ne, rfl, State.settle_bar1_of_live live h.out⟩

end Dev.PutsChan

/-- A step whose last act is an event, after changes that leave Beat and log alone. -/
theorem State.raisesOne_settle_raise {s : State} {d : Dev} (fc : d.fc = s.dev.fc)
    (log : d.log.arising = s.dev.log.arising) (code obj : Nat) (l : List Byte) :
    s.raisesOne (s.settle (d.raise code obj l)) code obj l := by
  refine State.settle_arising_one s _ _ ?_
  rw [Dev.raise_arising, log, Dev.eventOf, Dev.eventOf, fc]

/-- A step whose effect leaves the log alone. -/
theorem State.raisesNone_settle {s : State} {d : Dev} (log : d.log.arising = s.dev.log.arising) :
    s.raisesNone (s.settle d) :=
  State.settle_arising_none s d log

/-! ### The computation of a count (R157, R160) -/

/-- A count stands within the stage's range, so it is no negative number. -/
theorem clampI_nonneg (lo hi : Nat) (v : Int) : 0 ≤ clampI lo hi v := by
  unfold clampI
  split
  · omega
  · split <;> omega

/-- The fields of a token's word read back (R160). -/
theorem token_fields (type ch stamp sigma value : Nat) (hc : ch < 2 ^ 8) (hs : stamp < 2 ^ 16) (hg : sigma < 2 ^ 8)
    (hv : value < 2 ^ 24) {word : Nat}
    (eq : word = type * 2 ^ 60 + ch * 2 ^ 52 + stamp * 2 ^ 32 + sigma * 2 ^ 24 + value) :
    word / 2 ^ 60 = type ∧ word / 2 ^ 52 % 256 = ch ∧ word / 2 ^ 32 % 2 ^ 16 = stamp ∧ word % 2 ^ 24 = value := by
  omega

theorem Tracker.type_eq (t : Tracker) (s : Nat) :
    t.type s = (if s = 0 then 1 else if s = 1 then (if t.idle then 3 else 2) else if t.idle then 5 else 4) := by
  match s with
  | 0 => rfl
  | 1 => rfl
  | n + 2 => simp [Tracker.type]

/-- ΣCnD of the token of a count (R160): a TX client stage's token of TYPE 2 carries it. -/
def Tracker.tokenSigma (t : Tracker) (s : Nat) : Nat :=
  if t.type s = 2 then (t.acc * t.word / one24).toNat % 256 else 0

/-- VALUE of the token of a count (R160): the count, or the difference D at an idle-adjustment stage. -/
def Tracker.tokenValue (t : Tracker) (cm : Nat) : Nat :=
  if t.idle then ((((t.blockAcc + t.blocks) / one24 : Nat) - cm : Int) % one24).toNat else cm % one24

theorem Tracker.issue_word (t : Tracker) (ch s stamp cm : Nat) : (t.issue ch s stamp cm).2.word =
    t.type s * 2 ^ 60 + ch * 2 ^ 52 + stamp % 65_536 * 2 ^ 32 + t.tokenSigma s * 2 ^ 24 + t.tokenValue cm := rfl

theorem Tracker.tokenSigma_lt (t : Tracker) (s : Nat) : t.tokenSigma s < 2 ^ 8 := by
  unfold Tracker.tokenSigma
  split
  · exact Nat.mod_lt _ (by decide)
  · decide

theorem Tracker.tokenValue_cast (t : Tracker) (cm : Nat) : (t.tokenValue cm : Int) =
    if t.idle then (((t.blockAcc + t.blocks) / 2 ^ 24 : Nat) - cm : Int) % 2 ^ 24 else (cm : Int) % 2 ^ 24 := by
  unfold Tracker.tokenValue one24
  split
  · exact Int.toNat_of_nonneg (Int.emod_nonneg _ (by decide))
  · exact Int.natCast_emod ..

theorem Tracker.tokenValue_lt (t : Tracker) (cm : Nat) : t.tokenValue cm < 2 ^ 24 := by
  have cast := t.tokenValue_cast cm
  split at cast <;> omega

/-- What a reader finds in the token of a count. -/
theorem Tracker.issue_reads (t : Tracker) {ch : Nat} (s stamp cm : Nat) (known : ch < 256) :
    (t.issue ch s stamp cm).2.word / 2 ^ 60 = t.type s ∧ (t.issue ch s stamp cm).2.word / 2 ^ 52 % 256 = ch ∧
      (t.issue ch s stamp cm).2.word / 2 ^ 32 % 2 ^ 16 = stamp % 2 ^ 16 ∧
      (t.issue ch s stamp cm).2.word % 2 ^ 24 = t.tokenValue cm :=
  token_fields _ _ _ _ _ known (Nat.mod_lt _ (by decide)) (t.tokenSigma_lt s) (t.tokenValue_lt cm) (t.issue_word ch s stamp cm)

@[simp] theorem Channel.setStage_stage (c : Channel) (s : Nat) (t : Tracker) : (c.setStage s t).stage s = t := by
  match s with
  | 0 => rfl
  | 1 => rfl
  | _ + 2 => rfl

/-- A tracker after the computation of R157. -/
def Tracker.computed (t : Tracker) (integ sum cm : Int) : Tracker :=
  { t with integ := integ, acc := clampI 0 (2 ^ 24 - 1) (sum - cm * 2 ^ 24) }

theorem natCast_one24 : (one24 : Int) = 2 ^ 24 := rfl

theorem natCast_one24_pred : ((one24 - 1 : Nat) : Int) = 2 ^ 24 - 1 := rfl

theorem natCast_mul_one24 (n : Nat) : ((n * one24 : Nat) : Int) = n * 2 ^ 24 := by
  rw [Int.natCast_mul, natCast_one24]

/-- The highest value in units of 2^-24 whose whole part is still `n`. -/
theorem natCast_range_top (n : Nat) : ((n * one24 + one24 - 1 : Nat) : Int) = n * 2 ^ 24 + (2 ^ 24 - 1) := by
  unfold one24
  omega

/-- The computation of R157 in the terms of the manual. -/
theorem Tracker.compute_eq (t : Tracker) (ramp : Bool) (e : Int) {lo hi : Nat} {integ sum cm : Int}
    (low : lo = if ramp then 1 else t.lo) (high : hi = if ramp then t.p else t.hi)
    (integrated : integ = clampI (lo * 2 ^ 24) (hi * 2 ^ 24 + (2 ^ 24 - 1)) (t.integ + e / (if ramp then 16 else 256)))
    (summed : sum = t.acc + integ + e / (if ramp then 2 else 8)) (count : cm = clampI lo hi (sum / 2 ^ 24)) :
    t.compute ramp e = (t.computed integ sum cm, cm.toNat, sum / 2 ^ 24 != cm) := by
  subst low high integrated summed count
  simp only [Tracker.compute, Tracker.computed, natCast_mul_one24, natCast_range_top, natCast_one24_pred, natCast_one24]


/-! ### One run of a tracker (R156, R159) -/

/-- Projected fill less the target, in words, as the tracker takes it (R157). -/
def Tracker.errorAt (t : Tracker) (fc j : Nat) : Int := (t.projected fc j - (t.target : Int) * 2 ^ 24) / (t.word : Int)

/-- A tracker about to issue the token of its count: the fill sampled and the clamp are noted. -/
def Tracker.sampledAs (t : Tracker) (sampled : Int) (clamped : Bool) : Tracker :=
  { t with sampled := sampled }.noteClamp clamped

/-- A run stores the computation's result in its stage, and answers the token of the count. -/
theorem Channel.runStage_of_compute (c : Channel) (ch s fc stamp j : Nat) {cm : Nat} {t : Tracker} {clamped : Bool}
    (comp : (c.stage s).compute (c.ramp && s == 0) ((c.stage s).errorAt fc j) = (t, cm, clamped)) :
    ((c.runStage ch s fc stamp j).1.stage s).integ = t.integ ∧ ((c.runStage ch s fc stamp j).1.stage s).acc = t.acc ∧
      (c.runStage ch s fc stamp j).2 =
        (((t.sampledAs ((c.stage s).projected fc j / one24) clamped).issue ch s stamp cm).2, clamped) := by
  have error : ((c.stage s).projected fc j - ((c.stage s).target : Int) * one24) / ((c.stage s).word : Int) =
      (c.stage s).errorAt fc j := rfl
  simp only [Channel.runStage, error, comp, Channel.setStage_stage]
  exact ⟨rfl, rfl, rfl⟩

theorem Dev.noteClamp_chans (d : Dev) (ch s : Nat) (c : Bool) : (d.noteClamp ch s c).chans = d.chans := by
  unfold Dev.noteClamp
  split
  · rw [Dev.raise_chans, Dev.tick_chans]
  · rfl

theorem Dev.noteClamp_out (d : Dev) (ch s : Nat) (c : Bool) : (d.noteClamp ch s c).host.out = d.host.out := by
  unfold Dev.noteClamp
  split
  · rw [Dev.raise_out, Dev.tick_host]
  · rfl

/-- A stage of a channel has run: the channel, its token and whether it clamped are taken over (R156). -/
def Dev.takeRun (d : Dev) (ch stage : Nat) (r : Channel × Token × Bool) : Dev :=
  { (d.setChan ch r.1).noteClamp ch stage r.2.2 with tokens := d.tokens ++ [r.2.1] }

theorem Dev.takeRun_puts (d : Dev) (ch stage : Nat) (r : Channel × Token × Bool) :
    d.PutsChan ch r.1 (d.takeRun ch stage r) :=
  (Dev.PutsChan.set d ch r.1).then_keeps (Dev.noteClamp_chans ..) (Dev.noteClamp_out ..)

/-- A clamped count is reported, and no other (R159). -/
theorem State.takeRun_reports (s : State) (ch stage : Nat) (r : Channel × Token × Bool) :
    if r.2.2 = false then s.raisesNone (s.settle (s.dev.takeRun ch stage r))
    else s.raisesOne (s.settle (s.dev.takeRun ch stage r)) 0x0503 (objChannel ch)
      (leBytes 4 (objChannel ch) ++ leBytes 1 stage) := by
  match r with
  | (_, _, false) => exact State.raisesNone_settle rfl
  | (c, _, true) =>
    exact State.raisesOne_settle_raise (d := (s.dev.setChan ch c).tick (stageCell ch stage) 1) (by simp) (by simp) ..

theorem exec_rateTrackerPeriod (s : State) {ch stage j : Nat} (live : s.live = true) (known : ch < 256)
    (decided : stage < 3) (run : (s.dev.chan ch).run = true) (on : ((s.dev.chan ch).stage stage).run = true)
    (powered : s.dev.enginePowered ch = true) (begun : ((s.dev.chan ch).stage stage).first ≤ s.dev.fc + 2)
    (fresh : ((s.dev.chan ch).stage stage).ranFc ≠ some s.dev.fc)
    (due : ((s.dev.chan ch).stage stage).periodAt (s.dev.fc + 2) = some j) :
    exec (.rateTrackerPeriod ch stage) s = .next (s.settle (s.dev.takeRun ch stage
      ((s.dev.chan ch).runStage ch stage s.dev.fc (s.dev.fc + 2) j))) := by
  show execRateTrackerPeriod ch stage s = _
  rw [execRateTrackerPeriod, State.runIf_eq s _ _ (State.powered_of_live live)
    (by simp [known, decided, run, on, powered, begun, fresh, due])]
  simp only [due]
  rfl

/-- Settles O28: the computation of R157 decides the run, whose token carries the count. -/
theorem rateTrackerDecidesOneCount : Obligations.rate_tracker_decides_one_count := by
  intro s ch stage j x ramp lo hi e integ sum cm live known decided run stands on powered begun fresh due ramps low high
    error integrated summed count
  subst stands ramps error
  have comp := Tracker.compute_eq _ _ _ low high integrated summed count
  obtain ⟨integ_eq, acc_eq, ran⟩ := Channel.runStage_of_compute _ ch stage s.dev.fc (s.dev.fc + 2) j comp
  have puts := s.dev.takeRun_puts ch stage ((s.dev.chan ch).runStage ch stage s.dev.fc (s.dev.fc + 2) j)
  have nonneg : (cm.toNat : Int) = cm := Int.toNat_of_nonneg (count ▸ clampI_nonneg lo hi _)
  obtain ⟨type, channel, stamp, value⟩ := Tracker.issue_reads
    ((((s.dev.chan ch).stage stage).computed integ sum cm).sampledAs
      (((s.dev.chan ch).stage stage).projected s.dev.fc j / one24) (sum / 2 ^ 24 != cm)) stage (s.dev.fc + 2) cm.toNat known
  refine ⟨_, exec_rateTrackerPeriod s live known decided run on powered begun fresh due, ?_, ?_,
    ⟨_, congrArg (fun r => s.dev.tokens ++ [r.1]) ran, rfl, type.trans (Tracker.type_eq ..), channel, stamp, ?_⟩, ?_,
    puts.settled live⟩
  · exact (congrArg (fun c => (c.stage stage).integ) puts.chan).trans integ_eq
  · exact (congrArg (fun c => (c.stage stage).acc) puts.chan).trans acc_eq
  · rw [value, Tracker.tokenValue_cast, nonneg]
    rfl
  · have reports := s.takeRun_reports ch stage ((s.dev.chan ch).runStage ch stage s.dev.fc (s.dev.fc + 2) j)
    rw [ran] at reports
    simpa using reports

end Sys2Proof.Machine

namespace Sys2Proof.Machine

open Sys2Proof

/-! ### Received counts (R155) -/

/-- The justification control of a received stage is taken (R155). -/
def Dev.readCount (d : Dev) (ch stage : Nat) : Dev :=
  d.setCpath ch { d.cpath ch with jc := Tab.drop (d.cpath ch).jc stage }

@[simp] theorem Dev.readCount_chan (d : Dev) (ch stage o : Nat) : (d.readCount ch stage).chan o = d.chan o := rfl

/-- A count read by the engine is accepted: inside its window, or within 1..P in ramp state (R155). -/
def Channel.accepts (c : Channel) (lo hi top value : Nat) (crcOk : Bool) : Bool :=
  crcOk && ((lo ≤ value && value ≤ hi) || (c.ramp && 1 ≤ value && value ≤ top))

/-- An accepted count is taken; one outside its window keeps ramp state from ending (R155, R166). -/
def Channel.takeCount (c : Channel) (stage lo hi value : Nat) : Channel :=
  { c with rampBad := c.rampBad || (c.ramp && !(lo ≤ value && value ≤ hi)) }.receive stage value

/-- The cell of a stage's rejected counts, where it has one, counts one more (R381). -/
def Dev.countRejected (d : Dev) (ch stage : Nat) : Dev :=
  if stage = 3 then d.tick (chanCell ch + 16) 1 else if stage = 5 then d.tick (chanCell ch + 7) 1 else d

theorem Dev.countRejected_eq_tick (d : Dev) (ch stage : Nat) : ∃ c k, d.countRejected ch stage = d.tick c k := by
  unfold Dev.countRejected
  split
  · exact ⟨_, _, rfl⟩
  · split
    · exact ⟨_, _, rfl⟩
    · exact ⟨0, 0, rfl⟩

/-- A rejected count is counted and reported (R155). -/
def Dev.rejectCount (d : Dev) (ch stage value : Nat) : Dev :=
  (d.countRejected ch stage).raise 0x0507 (objChannel ch) (stageData ch stage ++ leBytes 4 value)

/-- What a received count does to the device. -/
def Dev.receiveCount (d : Dev) (ch stage lo hi top value : Nat) (crcOk : Bool) : Dev :=
  if (d.chan ch).accepts lo hi top value crcOk then
    (d.readCount ch stage).setChan ch ((d.chan ch).takeCount stage lo hi value)
  else (d.readCount ch stage).rejectCount ch stage value

/-- A received count that the engine has read, of a stage that the channel runs. -/
structure State.ReadsCount (s : State) (ch stage lo hi top value : Nat) (crcOk : Bool) : Prop where
  live : s.live = true
  known : ch < 256
  run : (s.dev.chan ch).run = true
  small : value < 2 ^ 24
  window : (s.dev.rxDesc ch).bind (·.rcvWindow stage) = some (lo, hi, top)
  read : Tab.get (0, !crcOk) (s.dev.cpath ch).jc stage = (value, crcOk)

section

variable {s : State} {ch stage lo hi top value : Nat} {crcOk : Bool}

theorem State.ReadsCount.steps (r : s.ReadsCount ch stage lo hi top value crcOk) :
    exec (.receivedCount ch stage value crcOk) s =
      .next (s.settle (s.dev.receiveCount ch stage lo hi top value crcOk)) := by
  obtain ⟨x, desc, window⟩ := Option.bind_eq_some_iff.mp r.window
  show execReceivedCount ch stage value crcOk s = _
  rw [execReceivedCount, State.runIf_eq s _ _ (State.powered_of_live r.live)
    (by simp [r.known, r.run, show value < one24 from r.small, desc, window, r.read])]
  simp only [r.window]
  rfl

/-- A count that the engine accepts is taken, with no event. -/
theorem State.ReadsCount.takes (r : s.ReadsCount ch stage lo hi top value crcOk)
    (accepted : (s.dev.chan ch).accepts lo hi top value crcOk = true) :
    ∃ t, exec (.receivedCount ch stage value crcOk) s = .next t ∧
      t.dev.chan ch = (s.dev.chan ch).takeCount stage lo hi value ∧ s.raisesNone t ∧
      (∀ o, o ≠ ch → t.dev.chan o = s.dev.chan o) ∧ t.mem = s.mem ∧ t.bar1 = s.bar1 := by
  have step := r.steps
  rw [Dev.receiveCount, if_pos accepted] at step
  have puts : s.dev.PutsChan ch ((s.dev.chan ch).takeCount stage lo hi value)
      ((s.dev.readCount ch stage).setChan ch ((s.dev.chan ch).takeCount stage lo hi value)) := ⟨rfl, rfl⟩
  exact ⟨_, step, puts.chan, State.raisesNone_settle rfl, puts.settled r.live⟩

/-- A count that the engine does not accept leaves every engine as it was, and is reported. -/
theorem State.ReadsCount.rejects (r : s.ReadsCount ch stage lo hi top value crcOk)
    (refused : (s.dev.chan ch).accepts lo hi top value crcOk = false) :
    ∃ t, exec (.receivedCount ch stage value crcOk) s = .next t ∧ t.dev.chans = s.dev.chans ∧
      s.raisesOne t 0x0507 (objChannel ch) (leBytes 4 (objChannel ch) ++ leBytes 1 stage ++ leBytes 4 value) ∧
      t.mem = s.mem ∧ t.bar1 = s.bar1 := by
  have step := r.steps
  obtain ⟨c, k, counted⟩ := (s.dev.readCount ch stage).countRejected_eq_tick ch stage
  rw [Dev.receiveCount, if_neg (by simp [refused]), Dev.rejectCount, counted] at step
  have reported := State.raisesOne_settle_raise (s := s) (d := (s.dev.readCount ch stage).tick c k) (Dev.tick_fc ..)
    (by rw [Dev.tick_log]; rfl) 0x0507 (objChannel ch) (stageData ch stage ++ leBytes 4 value)
  refine ⟨_, step, Dev.tick_chans .., reported, rfl, State.settle_bar1_of_live r.live ?_⟩
  rw [Dev.raise_out, Dev.tick_host]
  rfl

end

/-- A count inside its window leaves what ramp state has seen. -/
theorem Channel.takeCount_inside (c : Channel) {stage lo hi value : Nat} (above : lo ≤ value) (below : value ≤ hi) :
    c.takeCount stage lo hi value = c.receive stage value := by
  simp [Channel.takeCount, above, below]

/-- A count outside its window is seen by ramp state. -/
theorem Channel.takeCount_outside (c : Channel) {stage lo hi value : Nat} (outside : value < lo ∨ hi < value)
    (ramp : c.ramp = true) : c.takeCount stage lo hi value = ({ c with rampBad := true }).receive stage value := by
  have not_inside : (decide (lo ≤ value) && decide (value ≤ hi)) = false := by
    rw [Bool.and_eq_false_iff, decide_eq_false_iff_not, decide_eq_false_iff_not]
    omega
  simp [Channel.takeCount, not_inside, ramp]

theorem received_count_is_taken_or_rejected (s : State) (ch stage value lo hi top : Nat) (crcOk : Bool) (x : Desc)
    (live : s.live = true) (known : ch < 256) (run : (s.dev.chan ch).run = true) (small : value < 2 ^ 24)
    (desc : s.dev.rxDesc ch = some x) (window : x.rcvWindow stage = some (lo, hi, top))
    (read : Tab.get (0, !crcOk) (s.dev.cpath ch).jc stage = (value, crcOk)) :
    (crcOk = true → lo ≤ value → value ≤ hi →
      ∃ t, exec (.receivedCount ch stage value crcOk) s = .next t ∧
        (stage = 3 → t.dev.chan ch = { s.dev.chan ch with rcvServer := some value }) ∧
        (stage = 4 → t.dev.chan ch = { s.dev.chan ch with rcvClient := some value }) ∧
        (stage = 5 → t.dev.chan ch = { s.dev.chan ch with rcvDemux := some value }) ∧
        s.raisesNone t ∧ (∀ o, o ≠ ch → t.dev.chan o = s.dev.chan o) ∧ t.mem = s.mem ∧ t.bar1 = s.bar1) ∧
    (crcOk = true → (value < lo ∨ hi < value) → (s.dev.chan ch).ramp = true → 1 ≤ value → value ≤ top →
      ∃ t, exec (.receivedCount ch stage value crcOk) s = .next t ∧
        t.dev.chan ch = ({ s.dev.chan ch with rampBad := true }).receive stage value ∧
        s.raisesNone t ∧ (∀ o, o ≠ ch → t.dev.chan o = s.dev.chan o) ∧ t.mem = s.mem ∧ t.bar1 = s.bar1) ∧
    ((crcOk = false ∨ ((s.dev.chan ch).ramp = false ∧ (value < lo ∨ hi < value))) →
      ∃ t, exec (.receivedCount ch stage value crcOk) s = .next t ∧ t.dev.chans = s.dev.chans ∧
        s.raisesOne t 0x0507 (objChannel ch) (leBytes 4 (objChannel ch) ++ leBytes 1 stage ++ leBytes 4 value) ∧
        t.mem = s.mem ∧ t.bar1 = s.bar1) := by
  have reads : s.ReadsCount ch stage lo hi top value crcOk :=
    ⟨live, known, run, small, by rw [desc]; exact window, read⟩
  refine ⟨fun crc above below => ?_, fun crc outside ramp positive within => ?_, fun refused => reads.rejects ?_⟩
  · obtain ⟨t, step, chan, rest⟩ := reads.takes (by simp [Channel.accepts, crc, above, below])
    rw [Channel.takeCount_inside _ above below] at chan
    exact ⟨t, step, fun server => by rw [chan, server]; rfl, fun client => by rw [chan, client]; rfl,
      fun demux => by rw [chan, demux]; rfl, rest⟩
  · obtain ⟨t, step, chan, rest⟩ := reads.takes (by simp [Channel.accepts, crc, ramp, positive, within])
    rw [Channel.takeCount_outside _ outside ramp] at chan
    exact ⟨t, step, chan, rest⟩
  · rcases refused with crc | ⟨ordinary, outside⟩
    · simp [Channel.accepts, crc]
    · simp only [Channel.accepts, ordinary, Bool.false_and, Bool.or_false, Bool.and_eq_false_iff, decide_eq_false_iff_not]
      omega

/-! ### Ramp state ends (R166), block lock (R150) -/

theorem ramp_state_ends (s : State) (ch : Nat) (live : s.live = true) (known : ch < 256)
    (run : (s.dev.chan ch).run = true) (ramp : (s.dev.chan ch).ramp = true) (inside : 16 ≤ (s.dev.chan ch).rampRun) :
    ∃ t, exec (.rampStateEnd ch) s = .next t ∧ t.dev.chan ch = { s.dev.chan ch with ramp := false } ∧
      s.raisesOne t 0x0508 (objChannel ch) (leBytes 4 (objChannel ch) ++ leBytes 1 0) ∧
      (∀ o, o ≠ ch → t.dev.chan o = s.dev.chan o) ∧ t.mem = s.mem ∧ t.bar1 = s.bar1 := by
  have step : execRampStateEnd ch s = .next (s.settle ((s.dev.setChan ch { s.dev.chan ch with ramp := false }).raise 0x0508
      (objChannel ch) (leBytes 4 (objChannel ch) ++ leBytes 1 0))) :=
    State.runIf_eq s _ _ (State.powered_of_live live) (by simp [known, run, ramp, inside])
  have puts := (Dev.PutsChan.set s.dev ch { s.dev.chan ch with ramp := false }).raise 0x0508 (objChannel ch)
    (leBytes 4 (objChannel ch) ++ leBytes 1 0)
  exact ⟨_, step, puts.chan, State.raisesOne_settle_raise rfl rfl .., puts.settled live⟩

/-- An input that is noted touches its layer, and what an event touches (R217). -/
theorem Dev.noteInput_eq (d : Dev) (obj l i : Nat) (v : Bool) :
    ∃ layers host log, d.noteInput obj l i v = { d with layers := layers, host := host, log := log } := by
  unfold Dev.noteInput
  dsimp only
  split
  · exact ⟨_, _, _, rfl⟩
  · split
    · exact ⟨_, _, _, rfl⟩
    · exact ⟨_, _, _, rfl⟩

@[simp] theorem Dev.noteInput_chans (d : Dev) (obj l i : Nat) (v : Bool) : (d.noteInput obj l i v).chans = d.chans := by
  obtain ⟨_, _, _, eq⟩ := d.noteInput_eq obj l i v
  rw [eq]

@[simp] theorem Dev.noteInput_clients (d : Dev) (obj l i : Nat) (v : Bool) :
    (d.noteInput obj l i v).clients = d.clients := by
  obtain ⟨_, _, _, eq⟩ := d.noteInput_eq obj l i v
  rw [eq]

/-- The report of an input leaves the engines alone. -/
theorem Dev.PutsChan.noteInput {d e : Dev} {ch : Nat} {x : Channel} (h : d.PutsChan ch x e) (obj l i : Nat) (v : Bool) :
    d.PutsChan ch x (e.noteInput obj l i v) :=
  h.then_keeps (Dev.noteInput_chans ..) (Dev.noteInput_spares ..).out

theorem block_lock_is_gained_and_lost (s : State) (ch : Nat) (live : s.live = true) (known : ch < 256)
    (blocks : s.dev.hasBlocks ch = true) :
    ((s.dev.chan ch).blockLock = false → 2 ≤ (s.dev.chan ch).boffGood →
      ∃ t, exec (.blockLockGained ch) s = .next t ∧ t.dev.chan ch = { s.dev.chan ch with blockLock := true } ∧
        (∀ o, o ≠ ch → t.dev.chan o = s.dev.chan o) ∧ t.mem = s.mem ∧ t.bar1 = s.bar1) ∧
    ((s.dev.chan ch).blockLock = true → 3 ≤ (s.dev.chan ch).boffBad →
      ∃ t, exec (.blockLockLost ch) s = .next t ∧ t.dev.chan ch = { s.dev.chan ch with blockLock := false } ∧
        (∀ o, o ≠ ch → t.dev.chan o = s.dev.chan o) ∧ t.mem = s.mem ∧ t.bar1 = s.bar1) := by
  refine ⟨fun unlocked predicted => ?_, fun locked others => ?_⟩
  · have step : execBlockLockGained ch s = .next (s.settle
        ((s.dev.setChan ch { s.dev.chan ch with blockLock := true }).noteInput (objChannel ch) layClientRx 1 false)) :=
      State.runIf_eq s _ _ (State.powered_of_live live) (by simp [known, blocks, unlocked, predicted])
    have puts := (Dev.PutsChan.set s.dev ch { s.dev.chan ch with blockLock := true }).noteInput (objChannel ch) layClientRx
      1 false
    exact ⟨_, step, puts.chan, puts.settled live⟩
  · have step : execBlockLockLost ch s = .next (s.settle
        (((s.dev.setChan ch { s.dev.chan ch with blockLock := false }).tick (chanCell ch + 28) 1).noteInput (objChannel ch)
          layClientRx 1 true)) :=
      State.runIf_eq s _ _ (State.powered_of_live live) (by simp [known, blocks, locked, others])
    have puts := ((Dev.PutsChan.set s.dev ch { s.dev.chan ch with blockLock := false }).tick (chanCell ch + 28) 1).noteInput
      (objChannel ch) layClientRx 1 true
    exact ⟨_, step, puts.chan, puts.settled live⟩

/-- Settles O29: a received count, the end of ramp state and block lock each by the lemma about its own command. -/
theorem receivedCountsRampAndBlockLock : Obligations.received_counts_ramp_and_block_lock :=
  ⟨received_count_is_taken_or_rejected, ramp_state_ends, block_lock_is_gained_and_lost⟩

end Sys2Proof.Machine

namespace Sys2Proof.Machine

open Sys2Proof

theorem Dev.client_congr {d e : Dev} (clients : e.clients = d.clients) (k : Nat) : e.client k = d.client k := by
  rw [Dev.client, clients, Dev.client]

/-! ### Effects on one client port

`Dev.PutsClient d k x e`: from `d` to `e` only port `k` changes among the client ports, and it then stands at `x`; no event
arises, and no response waits that did not wait before. -/

structure Dev.PutsClient (d : Dev) (k : Nat) (x : ClientPort) (e : Dev) : Prop where
  clients : e.clients = (d.setClient k x).clients
  log : e.log = d.log
  out : e.host.out = d.host.out

namespace Dev.PutsClient

variable {d e f : Dev} {k : Nat} {x : ClientPort}

theorem client (h : d.PutsClient k x e) : e.client k = x :=
  (Dev.client_congr h.clients k).trans ((Dev.setClient_client d k k x).trans (if_pos rfl))

theorem client_of_ne (h : d.PutsClient k x e) {i : Nat} (ne : i ≠ k) : e.client i = d.client i :=
  (Dev.client_congr h.clients i).trans ((Dev.setClient_client d k i x).trans (if_neg ne))

/-- A step with such an effect: the client ports after it, no event, and the memories as they were. -/
theorem settled {s : State} (h : s.dev.PutsClient k x e) (live : s.live = true) :
    (s.settle e).dev.client k = x ∧ (∀ i, i ≠ k → (s.settle e).dev.client i = s.dev.client i) ∧
      s.raisesNone (s.settle e) ∧ (s.settle e).mem = s.mem ∧ (s.settle e).bar1 = s.bar1 :=
  ⟨h.client, fun _ ne => h.client_of_ne ne, State.raisesNone_settle (by rw [h.log]), rfl,
    State.settle_bar1_of_live live h.out⟩

end Dev.PutsClient

/-! ### Client lanes and their port (R147) -/

theorem client_lane_comes_up (s : State) (lane : Nat) (x : Desc) (live : s.live = true) (known : lane < 64)
    (client : s.dev.clientOf lane = some x) (enabled : (s.dev.client x.cp).enabled = true)
    (powered : s.dev.clientPowered x.cp x.lanes = true) :
    ∃ t, exec (.clientLaneUp lane) s = .next t ∧
      t = { s with dev := { s.dev with clientLanesUp := setBit s.dev.clientLanesUp lane true } } := by
  have step : execClientLaneUp lane s =
      .next (s.settle { s.dev with clientLanesUp := setBit s.dev.clientLanesUp lane true }) :=
    State.runIf_eq s _ _ (State.powered_of_live live) (by simp [known, client, enabled, powered])
  exact ⟨_, step, State.settle_self
    { s with dev := { s.dev with clientLanesUp := setBit s.dev.clientLanesUp lane true } } (State.out_of_live live)⟩

/-- A client port whose OTU is out of frame. -/
def ClientPort.unframed (p : ClientPort) : ClientPort := { p with inFrame := false, inMf := false }

/-- A lane of a port that goes down takes the port out of frame. -/
theorem Dev.dropClientLane_of_clientOf (d : Dev) (lane : Nat) (x : Desc) (client : d.clientOf lane = some x) :
    d.dropClientLane lane = { d with clientLanesUp := setBit d.clientLanesUp lane false }.setClient x.cp
      (d.client x.cp).unframed := by
  have found : { d with clientLanesUp := setBit d.clientLanesUp lane false }.clientOf lane = some x := client
  simp only [Dev.dropClientLane, found]
  rfl

theorem Dev.tick_clientOf (d : Dev) (c k lane : Nat) : (d.tick c k).clientOf lane = d.clientOf lane := by
  rw [Dev.clientOf, Dev.tick_sched, Dev.clientOf]

theorem client_lane_goes_down (s : State) (lane : Nat) (x : Desc) (live : s.live = true) (known : lane < 64)
    (client : s.dev.clientOf lane = some x) (enabled : (s.dev.client x.cp).enabled = true)
    (up : bit s.dev.clientLanesUp lane = true) :
    ∃ t, exec (.clientLaneDown lane) s = .next t ∧ t.dev.clientLanesUp = setBit s.dev.clientLanesUp lane false ∧
      t.dev.client x.cp = { s.dev.client x.cp with inFrame := false, inMf := false } ∧
      (∀ k, k ≠ x.cp → t.dev.client k = s.dev.client k) ∧ s.raisesNone t ∧ t.mem = s.mem ∧ t.bar1 = s.bar1 := by
  have step : exec (.clientLaneDown lane) s =
      .next (s.settle ((s.dev.tick (clientCell x.cp + 9 + (lane - x.cp)) 1).dropClientLane lane)) := by
    show execClientLaneDown lane s = _
    rw [execClientLaneDown, State.runIf_eq s _ _ (State.powered_of_live live) (by simp [known, client, enabled, up])]
    simp only [client]
  rw [Dev.dropClientLane_of_clientOf _ lane x (by rw [Dev.tick_clientOf, client])] at step
  have puts : s.dev.PutsClient x.cp (s.dev.client x.cp).unframed
      ({ s.dev.tick (clientCell x.cp + 9 + (lane - x.cp)) 1 with
        clientLanesUp := setBit s.dev.clientLanesUp lane false }.setClient x.cp (s.dev.client x.cp).unframed) :=
    ⟨by simp [Dev.setClient], by simp [Dev.setClient], by simp [Dev.setClient]⟩
  simp only [Dev.client, Dev.tick_clients, Dev.tick_clientLanesUp] at step
  exact ⟨_, step, rfl, puts.settled live⟩

/-- The sources of a client port's channels have been told that its input is back: engines' overhead alone changes (R128). -/
theorem Dev.regainAll_keeps (d : Dev) (flows : List Nat) (chs : List Nat) :
    (chs.foldl (fun e c => e.regainSources (objChannel c) flows) d).clients = d.clients ∧
      (chs.foldl (fun e c => e.regainSources (objChannel c) flows) d).log = d.log ∧
      (chs.foldl (fun e c => e.regainSources (objChannel c) flows) d).host = d.host :=
  List.foldlRecOn chs _ (motive := fun (e : Dev) => e.clients = d.clients ∧ e.log = d.log ∧ e.host = d.host)
    ⟨rfl, rfl, rfl⟩ fun _ keeps _ _ => keeps

/-- A client port with a new frame state. -/
def ClientPort.withFrame (p : ClientPort) (inFrame inMf : Bool) : ClientPort :=
  { p with inFrame := inFrame, inMf := inMf, hadFrame := p.hadFrame || inFrame }

/-- A client port takes a frame state; regained alignment is told to the sources (R128, R147). -/
def Dev.frameClient (d : Dev) (lane : Nat) (inFrame inMf : Bool) : Dev :=
  let e := d.setClient lane ((d.client lane).withFrame inFrame inMf)
  if inFrame && !(d.client lane).inFrame && (d.client lane).hadFrame then
    (e.clientChannels lane).foldl (fun e c => e.regainSources (objChannel c) [0]) e
  else e

theorem Dev.frameClient_puts (d : Dev) (lane : Nat) (inFrame inMf : Bool) :
    d.PutsClient lane ((d.client lane).withFrame inFrame inMf) (d.frameClient lane inFrame inMf) := by
  unfold Dev.frameClient
  dsimp only
  split
  · obtain ⟨clients, log, host⟩ := Dev.regainAll_keeps (d.setClient lane ((d.client lane).withFrame inFrame inMf)) [0]
      ((d.setClient lane ((d.client lane).withFrame inFrame inMf)).clientChannels lane)
    exact ⟨clients, log, by rw [host]; rfl⟩
  · exact ⟨rfl, rfl, rfl⟩

theorem client_frame_state_is_taken (s : State) (lane : Nat) (inFrame inMf : Bool) (x : Desc) (live : s.live = true)
    (known : lane < 64) (client : s.dev.clientOf lane = some x) (otu : x.kind = 1) (first : x.cp = lane)
    (enabled : (s.dev.client lane).enabled = true) (up : s.dev.clientUp x = true) (ordered : inMf = true → inFrame = true) :
    ∃ t, exec (.clientOtuFrameStateChange lane inFrame inMf) s = .next t ∧
      t.dev.client lane = { s.dev.client lane with
        inFrame := inFrame, inMf := inMf, hadFrame := (s.dev.client lane).hadFrame || inFrame } ∧
      (∀ k, k ≠ lane → t.dev.client k = s.dev.client k) ∧ s.raisesNone t ∧ t.mem = s.mem ∧ t.bar1 = s.bar1 := by
  have framed : (!inMf || inFrame) = true := by
    cases inMf with
    | false => rfl
    | true => simp [ordered rfl]
  have step : execClientOtuFrameStateChange lane inFrame inMf s =
      .next (s.settle (s.dev.frameClient lane inFrame inMf)) :=
    State.runIf_eq s _ _ (State.powered_of_live live) (by simp [known, client, otu, first, enabled, up, framed])
  exact ⟨_, step, (Dev.frameClient_puts ..).settled live⟩

/-! ### CH_MAINT (R170) -/

/-- A channel with the CH_MAINT signal of a flow set. -/
def Channel.withMaint (c : Channel) (flow : Nat) (m : Maint) : Channel :=
  if flow = 0 then { c with maintTx := m } else { c with maintRx := m }

/-- CH_MAINT signal of a flow of a channel. -/
def Channel.maint (c : Channel) (flow : Nat) : Maint := if flow = 0 then c.maintTx else c.maintRx

/-- The engines after a command that was answered stand as its effect left them. -/
theorem State.shows_chans {s : State} {op : Nat} {w : Waiting} {e : Dev} {st : Nat} {pl : List Byte}
    (due : s.effectDue op w = true) (applied : applyLow s.dev w.cmd = some (e, st, pl)) (ends : st ≠ stGoesOn) :
    ∃ t, exec .untimedCommandEffect s = .next t ∧ t.dev.chans = e.chans ∧ (∀ o, t.dev.chan o = e.chan o) :=
  ⟨_, State.exec_effect due applied ends, Dev.finish_chans .., Dev.chan_congr (Dev.finish_chans e w st pl)⟩

/-- The signal that a CH_MAINT at its effect puts in force, released DURATION_MF after MF `mfn`. -/
def maintOf (c : Cmd) (mfn : Nat) : Maint :=
  { signal := fallback 6 0 (c.field 1 1)
    expiry := if fallback 6 0 (c.field 1 1) = 0 || c.field 4 4 = 0 then none else some (mfn + c.field 4 4) }

theorem maintOf_eq (c : Cmd) (mfn : Nat) {sig : Nat} {m : Maint}
    (signal : sig = (if c.field 1 1 ≤ 6 then c.field 1 1 else 0))
    (maint : m = ⟨sig, if sig = 0 ∨ c.field 4 4 = 0 then none else some (mfn + c.field 4 4)⟩) : maintOf c mfn = m := by
  subst signal maint
  simp only [maintOf, Bool.or_eq_true, decide_eq_true_eq]
  rfl

/-- A signal comes into force in a flow of a channel, with an event where it is another than before. -/
def Dev.putMaint (d : Dev) (ch flow : Nat) (m : Maint) : Dev :=
  if ((d.chan ch).maint flow).signal = m.signal then d.setChan ch ((d.chan ch).withMaint flow m)
  else (d.setChan ch ((d.chan ch).withMaint flow m)).raise 0x0509 (objChannel ch)
    (leBytes 4 (objChannel ch) ++ leBytes 1 flow ++ leBytes 1 m.signal)

theorem Dev.putMaint_puts (d : Dev) (ch flow : Nat) (m : Maint) :
    d.PutsChan ch ((d.chan ch).withMaint flow m) (d.putMaint ch flow m) := by
  unfold Dev.putMaint
  split
  · exact .set ..
  · exact (Dev.PutsChan.set ..).raise ..

theorem applyChMaint_of_passes (d : Dev) (c : Cmd) (passes : checkChMaint d c = none) :
    applyChMaint d c = (d.putMaint c.index (fallback 1 0 (c.field 0 1)) (maintOf c d.mfn), stOk, []) := by
  rw [applyChMaint, passes]
  rfl

theorem refuseIf_of_ne_none {b : Bool} {st : Nat} (refused : refuseIf b st ≠ none) : refuseIf b st = refuse st := by
  match b with
  | false => exact absurd rfl refused
  | true => rfl

/-- A CH_MAINT that fails its checks is answered CONSTRAINT, and changes nothing. -/
theorem applyChMaint_of_refused (d : Dev) (c : Cmd) (refused : checkChMaint d c ≠ none) :
    applyChMaint d c = (d, stConstraint, []) := by
  have answer : checkChMaint d c = refuse stConstraint := refuseIf_of_ne_none refused
  rw [applyChMaint, answer]
  rfl

/-- FLOW of a CH_MAINT: 1 is RX, and anything else TX. -/
theorem Channel.withMaint_flow (c : Channel) (code : Nat) (m : Maint) : c.withMaint (fallback 1 0 code) m =
    if code = 1 then { c with maintRx := m } else { c with maintTx := m } := by
  match code with
  | 0 => rfl
  | 1 => rfl
  | n + 2 =>
    have other : fallback 1 0 (n + 2) = 0 := if_neg (by omega)
    rw [other, if_neg (by omega)]
    rfl

theorem ch_maint_takes_effect (s : State) (w : Waiting) (sig : Nat) (m : Maint) (due : s.effectDue 0x0502 w = true)
    (signal : sig = (if w.cmd.field 1 1 ≤ 6 then w.cmd.field 1 1 else 0))
    (maint : m = ⟨sig, if sig = 0 ∨ w.cmd.field 4 4 = 0 then none else some (s.dev.mfn + w.cmd.field 4 4)⟩) :
    (checkChMaint s.dev w.cmd = none →
      ∃ t, exec .untimedCommandEffect s = .next t ∧
        t.dev.chan w.cmd.index = (if w.cmd.field 0 1 = 1 then { s.dev.chan w.cmd.index with maintRx := m }
          else { s.dev.chan w.cmd.index with maintTx := m }) ∧
        (∀ o, o ≠ w.cmd.index → t.dev.chan o = s.dev.chan o)) ∧
    (checkChMaint s.dev w.cmd ≠ none → ∃ t, exec .untimedCommandEffect s = .next t ∧ t.dev.chans = s.dev.chans) := by
  have low : applyLow s.dev w.cmd = some (applyChMaint s.dev w.cmd) := by
    simp [applyLow, State.opcode_of_effectDue due]
  refine ⟨fun passes => ?_, fun refused => ?_⟩
  · rw [applyChMaint_of_passes _ _ passes, maintOf_eq _ _ signal maint] at low
    obtain ⟨t, run, -, chan⟩ := State.shows_chans due low (by decide)
    have puts := s.dev.putMaint_puts w.cmd.index (fallback 1 0 (w.cmd.field 0 1)) m
    exact ⟨t, run, (chan _).trans (puts.chan.trans (Channel.withMaint_flow ..)),
      fun o ne => (chan o).trans (puts.chan_of_ne ne)⟩
  · rw [applyChMaint_of_refused _ _ refused] at low
    obtain ⟨t, run, chans, -⟩ := State.shows_chans due low (by decide)
    exact ⟨t, run, chans⟩

/-- A signal in force is released, with its event. -/
theorem Dev.releaseMaint_of_signal (d : Dev) (ch flow : Nat) (signal : ((d.chan ch).maint flow).signal ≠ 0) :
    d.releaseMaint ch flow = (d.setChan ch ((d.chan ch).withMaint flow {})).raise 0x0509 (objChannel ch)
      (leBytes 4 (objChannel ch) ++ leBytes 1 flow ++ leBytes 1 0) :=
  if_neg signal

theorem ch_maint_expires (s : State) (ch flow e : Nat) (live : s.live = true) (known : ch < 256) (flows : flow < 2)
    (expiry : ((if flow = 0 then (s.dev.chan ch).maintTx else (s.dev.chan ch).maintRx).expiry) = some e)
    (reached : e * 256 ≤ s.dev.fc)
    (signal : ((if flow = 0 then (s.dev.chan ch).maintTx else (s.dev.chan ch).maintRx).signal) ≠ 0) :
    ∃ t, exec (.chMaintExpiry ch flow) s = .next t ∧
      t.dev.chan ch = (if flow = 0 then { s.dev.chan ch with maintTx := {} } else { s.dev.chan ch with maintRx := {} }) ∧
      s.raisesOne t 0x0509 (objChannel ch) (leBytes 4 (objChannel ch) ++ leBytes 1 flow ++ leBytes 1 0) ∧
      (∀ o, o ≠ ch → t.dev.chan o = s.dev.chan o) ∧ t.mem = s.mem ∧ t.bar1 = s.bar1 := by
  have step : execChMaintExpiry ch flow s = .next (s.settle (s.dev.releaseMaint ch flow)) :=
    State.runIf_eq s _ _ (State.powered_of_live live) (by simp [known, flows, expiry, fcOf, reached])
  rw [Dev.releaseMaint_of_signal s.dev ch flow signal] at step
  have puts := (Dev.PutsChan.set s.dev ch ((s.dev.chan ch).withMaint flow {})).raise 0x0509 (objChannel ch)
    (leBytes 4 (objChannel ch) ++ leBytes 1 flow ++ leBytes 1 0)
  exact ⟨_, step, puts.chan, State.raisesOne_settle_raise rfl rfl .., puts.settled live⟩

end Sys2Proof.Machine

namespace Sys2Proof.Machine

open Sys2Proof

/-! ### CP_CONFIG (R171)

`Dev.EnablesClient d k on e`: from `d` to `e` client port `k` becomes enabled, or not, as `on` says, and every lane keeps its
fields. -/

structure Dev.EnablesClient (d : Dev) (k : Nat) (on : Bool) (e : Dev) : Prop where
  enabled : (e.client k).enabled = on
  lane : ∀ l, e.lane l = d.lane l

theorem Dev.lane_congr {d e : Dev} (lanes : e.lanes = d.lanes) (l : Nat) : e.lane l = d.lane l := by
  rw [Dev.lane, lanes, Dev.lane]

/-- The client lanes that `l` counts from lane `k` on are no longer UP. -/
def Dev.clearLanes (d : Dev) (k : Nat) (l : List Nat) : Dev :=
  l.foldl (fun e j => { e with clientLanesUp := setBit e.clientLanesUp (k + j) false }) d

theorem Dev.clearLanes_keeps (d : Dev) (k : Nat) (l : List Nat) :
    (d.clearLanes k l).clients = d.clients ∧ (d.clearLanes k l).lanes = d.lanes :=
  List.foldlRecOn l _ (motive := fun (e : Dev) => e.clients = d.clients ∧ e.lanes = d.lanes) ⟨rfl, rfl⟩
    fun _ keeps _ _ => keeps

/-- A client port that is enabled afresh or disabled: its lanes and its frame state start over. -/
def Dev.restartClient (d : Dev) (x : Desc) (on : Bool) : Dev :=
  ((d.setClient x.cp { (d.client x.cp).unframed with enabled := on }).clearRuns (objClient x.cp)).clearLanes x.cp
    (List.range x.lanes)

theorem Dev.restartClient_enables (d : Dev) (x : Desc) (on : Bool) : d.EnablesClient x.cp on (d.restartClient x on) := by
  obtain ⟨clients, lanes⟩ := Dev.clearLanes_keeps
    ((d.setClient x.cp { (d.client x.cp).unframed with enabled := on }).clearRuns (objClient x.cp)) x.cp (List.range x.lanes)
  have client : (d.restartClient x on).client x.cp = { (d.client x.cp).unframed with enabled := on } :=
    (Dev.client_congr clients x.cp).trans (Tab.get_set_self ..)
  exact ⟨by rw [client], Dev.lane_congr lanes⟩

theorem Dev.enableClient_eq (d : Dev) (x : Desc) (on : Bool) : d.enableClient x on =
    (if (d.client x.cp).enabled = on then d else d.restartClient x on).noteInput (objClient x.cp) layClientTx 10 (!on) := rfl

theorem Dev.enableClient_enables (d : Dev) (x : Desc) (on : Bool) : d.EnablesClient x.cp on (d.enableClient x on) := by
  obtain ⟨enabled, lane⟩ : d.EnablesClient x.cp on (if (d.client x.cp).enabled = on then d else d.restartClient x on) := by
    split
    next stands => exact ⟨stands, fun _ => rfl⟩
    next => exact d.restartClient_enables x on
  rw [Dev.enableClient_eq]
  refine ⟨?_, fun l => ((Dev.noteInput_spares ..).lane l).trans (lane l)⟩
  rw [Dev.client_congr (Dev.noteInput_clients ..)]
  exact enabled

/-- `ENABLE` acts on the client port: 0 disables it, 1 enables it, and anything else leaves it. -/
def Dev.switchClient (d : Dev) (x : Desc) (code : Nat) : Dev :=
  match fallback 2 2 code with
  | 0 => d.enableClient x false
  | 1 => d.enableClient x true
  | _ => d

theorem Dev.switchClient_enables (d : Dev) (x : Desc) (code : Nat) :
    d.EnablesClient x.cp (if code = 0 then false else if code = 1 then true else (d.client x.cp).enabled)
      (d.switchClient x code) := by
  match code with
  | 0 => exact d.enableClient_enables x false
  | 1 => exact d.enableClient_enables x true
  | n + 2 =>
    have neither : fallback 2 2 (n + 2) = 2 := by
      unfold fallback
      split <;> omega
    rw [Dev.switchClient, neither]
    exact ⟨rfl, fun _ => rfl⟩

/-- The FEC of an Ethernet port is set. -/
def Dev.setClientFec (d : Dev) (x : Desc) (code : Nat) : Dev :=
  if ethernet x.clientType then d.setClient x.cp { d.client x.cp with fec := fallback 2 0 code } else d

theorem Dev.setClientFec_enables (d : Dev) (x : Desc) (code : Nat) :
    d.EnablesClient x.cp (d.client x.cp).enabled (d.setClientFec x code) := by
  unfold Dev.setClientFec
  split
  · exact ⟨by rw [Dev.setClient_client, if_pos rfl], fun _ => rfl⟩
  · exact ⟨rfl, fun _ => rfl⟩

theorem Dev.dropClientLane_keeps (d : Dev) (lane : Nat) :
    (∀ k, ((d.dropClientLane lane).client k).enabled = (d.client k).enabled) ∧
      (∀ l, (d.dropClientLane lane).lane l = d.lane l) := by
  unfold Dev.dropClientLane
  dsimp only
  split
  · refine ⟨fun k => ?_, fun _ => rfl⟩
    rw [Dev.setClient_client]
    split
    next same =>
      rw [same]
      rfl
    next => rfl
  · exact ⟨fun _ => rfl, fun _ => rfl⟩

/-- A client lane that takes its fields; its port stays enabled or disabled as it was. -/
theorem Dev.setClientLane_writes (d : Dev) (l : Nat) (a : LaneAttr) :
    (∀ k, ((d.setClientLane l a).client k).enabled = (d.client k).enabled) ∧
      (∀ i, (d.setClientLane l a).lane i = if i = l then a else d.lane i) := by
  unfold Dev.setClientLane
  dsimp only
  split
  · obtain ⟨enabled, lane⟩ := (d.setLane l a).dropClientLane_keeps l
    exact ⟨enabled, fun i => (lane i).trans (Dev.setLane_lane d l i a)⟩
  · exact ⟨fun _ => rfl, fun i => Dev.setLane_lane d l i a⟩

/-- The first `n` lanes of a client port from lane `k` on take their fields where the mask names them. -/
def Dev.writeClientLanes (d : Dev) (k mask : Nat) (a : LaneAttr) (n : Nat) : Dev :=
  (List.range n).foldl (fun d j => if bit mask j then d.setClientLane (k + j) a else d) d

theorem Dev.writeClientLanes_succ (d : Dev) (k mask : Nat) (a : LaneAttr) (n : Nat) : d.writeClientLanes k mask a (n + 1) =
    if bit mask n then (d.writeClientLanes k mask a n).setClientLane (k + n) a else d.writeClientLanes k mask a n := by
  rw [Dev.writeClientLanes, List.range_succ, List.foldl_append]
  rfl

theorem Dev.writeClientLanes_writes (d : Dev) (k mask : Nat) (a : LaneAttr) (n : Nat) :
    (∀ p, ((d.writeClientLanes k mask a n).client p).enabled = (d.client p).enabled) ∧
      (∀ i, (d.writeClientLanes k mask a n).lane (k + i) = if i < n ∧ bit mask i = true then a else d.lane (k + i)) := by
  induction n with
  | zero => exact ⟨fun _ => rfl, fun _ => rfl⟩
  | succ n ih =>
    obtain ⟨enabled, lane⟩ := ih
    rw [Dev.writeClientLanes_succ]
    split
    next named =>
      obtain ⟨enabled', lane'⟩ := (d.writeClientLanes k mask a n).setClientLane_writes (k + n) a
      refine ⟨fun p => (enabled' p).trans (enabled p), fun i => ?_⟩
      rw [lane', lane]
      by_cases last : i = n
      · simp [last, named]
      · have before : i < n + 1 ↔ i < n := by omega
        simp [last, before]
    next unnamed =>
      refine ⟨enabled, fun i => ?_⟩
      rw [lane]
      by_cases last : i = n
      · simp [last, unnamed]
      · have before : i < n + 1 ↔ i < n := by omega
        simp [before]

/-- A CP_CONFIG enables or disables the port, sets its FEC, then writes the lanes it names. -/
theorem Dev.configClient_eq (d : Dev) (x : Desc) (c : Cmd) : d.configClient x c =
    ((d.switchClient x (c.field 0 1)).setClientFec x (c.field 1 1)).writeClientLanes x.cp (c.field 2 1) (clientLaneOf c)
      x.lanes := rfl

theorem Dev.configClient_writes (d : Dev) (x : Desc) (c : Cmd) :
    ((d.configClient x c).client x.cp).enabled =
        (if c.field 0 1 = 0 then false else if c.field 0 1 = 1 then true else (d.client x.cp).enabled) ∧
      (∀ k, (d.configClient x c).lane (x.cp + k) =
        if k < x.lanes ∧ bit (c.field 2 1) k = true then clientLaneOf c else d.lane (x.cp + k)) := by
  obtain ⟨switched, lane⟩ := d.switchClient_enables x (c.field 0 1)
  obtain ⟨kept, lane'⟩ := (d.switchClient x (c.field 0 1)).setClientFec_enables x (c.field 1 1)
  obtain ⟨enabled, written⟩ := ((d.switchClient x (c.field 0 1)).setClientFec x (c.field 1 1)).writeClientLanes_writes x.cp
    (c.field 2 1) (clientLaneOf c) x.lanes
  rw [Dev.configClient_eq]
  refine ⟨(enabled x.cp).trans (kept.trans switched), fun k => ?_⟩
  rw [written, lane', lane]

theorem applyCpConfig_of_passes (d : Dev) (c : Cmd) {i : Image} {x : Desc} (active : d.sched.active = some i)
    (desc : i.clientDesc c.index = some x) (passes : checkCpConfig d c = none) :
    applyCpConfig d c = (d.configClient x c, stOk, []) := by
  rw [applyCpConfig, passes]
  simp only [recheck, active, Option.bind_some, desc]
  rfl

/-- Client ports and lanes after a command that was answered stand as its effect left them. -/
theorem State.shows_clients {s : State} {op : Nat} {w : Waiting} {e : Dev} {st : Nat} {pl : List Byte}
    (due : s.effectDue op w = true) (applied : applyLow s.dev w.cmd = some (e, st, pl)) (ends : st ≠ stGoesOn) :
    ∃ t, exec .untimedCommandEffect s = .next t ∧ (∀ k, t.dev.client k = e.client k) ∧ (∀ l, t.dev.lane l = e.lane l) :=
  ⟨_, State.exec_effect due applied ends, Dev.client_congr (Dev.finish_clients e w st pl),
    Dev.lane_congr (Dev.finish_lanes e w st pl)⟩

theorem cp_config_takes_effect (s : State) (w : Waiting) (i : Image) (x : Desc) (due : s.effectDue 0x0503 w = true)
    (active : s.dev.sched.active = some i) (desc : i.clientDesc w.cmd.index = some x)
    (passes : checkCpConfig s.dev w.cmd = none) :
    ∃ t, exec .untimedCommandEffect s = .next t ∧
      (t.dev.client x.cp).enabled =
        (if w.cmd.field 0 1 = 0 then false else if w.cmd.field 0 1 = 1 then true else (s.dev.client x.cp).enabled) ∧
      (∀ k, k < x.lanes → bit (w.cmd.field 2 1) k = false → t.dev.lane (x.cp + k) = s.dev.lane (x.cp + k)) ∧
      (∀ k, k < x.lanes → bit (w.cmd.field 2 1) k = true → t.dev.lane (x.cp + k) =
        ⟨clamp 0 15 (w.cmd.field 3 1), clamp 0 31 (w.cmd.field 4 1), clamp 0 63 (w.cmd.field 5 1), w.cmd.field 6 1 % 4,
          if w.cmd.field 7 1 ≤ 16 then w.cmd.field 7 1 else 0, bit (w.cmd.field 8 1) 0⟩) := by
  have applied : applyLow s.dev w.cmd = some (s.dev.configClient x w.cmd, stOk, []) := by
    simp [applyLow, State.opcode_of_effectDue due, applyCpConfig_of_passes _ _ active desc passes]
  obtain ⟨t, run, client, lane⟩ := State.shows_clients due applied (by decide)
  obtain ⟨enabled, written⟩ := s.dev.configClient_writes x w.cmd
  refine ⟨t, run, by rw [client, enabled], fun k inside unnamed => ?_, fun k inside named => ?_⟩
  · rw [lane, written, if_neg (by simp [unnamed])]
  · rw [lane, written, if_pos ⟨inside, named⟩]
    rfl

/-- Settles O30: client lanes, their frame state, and the two commands each by the lemma about its own effect. -/
theorem clientPortsAndMaintenanceChange : Obligations.client_ports_and_maintenance_change :=
  ⟨client_lane_comes_up, client_lane_goes_down, client_frame_state_is_taken, ch_maint_takes_effect, ch_maint_expires,
    cp_config_takes_effect⟩

end Sys2Proof.Machine

namespace Sys2Proof.Machine

open Sys2Proof

/-! ### Layers of objects (R207) -/

/-- Two layers of objects share a key only where both are the same. -/
theorem layerKey_inj {o p k l : Nat} (hk : k < 256) (hl : l < 256) : layerKey o k = layerKey p l ↔ o = p ∧ k = l := by
  unfold layerKey
  omega

theorem Dev.layer_congr {d e : Dev} (layers : e.layers = d.layers) (o k : Nat) : e.layer o k = d.layer o k := by
  rw [Dev.layer, layers, Dev.layer]

@[simp] theorem Dev.setLayer_layer_self (d : Dev) (obj l : Nat) (x : Layer) : (d.setLayer obj l x).layer obj l = x :=
  Tab.get_set_self ..

theorem Dev.setLayer_layer_of_ne (d : Dev) {obj l o k : Nat} (x : Layer) (ne : layerKey o k ≠ layerKey obj l) :
    (d.setLayer obj l x).layer o k = d.layer o k :=
  Tab.get_set_of_ne _ _ _ _ _ ne

theorem bit_setBit_self (v i : Nat) (b : Bool) : bit (setBit v i b) i = b := by
  match b with
  | true => exact bit_setBit_true v i
  | false => simp [bit_setBit_false]

/-- A bit set to what it is. -/
theorem setBit_of_bit {v i : Nat} {b : Bool} (stands : bit v i = b) : setBit v i b = v := by
  simp [setBit, stands]

/-! ### An input is set or cleared (R210, R217)

`Dev.PutsLayer d obj l x e`: from `d` to `e` one layer of one object changes, to `x`; every other layer stands as it did. -/

structure Dev.PutsLayer (d : Dev) (obj l : Nat) (x : Layer) (e : Dev) : Prop extends Dev.Reports d e where
  layer : e.layer obj l = x
  others : ∀ o k, layerKey o k ≠ layerKey obj l → e.layer o k = d.layer o k

namespace Dev.PutsLayer

variable {d e f : Dev} {obj l : Nat} {x y : Layer}

theorem set (d : Dev) (obj l : Nat) (x : Layer) : d.PutsLayer obj l x (d.setLayer obj l x) :=
  ⟨.of_eq rfl rfl rfl, d.setLayer_layer_self obj l x, fun _ _ ne => d.setLayer_layer_of_ne x ne⟩

theorem self (d : Dev) (obj l : Nat) : d.PutsLayer obj l (d.layer obj l) d := ⟨.refl d, rfl, fun _ _ _ => rfl⟩

theorem raise (h : d.PutsLayer obj l x e) (code o : Nat) (data : List Byte) : d.PutsLayer obj l x (e.raise code o data) :=
  ⟨h.toReports.trans (.raise ..), h.layer, h.others⟩

theorem trans (h : d.PutsLayer obj l x e) (g : e.PutsLayer obj l y f) : d.PutsLayer obj l y f :=
  ⟨h.toReports.trans g.toReports, g.layer, fun o k ne => (g.others o k ne).trans (h.others o k ne)⟩

/-- The frame of a step with such an effect: the layers of other codes or objects, hub SRAM and HBM, and the rings. -/
theorem settled {s : State} (h : s.dev.PutsLayer obj l x e) (live : s.live = true) (code : l < 256) :
    (∀ o k, k < 256 → ¬(o = obj ∧ k = l) → (s.settle e).dev.layer o k = s.dev.layer o k) ∧
      (s.settle e).mem = s.mem ∧ (s.settle e).bar1 = s.bar1 :=
  ⟨fun o k hk ne => h.others o k (mt (layerKey_inj hk code).mp ne), rfl, State.settle_bar1_of_live live h.out⟩

end Dev.PutsLayer

/-- An input that is noted stands at its value among the reported ones. -/
theorem Dev.noteInput_puts (d : Dev) (obj l i : Nat) (v : Bool) :
    d.PutsLayer obj l { d.layer obj l with reported := setBit (d.layer obj l).reported i v } (d.noteInput obj l i v) := by
  have noted := Dev.PutsLayer.set d obj l { d.layer obj l with reported := setBit (d.layer obj l).reported i v }
  unfold Dev.noteInput
  dsimp only
  split
  next stands =>
    rw [setBit_of_bit (by simpa using stands)]
    exact .self d obj l
  next =>
    split
    · exact noted
    · exact noted.raise ..

/-- The event by which the change of an input is reported: raised or cleared. -/
def inputEvent (v : Bool) : Nat := if v then 0x0701 else 0x0702

/-- A change of an input is reported, unless its bit is masked. -/
theorem Dev.noteInput_arising (d : Dev) (obj l i : Nat) (v : Bool) :
    (d.noteInput obj l i v).log.arising =
      if bit (d.layer obj l).reported i = !v ∧ bit (d.layer obj l).mask i = false then
        d.log.arising ++ [d.eventOf (inputEvent v) obj (leBytes 4 obj ++ leBytes 1 l ++ leBytes 1 i)]
      else d.log.arising := by
  by_cases stands : bit (d.layer obj l).reported i = v
  · simp [Dev.noteInput, stands]
  · have turned : bit (d.layer obj l).reported i = !v := Bool.eq_not.mpr stands
    by_cases masked : bit (d.layer obj l).mask i = true
    · simp [Dev.noteInput, turned, masked]
    · simp [Dev.noteInput, turned, masked, Dev.eventOf, inputEvent]

/-- An integrator's value stands in the input and among the reported ones. -/
theorem Dev.setInput_puts (d : Dev) (obj l i : Nat) (v : Bool) :
    d.PutsLayer obj l { d.layer obj l with
      inputs := setBit (d.layer obj l).inputs i v, reported := setBit (d.layer obj l).reported i v }
      (d.setInput obj l i v) := by
  have written := Dev.PutsLayer.set d obj l { d.layer obj l with inputs := setBit (d.layer obj l).inputs i v }
  have noted := Dev.noteInput_puts (d.setLayer obj l { d.layer obj l with inputs := setBit (d.layer obj l).inputs i v })
    obj l i v
  rw [written.layer] at noted
  exact written.trans noted

theorem State.setInput_reports (s : State) (obj l i : Nat) (v : Bool) :
    if bit (s.dev.layer obj l).reported i = !v ∧ bit (s.dev.layer obj l).mask i = false then
      s.raisesOne (s.settle (s.dev.setInput obj l i v)) (inputEvent v) obj (leBytes 4 obj ++ leBytes 1 l ++ leBytes 1 i)
    else s.raisesNone (s.settle (s.dev.setInput obj l i v)) := by
  have arises := Dev.noteInput_arising (s.dev.setLayer obj l
    { s.dev.layer obj l with inputs := setBit (s.dev.layer obj l).inputs i v }) obj l i v
  rw [Dev.setLayer_layer_self] at arises
  split
  next reported => exact State.settle_arising_one s _ _ (arises.trans (if_pos reported))
  next quiet => exact State.raisesNone_settle (arises.trans (if_neg quiet))

/-! ### DEFECT_RAISED and DEFECT_CLEARED (R210, R217) -/

/-- Only a protection group has path monitors. -/
theorem Dev.monitorDefect_of_layer (d : Dev) {obj : Nat} (layer : objType obj ≠ 6) (path i : Nat) (v : Bool) :
    d.monitorDefect obj path i v = none := by
  unfold Dev.monitorDefect
  dsimp only
  split
  · rfl
  · simp [layer]

/-- A step that sets or clears a defect input: the layer after it, what it reports, and what stays. -/
theorem State.shows_setInput {s : State} {o : Host.Outcome State Fault Refusal} {obj l i : Nat} {v : Bool}
    (live : s.live = true) (code : l < 256) (step : o = .next (s.settle (s.dev.setInput obj l i v))) :
    ∃ t, o = .next t ∧ bit (t.dev.layer obj l).inputs i = v ∧ bit (t.dev.layer obj l).reported i = v ∧
      (t.dev.layer obj l).mask = (s.dev.layer obj l).mask ∧
      (if bit (s.dev.layer obj l).reported i = !v ∧ bit (s.dev.layer obj l).mask i = false then
        s.raisesOne t (inputEvent v) obj (leBytes 4 obj ++ leBytes 1 l ++ leBytes 1 i)
      else s.raisesNone t) ∧
      (∀ o k, k < 256 → ¬(o = obj ∧ k = l) → t.dev.layer o k = s.dev.layer o k) ∧ t.mem = s.mem ∧ t.bar1 = s.bar1 := by
  have puts := s.dev.setInput_puts obj l i v
  refine ⟨_, step, ?_, ?_, ?_, s.setInput_reports obj l i v, puts.settled live code⟩
  · exact (congrArg (bit ·.inputs i) puts.layer).trans (bit_setBit_self ..)
  · exact (congrArg (bit ·.reported i) puts.layer).trans (bit_setBit_self ..)
  · exact (congrArg Layer.mask puts.layer :)

theorem defect_of_a_layer_is_raised (s : State) (obj l i : Nat) (live : s.live = true) (layer : objType obj ≠ 6)
    (code : l < 256) (produces : s.dev.produces obj l i = true) (integrated : s.dev.integratedTo obj l i true = true) :
    ∃ t, exec (.defectRaised obj l i) s = .next t ∧ bit (t.dev.layer obj l).inputs i = true ∧
      bit (t.dev.layer obj l).reported i = true ∧ (t.dev.layer obj l).mask = (s.dev.layer obj l).mask ∧
      (if bit (s.dev.layer obj l).reported i = false ∧ bit (s.dev.layer obj l).mask i = false then
        s.raisesOne t 0x0701 obj (leBytes 4 obj ++ leBytes 1 l ++ leBytes 1 i)
      else s.raisesNone t) ∧
      (∀ o k, k < 256 → ¬(o = obj ∧ k = l) → t.dev.layer o k = s.dev.layer o k) ∧ t.mem = s.mem ∧ t.bar1 = s.bar1 := by
  have step : execDefectRaised obj l i s = .next (s.settle (s.dev.setInput obj l i true)) := by
    rw [execDefectRaised, State.run_eq s _ (State.powered_of_live live)]
    simp [Dev.monitorDefect_of_layer _ layer, produces, integrated]
  exact State.shows_setInput live code step

theorem defect_of_a_layer_is_cleared (s : State) (obj l i : Nat) (live : s.live = true) (layer : objType obj ≠ 6)
    (code : l < 256) (has : s.dev.hasLayer obj l = true) (input : (integrated l).contains i = true)
    (integrated : s.dev.integratedTo obj l i false = true) :
    ∃ t, exec (.defectCleared obj l i) s = .next t ∧ bit (t.dev.layer obj l).inputs i = false ∧
      bit (t.dev.layer obj l).reported i = false ∧
      (if bit (s.dev.layer obj l).reported i = true ∧ bit (s.dev.layer obj l).mask i = false then
        s.raisesOne t 0x0702 obj (leBytes 4 obj ++ leBytes 1 l ++ leBytes 1 i)
      else s.raisesNone t) ∧
      (∀ o k, k < 256 → ¬(o = obj ∧ k = l) → t.dev.layer o k = s.dev.layer o k) ∧ t.mem = s.mem ∧ t.bar1 = s.bar1 := by
  have step : execDefectCleared obj l i s = .next (s.settle (s.dev.setInput obj l i false)) := by
    rw [execDefectCleared, State.run_eq s _ (State.powered_of_live live)]
    simp only [Dev.monitorDefect_of_layer _ layer, has, input, integrated, Bool.and_self, if_true]
  obtain ⟨t, run, inputs, reported, -, rest⟩ := State.shows_setInput live code step
  exact ⟨t, run, inputs, reported, rest⟩

/-! ### Defects of path monitors (R231) -/

@[simp] theorem PgState.setPath_path (x : PgState) (k : Nat) (m : PgPath) : (x.setPath k m).path k = m := by
  unfold PgState.setPath PgState.path
  split <;> rfl

/-- A path monitor with one of its defects set or cleared. -/
def PgPath.setDefect (m : PgPath) (i : Nat) (v : Bool) : PgPath := { m with monDefects := setBit m.monDefects i v }

/-- A group one of whose path monitors has a defect set or cleared. -/
def PgState.setDefect (x : PgState) (path i : Nat) (v : Bool) : PgState := x.setPath path ((x.path path).setDefect i v)

theorem PgState.setDefect_monDefects (x : PgState) (path i : Nat) (v : Bool) :
    bit ((x.setDefect path i v).path path).monDefects i = v := by
  rw [PgState.setDefect, PgState.setPath_path]
  exact bit_setBit_self ..

/-- Defects that the monitors of a group's paths detect: dLTC only where they watch a TCM level (R231). -/
def PgRec.detects (r : PgRec) (i : Nat) : Prop := i = 1 ∨ i = 2 ∨ i = 3 ∨ i = 5 ∨ (i = 4 ∧ r.arch % 8 = 2)

/-- A path monitor takes a defect at its value, in its group. -/
theorem Dev.monitorDefect_of_group (d : Dev) {g path i : Nat} {r : PgRec} {v : Bool} (known : g < 128) (paths : path < 2)
    (group : d.pgRec g = some r) (run : (d.pg g).run = true) (watches : r.arch % 8 ≠ 0) (detects : r.detects i)
    (ready : (((d.pg g).path path).gained || !v) = true) (stands : d.monitorHas r path i v = true) :
    d.monitorDefect (objGroup g) path i v = some (d.setPg g ((d.pg g).setDefect path i v)) := by
  have type : objType (objGroup g) = 6 := by unfold objType objGroup objId; omega
  have index : objIndex (objGroup g) = g := by unfold objIndex objGroup objId; omega
  have named : ([1, 2, 3, 5].contains i || (i = 4 && r.arch % 8 = 2)) = true := by
    simpa [PgRec.detects, or_assoc] using detects
  have ok : (objType (objGroup g) = 6 && path < 2 && (d.pg g).run && r.arch % 8 != 0 &&
      (((d.pg g).path path).gained || !v) && ([1, 2, 3, 5].contains i || (i = 4 && r.arch % 8 = 2)) &&
      d.monitorHas r path i v) = true := by
    simp only [type, paths, run, bne_iff_ne.mpr watches, ready, named, stands, decide_true, Bool.and_self]
  simp only [Dev.monitorDefect, index, group]
  rw [if_neg (by rw [Bool.not_eq_true', Bool.not_eq_false]; exact ok)]
  rfl

/-- A step that sets or clears a defect of a path monitor. -/
theorem State.shows_setDefect {s : State} {o : Host.Outcome State Fault Refusal} {g path i : Nat} {v : Bool}
    (step : o = .next (s.settle (s.dev.setPg g ((s.dev.pg g).setDefect path i v)))) :
    ∃ t, o = .next t ∧ bit ((t.dev.pg g).path path).monDefects i = v ∧
      (∀ o, o ≠ g → t.dev.pg o = s.dev.pg o) ∧ s.raisesNone t := by
  have group (o : Nat) : (s.settle (s.dev.setPg g ((s.dev.pg g).setDefect path i v))).dev.pg o =
      if o = g then (s.dev.pg g).setDefect path i v else s.dev.pg o := s.dev.setPg_pg ..
  refine ⟨_, step, ?_, fun o ne => (group o).trans (if_neg ne), State.raisesNone_settle rfl⟩
  rw [group, if_pos rfl]
  exact PgState.setDefect_monDefects ..

theorem defect_of_a_path_monitor_is_taken (s : State) (g path i : Nat) (r : PgRec) (live : s.live = true) (known : g < 128)
    (paths : path < 2) (group : s.dev.pgRec g = some r) (run : (s.dev.pg g).run = true) (watches : r.arch % 8 ≠ 0)
    (detects : i = 1 ∨ i = 2 ∨ i = 3 ∨ i = 5 ∨ (i = 4 ∧ r.arch % 8 = 2)) :
    (((s.dev.pg g).path path).gained = true → s.dev.monitorHas r path i true = true →
      ∃ t, exec (.defectRaised (objGroup g) path i) s = .next t ∧ bit ((t.dev.pg g).path path).monDefects i = true ∧
        (∀ o, o ≠ g → t.dev.pg o = s.dev.pg o) ∧ s.raisesNone t) ∧
    (s.dev.monitorHas r path i false = true →
      ∃ t, exec (.defectCleared (objGroup g) path i) s = .next t ∧ bit ((t.dev.pg g).path path).monDefects i = false ∧
        (∀ o, o ≠ g → t.dev.pg o = s.dev.pg o) ∧ s.raisesNone t) := by
  have taken {v : Bool} := s.dev.monitorDefect_of_group (v := v) known paths group run watches detects
  refine ⟨fun gained stands => ?_, fun stands => ?_⟩
  · have step : execDefectRaised (objGroup g) path i s = _ := State.run_eq s _ (State.powered_of_live live)
    rw [taken (by simp [gained]) stands] at step
    exact State.shows_setDefect step
  · have step : execDefectCleared (objGroup g) path i s = _ := State.run_eq s _ (State.powered_of_live live)
    rw [taken (by simp) stands] at step
    exact State.shows_setDefect step

/-- Settles O35: a defect of a layer raised, one cleared, and one of a path monitor each by the lemma about its own case. -/
theorem defectsAreRaisedAndCleared : Obligations.defects_are_raised_and_cleared :=
  ⟨defect_of_a_layer_is_raised, defect_of_a_layer_is_cleared, defect_of_a_path_monitor_is_taken⟩

end Sys2Proof.Machine

namespace Sys2Proof.Machine

open Sys2Proof

/-! ### Layers and PM entities after an untimed command -/

theorem Dev.pm_congr {d e : Dev} (pms : e.pms = d.pms) (o k : Nat) : e.pm o k = d.pm o k := by
  rw [Dev.pm, pms, Dev.pm]

@[simp] theorem Dev.setPm_pm_self (d : Dev) (obj l : Nat) (x : PmEntity) : (d.setPm obj l x).pm obj l = x :=
  Tab.get_set_self ..

/-- Layers and PM entities after a command that was answered stand as its effect left them. -/
theorem State.shows_monitoring {s : State} {op : Nat} {w : Waiting} {e : Dev} {st : Nat} {pl : List Byte}
    (due : s.effectDue op w = true) (applied : applyLow s.dev w.cmd = some (e, st, pl)) (ends : st ≠ stGoesOn) :
    ∃ t, exec .untimedCommandEffect s = .next t ∧ (∀ o k, t.dev.layer o k = e.layer o k) ∧ t.dev.pms = e.pms ∧
      t.dev.pmDev = e.pmDev :=
  ⟨_, State.exec_effect due applied ends, Dev.layer_congr (Dev.finish_layers e w st pl), Dev.finish_pms e w st pl,
    Dev.finish_pmDev e w st pl⟩

/-- A command whose effect is to set one layer: the layer after it, and every other layer. -/
theorem State.shows_setLayer {s : State} {op : Nat} {w : Waiting} {obj l : Nat} {x : Layer} (due : s.effectDue op w = true)
    (code : l < 256) (applied : applyLow s.dev w.cmd = some (okWith (s.dev.setLayer obj l x))) :
    ∃ t, exec .untimedCommandEffect s = .next t ∧ t.dev.layer obj l = x ∧
      (∀ o k, k < 256 → ¬(o = obj ∧ k = l) → t.dev.layer o k = s.dev.layer o k) := by
  obtain ⟨t, run, layer, -, -⟩ := State.shows_monitoring due applied (by decide)
  exact ⟨t, run, (layer obj l).trans (s.dev.setLayer_layer_self obj l x), fun o k hk ne =>
    (layer o k).trans (s.dev.setLayer_layer_of_ne x (mt (layerKey_inj hk code).mp ne))⟩

/-- A field of one byte is a byte. -/
theorem Cmd.field_one_lt (c : Cmd) (i : Nat) : c.field i 1 < 256 := by
  have byte := (byteAt c.payload i).isLt
  simpa [Cmd.field, fieldAt] using byte

/-! ### DEF_MASK and DEF_DEG_SET (R224, R225) -/

theorem def_mask_takes_effect (s : State) (w : Waiting) (l : Nat) (due : s.effectDue 0x0702 w = true)
    (code : l = w.cmd.field 0 1) (has : s.dev.hasLayer w.cmd.object l = true) :
    ∃ t, exec .untimedCommandEffect s = .next t ∧
      t.dev.layer w.cmd.object l = { s.dev.layer w.cmd.object l with mask := w.cmd.field 2 2 } ∧
      (∀ o k, k < 256 → ¬(o = w.cmd.object ∧ k = l) → t.dev.layer o k = s.dev.layer o k) := by
  subst code
  have passes : checkDefMask s.dev w.cmd = none := by simp [checkDefMask, refuseIf, has]
  refine State.shows_setLayer due (w.cmd.field_one_lt 0) ?_
  simp [applyLow, State.opcode_of_effectDue due, applyDefMask, passes, recheck]

theorem def_deg_set_takes_effect (s : State) (w : Waiting) (l : Nat) (due : s.effectDue 0x0703 w = true)
    (code : l = w.cmd.field 0 1) (has : s.dev.hasLayer w.cmd.object l = true) (deg : (degBit l).isSome = true) :
    ∃ t, exec .untimedCommandEffect s = .next t ∧
      t.dev.layer w.cmd.object l = { s.dev.layer w.cmd.object l with
        degmNext := clamp 2 10 (w.cmd.field 1 1), degthrNext := clamp 1 10_000 (w.cmd.field 2 2) } ∧
      (∀ o k, k < 256 → ¬(o = w.cmd.object ∧ k = l) → t.dev.layer o k = s.dev.layer o k) := by
  subst code
  have passes : checkDefDegSet s.dev w.cmd = none := by
    simp [checkDefDegSet, refuseIf, has, Option.isSome_iff_ne_none.mp deg]
  refine State.shows_setLayer due (w.cmd.field_one_lt 0) ?_
  simp [applyLow, State.opcode_of_effectDue due, applyDefDegSet, passes, recheck]

/-! ### PM_BIN_SET (R227) -/

/-- An entity whose bins in progress are emptied, and suspect. -/
def PmEntity.clearBins (e : PmEntity) : PmEntity :=
  { e with
    m15 := { startPms := e.m15.startPms, suspect := true, crossed := e.m15.crossed }
    h24 := { startPms := e.h24.startPms, suspect := true, crossed := e.h24.crossed } }

/-- An entity with the threshold of a PM_BIN_SET: PARAM and BINTYPE of its bin. -/
def PmEntity.setThreshold (e : PmEntity) (c : Cmd) : PmEntity :=
  { e with
    thresholds := Tab.set e.thresholds (clamp 0 1 (c.field 3 1) * 8 + clamp 0 7 (c.field 2 1)) (c.field 4 4) }

/-- The device as a PM_BIN_SET that passes its checks leaves it. -/
def Dev.setBins (d : Dev) (c : Cmd) : Dev :=
  let l := c.field 1 1
  let e := d.entity c.object l
  match fallback 4 0 (c.field 0 1) with
  | 1 => { d with pmDev := { d.pmDev with originNext := c.field 4 4 } }
  | 2 => d.setPm c.object l (e.setThreshold c)
  | 3 => d.setPm c.object l { e with uasNext := fallback 1 1 (c.field 4 4) == 1 }
  | 4 => d.setPm c.object l e.clearBins
  | _ => d

theorem applyPmBinSet_of_passes (d : Dev) (c : Cmd) (passes : checkPmBinSet d c = none) :
    applyPmBinSet d c = okWith (d.setBins c) := by
  rw [applyPmBinSet, passes, Dev.setBins]
  generalize fallback 4 0 (c.field 0 1) = code
  match code with
  | 0 | 1 | 2 | 3 | 4 | _ + 5 => rfl

/-- UAS_MODE: 0 is UNIDIRECTIONAL, and anything else BIDIRECTIONAL. -/
theorem fallback_uas (v : Nat) : (fallback 1 1 v == 1) = decide (v ≠ 0) := by
  match v with
  | 0 => rfl
  | 1 => rfl
  | n + 2 => simp [fallback]

theorem pm_bin_set_takes_effect (s : State) (w : Waiting) (l : Nat) (due : s.effectDue 0x0705 w = true)
    (passes : checkPmBinSet s.dev w.cmd = none) (code : l = w.cmd.field 1 1) :
    ∃ t, exec .untimedCommandEffect s = .next t ∧
      (w.cmd.field 0 1 = 1 → t.dev.pmDev.originNext = w.cmd.field 4 4 ∧ t.dev.pmDev.origin = s.dev.pmDev.origin ∧
        t.dev.pms = s.dev.pms) ∧
      (w.cmd.field 0 1 = 2 → (t.dev.pm w.cmd.object l).thresholds =
        Tab.set (s.dev.entity w.cmd.object l).thresholds
          (clamp 0 1 (w.cmd.field 3 1) * 8 + clamp 0 7 (w.cmd.field 2 1)) (w.cmd.field 4 4)) ∧
      (w.cmd.field 0 1 = 3 → (t.dev.pm w.cmd.object l).uasNext = decide (w.cmd.field 4 4 ≠ 0)) ∧
      (w.cmd.field 0 1 = 4 → (t.dev.pm w.cmd.object l).m15.suspect = true ∧
        (t.dev.pm w.cmd.object l).m15.near = {} ∧ (t.dev.pm w.cmd.object l).m15.far = {} ∧
        (t.dev.pm w.cmd.object l).h24.suspect = true ∧ (t.dev.pm w.cmd.object l).h24.near = {} ∧
        (t.dev.pm w.cmd.object l).h24.far = {}) ∧
      (w.cmd.field 0 1 = 0 → t.dev.pms = s.dev.pms ∧ t.dev.pmDev = s.dev.pmDev) := by
  subst code
  have applied : applyLow s.dev w.cmd = some (s.dev.setBins w.cmd, stOk, []) := by
    simp [applyLow, State.opcode_of_effectDue due, applyPmBinSet_of_passes _ _ passes, okWith]
  obtain ⟨t, run, -, pms, pmDev⟩ := State.shows_monitoring due applied (by decide)
  refine ⟨t, run, ?_⟩
  simp only [Dev.pm_congr pms, pms, pmDev]
  refine ⟨fun origin => ?_, fun threshold => ?_, fun uas => ?_, fun clear => ?_, fun nothing => ?_⟩
  · simp [Dev.setBins, origin, fallback]
  · simp [Dev.setBins, threshold, fallback, PmEntity.setThreshold]
  · simp [Dev.setBins, uas, show fallback 4 0 3 = 3 from rfl, fallback_uas]
  · simp [Dev.setBins, clear, fallback, PmEntity.clearBins]
  · simp [Dev.setBins, nothing, fallback]

/-- Settles O37: each setting by the lemma about its own effect. -/
theorem defectAndPmSettingsTakeEffect : Obligations.defect_and_pm_settings_take_effect :=
  ⟨def_mask_takes_effect, def_deg_set_takes_effect, pm_bin_set_takes_effect⟩

end Sys2Proof.Machine

namespace Sys2Proof.Machine

open Sys2Proof

/-! ### PM entities and their table (R219) -/

theorem Dev.setPm_pm_of_ne (d : Dev) {obj l o k : Nat} (x : PmEntity) (ne : layerKey o k ≠ layerKey obj l) :
    (d.setPm obj l x).pm o k = d.pm o k :=
  Tab.get_set_of_ne _ _ _ _ _ ne

/-- Entries taken away by their indices leave the others. -/
theorem Tab.get_filter {α : Type} (a : α) (t : Tab α) (keep : Nat → Bool) (k : Nat) (kept : keep k = true) :
    Tab.get a (t.filter fun e => keep e.1) k = Tab.get a t k := by
  induction t with
  | nil => rfl
  | cons e t ih =>
    obtain ⟨j, b⟩ := e
    by_cases same : j = k
    · subst same
      simp [Tab.get, kept]
    · by_cases stays : keep j = true
      · simpa [stays, Tab.get, same] using ih
      · simpa [stays, Tab.get, same] using ih

/-- Whether a layer is a PM entity is told by the image, the line ports and the ODU overhead. -/
theorem Dev.isPmEntity_congr {d e : Dev} (sched : e.sched = d.sched) (ports : e.ports = d.ports) (odu : e.odu = d.odu)
    (obj l : Nat) : e.isPmEntity obj l = d.isPmEntity obj l := by
  simp [Dev.isPmEntity, Dev.hasLayer, Dev.port, Dev.tcmMode, Dev.oduKind, Dev.oduOf, Dev.desc, sched, ports, odu]

theorem layersOf_lt {type kind l : Nat} (h : l ∈ layersOf type kind) : l < 256 := by
  have all : ∀ k ∈ layersOf type kind, k < 256 := by
    unfold layersOf
    split
    · split <;> split <;> decide
    all_goals decide
  exact all l h

/-- Layer codes are bytes (R207). -/
theorem Image.allLayers_lt {i : Image} {p : Nat × Nat} (h : p ∈ i.allLayers) : p.2 < 256 := by
  have layers (o : Nat) (m : p ∈ (i.layers o).map fun l => (o, l)) : p.2 < 256 := by
    obtain ⟨l, code, rfl⟩ := List.mem_map.mp m
    exact layersOf_lt code
  simp only [Image.allLayers, List.mem_append, List.mem_flatMap] at h
  obtain ((⟨x, -, m⟩ | ⟨x, -, m⟩) | ⟨x, -, m⟩) | ⟨x, -, m⟩ := h
  all_goals exact layers _ m

/-! ### Effects beside the PM entities

`Dev.SparesPm d e`: from `d` to `e` every PM entity stands as it did, and so does what makes a layer one; the Beat is the
same, no event is lost, and no response waits that did not. `Dev.PutsPm d obj l x e`: so it is but for one entity, which stands
at `x`. -/

structure Dev.SparesPm (d e : Dev) : Prop extends Dev.Reports d e where
  sched : e.sched = d.sched
  ports : e.ports = d.ports
  odu : e.odu = d.odu
  pms : e.pms = d.pms

namespace Dev.SparesPm

theorem refl (d : Dev) : d.SparesPm d := ⟨.refl d, rfl, rfl, rfl, rfl⟩

theorem trans {d e f : Dev} (h : d.SparesPm e) (g : e.SparesPm f) : d.SparesPm f :=
  ⟨h.toReports.trans g.toReports, g.sched.trans h.sched, g.ports.trans h.ports, g.odu.trans h.odu, g.pms.trans h.pms⟩

theorem raise (d : Dev) (code obj : Nat) (l : List Byte) : d.SparesPm (d.raise code obj l) :=
  ⟨.raise .., rfl, rfl, rfl, rfl⟩

theorem setLayer (d : Dev) (obj l : Nat) (x : Layer) : d.SparesPm (d.setLayer obj l x) :=
  ⟨.of_eq rfl rfl rfl, rfl, rfl, rfl, rfl⟩

theorem setPg (d : Dev) (g : Nat) (x : PgState) : d.SparesPm (d.setPg g x) := ⟨.of_eq rfl rfl rfl, rfl, rfl, rfl, rfl⟩

theorem setMonitor (d : Dev) (g k : Nat) (m : PathMon) : d.SparesPm (d.setMonitor g k m) :=
  ⟨.of_eq rfl rfl rfl, rfl, rfl, rfl, rfl⟩

theorem noteInput (d : Dev) (obj l i : Nat) (v : Bool) : d.SparesPm (d.noteInput obj l i v) := by
  obtain ⟨_, _, _, eq⟩ := d.noteInput_eq obj l i v
  exact ⟨(d.noteInput_puts obj l i v).toReports, by rw [eq], by rw [eq], by rw [eq], by rw [eq]⟩

theorem setInput (d : Dev) (obj l i : Nat) (v : Bool) : d.SparesPm (d.setInput obj l i v) :=
  (SparesPm.setLayer ..).trans (.noteInput ..)

theorem foldl {α : Type} {f : Dev → α → Dev} (h : ∀ (d : Dev) a, d.SparesPm (f d a)) (l : List α) (d : Dev) :
    d.SparesPm (l.foldl f d) :=
  List.foldlRecOn l f (motive := fun e => d.SparesPm e) (refl d) fun e r a _ => r.trans (h e a)

theorem isPmEntity {d e : Dev} (h : d.SparesPm e) (obj l : Nat) : e.isPmEntity obj l = d.isPmEntity obj l :=
  Dev.isPmEntity_congr h.sched h.ports h.odu obj l

end Dev.SparesPm

/-- From `d` to `e` only one PM entity changes, and it then stands at `x`. -/
def Dev.PutsPm (d : Dev) (obj l : Nat) (x : PmEntity) (e : Dev) : Prop := (d.setPm obj l x).SparesPm e

namespace Dev.PutsPm

variable {d e : Dev} {obj l : Nat} {x : PmEntity}

/-- An entity is set after what spares the entities. -/
theorem after (h : d.SparesPm e) (obj l : Nat) (x : PmEntity) : d.PutsPm obj l x (e.setPm obj l x) :=
  ⟨⟨h.fc, h.out, h.kept⟩, h.sched, h.ports, h.odu, congrArg (Tab.set · (layerKey obj l) x) h.pms⟩

theorem pm (h : d.PutsPm obj l x e) : e.pm obj l = x :=
  (Dev.pm_congr (SparesPm.pms h) obj l).trans (d.setPm_pm_self obj l x)

theorem pm_of_ne (h : d.PutsPm obj l x e) {o k : Nat} (ne : layerKey o k ≠ layerKey obj l) : e.pm o k = d.pm o k :=
  (Dev.pm_congr (SparesPm.pms h) o k).trans (d.setPm_pm_of_ne x ne)

theorem reports (h : d.PutsPm obj l x e) : d.Reports e := ⟨h.fc, h.out, h.kept⟩

end Dev.PutsPm

/-! ### The second of one entity ends (R219 to R221) -/

/-- Two states of an entity in the same second, after the same last one. -/
structure PmEntity.SameSeconds (e x : PmEntity) : Prop where
  run : x.run = e.run
  cur : x.cur = e.cur
  last : x.last = e.last

theorem PmEntity.SameSeconds.trans {e x y : PmEntity} (h : e.SameSeconds x) (g : x.SameSeconds y) : e.SameSeconds y :=
  ⟨g.run.trans h.run, g.cur.trans h.cur, g.last.trans h.last⟩

/-- An entity with one more bad second, or one more good one, in a row. -/
def PmEntity.countRun (e : PmEntity) (bad : Bool) : PmEntity :=
  { e with badRun := if bad then e.badRun + 1 else 0, goodRun := if bad then 0 else e.goodRun + 1 }

theorem Dev.settleDeg_eq (d : Dev) (obj l : Nat) (e : PmEntity) (s : PmSecond) :
    d.settleDeg obj l e s =
      match degBit l with
      | none => (d, e.countRun (s.bad (d.layer obj l).degthr))
      | some b =>
        if (d.layer obj l).degm ≤ (e.countRun (s.bad (d.layer obj l).degthr)).badRun then
          (d.setInput obj l b true, e.countRun (s.bad (d.layer obj l).degthr))
        else if (d.layer obj l).degm ≤ (e.countRun (s.bad (d.layer obj l).degthr)).goodRun then
          (d.setInput obj l b false, e.countRun (s.bad (d.layer obj l).degthr))
        else (d, e.countRun (s.bad (d.layer obj l).degthr)) := rfl

/-- The settling of dDEG sets or clears its input, or leaves it. -/
theorem Dev.settleDeg_spares (d : Dev) (obj l : Nat) (e : PmEntity) (s : PmSecond) :
    d.SparesPm (d.settleDeg obj l e s).1 ∧ e.SameSeconds (d.settleDeg obj l e s).2 := by
  rw [Dev.settleDeg_eq]
  split
  · exact ⟨.refl d, rfl, rfl, rfl⟩
  · split
    · exact ⟨.setInput .., rfl, rfl, rfl⟩
    · split
      · exact ⟨.setInput .., rfl, rfl, rfl⟩
      · exact ⟨.refl d, rfl, rfl, rfl⟩

theorem Dev.reportCrossings_spares (d : Dev) (obj l type : Nat) (cs : List (Nat × Nat)) :
    d.SparesPm (d.reportCrossings obj l type cs) := by
  unfold Dev.reportCrossings
  exact .foldl (fun _ _ => .raise ..) cs d

/-- A change of the availability of a direction is reported. -/
def Dev.noteUnavailable (d : Dev) (obj l dir : Nat) (now was : Bool) : Dev :=
  if now = was then d
  else d.raise 0x0707 obj (leBytes 4 obj ++ leBytes 1 l ++ leBytes 1 dir ++ leBytes 1 (b2n now))

theorem Dev.noteUnavailable_spares (d : Dev) (obj l dir : Nat) (now was : Bool) :
    d.SparesPm (d.noteUnavailable obj l dir now was) := by
  unfold Dev.noteUnavailable
  split
  · exact .refl d
  · exact .raise ..

/-- The settling of a second only reports: a change of availability per direction, and the crossings of each bin. -/
theorem Dev.settleSecond_spares (d : Dev) (obj l : Nat) (e : PmEntity) :
    d.SparesPm (d.settleSecond obj l e).1 ∧ e.SameSeconds (d.settleSecond obj l e).2 := by
  unfold Dev.settleSecond
  split
  · exact ⟨.refl d, rfl, rfl, rfl⟩
  · dsimp only
    split
    · exact ⟨.refl d, rfl, rfl, rfl⟩
    · refine ⟨?_, rfl, rfl, rfl⟩
      exact (((Dev.noteUnavailable_spares d obj l 0 ..).trans (Dev.noteUnavailable_spares _ obj l 1 ..)).trans
        (Dev.reportCrossings_spares ..)).trans (Dev.reportCrossings_spares ..)

/-- An entity at the end of its second, before the second settles. -/
def PmEntity.endSecond (e : PmEntity) (next : Nat) (irregular : Bool) : PmEntity :=
  let s := { e.cur with irregular := irregular }
  let x := { e with cur := { pms := next }, last := s, pending := s :: e.pending }
  if irregular then x.suspectAt s.pms else x

/-- Where a new ORIGIN comes into force, the bins in progress are suspect. -/
def PmEntity.newOrigin (e : PmEntity) (comes : Bool) : PmEntity :=
  if comes then { e with m15 := { e.m15 with suspect := true }, h24 := { e.h24 with suspect := true } } else e

/-- Where its boundary is reached, the 15-minute bin in progress ends. -/
def PmEntity.endM15 (e : PmEntity) (next : Nat) (ends : Bool) : PmEntity :=
  if ends then { e with m15Closing := e.m15 :: e.m15Closing, m15 := { startPms := next } } else e

/-- Where its boundary is reached, the 24-hour bin in progress ends. -/
def PmEntity.endH24 (e : PmEntity) (next : Nat) (ends : Bool) : PmEntity :=
  if ends then { e with h24Closing := e.h24 :: e.h24Closing, h24 := { startPms := next } } else e

/-- Bins whose last second has settled leave for history, and the UAS mode set comes into force. -/
def PmEntity.retireBins (e : PmEntity) (next : Nat) : PmEntity :=
  { e with
    m15Closing := (closeBins next e.m15.startPms e.m15Closing).1
    h24Closing := (closeBins next e.h24.startPms e.h24Closing).1
    m15Hist := ((closeBins next e.m15.startPms e.m15Closing).2 ++ e.m15Hist).take 32
    h24Hist := ((closeBins next e.h24.startPms e.h24Closing).2 ++ e.h24Hist).take 7, uasBidir := e.uasNext }

/-- The bins of an entity turn with the second. -/
def PmEntity.turnBins (e : PmEntity) (next : Nat) (newOrigin end15 end24 : Bool) : PmEntity :=
  (((e.newOrigin newOrigin).endM15 next end15).endH24 next end24).retireBins next

theorem PmEntity.turnBins_same (e : PmEntity) (next : Nat) (newOrigin end15 end24 : Bool) :
    e.SameSeconds (e.turnBins next newOrigin end15 end24) := by
  have origin (x : PmEntity) : x.SameSeconds (x.newOrigin newOrigin) := by cases newOrigin <;> exact ⟨rfl, rfl, rfl⟩
  have m15 (x : PmEntity) : x.SameSeconds (x.endM15 next end15) := by cases end15 <;> exact ⟨rfl, rfl, rfl⟩
  have h24 (x : PmEntity) : x.SameSeconds (x.endH24 next end24) := by cases end24 <;> exact ⟨rfl, rfl, rfl⟩
  exact (((origin e).trans (m15 _)).trans (h24 _)).trans ⟨rfl, rfl, rfl⟩

/-- An entity keeps the second that ends as its last one, and is in the next, with no blocks. -/
structure PmEntity.EndsSecond (e : PmEntity) (next : Nat) (irregular : Bool) (x : PmEntity) : Prop where
  run : x.run = e.run
  last : x.last = { e.cur with irregular := irregular }
  cur : x.cur = { pms := next }

theorem PmEntity.endSecond_ends (e : PmEntity) (next : Nat) (irregular : Bool) :
    e.EndsSecond next irregular (e.endSecond next irregular) := by
  cases irregular <;> exact ⟨rfl, rfl, rfl⟩

theorem PmEntity.EndsSecond.same {e x y : PmEntity} {next : Nat} {irregular : Bool} (h : e.EndsSecond next irregular x)
    (g : x.SameSeconds y) : e.EndsSecond next irregular y :=
  ⟨g.run.trans h.run, g.last.trans h.last, g.cur.trans h.cur⟩

/-- An entity's second ends, settles, and its bins turn; DEGM and DEGTHR come into force with the next second. -/
theorem Dev.entitySecond_puts (d : Dev) (obj l next : Nat) (irregular newOrigin end15 end24 : Bool) :
    ∃ x, d.PutsPm obj l x (d.entitySecond obj l next irregular newOrigin end15 end24).1 ∧
      (d.entity obj l).EndsSecond next irregular x := by
  have ended := (d.entity obj l).endSecond_ends next irregular
  obtain ⟨deg, degSame⟩ := d.settleDeg_spares obj l ((d.entity obj l).endSecond next irregular)
    { (d.entity obj l).cur with irregular := irregular }
  obtain ⟨settled, settledSame⟩ := Dev.settleSecond_spares _ obj l _
  exact ⟨_, .after ((deg.trans settled).trans (.setLayer ..)) obj l _,
    ended.same (degSame.trans (settledSame.trans (PmEntity.turnBins_same _ next newOrigin end15 end24)))⟩

/-! ### The seconds of every entity end (R219) -/

/-- What the end of a PM second is for every entity: the second that begins, whether the one that ends is irregular, whether a
new ORIGIN comes into force, and which bins end. -/
structure SecondTurn where
  next : Nat
  irregular : Bool
  newOrigin : Bool
  end15 : Bool
  end24 : Bool

/-- The device while its entities' seconds end, and the bins of 15 minutes and of 24 hours that have closed. -/
abbrev Turning := Dev × List PmBin × List PmBin

/-- One entity's second ends, and the bins that it closes join those of the entities before it. -/
def SecondTurn.one (t : SecondTurn) (a : Turning) (p : Nat × Nat) : Turning :=
  let (d, x, y) := a.1.entitySecond p.1 p.2 t.next t.irregular t.newOrigin t.end15 t.end24
  (d, a.2.1 ++ x, a.2.2 ++ y)

/-- The seconds of the entities of a list end. -/
def SecondTurn.all (t : SecondTurn) (es : List (Nat × Nat)) (a : Turning) : Turning := es.foldl t.one a

theorem SecondTurn.one_puts (t : SecondTurn) (a : Turning) (p : Nat × Nat) :
    ∃ x, a.1.PutsPm p.1 p.2 x (t.one a p).1 ∧ (a.1.entity p.1 p.2).EndsSecond t.next t.irregular x :=
  a.1.entitySecond_puts p.1 p.2 t.next t.irregular t.newOrigin t.end15 t.end24

/-- The ends of the seconds of other entities leave an entity as it stood. -/
theorem SecondTurn.all_other (t : SecondTurn) {obj l : Nat} (code : l < 256) {es : List (Nat × Nat)}
    (codes : ∀ p ∈ es, p.2 < 256) (other : (obj, l) ∉ es) (a : Turning) :
    a.1.Reports (t.all es a).1 ∧ (t.all es a).1.pm obj l = a.1.pm obj l := by
  refine List.foldlRecOn es t.one (motive := fun b : Turning => a.1.Reports b.1 ∧ b.1.pm obj l = a.1.pm obj l)
    ⟨.refl _, rfl⟩ fun b kept p m => ?_
  obtain ⟨reports, pm⟩ := kept
  obtain ⟨x, puts, -⟩ := t.one_puts b p
  have ne : layerKey obj l ≠ layerKey p.1 p.2 := fun same => by
    obtain ⟨o, k⟩ := (layerKey_inj code (codes p m)).mp same
    subst o k
    exact other m
  exact ⟨reports.trans puts.reports, (puts.pm_of_ne ne).trans pm⟩

/-- Among the entities whose seconds end, each once, one that runs ends its own. -/
theorem SecondTurn.all_ends (t : SecondTurn) {obj l : Nat} {es : List (Nat × Nat)} (codes : ∀ p ∈ es, p.2 < 256)
    (once : es.Nodup) (m : (obj, l) ∈ es) (a : Turning) (run : (a.1.pm obj l).run = true) :
    a.1.Reports (t.all es a).1 ∧ (a.1.pm obj l).EndsSecond t.next t.irregular ((t.all es a).1.pm obj l) := by
  obtain ⟨before, later, rfl⟩ := List.append_of_mem m
  have code : l < 256 := codes _ m
  obtain ⟨-, tail, apart⟩ := List.nodup_append.mp once
  have notBefore : (obj, l) ∉ before := fun b => apart _ b _ (List.mem_cons_self ..) rfl
  have notLater : (obj, l) ∉ later := (List.nodup_cons.mp tail).1
  obtain ⟨reports, pm⟩ := t.all_other code (fun p h => codes p (by simp [h])) notBefore a
  obtain ⟨x, puts, ends⟩ := t.one_puts (t.all before a) (obj, l)
  obtain ⟨reportsLater, pmLater⟩ := t.all_other code (fun p h => codes p (by simp [h])) notLater
    (t.one (t.all before a) (obj, l))
  have parts : t.all (before ++ (obj, l) :: later) a = t.all later (t.one (t.all before a) (obj, l)) := by
    simp [SecondTurn.all]
  rw [parts, pmLater, puts.pm]
  exact ⟨(reports.trans puts.reports).trans reportsLater, by simpa [Dev.entity, pm, run] using ends⟩

/-! ### PM_SECOND_BOUNDARY (R44, R219, R221) -/

/-- The PM second in progress has another length than 3,360 or 3,361 MF. -/
def Dev.irregularSecond (d : Dev) : Bool := d.pps.pmsAge != 3360 && d.pps.pmsAge != 3361

theorem Dev.irregularSecond_eq (d : Dev) : d.irregularSecond = decide (d.pps.pmsAge ≠ 3_360 ∧ d.pps.pmsAge ≠ 3_361) :=
  Bool.eq_iff_iff.mpr (by simp [Dev.irregularSecond])

/-- Number of the PM second after the one in progress. -/
def Dev.nextSecond (d : Dev) : Nat := (d.pps.pmSeconds + 1) % 2 ^ 32

/-- An irregular second is reported. -/
def Dev.reportSecond (d : Dev) : Dev := if d.irregularSecond then d.raise 0x0705 0 (leBytes 4 d.pps.pmsAge) else d

/-- PM second `next` is in progress, and the ORIGIN set for it in force. -/
def Dev.turnSecond (d : Dev) (next : Nat) (irregular : Bool) : Dev :=
  { d with
    pmDev := { d.pmDev with origin := d.pmDev.originNext }
    pps := { d.pps with pmSeconds := next, pmsMfn := d.mfn, pmsAge := 0, edgeWaits := false, irregular := irregular } }

/-- The seconds of the path monitors of groups that run end. -/
def Dev.monitorSeconds (d : Dev) : Dev :=
  match d.sched.active with
  | some i => (i.pgs.filter fun r => (d.pg r.pg).run).foldl (fun d r => (d.monitorSecond r 0).monitorSecond r 1) d
  | none => d

/-- PM entities of the active image. -/
def Dev.pmEntities (d : Dev) : List (Nat × Nat) :=
  match d.sched.active with
  | some i => i.allLayers.filter fun p => d.isPmEntity p.1 p.2
  | none => []

/-- The device at a PM second's end, before the seconds of its entities end. -/
def Dev.atSecondEnd (d : Dev) : Dev := (d.reportSecond.turnSecond d.nextSecond d.irregularSecond).dropEntities.monitorSeconds

/-- The bins that the entities' seconds have closed are reported. -/
def Turning.report (r : Turning) : Dev := ((r.1.binClosed 0 r.2.1).binClosed 1 r.2.2).refillBucket

/-- What the end of the PM second in progress is for every entity: bins end at multiples of 900 and of 86,400 seconds from
ORIGIN. -/
def Dev.secondTurn (d : Dev) : SecondTurn :=
  { next := d.nextSecond
    irregular := d.irregularSecond
    newOrigin := d.reportSecond.pmDev.originNext != d.reportSecond.pmDev.origin
    end15 := ((d.nextSecond : Int) - (d.reportSecond.pmDev.originNext : Int)) % 900 == 0
    end24 := ((d.nextSecond : Int) - (d.reportSecond.pmDev.originNext : Int)) % 86_400 == 0 }

/-- A PM second ends: the seconds of its entities end, and the closed bins are reported. -/
theorem Dev.pmSecond_eq (d : Dev) :
    d.pmSecond = Turning.report (d.secondTurn.all d.atSecondEnd.pmEntities (d.atSecondEnd, [], [])) := rfl

theorem Dev.reportSecond_spares (d : Dev) : d.SparesPm d.reportSecond := by
  unfold Dev.reportSecond
  split
  · exact .raise ..
  · exact .refl d

theorem Dev.turnSecond_spares (d : Dev) (next : Nat) (irregular : Bool) : d.SparesPm (d.turnSecond next irregular) :=
  ⟨.of_eq rfl rfl rfl, rfl, rfl, rfl, rfl⟩

theorem Dev.monitorSecond_spares (d : Dev) (r : PgRec) (k : Nat) : d.SparesPm (d.monitorSecond r k) := by
  unfold Dev.monitorSecond
  split
  · exact .refl d
  · exact (Dev.SparesPm.setMonitor ..).trans (.setPg ..)

theorem Dev.monitorSeconds_spares (d : Dev) : d.SparesPm d.monitorSeconds := by
  unfold Dev.monitorSeconds
  split
  · exact .foldl (fun e r => (e.monitorSecond_spares r 0).trans (Dev.monitorSecond_spares _ r 1)) _ d
  · exact .refl d

theorem Dev.binClosed_spares (d : Dev) (type : Nat) (bs : List PmBin) : d.SparesPm (d.binClosed type bs) := by
  unfold Dev.binClosed
  split
  · exact .refl d
  · exact .raise ..

theorem Dev.refillBucket_spares (d : Dev) : d.SparesPm d.refillBucket :=
  ⟨⟨rfl, rfl, fun _ m => m⟩, rfl, rfl, rfl, rfl⟩

theorem Turning.report_spares (r : Turning) : r.1.SparesPm r.report :=
  ((Dev.binClosed_spares r.1 0 r.2.1).trans (Dev.binClosed_spares _ 1 r.2.2)).trans (Dev.refillBucket_spares _)

theorem Dev.dropEntities_reports (d : Dev) : d.Reports d.dropEntities := .of_eq rfl rfl rfl

/-- An entity that goes on stands as it did. -/
theorem Dev.dropEntities_pm (d : Dev) {obj l : Nat} (code : l < 256) (entity : d.isPmEntity obj l = true) :
    d.dropEntities.pm obj l = d.pm obj l := by
  have object : layerKey obj l / 256 = obj := by unfold layerKey; omega
  have layer : layerKey obj l % 256 = l := by unfold layerKey; omega
  exact Tab.get_filter {} d.pms (fun key => d.isPmEntity (key / 256) (key % 256)) (layerKey obj l)
    (by rw [object, layer, entity])

/-- What stands when the seconds of the entities end: the image and its entities, and the events so far. -/
structure Dev.ReachesSecondEnd (d e : Dev) : Prop where
  reports : d.reportSecond.Reports e
  sched : e.sched = d.sched
  entities : ∀ o k, e.isPmEntity o k = d.isPmEntity o k
  pm : ∀ o k, k < 256 → d.isPmEntity o k = true → e.pm o k = d.pm o k

theorem Dev.atSecondEnd_reaches (d : Dev) : d.ReachesSecondEnd d.atSecondEnd := by
  have turn := d.reportSecond.turnSecond_spares d.nextSecond d.irregularSecond
  have turned := d.reportSecond_spares.trans turn
  have last := (d.reportSecond.turnSecond d.nextSecond d.irregularSecond).dropEntities.monitorSeconds_spares
  refine ⟨(turn.toReports.trans (Dev.dropEntities_reports _)).trans last.toReports, last.sched.trans turned.sched,
    fun o k => ?_, fun o k code entity => ?_⟩
  · exact (last.isPmEntity o k).trans ((Dev.isPmEntity_congr rfl rfl rfl o k).trans (turned.isPmEntity o k))
  · exact (Dev.pm_congr last.pms o k).trans ((Dev.dropEntities_pm _ code ((turned.isPmEntity o k).trans entity)).trans
      (Dev.pm_congr turned.pms o k))

theorem Dev.mem_pmEntities {d e : Dev} {i : Image} {obj l : Nat} (h : d.ReachesSecondEnd e) (active : d.sched.active = some i)
    (layer : (obj, l) ∈ i.allLayers) (entity : d.isPmEntity obj l = true) (once : i.allLayers.Nodup) :
    (obj, l) ∈ e.pmEntities ∧ e.pmEntities.Nodup ∧ ∀ p ∈ e.pmEntities, p.2 < 256 := by
  have entities : e.pmEntities = i.allLayers.filter fun p => e.isPmEntity p.1 p.2 := by
    rw [Dev.pmEntities, h.sched, active]
  rw [entities]
  exact ⟨List.mem_filter.mpr ⟨layer, (h.entities obj l).trans entity⟩, once.filter _,
    fun p m => Image.allLayers_lt ((List.mem_filter.mp m).1)⟩

/-- An entity that runs keeps the second that ends and begins the next; nothing that was reported is lost. -/
theorem Dev.pmSecond_ends (d : Dev) {i : Image} {obj l : Nat} (active : d.sched.active = some i)
    (once : i.allLayers.Nodup) (layer : (obj, l) ∈ i.allLayers) (entity : d.isPmEntity obj l = true)
    (run : (d.pm obj l).run = true) :
    d.reportSecond.Reports d.pmSecond ∧
      (d.pm obj l).EndsSecond d.nextSecond d.irregularSecond (d.pmSecond.pm obj l) := by
  have reaches := d.atSecondEnd_reaches
  obtain ⟨m, distinct, codes⟩ := Dev.mem_pmEntities reaches active layer entity once
  have pm := reaches.pm obj l (codes _ m) entity
  obtain ⟨reports, ends⟩ := d.secondTurn.all_ends codes distinct m (d.atSecondEnd, [], [])
    ((congrArg PmEntity.run pm).trans run)
  have closed := Turning.report_spares (d.secondTurn.all d.atSecondEnd.pmEntities (d.atSecondEnd, [], []))
  rw [pm] at ends
  rw [Dev.pmSecond_eq, Dev.pm_congr closed.pms]
  exact ⟨(reaches.reports.trans reports).trans closed.toReports, ends⟩

theorem exec_pmSecondBoundary {s : State} (live : s.live = true) (beat : s.dev.beat = 0) (swap : s.dev.swapDue = false)
    (timed : s.dev.timedDue = false) (ladder : s.dev.ladderDue = false) (begun : s.dev.pps.pmsAge ≠ 0)
    (valid : s.dev.pps.state = .valid) (edge : s.dev.pps.edgeWaits = true) :
    exec .pmSecondBoundary s = .next (s.settle s.dev.pmSecond) := by
  show execPmSecondBoundary s = _
  rw [execPmSecondBoundary, State.runIf_eq s _ _ (State.powered_of_live live)
    (by simp [beat, swap, timed, ladder, begun, valid, edge])]

/-- Settles O36: the entity's own end of second among those of the others, and the event raised before them. -/
theorem pmSecondsEndAndBegin : Obligations.pm_seconds_end_and_begin := by
  intro s i obj l live beat swap timed ladder begun valid edge active once layer entity run
  obtain ⟨reports, ends⟩ := s.dev.pmSecond_ends active once layer entity run
  rw [Dev.irregularSecond_eq] at ends
  refine ⟨_, exec_pmSecondBoundary live beat swap timed ladder begun valid edge, ends.run.trans run, ends.last, ends.cur,
    fun irregular => ?_⟩
  rw [Dev.reportSecond, Dev.irregularSecond_eq, if_pos (decide_eq_true irregular)] at reports
  exact (s.mem_settle_arising ..).mpr ((Dev.Reports.refl s.dev).event reports)

end Sys2Proof.Machine

namespace Sys2Proof.Machine

open Sys2Proof

/-! ### Numbers put together from bits -/

theorem bitsOf_lt (l : List Bool) : bitsOf l < 2 ^ l.length := by
  induction l with
  | nil => simp [bitsOf]
  | cons b t ih =>
    have bit : b2n b ≤ 1 := by cases b <;> simp [b2n]
    rw [List.length_cons, Nat.pow_succ, bitsOf]
    omega

theorem orBits_lt (w a b : Nat) : orBits w a b < 2 ^ w := by
  simpa [orBits] using bitsOf_lt ((List.range w).map fun i => bit a i || bit b i)

/-- Actions of a chain fit their 11 bits. -/
theorem actionsOf_lt (os : List Nat) : actionsOf os < 2 ^ 11 := by
  have or : os.foldl (fun a o => orBits 11 a o) 0 < 2 ^ 11 :=
    List.foldlRecOn os _ (motive := fun a : Nat => a < 2 ^ 11) (by decide) fun a _ o _ => orBits_lt 11 a o
  unfold actionsOf
  dsimp only
  split
  next o _ =>
    have last := Nat.mod_lt o (show 4 > 0 by decide)
    omega
  next => omega

/-! ### Tokens (R212, R240, R266) -/

/-- A consequent-action token shows its type, its chain and its index (R266). -/
theorem catToken_reads {chain index : Nat} (stamp : Nat) (os : List Nat) (chains : chain < 8) (known : index < 512)
    (layers : os.length ≤ 16) :
    (catToken chain index stamp os).word / 2 ^ 60 = 9 ∧ (catToken chain index stamp os).word / 2 ^ 57 % 8 = chain ∧
      (catToken chain index stamp os).word / 2 ^ 48 % 512 = index := by
  have bdi : bdiMaskOf os < 2 ^ 16 := by
    refine Nat.lt_of_lt_of_le (bitsOf_lt _) (Nat.pow_le_pow_right (by decide) ?_)
    simpa using layers
  have actions := actionsOf_lt os
  simp only [catToken]
  omega

/-- A protection token shows its type, its group and its word (R240). -/
theorem pgToken_reads {g word : Nat} (stamp : Nat) (known : g < 128) (fits : word < 2 ^ 32) :
    (pgToken g stamp word).word / 2 ^ 60 = 8 ∧ (pgToken g stamp word).word / 2 ^ 48 % 256 = g ∧
      (pgToken g stamp word).word % 2 ^ 32 = word := by
  simp only [pgToken]
  omega

/-! ### Effects that lose no token

`Dev.Issues d e`: from `d` to `e` no token is lost, and the power domains are the same; the Beat is the same, no event is
lost, and no response waits that did not. -/

structure Dev.Issues (d e : Dev) : Prop extends Dev.Reports d e where
  pwr : e.pwr = d.pwr
  issued : ∀ k ∈ d.tokens, k ∈ e.tokens

namespace Dev.Issues

variable {d e f : Dev}

theorem refl (d : Dev) : d.Issues d := ⟨.refl d, rfl, fun _ h => h⟩

theorem trans (h : d.Issues e) (g : e.Issues f) : d.Issues f :=
  ⟨h.toReports.trans g.toReports, g.pwr.trans h.pwr, fun k m => g.issued k (h.issued k m)⟩

/-- An effect that leaves Beat, host, log, power domains and tokens alone. -/
theorem of_eq (fc : e.fc = d.fc) (host : e.host = d.host) (log : e.log = d.log) (pwr : e.pwr = d.pwr)
    (tokens : e.tokens = d.tokens) : d.Issues e :=
  ⟨.of_eq fc host log, pwr, fun _ m => tokens ▸ m⟩

theorem raise (d : Dev) (code obj : Nat) (l : List Byte) : d.Issues (d.raise code obj l) :=
  ⟨.raise .., rfl, fun _ m => m⟩

theorem setLayer (d : Dev) (obj l : Nat) (x : Layer) : d.Issues (d.setLayer obj l x) := of_eq rfl rfl rfl rfl rfl

theorem setPm (d : Dev) (obj l : Nat) (x : PmEntity) : d.Issues (d.setPm obj l x) := of_eq rfl rfl rfl rfl rfl

theorem setPg (d : Dev) (g : Nat) (x : PgState) : d.Issues (d.setPg g x) := of_eq rfl rfl rfl rfl rfl

theorem setOdu (d : Dev) (obj : Nat) (o : OduState) : d.Issues (d.setOdu obj o) := of_eq rfl rfl rfl rfl rfl

theorem token (d : Dev) (k : Token) : d.Issues { d with tokens := d.tokens ++ [k] } :=
  ⟨.of_eq rfl rfl rfl, rfl, fun _ m => List.mem_append_left _ m⟩

theorem noteInput (d : Dev) (obj l i : Nat) (v : Bool) : d.Issues (d.noteInput obj l i v) := by
  obtain ⟨_, _, _, eq⟩ := d.noteInput_eq obj l i v
  exact ⟨(d.noteInput_puts obj l i v).toReports, by rw [eq], fun _ m => by rw [eq]; exact m⟩

/-- An effect that comes about under a condition only. -/
theorem ite {c : Prop} [Decidable c] (h : d.Issues e) : d.Issues (if c then e else d) := by
  split
  · exact h
  · exact .refl d

theorem foldl {α : Type} {f : Dev → α → Dev} (h : ∀ (d : Dev) a, d.Issues (f d a)) (l : List α) (d : Dev) :
    d.Issues (l.foldl f d) :=
  List.foldlRecOn l f (motive := fun e => d.Issues e) (refl d) fun e r a _ => r.trans (h e a)

/-- A token that one item of a list issues, whatever the items before it did, stands at the end. -/
theorem mem_foldl {α : Type} {f : Dev → α → Dev} {P : Token → Prop} {l : List α} {a : α} (m : a ∈ l)
    (h : ∀ (d : Dev) a, d.Issues (f d a)) (d : Dev) (issues : ∀ e, d.Issues e → ∃ k ∈ (f e a).tokens, P k) :
    ∃ k ∈ (l.foldl f d).tokens, P k := by
  obtain ⟨before, later, rfl⟩ := List.append_of_mem m
  rw [List.foldl_append, List.foldl_cons]
  obtain ⟨k, stands, holds⟩ := issues (before.foldl f d) (foldl h before d)
  exact ⟨k, (foldl h later _).issued k stands, holds⟩

theorem domOn (h : d.Issues e) (k : Nat) : e.domOn k = d.domOn k := by
  rw [Dev.domOn, Dev.domain, h.pwr, Dev.domOn, Dev.domain]

end Dev.Issues

/-! ### The evaluation of a chain (R208, R211, R212)

`Dev.Evaluates d e`: from `d` to `e` the layers may change, and events and tokens may come; the groups stand as they did. -/

structure Dev.Evaluates (d e : Dev) : Prop extends Dev.Issues d e where
  pgs : e.pgs = d.pgs

namespace Dev.Evaluates

theorem refl (d : Dev) : d.Evaluates d := ⟨.refl d, rfl⟩

theorem trans {d e f : Dev} (h : d.Evaluates e) (g : e.Evaluates f) : d.Evaluates f :=
  ⟨h.toIssues.trans g.toIssues, g.pgs.trans h.pgs⟩

theorem setLayer (d : Dev) (obj l : Nat) (x : Layer) : d.Evaluates (d.setLayer obj l x) := ⟨.setLayer .., rfl⟩

theorem noteInput (d : Dev) (obj l i : Nat) (v : Bool) : d.Evaluates (d.noteInput obj l i v) := by
  obtain ⟨_, _, _, eq⟩ := d.noteInput_eq obj l i v
  exact ⟨.noteInput .., by rw [eq]⟩

/-- An effect that comes about under a condition only. -/
theorem ite {d e : Dev} {c : Prop} [Decidable c] (h : d.Evaluates e) : d.Evaluates (if c then e else d) := by
  split
  · exact h
  · exact .refl d

theorem foldl {α : Type} {f : Dev → α → Dev} (h : ∀ (d : Dev) a, d.Evaluates (f d a)) (l : List α) (d : Dev) :
    d.Evaluates (l.foldl f d) :=
  List.foldlRecOn l f (motive := fun e => d.Evaluates e) (refl d) fun e r a _ => r.trans (h e a)

end Dev.Evaluates

/-- Inputs that the evaluation of a SERVER or CLIENT_RX layer forms are reported. -/
def Dev.noteFormed (d : Dev) (obj l : Nat) (pre : Bool × Bool) (v : Nat) : Dev :=
  if l = layServer then (d.noteInput obj l 1 pre.1).noteInput obj l 2 pre.2
  else if l = layClientRx then d.noteInput obj l 2 (bit v 2) else d

theorem Dev.noteFormed_evaluates (d : Dev) (obj l : Nat) (pre : Bool × Bool) (v : Nat) :
    d.Evaluates (d.noteFormed obj l pre v) := by
  unfold Dev.noteFormed
  split
  · exact (Dev.Evaluates.noteInput ..).trans (.noteInput ..)
  · exact .ite (.noteInput ..)

theorem Dev.evalLayer_evaluates (d : Dev) (i : Image) (obj l : Nat) (ssf : Bool) (pre : Bool × Bool) :
    d.Evaluates (d.evalLayer i obj l ssf pre).1 := by
  unfold Dev.evalLayer
  split
  · exact .setLayer ..
  · exact ((Dev.Evaluates.setLayer ..).trans (.ite (.noteInput ..))).trans (Dev.noteFormed_evaluates ..)

/-- The layers of a chain are evaluated in order; each gives one output. -/
theorem Dev.evalLayers_evaluates (i : Image) (obj : Nat) (pre : Bool × Bool) (ls : List Nat) (ssf : Bool) (d : Dev) :
    d.Evaluates (Dev.evalLayers i obj pre ls ssf d).1 ∧ (Dev.evalLayers i obj pre ls ssf d).2.length = ls.length := by
  induction ls generalizing ssf d with
  | nil => exact ⟨.refl d, rfl⟩
  | cons l t ih =>
    obtain ⟨rest, outputs⟩ := ih (d.evalLayer i obj l ssf pre).2.1 (d.evalLayer i obj l ssf pre).1
    exact ⟨(d.evalLayer_evaluates i obj l ssf pre).trans rest, congrArg (· + 1) outputs⟩

/-- A chain that is evaluated issues its token, with the outputs of its layers. -/
theorem Dev.evalChain_evaluates (d : Dev) (i : Image) (chain obj stamp : Nat) (ssf : Bool) (pre : Bool × Bool) :
    d.Evaluates (d.evalChain i chain obj stamp ssf pre) := by
  obtain ⟨evaluates, -⟩ := Dev.evalLayers_evaluates i obj pre
    (chainLayers chain (match i.layerDesc obj with | some x => x.kind | none => 9)) ssf d
  exact evaluates.trans ⟨.token .., rfl⟩

theorem Dev.evalChain_token (d : Dev) (i : Image) (chain obj stamp : Nat) (ssf : Bool) (pre : Bool × Bool) :
    ∃ os kind, os.length = (chainLayers chain kind).length ∧
      catToken chain (objIndex obj) stamp os ∈ (d.evalChain i chain obj stamp ssf pre).tokens := by
  obtain ⟨-, outputs⟩ := Dev.evalLayers_evaluates i obj pre
    (chainLayers chain (match i.layerDesc obj with | some x => x.kind | none => 9)) ssf d
  exact ⟨_, _, outputs, List.mem_append_right _ (List.mem_singleton_self _)⟩

/-! ### The port, channel and client chains (R239) -/

theorem Dev.evalPorts_evaluates (d : Dev) (i : Image) (stamp : Nat) (on : Nat → Bool) :
    d.Evaluates (d.evalPorts i stamp on) := by
  unfold Dev.evalPorts
  exact (Dev.Evaluates.foldl (fun e p => e.evalChain_evaluates i 0 (objPort p) stamp false (false, false)) _ d).trans
    (.foldl (fun e (g : SgRec) => e.evalChain_evaluates i 1 (objSpread g.sg) stamp false (false, false)) _ _)

theorem Dev.evalChannels_evaluates (d : Dev) (i : Image) (stamp : Nat) (on sel : Nat → Bool) :
    d.Evaluates (d.evalChannels i stamp on sel) := by
  unfold Dev.evalChannels
  refine .trans (.trans (.foldl (fun e (x : Desc) => ?_) _ d) (.foldl (fun e k => ?_) _ _))
    (.foldl (fun e (x : Desc) => ?_) _ _)
  all_goals exact Dev.evalChain_evaluates ..

/-- The chain of a port that is evaluated has its token (R212, R266). -/
theorem Dev.evalPorts_token (d : Dev) {i : Image} {stamp p : Nat} {on : Nat → Bool} (known : p < 8) (lit : i.lit p = true)
    (evaluated : on (objPort p) = true) :
    ∃ k ∈ (d.evalPorts i stamp on).tokens, k.stamp = stamp ∧ k.word / 2 ^ 60 = 9 ∧ k.word / 2 ^ 57 % 8 = 0 ∧
      k.word / 2 ^ 48 % 512 = p := by
  have m : p ∈ (List.range 8).filter fun p => i.lit p && on (objPort p) := by simp [known, lit, evaluated]
  have index : objIndex (objPort p) = p := by unfold objIndex objPort objId; omega
  obtain ⟨k, stands, reads⟩ := Dev.Issues.mem_foldl (P := fun k => k.stamp = stamp ∧ k.word / 2 ^ 60 = 9 ∧
      k.word / 2 ^ 57 % 8 = 0 ∧ k.word / 2 ^ 48 % 512 = p) m
    (fun e p => (e.evalChain_evaluates i 0 (objPort p) stamp false (false, false)).toIssues) d fun e _ => by
      obtain ⟨os, kind, layers, stands⟩ := e.evalChain_token i 0 (objPort p) stamp false (false, false)
      rw [index] at stands
      have few : os.length ≤ 16 := Nat.le_trans (Nat.le_of_eq layers) (show 9 ≤ 16 by decide)
      exact ⟨_, stands, rfl, catToken_reads stamp os (by decide) (by omega) few⟩
  refine ⟨k, ?_, reads⟩
  exact (Dev.Evaluates.foldl (fun e (g : SgRec) =>
    e.evalChain_evaluates i 1 (objSpread g.sg) stamp false (false, false)) _ _).issued k stands

end Sys2Proof.Machine

namespace Sys2Proof.Machine

open Sys2Proof

theorem Dev.pg_congr {d e : Dev} (pgs : e.pgs = d.pgs) (g : Nat) : e.pg g = d.pg g := by
  rw [Dev.pg, pgs, Dev.pg]

/-! ### The evaluation of a group (R239, steps 2 and 3)

`Dev.TurnsGroup d g e`: from `d` to `e` only group `g` changes among the groups; every layer stands as it did. -/

structure Dev.TurnsGroup (d : Dev) (g : Nat) (e : Dev) : Prop extends Dev.Issues d e where
  layers : e.layers = d.layers
  others : ∀ o, o ≠ g → e.pg o = d.pg o

namespace Dev.TurnsGroup

variable {d e f : Dev} {g : Nat}

theorem refl (d : Dev) (g : Nat) : d.TurnsGroup g d := ⟨.refl d, rfl, fun _ _ => rfl⟩

theorem trans (h : d.TurnsGroup g e) (k : e.TurnsGroup g f) : d.TurnsGroup g f :=
  ⟨h.toIssues.trans k.toIssues, k.layers.trans h.layers, fun o ne => (k.others o ne).trans (h.others o ne)⟩

theorem setPg (d : Dev) (g : Nat) (x : PgState) : d.TurnsGroup g (d.setPg g x) :=
  ⟨.setPg .., rfl, fun o ne => by rw [Dev.setPg_pg, if_neg ne]⟩

theorem raise (d : Dev) (g code obj : Nat) (l : List Byte) : d.TurnsGroup g (d.raise code obj l) :=
  ⟨.raise .., rfl, fun _ _ => rfl⟩

theorem dropStreams (d : Dev) (g owner : Nat) : d.TurnsGroup g (d.dropStreams owner) :=
  ⟨.of_eq rfl rfl rfl rfl rfl, rfl, fun _ _ => rfl⟩

theorem dropMonitors (d : Dev) (g k : Nat) : d.TurnsGroup g (d.dropMonitors k) :=
  ⟨.of_eq rfl rfl rfl rfl rfl, rfl, fun _ _ => rfl⟩

theorem releaseAps (d : Dev) (g obj level : Nat) : d.TurnsGroup g (d.releaseAps obj level) := by
  unfold Dev.releaseAps
  dsimp only
  split
  · exact .refl d g
  · exact ⟨(Dev.Issues.setOdu ..).trans (.raise ..), rfl, fun _ _ => rfl⟩

/-- An effect that comes about under a condition only. -/
theorem ite {c : Prop} [Decidable c] (h : d.TurnsGroup g e) : d.TurnsGroup g (if c then e else d) := by
  split
  · exact h
  · exact .refl d g

end Dev.TurnsGroup

theorem Dev.restartPg_turns (d : Dev) (r : PgRec) : d.TurnsGroup r.pg (d.restartPg r) := by
  have left : d.TurnsGroup r.pg (if (d.pg r.pg).align.aligned then d.alignEvent r.pg 0 0 else d) := .ite (.raise ..)
  exact (((left.trans (.dropStreams ..)).trans (.dropMonitors ..)).trans (.setPg ..)).trans (.releaseAps ..)

/-- The held request of a group may end, and nothing else of the group. -/
theorem Dev.endLocal_turns (d : Dev) (g cause : Nat) :
    d.TurnsGroup g (d.endLocal g cause) ∧ ∃ held, (d.endLocal g cause).pg g = { d.pg g with held := held } := by
  unfold Dev.endLocal
  dsimp only
  split
  · exact ⟨.refl d g, _, rfl⟩
  · exact ⟨(Dev.TurnsGroup.setPg ..).trans (.raise ..), _, (d.setPg_pg ..).trans (if_pos rfl)⟩

/-- A group with the conditions that it presents in an evaluation (R233). -/
def Dev.presented (d : Dev) (r : PgRec) : PgState :=
  { d.pg r.pg with
    w := (d.pg r.pg).w.present (d.actualCond r 0 (d.pg r.pg).w) (d.pg r.pg).holdoffSet
    p := (d.pg r.pg).p.present (d.actualCond r 1 (d.pg r.pg).p) (d.pg r.pg).holdoffSet }

theorem Dev.presented_congr {d e : Dev} {r : PgRec} (layers : e.layers = d.layers) (pg : e.pg r.pg = d.pg r.pg) :
    e.presented r = d.presented r := by
  simp [Dev.presented, Dev.actualCond, Dev.layer, layers, pg]

/-- Word of a group's table for the state that it presents; 0 where it has no table (R234). -/
def Image.groupWord (i : Image) (r : PgRec) (x : PgState) : Nat :=
  match i.prt.find? fun t => t.id == r.tableId with
  | some t => t.look x.index
  | none => 0

/-- A group that takes the word of its table: its state is NEXT_STATE (R234, R239). -/
def PgState.turnTo (x : PgState) (word : Nat) : PgState :=
  { x with word := word, state := word % 8, wtrDone := false, presentClear := x.presentClear && x.smpLocal != 6 }

theorem Dev.evalGroup_eq (d : Dev) (i : Image) (r : PgRec) : d.evalGroup i r =
    if bit (i.groupWord r (d.presented r)) 7 then
      (d.setPg r.pg ((d.presented r).turnTo (i.groupWord r (d.presented r)))).endLocal r.pg 1
    else d.setPg r.pg ((d.presented r).turnTo (i.groupWord r (d.presented r))) := rfl

/-- A group that is evaluated takes its table's word; LOCAL_DROP may end its held request. -/
theorem Dev.evalGroup_turns (d : Dev) (i : Image) (r : PgRec) :
    d.TurnsGroup r.pg (d.evalGroup i r) ∧ ∃ held, (d.evalGroup i r).pg r.pg =
      { (d.presented r).turnTo (i.groupWord r (d.presented r)) with held := held } := by
  have set := Dev.TurnsGroup.setPg d r.pg ((d.presented r).turnTo (i.groupWord r (d.presented r)))
  rw [Dev.evalGroup_eq]
  split
  · obtain ⟨ended, held, pg⟩ :=
      (d.setPg r.pg ((d.presented r).turnTo (i.groupWord r (d.presented r)))).endLocal_turns r.pg 1
    rw [Dev.setPg_pg, if_pos rfl] at pg
    exact ⟨set.trans ended, held, pg⟩
  · exact ⟨set, _, (d.setPg_pg ..).trans (if_pos rfl)⟩

/-- A table whose words have 32 bits gives such a word at every index. -/
theorem RespTable.look_lt {t : RespTable} (words : ∀ v ∈ t.words, v < 2 ^ 32) (v : Nat) : t.look v < 2 ^ 32 := by
  rw [RespTable.look, List.getD_eq_getElem?_getD]
  match entry : t.words[v % 2 ^ t.inBits]? with
  | some w => exact words w (List.mem_of_getElem? entry)
  | none => decide

theorem Image.groupWord_lt {i : Image} (words : ∀ tab ∈ i.prt, ∀ v ∈ tab.words, v < 2 ^ 32) (r : PgRec) (x : PgState) :
    i.groupWord r x < 2 ^ 32 := by
  unfold Image.groupWord
  split
  next t found => exact RespTable.look_lt (words t (List.mem_of_find?_eq_some found)) _
  next => decide

/-! ### The groups of an evaluation, and their tokens (R239, R240, R250) -/

/-- A group is evaluated, started where PD_PRT has come back, or stands at the working path where it is off. -/
def Dev.turnGroup (d : Dev) (i : Image) (r : PgRec) : Dev :=
  if d.domOn domPrt then (if (d.pg r.pg).run then d else d.restartPg r).evalGroup i r
  else d.setPg r.pg { d.pg r.pg with run := false }

/-- Word of a group's token: 0 while PD_PRT is off. -/
def Dev.tokenWord (d : Dev) (r : PgRec) : Nat := if d.domOn domPrt then (d.pg r.pg).word else 0

/-- A group is evaluated and issues its token. -/
def Dev.issueGroup (i : Image) (stamp : Nat) (d : Dev) (r : PgRec) : Dev :=
  { d.turnGroup i r with tokens := (d.turnGroup i r).tokens ++ [pgToken r.pg stamp ((d.turnGroup i r).tokenWord r)] }

theorem Dev.evalGroups_eq (d : Dev) (i : Image) (stamp : Nat) (on : Nat → Bool) :
    d.evalGroups i stamp on = (i.pgs.filter fun r => on (objGroup r.pg)).foldl (Dev.issueGroup i stamp) d := rfl

theorem Dev.turnGroup_turns (d : Dev) (i : Image) (r : PgRec) : d.TurnsGroup r.pg (d.turnGroup i r) := by
  have started : d.TurnsGroup r.pg (if (d.pg r.pg).run then d else d.restartPg r) := by
    split
    · exact .refl d _
    · exact d.restartPg_turns r
  unfold Dev.turnGroup
  split
  · exact started.trans (Dev.evalGroup_turns _ i r).1
  · exact .setPg ..

theorem Dev.issueGroup_turns (i : Image) (stamp : Nat) (d : Dev) (r : PgRec) :
    d.TurnsGroup r.pg (d.issueGroup i stamp r) := by
  obtain ⟨issues, layers, others⟩ := d.turnGroup_turns i r
  exact ⟨issues.trans (.token ..), layers, others⟩

theorem Dev.evalGroups_issues (d : Dev) (i : Image) (stamp : Nat) (on : Nat → Bool) :
    d.Issues (d.evalGroups i stamp on) :=
  .foldl (fun e r => (e.issueGroup_turns i stamp r).toIssues) _ d

theorem Dev.tokenWord_off {d : Dev} (off : d.domOn domPrt = false) (r : PgRec) : d.tokenWord r = 0 := by
  simp [Dev.tokenWord, off]

theorem Dev.turnGroup_tokenWord_lt {i : Image} (words : ∀ tab ∈ i.prt, ∀ v ∈ tab.words, v < 2 ^ 32) (d : Dev) (r : PgRec) :
    (d.turnGroup i r).tokenWord r < 2 ^ 32 := by
  have domOn := (d.turnGroup_turns i r).domOn domPrt
  by_cases on : d.domOn domPrt = true
  · obtain ⟨-, held, pg⟩ := Dev.evalGroup_turns (if (d.pg r.pg).run then d else d.restartPg r) i r
    rw [Dev.tokenWord, domOn, if_pos on, Dev.turnGroup, if_pos on, pg]
    exact i.groupWord_lt words r _
  · rw [Dev.tokenWord_off (domOn.trans (by simpa using on))]
    decide

/-- A group that is evaluated has its token (R212, R240). -/
theorem Dev.evalGroups_token {i : Image} (words : ∀ tab ∈ i.prt, ∀ v ∈ tab.words, v < 2 ^ 32) (d : Dev) (stamp : Nat)
    {on : Nat → Bool} {r : PgRec} (group : r ∈ i.pgs) (known : r.pg < 128) (evaluated : on (objGroup r.pg) = true) :
    ∃ k ∈ (d.evalGroups i stamp on).tokens, k.stamp = stamp ∧ k.word / 2 ^ 60 = 8 ∧ k.word / 2 ^ 48 % 256 = r.pg ∧
      (d.domOn domPrt = false → k.word % 2 ^ 32 = 0) := by
  rw [Dev.evalGroups_eq]
  refine Dev.Issues.mem_foldl (List.mem_filter.mpr ⟨group, evaluated⟩)
    (fun e r => (e.issueGroup_turns i stamp r).toIssues) d fun e issues => ?_
  obtain ⟨type, index, word⟩ := pgToken_reads stamp known (e.turnGroup_tokenWord_lt words r)
  refine ⟨_, List.mem_append_right _ (List.mem_singleton_self _), rfl, type, index, fun off => word.trans ?_⟩
  exact Dev.tokenWord_off (((e.turnGroup_turns i r).domOn domPrt).trans ((issues.domOn domPrt).trans off)) r

/-- The evaluation of other groups leaves a group and the layers as they stood. -/
theorem Dev.issueGroups_other (i : Image) (stamp g : Nat) (rs : List PgRec) (other : ∀ r ∈ rs, r.pg ≠ g) (d : Dev) :
    d.Issues (rs.foldl (Dev.issueGroup i stamp) d) ∧ (rs.foldl (Dev.issueGroup i stamp) d).layers = d.layers ∧
      (rs.foldl (Dev.issueGroup i stamp) d).pg g = d.pg g := by
  refine List.foldlRecOn rs _ (motive := fun e : Dev => d.Issues e ∧ e.layers = d.layers ∧ e.pg g = d.pg g)
    ⟨.refl d, rfl, rfl⟩ fun e kept r m => ?_
  obtain ⟨issues, layers, pg⟩ := kept
  have turns := e.issueGroup_turns i stamp r
  exact ⟨issues.trans turns.toIssues, turns.layers.trans layers, (turns.others g (other r m).symm).trans pg⟩

/-- A group that runs takes its table's word for what it presents, among the groups of an evaluation. -/
theorem Dev.evalGroups_pg {d : Dev} {i : Image} {on : Nat → Bool} {r : PgRec} (stamp : Nat)
    (once : (i.pgs.map (·.pg)).Nodup) (group : r ∈ i.pgs) (evaluated : on (objGroup r.pg) = true)
    (powered : d.domOn domPrt = true) (run : (d.pg r.pg).run = true) :
    ∃ held, (d.evalGroups i stamp on).pg r.pg =
      { (d.presented r).turnTo (i.groupWord r (d.presented r)) with held := held } := by
  have distinct : ((i.pgs.filter fun r => on (objGroup r.pg)).map (·.pg)).Nodup := once.sublist (List.filter_sublist.map _)
  have m : r ∈ i.pgs.filter fun r => on (objGroup r.pg) := List.mem_filter.mpr ⟨group, evaluated⟩
  obtain ⟨before, later, split⟩ := List.append_of_mem m
  rw [split, List.map_append, List.map_cons] at distinct
  obtain ⟨-, tail, apart⟩ := List.nodup_append.mp distinct
  have notBefore : ∀ q ∈ before, q.pg ≠ r.pg := fun q m => apart _ (List.mem_map_of_mem m) _ (List.mem_cons_self ..)
  have notLater : ∀ q ∈ later, q.pg ≠ r.pg := fun q m same =>
    (List.nodup_cons.mp tail).1 (same ▸ List.mem_map_of_mem m)
  rw [Dev.evalGroups_eq, split, List.foldl_append, List.foldl_cons]
  obtain ⟨issues, layers, pg⟩ := Dev.issueGroups_other i stamp r.pg before notBefore d
  obtain ⟨-, -, kept⟩ := Dev.issueGroups_other i stamp r.pg later notLater
    ((before.foldl (Dev.issueGroup i stamp) d).issueGroup i stamp r)
  obtain ⟨-, held, turned⟩ := (before.foldl (Dev.issueGroup i stamp) d).evalGroup_turns i r
  have stands : (before.foldl (Dev.issueGroup i stamp) d).turnGroup i r =
      (before.foldl (Dev.issueGroup i stamp) d).evalGroup i r := by
    rw [Dev.turnGroup, if_pos ((issues.domOn domPrt).trans powered), if_pos (by rw [pg, run])]
  rw [← stands, Dev.presented_congr layers pg] at turned
  exact ⟨held, kept.trans turned⟩

/-! ### The evaluation ahead of a swap (R218, R249) -/

theorem Dev.startLayers_issues (d : Dev) (old new : Image) : d.Issues (d.startLayers old new) := by
  unfold Dev.startLayers
  refine .foldl (fun e p => ?_) _ d
  dsimp only
  split
  · exact .refl e
  · split
    · split
      · exact (Dev.Issues.setLayer ..).trans (.setPm ..)
      · exact .setLayer ..
    · exact .setLayer ..

theorem applyOduTcmSet_issues (d : Dev) (c : Cmd) : d.Issues (applyOduTcmSet d c).1 := by
  unfold applyOduTcmSet recheck
  split
  · exact .refl d
  · dsimp only [okWith]
    split
    · exact (Dev.Issues.setOdu ..).trans (.raise ..)
    · exact .setOdu ..

theorem Dev.oduDefaults_issues (d : Dev) (obj : Nat) : d.Issues (d.oduDefaults obj) := by
  unfold Dev.oduDefaults
  exact .foldl (fun e v => applyOduTcmSet_issues e _) _ d

theorem Dev.freshOdu_issues (d : Dev) (obj : Nat) : d.Issues ((d.setOdu obj {}).oduDefaults obj) :=
  (Dev.Issues.setOdu ..).trans (Dev.oduDefaults_issues ..)

theorem Dev.startOdu_issues (d : Dev) (old new : Image) : d.Issues (d.startOdu old new) := by
  unfold Dev.startOdu
  refine .trans (.foldl (fun e (x : Desc) => ?_) _ d) (.foldl (fun e p => e.freshOdu_issues (objPort p)) _ _)
  split
  · exact .refl e
  · split
    · split
      · exact .setOdu ..
      · exact e.freshOdu_issues _
    · exact e.freshOdu_issues _

theorem Dev.setTimers_issues (d : Dev) (g : Nat) (c : Cmd) : d.Issues (d.setTimers g c) := by
  unfold Dev.setTimers
  dsimp only
  split
  · split
    · exact (((Dev.TurnsGroup.setPg d g _).trans (.dropMonitors ..)).trans (.setPg ..)).trans (.releaseAps ..) |>.toIssues
    · exact .setPg ..
  · exact .setPg ..

theorem Dev.startPg_issues (d : Dev) (r : PgRec) : d.Issues (d.startPg r) := by
  unfold Dev.startPg
  refine ((Dev.Issues.setPg d r.pg {}).trans ?_).trans (Dev.restartPg_turns _ r).toIssues
  split
  · exact .refl _
  · exact Dev.setTimers_issues ..

theorem Dev.startPgs_issues (d : Dev) (old new : Image) : d.Issues (d.startPgs old new) := by
  unfold Dev.startPgs
  refine .foldl (fun e r => ?_) _ d
  split
  · exact .refl e
  · split
    · exact (e.restartPg_turns r).toIssues
    · exact e.startPg_issues r

theorem Dev.standIn_issues (d : Dev) (old new : Image) : d.Issues (d.standIn old new) := by
  have started : d.Issues (((d.startLayers old new).startOdu old new).startPgs old new) :=
    ((d.startLayers_issues old new).trans (Dev.startOdu_issues ..)).trans (Dev.startPgs_issues ..)
  unfold Dev.standIn
  dsimp only
  split
  · exact started.trans (.of_eq rfl rfl rfl rfl rfl)
  · exact started

theorem Dev.evaluate_issues (d : Dev) (i : Image) (stamp : Nat) (on : Nat → Bool) : d.Issues (d.evaluate i stamp on) :=
  ((d.evalPorts_evaluates i stamp on).toIssues.trans (Dev.evalGroups_issues ..)).trans
    (Dev.evalChannels_evaluates ..).toIssues

/-- Of the evaluation ahead only the tokens are taken over, and what waits for the swap. -/
theorem Dev.evaluateAhead_evaluates (d : Dev) (new : Image) (stamp : Nat) : d.Evaluates (d.evaluateAhead new stamp) := by
  unfold Dev.evaluateAhead
  dsimp only
  split
  · exact ⟨.of_eq rfl rfl rfl rfl rfl, rfl⟩
  · exact ⟨⟨.of_eq rfl rfl rfl, rfl, ((d.standIn_issues _ new).trans (Dev.evaluate_issues ..)).issued⟩, rfl⟩

/-! ### CONSEQUENT_ACTION_EVALUATION (R212, R239) -/

/-- The device after the evaluation of the Beat in progress by image `i`. -/
def Dev.evaluated (d : Dev) (i : Image) : Dev :=
  { (d.evaluate i (d.fc + 2) (d.evaluates i)).evaluateAhead i (d.fc + 2) with evalFc := some d.fc }

theorem exec_consequentActionEvaluation {s : State} {i : Image} (live : s.live = true)
    (fresh : s.dev.evalFc ≠ some s.dev.fc) (image : s.dev.imageAt (s.dev.fc + 2) = some i) :
    exec .consequentActionEvaluation s = .next (s.settle (s.dev.evaluated i)) := by
  show execConsequentActionEvaluation s = _
  rw [execConsequentActionEvaluation, State.runIf_eq s _ _ (State.powered_of_live live) (by simp [fresh, image])]
  simp only [image]
  rfl

/-- The device once the port, Spread group and protection group steps of that evaluation are done. -/
def Dev.evaluatedGroups (d : Dev) (i : Image) : Dev :=
  (d.evalPorts i (d.fc + 2) (d.evaluates i)).evalGroups i (d.fc + 2) (d.evaluates i)

/-- After the groups the evaluation changes no group and loses no token. -/
theorem Dev.evaluatedGroups_evaluates (d : Dev) (i : Image) : (d.evaluatedGroups i).Evaluates (d.evaluated i) := by
  obtain ⟨⟨⟨fc, out, kept⟩, pwr, issued⟩, pgs⟩ := ((d.evaluatedGroups i).evalChannels_evaluates i (d.fc + 2) (d.evaluates i)
    (d.evaluatedGroups i).selects).trans (Dev.evaluateAhead_evaluates _ i (d.fc + 2))
  exact ⟨⟨⟨fc, out, kept⟩, pwr, issued⟩, pgs⟩

theorem Dev.evaluated_issues (d : Dev) (i : Image) : d.Issues (d.evaluated i) :=
  ((d.evalPorts_evaluates i _ _).toIssues.trans (Dev.evalGroups_issues ..)).trans (d.evaluatedGroups_evaluates i).toIssues

theorem evaluation_issues_a_token_for_ports_and_groups (s : State) (i : Image) (live : s.live = true)
    (fresh : s.dev.evalFc ≠ some s.dev.fc) (image : s.dev.imageAt (s.dev.fc + 2) = some i)
    (words : ∀ tab ∈ i.prt, ∀ v ∈ tab.words, v < 2 ^ 32) :
    ∃ t, exec .consequentActionEvaluation s = .next t ∧ t.dev.evalFc = some s.dev.fc ∧ t.dev.fc = s.dev.fc ∧
      (∀ p, p < 8 → i.lit p = true → s.dev.evaluates i (objPort p) = true →
        ∃ k ∈ t.dev.tokens, k.stamp = s.dev.fc + 2 ∧ k.word / 2 ^ 60 = 9 ∧ k.word / 2 ^ 57 % 8 = 0 ∧
          k.word / 2 ^ 48 % 512 = p) ∧
      (∀ r ∈ i.pgs, r.pg < 128 → s.dev.evaluates i (objGroup r.pg) = true →
        ∃ k ∈ t.dev.tokens, k.stamp = s.dev.fc + 2 ∧ k.word / 2 ^ 60 = 8 ∧ k.word / 2 ^ 48 % 256 = r.pg ∧
          (s.dev.domOn domPrt = false → k.word % 2 ^ 32 = 0)) ∧
      t.mem = s.mem ∧ t.bar1 = s.bar1 := by
  have all := s.dev.evaluated_issues i
  have later := s.dev.evaluatedGroups_evaluates i
  refine ⟨_, exec_consequentActionEvaluation live fresh image, rfl, all.fc, fun p known lit evaluated => ?_,
    fun r group known evaluated => ?_, rfl, State.settle_bar1_of_live live all.out⟩
  · obtain ⟨k, stands, reads⟩ := s.dev.evalPorts_token (stamp := s.dev.fc + 2) known lit evaluated
    exact ⟨k, later.issued k ((Dev.evalGroups_issues ..).issued k stands), reads⟩
  · obtain ⟨k, stands, stamp, type, index, off⟩ := Dev.evalGroups_token words
      (s.dev.evalPorts i (s.dev.fc + 2) (s.dev.evaluates i)) (s.dev.fc + 2) group known evaluated
    exact ⟨k, later.issued k stands, stamp, type, index, fun unpowered =>
      off (((s.dev.evalPorts_evaluates i _ _).domOn domPrt).trans unpowered)⟩

theorem evaluated_group_takes_the_word_of_its_table (s : State) (i : Image) (r : PgRec) (tab : RespTable) (e : Dev)
    (x : PgState) (live : s.live = true) (fresh : s.dev.evalFc ≠ some s.dev.fc)
    (image : s.dev.imageAt (s.dev.fc + 2) = some i) (once : (i.pgs.map (·.pg)).Nodup) (group : r ∈ i.pgs)
    (evaluated : s.dev.evaluates i (objGroup r.pg) = true) (powered : s.dev.domOn domPrt = true)
    (run : (s.dev.pg r.pg).run = true) (table : i.prt.find? (fun t => t.id == r.tableId) = some tab)
    (ports : e = s.dev.evalPorts i (s.dev.fc + 2) (s.dev.evaluates i))
    (presents : x = { s.dev.pg r.pg with
      w := (s.dev.pg r.pg).w.present (e.actualCond r 0 (s.dev.pg r.pg).w) (s.dev.pg r.pg).holdoffSet,
      p := (s.dev.pg r.pg).p.present (e.actualCond r 1 (s.dev.pg r.pg).p) (s.dev.pg r.pg).holdoffSet }) :
    ∃ t, exec .consequentActionEvaluation s = .next t ∧
      (t.dev.pg r.pg).word = tab.words.getD (x.index % 2 ^ tab.inBits) 0 ∧
      (t.dev.pg r.pg).state = (t.dev.pg r.pg).word % 8 ∧ (t.dev.pg r.pg).w = x.w ∧ (t.dev.pg r.pg).p = x.p ∧
      (t.dev.pg r.pg).select = (s.dev.pg r.pg).select := by
  have port := s.dev.evalPorts_evaluates i (s.dev.fc + 2) (s.dev.evaluates i)
  rw [← ports] at port
  have pg : e.pg r.pg = s.dev.pg r.pg := Dev.pg_congr port.pgs r.pg
  have presented : e.presented r = x := by rw [presents, Dev.presented, pg]
  have word : i.groupWord r x = tab.words.getD (x.index % 2 ^ tab.inBits) 0 := by
    simp only [Image.groupWord, table]
    rfl
  obtain ⟨held, turned⟩ := Dev.evalGroups_pg (s.dev.fc + 2) once group evaluated ((port.domOn domPrt).trans powered)
    ((congrArg PgState.run pg).trans run)
  have stands : (s.dev.evaluated i).pg r.pg = { x.turnTo (i.groupWord r x) with held := held } := by
    rw [← presented, ← turned, ports]
    exact Dev.pg_congr (s.dev.evaluatedGroups_evaluates i).pgs r.pg
  refine ⟨_, exec_consequentActionEvaluation live fresh image, ?_⟩
  have settled : (s.settle (s.dev.evaluated i)).dev.pg r.pg = (s.dev.evaluated i).pg r.pg := rfl
  rw [settled, stands, ← word]
  exact ⟨rfl, rfl, rfl, rfl, (congrArg PgState.select presents :)⟩

/-- Settles O38: the tokens of ports and groups, and the word of a group's table, each by its own lemma. -/
theorem evaluationIssuesTokens : Obligations.evaluation_issues_tokens :=
  ⟨evaluation_issues_a_token_for_ports_and_groups, evaluated_group_takes_the_word_of_its_table⟩

end Sys2Proof.Machine

namespace Sys2Proof.Machine

open Sys2Proof

/-! ### One protection group changes

`Dev.PutsPg d g x e`: from `d` to `e` group `g` alone changes among the groups, and it then stands at `x`. -/

theorem Dev.TurnsGroup.tick (d : Dev) (g c k : Nat) : d.TurnsGroup g (d.tick c k) :=
  ⟨.of_eq (by simp) (by simp) (by simp) (by simp) (by simp), by simp, fun o _ => Dev.pg_congr (by simp) o⟩

structure Dev.PutsPg (d : Dev) (g : Nat) (x : PgState) (e : Dev) : Prop extends Dev.TurnsGroup d g e where
  pg : e.pg g = x

namespace Dev.PutsPg

variable {d e f : Dev} {g : Nat} {x y : PgState}

theorem set (d : Dev) (g : Nat) (x : PgState) : d.PutsPg g x (d.setPg g x) :=
  ⟨.setPg .., (d.setPg_pg ..).trans (if_pos rfl)⟩

theorem self (d : Dev) (g : Nat) : d.PutsPg g (d.pg g) d := ⟨.refl d g, rfl⟩

theorem trans (h : d.PutsPg g x e) (k : e.PutsPg g y f) : d.PutsPg g y f :=
  ⟨h.toTurnsGroup.trans k.toTurnsGroup, k.pg⟩

/-- A further effect that leaves every group alone. -/
theorem beside (h : d.PutsPg g x e) (k : e.TurnsGroup g f) (pgs : f.pgs = e.pgs) : d.PutsPg g x f :=
  ⟨h.toTurnsGroup.trans k, (Dev.pg_congr pgs g).trans h.pg⟩

theorem raise (h : d.PutsPg g x e) (code obj : Nat) (l : List Byte) : d.PutsPg g x (e.raise code obj l) :=
  h.beside (.raise ..) rfl

theorem tick (h : d.PutsPg g x e) (c k : Nat) : d.PutsPg g x (e.tick c k) := h.beside (.tick ..) (by simp)

/-- Both branches of a condition leave the group at the same. -/
theorem ite {c : Prop} [Decidable c] (yes : d.PutsPg g x e) (no : d.PutsPg g x f) :
    d.PutsPg g x (if c then e else f) := by
  split
  · exact yes
  · exact no

/-- The frame of a step with such an effect: the other groups, hub SRAM and HBM, and the rings. -/
theorem settled {s : State} (h : s.dev.PutsPg g x e) (live : s.live = true) :
    (∀ o, o ≠ g → (s.settle e).dev.pg o = s.dev.pg o) ∧ (s.settle e).mem = s.mem ∧ (s.settle e).bar1 = s.bar1 :=
  ⟨h.others, rfl, State.settle_bar1_of_live live h.out⟩

end Dev.PutsPg

/-! ### Paths of a group -/

/-- Setting one path leaves the other. -/
theorem PgState.setPath_path_other (x : PgState) {k : Nat} (m : PgPath) (paths : k < 2) :
    (x.setPath k m).path (1 - k) = x.path (1 - k) := by
  match k with
  | 0 => rfl
  | 1 => rfl

@[simp] theorem PgState.setPath_select (x : PgState) (k : Nat) (m : PgPath) : (x.setPath k m).select = x.select := by
  unfold PgState.setPath
  split <;> rfl

/-! ### HOLDOFF_EXPIRY and WTR_EXPIRY (R233, R239) -/

/-- Its moment has come, and its effect is to set a group: what the state then shows, and what stays. -/
theorem State.shows_setPg {s : State} {c : Dev → Bool} {f : Dev → Dev} {g : Nat} {x : PgState} (live : s.live = true)
    (due : c s.dev = true) (effect : f s.dev = s.dev.setPg g x) :
    ∃ t, s.runIf c f = .next t ∧ t.dev.pg g = x ∧ t = { s with dev := { s.dev with pgs := t.dev.pgs } } ∧
      (∀ o, o ≠ g → t.dev.pg o = s.dev.pg o) := by
  have puts := Dev.PutsPg.set s.dev g x
  have settled : s.settle (s.dev.setPg g x) = { s with dev := s.dev.setPg g x } :=
    State.settle_self { s with dev := s.dev.setPg g x } (State.out_of_live live)
  rw [State.runIf_eq s c f (State.powered_of_live live) due, effect, settled]
  exact ⟨_, rfl, puts.pg, rfl, puts.others⟩

theorem expired_holdoff_is_due (s : State) (g path : Nat) (live : s.live = true) (known : g < 128) (paths : path < 2)
    (run : (s.dev.pg g).run = true) (expired : ((s.dev.pg g).path path).holdoff = some 0) :
    ∃ t, exec (.holdoffExpiry g path) s = .next t ∧
      (t.dev.pg g).path path = { (s.dev.pg g).path path with holdoff := none, holdoffDue := true } ∧
      (t.dev.pg g).path (1 - path) = (s.dev.pg g).path (1 - path) ∧ (t.dev.pg g).select = (s.dev.pg g).select ∧
      t = { s with dev := { s.dev with pgs := t.dev.pgs } } ∧ (∀ o, o ≠ g → t.dev.pg o = s.dev.pg o) := by
  obtain ⟨t, step, group, rest⟩ : ∃ t, execHoldoffExpiry g path s = .next t ∧ _ :=
    State.shows_setPg live (by simp [known, paths, run, expired]) rfl
  refine ⟨t, step, ?_⟩
  rw [group]
  exact ⟨PgState.setPath_path .., PgState.setPath_path_other _ _ paths, PgState.setPath_select .., rest⟩

theorem expired_wtr_sets_wtrDone (s : State) (g : Nat) (live : s.live = true) (known : g < 128)
    (run : (s.dev.pg g).run = true) (expired : (s.dev.pg g).wtrLeft = some 0) :
    ∃ t, exec (.wtrExpiry g) s = .next t ∧ t.dev.pg g = { s.dev.pg g with wtrLeft := none, wtrDone := true } ∧
      t = { s with dev := { s.dev with pgs := t.dev.pgs } } ∧ (∀ o, o ≠ g → t.dev.pg o = s.dev.pg o) := by
  show ∃ t, execWtrExpiry g s = .next t ∧ _
  exact State.shows_setPg live (by simp [known, run, expired]) rfl

/-! ### APS_ACCEPTED (R236) -/

/-- A group that takes new APS bytes: REMOTE_REQ and REMOTE_R are among them. -/
def PgState.acceptAps (x : PgState) (aps : List Byte) : PgState :=
  { x with rxAps := aps, remoteReq := (byteAt aps 0).toNat / 16, remoteR := (byteAt aps 1).toNat % 2 }

/-- New APS bytes are taken and counted, before they are reported. -/
def Dev.takeAps (d : Dev) (g : Nat) (aps : List Byte) : Dev :=
  (d.setPg g ((d.pg g).acceptAps aps)).tick (0x4600 + 8 * g + 1) 1

/-- New APS bytes are taken and reported, and the failure-of-protocol indications follow. -/
def Dev.acceptAps (d : Dev) (g : Nat) (aps : List Byte) : Dev :=
  ((d.takeAps g aps).raise 0x0803 (objGroup g) (leBytes 1 g ++ aps)).noteFop g

/-- Failure-of-protocol indications change nothing else of their group (R253). -/
theorem Dev.noteFop_puts (d : Dev) (g : Nat) :
    ∃ pm nr n, d.PutsPg g { d.pg g with fopPm := pm, fopNr := nr, nrRun := n } (d.noteFop g) := by
  have mismatch {e : Dev} {x : PgState} (h : d.PutsPg g x e) (c : Prop) [Decidable c] (l : List Byte) :
      d.PutsPg g x (if c then e else e.raise 0x0804 (objGroup g) l) := .ite h (h.raise ..)
  have noResponse {e : Dev} {x : PgState} (h : d.PutsPg g x e) (c : Prop) [Decidable c] (l : List Byte) :
      d.PutsPg g x (if c then e.raise 0x0804 (objGroup g) l else e) := .ite (h.raise ..) h
  exact ⟨_, _, _, noResponse (mismatch (.set ..) _ _) _ _⟩

theorem Dev.takeAps_puts (d : Dev) (g : Nat) (aps : List Byte) :
    d.PutsPg g ((d.pg g).acceptAps aps) (d.takeAps g aps) :=
  (Dev.PutsPg.set ..).tick ..

theorem exec_apsAccepted {s : State} {g : Nat} {r : PgRec} {a1 a2 a3 a4 : Byte} (live : s.live = true) (known : g < 128)
    (run : (s.dev.pg g).run = true) (inFrame : (s.dev.pg g).p.inFrame = true) (group : s.dev.pgRec g = some r)
    (on : s.dev.monitorOn r 1 = true) (thrice : 3 ≤ (s.dev.monitor g 1).apsRun)
    (aps : (s.dev.monitor g 1).aps = [a1, a2, a3, a4]) :
    exec (.apsAccepted g [a1, a2, a3, a4]) s = .next (s.settle
      (if (s.dev.pg g).rxAps = [a1, a2, a3, a4] then s.dev else s.dev.acceptAps g [a1, a2, a3, a4])) := by
  have whole : padTo 4 [a1, a2, a3, a4] = [a1, a2, a3, a4] := rfl
  show execApsAccepted g [a1, a2, a3, a4] s = _
  rw [execApsAccepted, State.runIf_eq s _ _ (State.powered_of_live live)
    (by simp [known, run, inFrame, group, on, thrice, aps, whole])]
  rfl

theorem aps_that_came_thrice_is_accepted (s : State) (g : Nat) (r : PgRec) (a1 a2 a3 a4 : Byte) (live : s.live = true)
    (known : g < 128) (run : (s.dev.pg g).run = true) (inFrame : (s.dev.pg g).p.inFrame = true)
    (group : s.dev.pgRec g = some r) (on : s.dev.monitorOn r 1 = true) (thrice : 3 ≤ (s.dev.monitor g 1).apsRun)
    (aps : (s.dev.monitor g 1).aps = [a1, a2, a3, a4]) :
    ((s.dev.pg g).rxAps ≠ [a1, a2, a3, a4] →
      ∃ t, exec (.apsAccepted g [a1, a2, a3, a4]) s = .next t ∧ (t.dev.pg g).rxAps = [a1, a2, a3, a4] ∧
        (t.dev.pg g).remoteReq = a1.toNat / 16 ∧ (t.dev.pg g).remoteR = a2.toNat % 2 ∧
        (t.dev.pg g).select = (s.dev.pg g).select ∧
        s.dev.eventOf 0x0803 (objGroup g) (leBytes 1 g ++ [a1, a2, a3, a4]) ∈ t.dev.log.arising ∧
        (∀ o, o ≠ g → t.dev.pg o = s.dev.pg o) ∧ t.mem = s.mem ∧ t.bar1 = s.bar1) ∧
    ((s.dev.pg g).rxAps = [a1, a2, a3, a4] → exec (.apsAccepted g [a1, a2, a3, a4]) s = .next s) := by
  have step := exec_apsAccepted live known run inFrame group on thrice aps
  refine ⟨fun new => ?_, fun same => ?_⟩
  · rw [if_neg new] at step
    have taken := s.dev.takeAps_puts g [a1, a2, a3, a4]
    have told := taken.raise 0x0803 (objGroup g) (leBytes 1 g ++ [a1, a2, a3, a4])
    obtain ⟨pm, nr, n, noted⟩ := Dev.noteFop_puts
      ((s.dev.takeAps g [a1, a2, a3, a4]).raise 0x0803 (objGroup g) (leBytes 1 g ++ [a1, a2, a3, a4])) g
    rw [told.pg] at noted
    have shown : (s.settle (s.dev.acceptAps g [a1, a2, a3, a4])).dev.pg g = _ := noted.pg
    refine ⟨_, step, ?_⟩
    rw [shown]
    exact ⟨rfl, rfl, rfl, rfl, (s.mem_settle_arising ..).mpr (taken.toReports.event noted.toReports),
      (told.trans noted).settled live⟩
  · rw [step, if_pos same, State.settle_self s (State.out_of_live live)]

/-! ### PATH_MONITOR_FRAME_CHANGE (R231) -/

/-- A path whose monitor stands in frame, or out of it. -/
def PgPath.setFrame (m : PgPath) (inFrame : Bool) : PgPath := { m with inFrame := inFrame, gained := m.gained || inFrame }

/-- A group one of whose path monitors gains or loses frame; a loss is counted. -/
def Dev.changeFrame (d : Dev) (g path : Nat) (inFrame : Bool) : Dev :=
  let e := d.setPg g ((d.pg g).setPath path (((d.pg g).path path).setFrame inFrame))
  if inFrame then e else e.tick (0x4600 + 8 * g + 2) 1

theorem Dev.changeFrame_puts (d : Dev) (g path : Nat) (inFrame : Bool) :
    d.PutsPg g ((d.pg g).setPath path (((d.pg g).path path).setFrame inFrame)) (d.changeFrame g path inFrame) ∧
      (d.changeFrame g path inFrame).log = d.log := by
  have set := Dev.PutsPg.set d g ((d.pg g).setPath path (((d.pg g).path path).setFrame inFrame))
  unfold Dev.changeFrame
  dsimp only
  split
  · exact ⟨set, rfl⟩
  · exact ⟨set.tick .., Dev.tick_log ..⟩

theorem path_monitor_changes_frame (s : State) (g path : Nat) (inFrame : Bool) (r : PgRec) (live : s.live = true)
    (known : g < 128) (paths : path < 2) (run : (s.dev.pg g).run = true)
    (change : ((s.dev.pg g).path path).inFrame ≠ inFrame) (group : s.dev.pgRec g = some r)
    (on : s.dev.monitorOn r path = true) (lock : (s.dev.monitor g path).lock = inFrame) :
    ∃ t, exec (.pathMonitorFrameChange g path inFrame) s = .next t ∧
      (t.dev.pg g).path path = { (s.dev.pg g).path path with
        inFrame := inFrame, gained := ((s.dev.pg g).path path).gained || inFrame } ∧
      (t.dev.pg g).path (1 - path) = (s.dev.pg g).path (1 - path) ∧ s.raisesNone t ∧
      (∀ o, o ≠ g → t.dev.pg o = s.dev.pg o) ∧ t.mem = s.mem ∧ t.bar1 = s.bar1 := by
  have step : exec (.pathMonitorFrameChange g path inFrame) s = .next (s.settle (s.dev.changeFrame g path inFrame)) := by
    show execPathMonitorFrameChange g path inFrame s = _
    rw [execPathMonitorFrameChange, State.runIf_eq s _ _ (State.powered_of_live live)
      (by simp [known, paths, run, change, group, on, lock])]
    rfl
  obtain ⟨puts, log⟩ := s.dev.changeFrame_puts g path inFrame
  have shown : (s.settle (s.dev.changeFrame g path inFrame)).dev.pg g = _ := puts.pg
  refine ⟨_, step, ?_⟩
  rw [shown]
  exact ⟨PgState.setPath_path .., PgState.setPath_path_other _ _ paths, State.raisesNone_settle (by rw [log]),
    puts.settled live⟩

/-! ### DFOP_NR_TIMEOUT (R253) -/

theorem differing_requests_raise_dfopNr (s : State) (g : Nat) (r : PgRec) (live : s.live = true) (known : g < 128)
    (run : (s.dev.pg g).run = true) (clear : (s.dev.pg g).fopNr = false) (long : 43_008 ≤ (s.dev.pg g).nrRun)
    (group : s.dev.pgRec g = some r) (bidirectional : r.arch / 8 % 4 = 1) :
    ∃ t, exec (.dfopNrTimeout g) s = .next t ∧ t.dev.pg g = { s.dev.pg g with fopNr := true } ∧
      s.raisesOne t 0x0804 (objGroup g) (leBytes 1 g ++ leBytes 1 1 ++ leBytes 1 1) ∧
      (∀ o, o ≠ g → t.dev.pg o = s.dev.pg o) ∧ t.mem = s.mem ∧ t.bar1 = s.bar1 := by
  have step : exec (.dfopNrTimeout g) s = .next (s.settle ((s.dev.setPg g { s.dev.pg g with fopNr := true }).raise 0x0804
      (objGroup g) (leBytes 1 g ++ leBytes 1 1 ++ leBytes 1 1))) := by
    show execDfopNrTimeout g s = _
    rw [execDfopNrTimeout, State.runIf_eq s _ _ (State.powered_of_live live)
      (by simp [known, run, clear, long, group, bits, bidirectional])]
  have puts := (Dev.PutsPg.set s.dev g { s.dev.pg g with fopNr := true }).raise 0x0804 (objGroup g)
    (leBytes 1 g ++ leBytes 1 1 ++ leBytes 1 1)
  exact ⟨_, step, puts.pg, State.raisesOne_settle_raise rfl rfl .., puts.settled live⟩

/-- Settles O39: each timer, an accepted APS, a path monitor's frame and dFOP-NR by the lemma about its own command. -/
theorem protectionTimersAndApsAreTaken : Obligations.protection_timers_and_aps_are_taken :=
  ⟨expired_holdoff_is_due, expired_wtr_sets_wtrDone, aps_that_came_thrice_is_accepted, path_monitor_changes_frame,
    differing_requests_raise_dfopNr⟩

end Sys2Proof.Machine

namespace Sys2Proof.Machine

open Sys2Proof

/-! ### Groups after an untimed command -/

/-- The command of a later chapter that is due runs its effect, and is answered unless a hub unit carries it on. -/
theorem State.exec_highEffect {s : State} {op : Nat} {w : Waiting} {e : Dev} {st : Nat} {pl : List Byte}
    (due : s.effectDue op w = true) (low : applyLow s.dev w.cmd = none)
    (applied : applyHigh s.dev w.cmd w.order = some (e, st, pl)) (ends : st ≠ stGoesOn) :
    exec .untimedCommandEffect s = .next (s.settle (e.finish w st pl)) := by
  simp only [State.effectDue, Bool.and_eq_true, beq_iff_eq, Bool.not_eq_true'] at due
  obtain ⟨⟨⟨⟨live, next⟩, -⟩, object⟩, own⟩ := due
  show execUntimedCommandEffect s = _
  rw [execUntimedCommandEffect, State.run_eq s _ (State.powered_of_live live)]
  simp [next, Dev.effect, own, Dev.effectOf, Dev.applyCmd, object, low, applied, ends]

/-- Groups and overhead after a command that was answered stand as its effect left them. -/
theorem State.shows_groups {s : State} {op : Nat} {w : Waiting} {e : Dev} {st : Nat} {pl : List Byte}
    (due : s.effectDue op w = true) (low : applyLow s.dev w.cmd = none)
    (applied : applyHigh s.dev w.cmd w.order = some (e, st, pl)) (ends : st ≠ stGoesOn) :
    ∃ t, exec .untimedCommandEffect s = .next t ∧ t.dev.pgs = e.pgs ∧ t.dev.odu = e.odu :=
  ⟨_, State.exec_highEffect due low applied ends, Dev.finish_pgs e w st pl, Dev.finish_odu e w st pl⟩

/-! ### PG_COMMAND (R235, R252) -/

/-- A group that takes a local request: NONE leaves it, CLEAR removes what it holds, and any other is held unless it ranks
below that. -/
def PgState.takeRequest (x : PgState) (req : Nat) : PgState :=
  if req = 0 then x
  else if req = 6 then { x with held := 0, presentClear := true }
  else if localRank req < localRank x.held then x
  else { x with held := req, presentClear := false }

theorem PgState.takeRequest_held (x : PgState) (req : Nat) : (x.takeRequest req).held =
    if req = 0 then x.held else if req = 6 then 0 else if localRank req < localRank x.held then x.held else req := by
  rw [PgState.takeRequest, apply_ite PgState.held, apply_ite PgState.held, apply_ite PgState.held]

/-- A local request changes neither the path nor the state of its group. -/
theorem PgState.takeRequest_keeps (x : PgState) (req : Nat) :
    (x.takeRequest req).select = x.select ∧ (x.takeRequest req).state = x.state := by
  unfold PgState.takeRequest
  split
  · exact ⟨rfl, rfl⟩
  · split
    · exact ⟨rfl, rfl⟩
    · split <;> exact ⟨rfl, rfl⟩

theorem Dev.endLocal_puts (d : Dev) (g cause : Nat) : d.PutsPg g { d.pg g with held := 0 } (d.endLocal g cause) := by
  unfold Dev.endLocal
  dsimp only
  split
  next idle => rw [← idle]; exact .self d g
  next => exact (Dev.PutsPg.set ..).raise ..

/-- CLEAR: the held request ends, and CLEAR is presented. -/
theorem Dev.clearLocal_puts (d : Dev) (g : Nat) : d.PutsPg g { d.pg g with held := 0, presentClear := true }
    ((d.endLocal g 0).setPg g { (d.endLocal g 0).pg g with presentClear := true }) := by
  have ended := d.endLocal_puts g 0
  have set := Dev.PutsPg.set (d.endLocal g 0) g { (d.endLocal g 0).pg g with presentClear := true }
  rw [ended.pg] at set ⊢
  exact ended.trans set

theorem applyPgCommand_puts {d : Dev} (c : Cmd) (powered : d.domOn domPrt = true) :
    ∃ e st pl, applyPgCommand d c = (e, st, pl) ∧ st ≠ stGoesOn ∧
      d.PutsPg c.index ((d.pg c.index).takeRequest (fallback 6 0 (c.field 0 1))) e := by
  have passes : checkPgCommand d c = none := by simp [checkPgCommand, refuseIf, powered]
  rw [applyPgCommand, passes]
  generalize fallback 6 0 (c.field 0 1) = req
  dsimp only [recheck]
  split
  next => exact ⟨_, _, _, rfl, by decide, .self d _⟩
  next => exact ⟨_, _, _, rfl, by decide, d.clearLocal_puts _⟩
  next request clear =>
    unfold PgState.takeRequest
    rw [if_neg request, if_neg clear]
    split
    · exact ⟨_, _, _, rfl, by decide, .self d _⟩
    · exact ⟨_, _, _, rfl, by decide, .set ..⟩

theorem pg_command_takes_effect (s : State) (w : Waiting) (req : Nat) (due : s.effectDue 0x0801 w = true)
    (powered : s.dev.domOn domPrt = true) (request : req = (if w.cmd.field 0 1 ≤ 6 then w.cmd.field 0 1 else 0)) :
    ∃ t, exec .untimedCommandEffect s = .next t ∧
      (t.dev.pg w.cmd.index).held =
        (if req = 0 then (s.dev.pg w.cmd.index).held else if req = 6 then 0
          else if localRank req < localRank (s.dev.pg w.cmd.index).held then (s.dev.pg w.cmd.index).held else req) ∧
      (req = 6 → (t.dev.pg w.cmd.index).presentClear = true) ∧
      (t.dev.pg w.cmd.index).select = (s.dev.pg w.cmd.index).select ∧
      (t.dev.pg w.cmd.index).state = (s.dev.pg w.cmd.index).state ∧
      (∀ o, o ≠ w.cmd.index → t.dev.pg o = s.dev.pg o) := by
  obtain ⟨e, st, pl, effect, ends, puts⟩ := applyPgCommand_puts w.cmd powered
  rw [show fallback 6 0 (w.cmd.field 0 1) = req from request.symm] at puts
  have low : applyLow s.dev w.cmd = none := by simp [applyLow, State.opcode_of_effectDue due]
  have applied : applyHigh s.dev w.cmd w.order = some (e, st, pl) := by
    simp [applyHigh, State.opcode_of_effectDue due, effect]
  obtain ⟨t, run, pgs, -⟩ := State.shows_groups due low applied ends
  obtain ⟨select, state⟩ := (s.dev.pg w.cmd.index).takeRequest_keeps req
  refine ⟨t, run, ?_⟩
  simp only [Dev.pg_congr pgs, puts.pg]
  refine ⟨PgState.takeRequest_held .., fun clear => ?_, select, state, puts.others⟩
  rw [clear]
  rfl

/-- Without PD_PRT the command is turned away at its effect (R252). -/
theorem pg_command_without_power_changes_no_group (s : State) (w : Waiting) (due : s.effectDue 0x0801 w = true)
    (off : s.dev.domOn domPrt = false) : ∃ t, exec .untimedCommandEffect s = .next t ∧ t.dev.pgs = s.dev.pgs := by
  have refused : checkPgCommand s.dev w.cmd = some (stConstraint, []) := by simp [checkPgCommand, refuseIf, refuse, off]
  have low : applyLow s.dev w.cmd = none := by simp [applyLow, State.opcode_of_effectDue due]
  have applied : applyHigh s.dev w.cmd w.order = some (s.dev, stConstraint, []) := by
    simp [applyHigh, State.opcode_of_effectDue due, applyPgCommand, refused, recheck]
  obtain ⟨t, run, pgs, -⟩ := State.shows_groups due low applied (by decide)
  exact ⟨t, run, pgs⟩

/-! ### PG_TIMERS (R254) -/

/-- A group with the attributes of a PG_TIMERS. -/
def PgState.setTimers (x : PgState) (c : Cmd) : PgState :=
  { x with
    holdoffSet := clamp 0 100 (c.field 0 1), wtrSet := clamp 1 12 (c.field 1 1), tcmLevel := clamp 1 6 (c.field 2 1) }

/-- A group whose path monitors start hunting. -/
def PgState.restartPaths (x : PgState) : PgState := { x with w := x.w.restart, p := x.p.restart }

@[simp] theorem Dev.setPg_pgRec (d : Dev) (g : Nat) (x : PgState) (o : Nat) : (d.setPg g x).pgRec o = d.pgRec o := rfl

/-- Path monitors of a group start afresh, and the raw APS values at its level are released (R254). -/
theorem Dev.restartPaths_puts (d : Dev) (g obj level : Nat) : d.PutsPg g (d.pg g).restartPaths
    (((d.dropMonitors g).setPg g (d.pg g).restartPaths).releaseAps obj level) := by
  have set := Dev.PutsPg.set (d.dropMonitors g) g (d.pg g).restartPaths
  refine Dev.PutsPg.beside ⟨(Dev.TurnsGroup.dropMonitors ..).trans set.toTurnsGroup, set.pg⟩ (.releaseAps ..) ?_
  unfold Dev.releaseAps
  dsimp only
  split <;> rfl

/-- The monitors start afresh in an SNC/S group whose level changes; in any other no overhead changes. -/
theorem Dev.setTimers_puts {d : Dev} {g : Nat} {r : PgRec} (c : Cmd) (group : d.pgRec g = some r) :
    d.PutsPg g ((d.pg g).setTimers c).restartPaths (d.setTimers g c) ∧ r.arch % 8 = 2 ∨
      d.PutsPg g ((d.pg g).setTimers c) (d.setTimers g c) ∧ (d.setTimers g c).odu = d.odu := by
  have set := Dev.PutsPg.set d g ((d.pg g).setTimers c)
  have effect : d.setTimers g c =
      if r.arch % 8 = 2 && clamp 1 6 (c.field 2 1) != (d.pg g).tcmLevel then
        (((d.setPg g ((d.pg g).setTimers c)).dropMonitors g).setPg g
          ((d.setPg g ((d.pg g).setTimers c)).pg g).restartPaths).releaseAps (objChannel r.ch) (clamp 1 6 (c.field 2 1))
      else d.setPg g ((d.pg g).setTimers c) := by
    simp only [Dev.setTimers, Dev.setPg_pgRec, group]
    rfl
  rw [effect]
  split
  next changes =>
    have restarted := Dev.restartPaths_puts (d.setPg g ((d.pg g).setTimers c)) g (objChannel r.ch)
      (clamp 1 6 (c.field 2 1))
    rw [set.pg] at restarted ⊢
    exact .inl ⟨set.trans restarted, of_decide_eq_true (Bool.and_eq_true_iff.mp changes).1⟩
  next => exact .inr ⟨set, rfl⟩

theorem pg_timers_takes_effect (s : State) (w : Waiting) (r : PgRec) (due : s.effectDue 0x0803 w = true)
    (group : s.dev.pgRec w.cmd.index = some r) :
    ∃ t, exec .untimedCommandEffect s = .next t ∧
      (t.dev.pg w.cmd.index).holdoffSet = clamp 0 100 (w.cmd.field 0 1) ∧
      (t.dev.pg w.cmd.index).wtrSet = clamp 1 12 (w.cmd.field 1 1) ∧
      (t.dev.pg w.cmd.index).tcmLevel = clamp 1 6 (w.cmd.field 2 1) ∧
      (t.dev.pg w.cmd.index).w.holdoff = (s.dev.pg w.cmd.index).w.holdoff ∧
      (t.dev.pg w.cmd.index).p.holdoff = (s.dev.pg w.cmd.index).p.holdoff ∧
      (t.dev.pg w.cmd.index).wtrLeft = (s.dev.pg w.cmd.index).wtrLeft ∧
      (r.arch % 8 ≠ 2 → (t.dev.pg w.cmd.index).w = (s.dev.pg w.cmd.index).w ∧
        (t.dev.pg w.cmd.index).p = (s.dev.pg w.cmd.index).p ∧ t.dev.odu = s.dev.odu) ∧
      (∀ o, o ≠ w.cmd.index → t.dev.pg o = s.dev.pg o) := by
  have low : applyLow s.dev w.cmd = none := by simp [applyLow, State.opcode_of_effectDue due]
  have applied : applyHigh s.dev w.cmd w.order = some (s.dev.setTimers w.cmd.index w.cmd, stOk, []) := by
    simp [applyHigh, State.opcode_of_effectDue due, applyPgTimers, okWith]
  obtain ⟨t, run, pgs, odu⟩ := State.shows_groups due low applied (by decide)
  refine ⟨t, run, ?_⟩
  rcases s.dev.setTimers_puts w.cmd group with ⟨puts, watches⟩ | ⟨puts, kept⟩
  · simp only [Dev.pg_congr pgs, puts.pg]
    exact ⟨rfl, rfl, rfl, rfl, rfl, rfl, fun other => absurd watches other, puts.others⟩
  · simp only [Dev.pg_congr pgs, puts.pg]
    exact ⟨rfl, rfl, rfl, rfl, rfl, rfl, fun _ => ⟨rfl, rfl, odu.trans kept⟩, puts.others⟩

/-- Settles O40: PG_COMMAND with and without PD_PRT, and PG_TIMERS, each by the lemma about its own effect. -/
theorem protectionCommandsTakeEffect : Obligations.protection_commands_take_effect :=
  ⟨pg_command_takes_effect, pg_command_without_power_changes_no_group, pg_timers_takes_effect⟩

end Sys2Proof.Machine

namespace Sys2Proof.Machine

open Sys2Proof

/-! ### Check-value units (R303 to R306) -/

@[simp] theorem State.settle_crc (s : State) (d : Dev) (v : Nat) : (s.settle d).dev.crc v = d.crc v := by
  match v with
  | 0 | 1 | _ + 2 => rfl

@[simp] theorem Dev.setCrc_crc_self (d : Dev) (unit : Nat) (u : CrcUnit) : (d.setCrc unit u).crc unit = u := by
  match unit with
  | 0 | 1 | _ + 2 => rfl

/-- Setting one unit leaves the other two. -/
theorem Dev.setCrc_crc_of_ne (d : Dev) {unit v : Nat} (u : CrcUnit) (known : unit < 3) (other : v < 3) (ne : v ≠ unit) :
    (d.setCrc unit u).crc v = d.crc v := by
  match unit, v with
  | 0, 1 | 0, 2 | 1, 0 | 1, 2 | 2, 0 | 2, 1 => rfl
  | 0, 0 | 1, 1 | 2, 2 => exact absurd rfl ne

@[simp] theorem Dev.setCrc_fc (d : Dev) (unit : Nat) (u : CrcUnit) : (d.setCrc unit u).fc = d.fc := by
  unfold Dev.setCrc; split <;> rfl

@[simp] theorem Dev.setCrc_log (d : Dev) (unit : Nat) (u : CrcUnit) : (d.setCrc unit u).log = d.log := by
  unfold Dev.setCrc; split <;> rfl

@[simp] theorem Dev.setCrc_host (d : Dev) (unit : Nat) (u : CrcUnit) : (d.setCrc unit u).host = d.host := by
  unfold Dev.setCrc; split <;> rfl

@[simp] theorem Dev.setCrc_fumPorts (d : Dev) (unit : Nat) (u : CrcUnit) : (d.setCrc unit u).fumPorts = d.fumPorts := by
  unfold Dev.setCrc; split <;> rfl

@[simp] theorem Dev.setCrc_fumSources (d : Dev) (unit : Nat) (u : CrcUnit) :
    (d.setCrc unit u).fumSources = d.fumSources := by
  unfold Dev.setCrc; split <;> rfl

@[simp] theorem Dev.tick_crc (d : Dev) (c k v : Nat) : (d.tick c k).crc v = d.crc v := by
  match v with
  | 0 => exact Dev.tick_crc16 ..
  | 1 => exact Dev.tick_crc32 ..
  | _ + 2 => exact Dev.tick_crc32c ..

@[simp] theorem Dev.raise_crc (d : Dev) (code obj : Nat) (l : List Byte) (v : Nat) :
    (d.raise code obj l).crc v = d.crc v := by
  match v with
  | 0 | 1 | _ + 2 => rfl

/-- Selecting a context loses none: each stands, live or saved, as it stood (R305). -/
theorem CrcUnit.select_context (u : CrcUnit) (value k : Nat) : (u.select value).context k = u.context k := by
  simp only [CrcUnit.select, CrcUnit.context, Tab.get_set]
  by_cases chosen : k = min (value % 1024) 519
  · simp [chosen]
  · by_cases live : k = u.ctxSel
    · subst live; simp [chosen]
    · simp [chosen, live]

/-- A register write that sets one unit: what the state then shows, and what stays. -/
theorem State.shows_setCrc {s : State} {f : Dev → Dev} {unit : Nat} {x : CrcUnit} (live : s.live = true)
    (known : unit < 3) (effect : f s.dev = s.dev.setCrc unit x) :
    ∃ t, s.runIf (fun _ => unit < 3) f = .next t ∧ t.dev.crc unit = x ∧
      (∀ v, v < 3 → v ≠ unit → t.dev.crc v = s.dev.crc v) ∧ s.raisesNone t ∧ t.mem = s.mem ∧ t.bar1 = s.bar1 := by
  refine ⟨_, State.runIf_eq s _ f (State.powered_of_live live) (decide_eq_true known), ?_⟩
  rw [effect]
  exact ⟨by simp, fun v other ne => (State.settle_crc ..).trans (s.dev.setCrc_crc_of_ne x known other ne),
    State.raisesNone_settle (by simp), rfl, State.settle_bar1_of_live live (by simp)⟩

/-- A write of data, VALUE or CFG is carried out where no source bound in HDLC mode holds the context (R304, R306). -/
theorem State.crcWrite_takes_effect {s : State} {unit : Nat} (live : s.live = true) (known : unit < 3)
    (free : s.dev.crcHeld unit = false) (f : CrcUnit → CrcUnit) :
    ∃ t, s.runIf (fun _ => unit < 3) (fun d => d.crcWrite unit f) = .next t ∧ t.dev.crc unit = f (s.dev.crc unit) ∧
      (∀ v, v < 3 → v ≠ unit → t.dev.crc v = s.dev.crc v) ∧ s.raisesNone t ∧ t.mem = s.mem ∧ t.bar1 = s.bar1 :=
  State.shows_setCrc live known (by simp [Dev.crcWrite, free])

/-- Such a write is refused and reported while a source bound in HDLC mode holds the context (R306). -/
theorem State.crcWrite_is_denied {s : State} {unit : Nat} (live : s.live = true) (known : unit < 3)
    (held : s.dev.crcHeld unit = true) (f : CrcUnit → CrcUnit) :
    ∃ t, s.runIf (fun _ => unit < 3) (fun d => d.crcWrite unit f) = .next t ∧
      t.dev.crc unit = { s.dev.crc unit with denied := true } ∧
      s.raisesOne t 0x0A06 0 (leBytes 1 unit ++ leBytes 2 (s.dev.crc unit).ctxSel) ∧
      (∀ v, v < 3 → v ≠ unit → t.dev.crc v = s.dev.crc v) ∧ t.mem = s.mem ∧ t.bar1 = s.bar1 := by
  have effect : s.dev.crcWrite unit f =
      (((s.dev.setCrc unit { s.dev.crc unit with denied := true }).tick (0x5403 + unit) 1).raise 0x0A06 0
        (leBytes 1 unit ++ leBytes 2 (s.dev.crc unit).ctxSel)) := by
    simp [Dev.crcWrite, held]
  refine ⟨_, State.runIf_eq s _ _ (State.powered_of_live live) (decide_eq_true known), ?_⟩
  rw [effect]
  refine ⟨by simp, State.raisesOne_settle_raise (by simp) (by simp) .., fun v other ne => ?_, rfl,
    State.settle_bar1_of_live live (by simp)⟩
  simpa using s.dev.setCrc_crc_of_ne _ known other ne

/-- Data, VALUE and CFG writes go one way: each is a write of its unit through the rule of R306. -/
theorem exec_of_mem_crcWrites (s : State) (unit value : Nat) :
    ∀ i ∈ [Instr.crcCfgWrite unit value, .crcDataBWrite unit value, .crcDataHWrite unit value, .crcDataWWrite unit value,
      .crcValueWrite unit value], ∃ f, exec i s = s.runIf (fun _ => unit < 3) fun d => d.crcWrite unit f := by
  simp only [List.forall_mem_cons]
  exact ⟨⟨_, rfl⟩, ⟨_, rfl⟩, ⟨_, rfl⟩, ⟨_, rfl⟩, ⟨_, rfl⟩, List.forall_mem_nil _⟩

theorem ctxSel_write_selects_a_context (s : State) (unit value : Nat) (live : s.live = true) (known : unit < 3) :
    ∃ t, exec (.crcCtxSelWrite unit value) s = .next t ∧ (t.dev.crc unit).ctxSel = min (value % 1_024) 519 ∧
      (∀ k, (t.dev.crc unit).context k = (s.dev.crc unit).context k) ∧
      (∀ v, v < 3 → v ≠ unit → t.dev.crc v = s.dev.crc v) ∧ s.raisesNone t ∧
      t.mem = s.mem ∧ t.bar1 = s.bar1 := by
  obtain ⟨t, run, selected, rest⟩ : ∃ t, execCrcCtxSelWrite unit value s = .next t ∧ _ :=
    State.shows_setCrc live known rfl
  refine ⟨t, run, ?_⟩
  rw [selected]
  exact ⟨rfl, CrcUnit.select_context _ value, rest⟩

/-- The check values of the nine ASCII digits (R303). -/
theorem check_values_of_digits :
    let text : List Byte := [0x31, 0x32, 0x33, 0x34, 0x35, 0x36, 0x37, 0x38, 0x39]
    ((({ value := 0xFFFF } : CrcUnit).feed 0 text).result 0 = 0x906E) ∧
    ((({ value := 0xFFFF, reflect := false, xorOut := false } : CrcUnit).feed 0 text).result 0 = 0x29B1) ∧
    ((({} : CrcUnit).feed 1 text).result 1 = 0xCBF4_3926) ∧ ((({} : CrcUnit).feed 2 text).result 2 = 0xE306_9283) := by
  decide +kernel

/-- Settles O47: the selection, the writes that are carried out, the writes that are refused, and the check values. -/
theorem checkValueUnitsFollowTheirPort : Obligations.check_value_units_follow_their_port := by
  refine ⟨ctxSel_write_selects_a_context, fun s unit value live known free => ?_,
    fun s unit value live known held i write => ?_, check_values_of_digits⟩
  · have takes := State.crcWrite_takes_effect live known free
    exact ⟨takes _, takes _, takes _, takes _, takes _⟩
  · obtain ⟨f, way⟩ := exec_of_mem_crcWrites s unit value i write
    rw [way]
    exact State.crcWrite_is_denied live known held f

end Sys2Proof.Machine

namespace Sys2Proof.Machine

open Sys2Proof

/-! ### Fumarole ports and sources after an update -/

@[simp] theorem State.settle_fum (s : State) (d : Dev) (p : Nat) : (s.settle d).dev.fum p = d.fum p := rfl

@[simp] theorem State.settle_source (s : State) (d : Dev) (n : Nat) : (s.settle d).dev.source n = d.source n := rfl

@[simp] theorem Dev.setSource_fum (d : Dev) (n p : Nat) (x : FumSource) : (d.setSource n x).fum p = d.fum p := rfl

@[simp] theorem Dev.setFum_source (d : Dev) (p n : Nat) (x : FumPort) : (d.setFum p x).source n = d.source n := rfl

@[simp] theorem Dev.raise_fum (d : Dev) (code obj : Nat) (l : List Byte) (p : Nat) :
    (d.raise code obj l).fum p = d.fum p := rfl

@[simp] theorem Dev.raise_source (d : Dev) (code obj : Nat) (l : List Byte) (n : Nat) :
    (d.raise code obj l).source n = d.source n := rfl

@[simp] theorem Dev.tick_fum (d : Dev) (c k p : Nat) : (d.tick c k).fum p = d.fum p := by simp [Dev.fum]

@[simp] theorem Dev.tick_source (d : Dev) (c k n : Nat) : (d.tick c k).source n = d.source n := by simp [Dev.source]

/-! ### Effects on one Fumarole port

`Dev.TurnsFum d p e`: from `d` to `e` only port `p` changes among the Fumarole ports, and no response waits that did not wait
before. -/

structure Dev.TurnsFum (d : Dev) (p : Nat) (e : Dev) : Prop where
  others : ∀ q, q ≠ p → e.fum q = d.fum q
  out : e.host.out = d.host.out

namespace Dev.TurnsFum

variable {d e f : Dev} {p : Nat}

theorem refl (d : Dev) (p : Nat) : d.TurnsFum p d := ⟨fun _ _ => rfl, rfl⟩

theorem trans (h : d.TurnsFum p e) (k : e.TurnsFum p f) : d.TurnsFum p f :=
  ⟨fun q ne => (k.others q ne).trans (h.others q ne), k.out.trans h.out⟩

theorem setFum (h : d.TurnsFum p e) (x : FumPort) : d.TurnsFum p (e.setFum p x) :=
  h.trans ⟨fun _ ne => by simp [ne], rfl⟩

theorem setSource (h : d.TurnsFum p e) (n : Nat) (x : FumSource) : d.TurnsFum p (e.setSource n x) :=
  h.trans ⟨fun _ _ => rfl, rfl⟩

theorem tick (h : d.TurnsFum p e) (c k : Nat) : d.TurnsFum p (e.tick c k) := h.trans ⟨fun _ _ => by simp, by simp⟩

theorem raise (h : d.TurnsFum p e) (code obj : Nat) (l : List Byte) : d.TurnsFum p (e.raise code obj l) :=
  h.trans ⟨fun _ _ => rfl, by simp⟩

theorem discard (h : d.TurnsFum p e) (src reason : Nat) : d.TurnsFum p (e.fumDiscard p src reason) :=
  (h.setFum _).raise ..

theorem abort (h : d.TurnsFum p e) (src reason : Nat) : d.TurnsFum p (e.fumAbort p src reason) :=
  ((h.setFum _).tick ..).raise ..

theorem fill (h : d.TurnsFum p e) (n : Nat) : d.TurnsFum p (e.fumFill p n) := by
  unfold Dev.fumFill
  dsimp only
  split
  · exact (h.setFum _).raise ..
  · exact h.setFum _

theorem foldl {α : Type} {g : Dev → α → Dev} (h : ∀ (d : Dev) a, d.TurnsFum p (g d a)) (l : List α) (d : Dev) :
    d.TurnsFum p (l.foldl g d) := by
  induction l generalizing d with
  | nil => exact .refl d p
  | cons a l ih => exact (h d a).trans (ih (g d a))

/-- The frame of a step with such an effect: the other ports, hub SRAM and HBM, and the rings. -/
theorem settled {s : State} (h : s.dev.TurnsFum p e) (live : s.live = true) :
    (∀ q, q ≠ p → (s.settle e).dev.fum q = s.dev.fum q) ∧ (s.settle e).mem = s.mem ∧ (s.settle e).bar1 = s.bar1 :=
  ⟨h.others, rfl, State.settle_bar1_of_live live h.out⟩

end Dev.TurnsFum

/-- Its moment has come, and its effect is to set a port: what the state then shows, and what stays. -/
theorem State.shows_setFum {s : State} {c : Dev → Bool} {f : Dev → Dev} {p : Nat} {x : FumPort} (live : s.live = true)
    (due : c s.dev = true) (effect : f s.dev = s.dev.setFum p x) :
    ∃ t, s.runIf c f = .next t ∧ t.dev.fum p = x ∧ (∀ q, q ≠ p → t.dev.fum q = s.dev.fum q) ∧
      t = { s with dev := { s.dev with fumPorts := t.dev.fumPorts } } := by
  have settled : s.settle (s.dev.setFum p x) = { s with dev := s.dev.setFum p x } :=
    State.settle_self { s with dev := s.dev.setFum p x } (State.out_of_live live)
  rw [State.runIf_eq s c f (State.powered_of_live live) due, effect, settled]
  exact ⟨_, rfl, by simp, fun _ ne => by simp [ne], rfl⟩

/-! ### What the operations of a port leave in it -/

theorem Dev.fumFill_fum (d : Dev) (p n : Nat) :
    (d.fumFill p n).fum p = { d.fum p with expFill := (d.fum p).expFill + n } := by
  unfold Dev.fumFill
  dsimp only
  split <;> simp

@[simp] theorem Dev.fumFill_source (d : Dev) (p n k : Nat) : (d.fumFill p n).source k = d.source k := by
  unfold Dev.fumFill
  dsimp only
  split <;> rfl

theorem Dev.fumDiscard_fum (d : Dev) (p src reason : Nat) :
    (d.fumDiscard p src reason).fum p = { d.fum p with discards := min 0xFFFF_FFFF ((d.fum p).discards + 1) } :=
  (Dev.setFum_fum ..).trans (if_pos rfl)

@[simp] theorem Dev.fumDiscard_fumSources (d : Dev) (p src reason : Nat) :
    (d.fumDiscard p src reason).fumSources = d.fumSources := rfl

@[simp] theorem Dev.fumDiscard_source (d : Dev) (p src reason n : Nat) :
    (d.fumDiscard p src reason).source n = d.source n := rfl

/-- A discard is reported after changes that leave Beat and log alone. -/
theorem State.raisesOne_settle_discard {s : State} {d : Dev} (fc : d.fc = s.dev.fc)
    (log : d.log.arising = s.dev.log.arising) (p src reason : Nat) :
    s.raisesOne (s.settle (d.fumDiscard p src reason)) 0x0A01 (objFum p)
      (leBytes 1 p ++ leBytes 2 src ++ leBytes 1 reason) :=
  State.raisesOne_settle_raise (d := d.setFum p _) fc log ..

theorem Dev.fumPop_of_cons {d : Dev} {p : Nat} {i : Item} {rest : List Item} (head : (d.fum p).readBank = i :: rest) :
    d.fumPop p = d.setFum p { d.fum p with
      readBank := rest, sent := 0, expFill := (d.fum p).expFill - i.bytes.length } := by
  simp [Dev.fumPop, head]

/-! ### Frames from the line (R291, R295) -/

/-- The next complete frame of a source is taken up. -/
def Dev.takeFrame (d : Dev) (src : Nat) : Dev :=
  d.setSource src { d.source src with rx := { (d.source src).rx with done := (d.source src).rx.done.drop 1 } }

@[simp] theorem Dev.takeFrame_fum (d : Dev) (src p : Nat) : (d.takeFrame src).fum p = d.fum p := rfl

@[simp] theorem Dev.takeFrame_source (d : Dev) (src n : Nat) : (d.takeFrame src).source n =
    if n = src then { d.source src with rx := { (d.source src).rx with done := (d.source src).rx.done.drop 1 } }
    else d.source n :=
  Dev.setSource_source ..

/-- Source `src` is bound to a port that runs in HDLC mode, and no frame of it stands half in the port's queue. -/
structure Dev.Receives (d : Dev) (src : Nat) (b : Binding) : Prop where
  bind : (d.source src).bind = some b
  runs : d.fumRuns b.port = true
  mode : (d.fum b.port).attr.mode = 1
  takes : (d.source src).dropRest = false
  bound : (d.source src).unbinding = false
  arriving : ∀ i ∈ (d.fum b.port).arriving, i.src ≠ src
  queued : ∀ i ∈ (d.fum b.port).staged ++ (d.fum b.port).fillBank ++ (d.fum b.port).readBank, i.src = src → i.whole = true

/-- Counts of the line frames of a source: each good one, and each other up to the greatest count. -/
def FumSource.countFrame (x : FumSource) (good : Bool) : FumSource :=
  if good then { x with framesOut := (x.framesOut + 1) % 2 ^ 32 } else { x with badFcs := satAdd max32 x.badFcs 1 }

/-- A line frame of a source is counted, in its status and in its counter cell. -/
def Dev.countFrame (d : Dev) (src : Nat) (good : Bool) : Dev :=
  (d.setSource src ((d.source src).countFrame good)).tick (sourceCell src (if good then 0 else 1)) 1

@[simp] theorem Dev.countFrame_fum (d : Dev) (src : Nat) (good : Bool) (p : Nat) :
    (d.countFrame src good).fum p = d.fum p := by simp [Dev.countFrame]

@[simp] theorem Dev.countFrame_source (d : Dev) (src : Nat) (good : Bool) (n : Nat) :
    (d.countFrame src good).source n = if n = src then (d.source src).countFrame good else d.source n := by
  simp [Dev.countFrame]

namespace Dev.Receives

variable {d : Dev} {src : Nat} {b : Binding}

/-- Taking a frame up leaves the source ready for it. -/
theorem takeFrame (h : d.Receives src b) : (d.takeFrame src).Receives src b where
  bind := by simp [h.bind]
  runs := h.runs
  mode := h.mode
  takes := by simp [h.takes]
  bound := by simp [h.bound]
  arriving := h.arriving
  queued := h.queued

theorem hasOpen_eq (h : d.Receives src b) :
    hasOpen src ((d.fum b.port).staged ++ (d.fum b.port).fillBank ++ (d.fum b.port).readBank) = false := by
  rw [hasOpen, List.any_eq_false]
  intro i queued
  by_cases own : i.src = src
  · simp [h.queued i queued own]
  · simp [own]

theorem filter_arriving (h : d.Receives src b) :
    (d.fum b.port).arriving.filter (fun i => i.src != src) = (d.fum b.port).arriving :=
  List.filter_eq_self.mpr fun i here => by simpa using h.arriving i here

/-- Staging holds no byte of the source's next frame. -/
theorem openBytes_eq (h : d.Receives src b) : (d.fum b.port).openBytes src = 0 := by
  have closed : ((d.fum b.port).arriving ++ (d.fum b.port).staged ++ (d.fum b.port).fillBank ++
      (d.fum b.port).readBank).filter (fun i => i.src == src && !i.whole) = [] := by
    have queued := List.any_eq_false.mp h.hasOpen_eq
    rw [List.append_assoc, List.append_assoc, List.filter_append, ← List.append_assoc, List.append_eq_nil_iff]
    exact ⟨List.filter_eq_nil_iff.mpr fun i here => by simp [h.arriving i here], List.filter_eq_nil_iff.mpr queued⟩
  rw [FumPort.openBytes, closed]
  rfl

/-- Its frame is counted; a good one that fits joins the queue whole, and any other is discarded. -/
theorem gccFrame_eq (h : d.Receives src b) {bytes : List Byte} {aborted good : Bool}
    (checked : goodLineFrame b.fcs bytes aborted = good)
    (room : good = true → (d.fum b.port).expFill + (bytes.length - fcsLen b.fcs) ≤ 131_072) :
    d.gccFrame src bytes aborted =
      if good then
        (((d.countFrame src true).setFum b.port (d.fum b.port)).setFum b.port
          ((d.fum b.port).stage src b.prio (bytes.take (bytes.length - fcsLen b.fcs)) true)).fumFill b.port
            (bytes.length - fcsLen b.fcs)
      else ((d.countFrame src false).setFum b.port (d.fum b.port)).fumDiscard b.port src 2 := by
  cases good with
  | false =>
    simp [-List.append_assoc, Dev.gccFrame, h.bind, h.bound, h.runs, h.mode, h.takes, checked, h.hasOpen_eq,
      h.filter_arriving, h.openBytes_eq, Dev.countFrame, FumSource.countFrame]
  | true =>
    have fits : ¬stagingBytes < (d.fum b.port).expFill + (bytes.length - fcsLen b.fcs) := Nat.not_lt.mpr (room rfl)
    simp [-List.append_assoc, Dev.gccFrame, h.bind, h.bound, h.runs, h.mode, h.takes, checked, h.hasOpen_eq,
      h.filter_arriving, h.openBytes_eq, fits, Dev.countFrame, FumSource.countFrame]

end Dev.Receives

theorem exec_gccLineFrameReceived {s : State} {src : Nat} {bytes : List Byte} {aborted : Bool} (live : s.live = true)
    (known : s.dev.objExists (objSource src) = true) (next : (s.dev.source src).rx.done.head? = some (bytes, aborted)) :
    exec (.gccLineFrameReceived src bytes aborted) s =
      .next (s.settle ((s.dev.takeFrame src).gccFrame src bytes aborted)) :=
  show execGccLineFrameReceived src bytes aborted s = _ from
    State.runIf_eq s _ _ (State.powered_of_live live) (by simp [known, next])

section

variable {s : State} {src : Nat} {bytes : List Byte} {aborted : Bool} {b : Binding}

theorem good_line_frame_joins_queue (live : s.live = true) (known : s.dev.objExists (objSource src) = true)
    (next : (s.dev.source src).rx.done.head? = some (bytes, aborted)) (receives : s.dev.Receives src b)
    (good : goodLineFrame b.fcs bytes aborted = true)
    (room : (s.dev.fum b.port).expFill + (bytes.length - fcsLen b.fcs) ≤ 131_072) :
    ∃ t, exec (.gccLineFrameReceived src bytes aborted) s = .next t ∧
      t.dev.fum b.port = { s.dev.fum b.port with
        staged := (s.dev.fum b.port).staged ++ [{
          src := src, prio := b.prio, order := (s.dev.fum b.port).nextOrder,
          bytes := bytes.take (bytes.length - fcsLen b.fcs), whole := true }],
        nextOrder := (s.dev.fum b.port).nextOrder + 1,
        expFill := (s.dev.fum b.port).expFill + (bytes.length - fcsLen b.fcs) } ∧
      (t.dev.source src).framesOut = ((s.dev.source src).framesOut + 1) % 2 ^ 32 ∧
      (t.dev.source src).badFcs = (s.dev.source src).badFcs ∧
      (∀ q, q ≠ b.port → t.dev.fum q = s.dev.fum q) ∧ (∀ q, q ≠ src → t.dev.source q = s.dev.source q) ∧
      t.mem = s.mem ∧ t.bar1 = s.bar1 := by
  have effect := Dev.Receives.gccFrame_eq receives.takeFrame good fun _ => room
  have turns : s.dev.TurnsFum b.port ((s.dev.takeFrame src).gccFrame src bytes aborted) := by
    rw [effect]
    exact (((((Dev.TurnsFum.refl ..).setSource ..).setSource ..).tick ..).setFum _).setFum _ |>.fill _
  obtain ⟨others, mem, bar1⟩ := turns.settled live
  refine ⟨_, exec_gccLineFrameReceived live known next, ?_, ?_, ?_, others, fun q ne => ?_, mem, bar1⟩
  all_goals rw [effect]
  · simp [Dev.fumFill_fum, FumPort.stage]
  · simp [FumSource.countFrame]
  · simp [FumSource.countFrame]
  · simp [ne]

theorem bad_line_frame_is_discarded (live : s.live = true) (known : s.dev.objExists (objSource src) = true)
    (next : (s.dev.source src).rx.done.head? = some (bytes, aborted)) (receives : s.dev.Receives src b)
    (bad : goodLineFrame b.fcs bytes aborted = false) :
    ∃ t, exec (.gccLineFrameReceived src bytes aborted) s = .next t ∧
      t.dev.fum b.port = { s.dev.fum b.port with discards := min 0xFFFF_FFFF ((s.dev.fum b.port).discards + 1) } ∧
      (t.dev.source src).badFcs = min 0xFFFF_FFFF ((s.dev.source src).badFcs + 1) ∧
      (t.dev.source src).framesOut = (s.dev.source src).framesOut ∧
      s.raisesOne t 0x0A01 (objFum b.port) (leBytes 1 b.port ++ leBytes 2 src ++ leBytes 1 2) ∧
      (∀ q, q ≠ b.port → t.dev.fum q = s.dev.fum q) ∧ t.mem = s.mem ∧ t.bar1 = s.bar1 := by
  have effect := Dev.Receives.gccFrame_eq receives.takeFrame bad nofun
  have turns : s.dev.TurnsFum b.port ((s.dev.takeFrame src).gccFrame src bytes aborted) := by
    rw [effect]
    exact ((((Dev.TurnsFum.refl ..).setSource ..).setSource ..).tick ..).setFum _ |>.discard ..
  refine ⟨_, exec_gccLineFrameReceived live known next, ?_, ?_, ?_, ?_, turns.settled live⟩
  all_goals rw [effect]
  · simp [Dev.fumDiscard_fum]
  · simp [FumSource.countFrame, satAdd, max32]
  · simp [FumSource.countFrame]
  · exact State.raisesOne_settle_discard (by simp [Dev.countFrame, Dev.takeFrame])
      (by simp [Dev.countFrame, Dev.takeFrame]) ..

theorem unbound_line_frame_is_dropped (live : s.live = true) (known : s.dev.objExists (objSource src) = true)
    (next : (s.dev.source src).rx.done.head? = some (bytes, aborted)) (unbound : (s.dev.source src).bind = none) :
    ∃ t, exec (.gccLineFrameReceived src bytes aborted) s = .next t ∧ t.dev.fumPorts = s.dev.fumPorts ∧
      t.dev.source src = { s.dev.source src with
        rx := { (s.dev.source src).rx with done := (s.dev.source src).rx.done.drop 1 } } ∧
      (∀ q, q ≠ src → t.dev.source q = s.dev.source q) ∧ s.raisesNone t ∧ t.mem = s.mem ∧ t.bar1 = s.bar1 := by
  have effect : (s.dev.takeFrame src).gccFrame src bytes aborted = s.dev.takeFrame src := by
    simp [Dev.gccFrame, Dev.takeFrame, unbound]
  refine ⟨_, exec_gccLineFrameReceived live known next, ?_⟩
  rw [effect]
  exact ⟨rfl, by simp [Dev.takeFrame], fun q ne => by simp [Dev.takeFrame, ne], State.raisesNone_settle rfl, rfl,
    State.settle_bar1_of_live live rfl⟩

end

/-! ### Item boundaries (R295, R307) -/

/-- `i` goes before `j`, or as its equal: its priority is higher, or the same and it came no later. -/
def Item.goesFirst (i j : Item) : Prop := i.prio < j.prio ∨ (i.prio = j.prio ∧ i.order ≤ j.order)

theorem Item.goesFirst_trans {i j k : Item} (h : i.goesFirst j) (g : j.goesFirst k) : i.goesFirst k := by
  unfold Item.goesFirst at h g ⊢
  omega

/-- The arbiter takes an item unless none is eligible. -/
theorem bestItem_isSome {l : List Item} (some_eligible : l ≠ []) : ∃ i, bestItem l = some i := by
  cases l with
  | nil => exact absurd rfl some_eligible
  | cons i l =>
    unfold bestItem
    split
    · exact ⟨i, rfl⟩
    · split <;> exact ⟨_, rfl⟩

/-- What the arbiter takes is eligible, and no eligible item goes before it. -/
theorem bestItem_goesFirst {l : List Item} {i : Item} (best : bestItem l = some i) :
    i ∈ l ∧ ∀ j ∈ l, i.goesFirst j := by
  induction l generalizing i with
  | nil => cases best
  | cons a l ih =>
    unfold bestItem at best
    split at best
    next alone =>
      have empty : l = [] := Classical.byContradiction fun more =>
        have ⟨_, found⟩ := bestItem_isSome more
        nomatch alone.symm.trans found
      cases best
      simp [empty, Item.goesFirst]
    next b rest =>
      obtain ⟨here, first⟩ := ih rest
      split at best
      next before =>
        cases best
        have head : i.goesFirst a := by
          unfold Item.goesFirst
          simp only [Bool.or_eq_true, Bool.and_eq_true, decide_eq_true_eq] at before
          omega
        exact ⟨List.mem_cons_of_mem a here, List.forall_mem_cons.mpr ⟨head, first⟩⟩
      next after =>
        cases best
        have head : a.goesFirst b := by
          unfold Item.goesFirst
          simp only [Bool.or_eq_true, Bool.and_eq_true, decide_eq_true_eq] at after
          omega
        exact ⟨List.mem_cons_self, List.forall_mem_cons.mpr
          ⟨.inr ⟨rfl, Nat.le_refl _⟩, fun j there => Item.goesFirst_trans head (first j there)⟩⟩

/-- MODE and DIVIDER come into force where FPp_TXD stands between items. -/
def FumPort.comeIntoForce (f : FumPort) : FumPort :=
  if f.sent = 0 && f.tail.isEmpty then { f with txMode := f.attr.mode, txDivider := f.attr.divider } else f

/-- The arbiter's choice goes to the bank it fills, unless that is full. -/
def FumPort.choose (f : FumPort) : FumPort :=
  match bestItem f.staged with
  | none => f
  | some i =>
    if bankBytes ≤ sum (f.fillBank.map fun j => j.bytes.length) then f
    else { f with staged := f.staged.erase i, fillBank := f.fillBank ++ [i] }

theorem FumPort.itemBoundary_eq (f : FumPort) : f.itemBoundary = f.comeIntoForce.choose := rfl

theorem FumPort.comeIntoForce_tx (f : FumPort) :
    if f.sent = 0 ∧ f.tail = [] then
      f.comeIntoForce.txMode = f.attr.mode ∧ f.comeIntoForce.txDivider = f.attr.divider
    else f.comeIntoForce.txMode = f.txMode ∧ f.comeIntoForce.txDivider = f.txDivider := by
  simp only [FumPort.comeIntoForce, Bool.and_eq_true, decide_eq_true_eq, List.isEmpty_iff]
  split <;> exact ⟨rfl, rfl⟩

@[simp] theorem FumPort.comeIntoForce_staged (f : FumPort) : f.comeIntoForce.staged = f.staged := by
  unfold FumPort.comeIntoForce; split <;> rfl

@[simp] theorem FumPort.comeIntoForce_arriving (f : FumPort) : f.comeIntoForce.arriving = f.arriving := by
  unfold FumPort.comeIntoForce; split <;> rfl

@[simp] theorem FumPort.comeIntoForce_fillBank (f : FumPort) : f.comeIntoForce.fillBank = f.fillBank := by
  unfold FumPort.comeIntoForce; split <;> rfl

@[simp] theorem FumPort.comeIntoForce_readBank (f : FumPort) : f.comeIntoForce.readBank = f.readBank := by
  unfold FumPort.comeIntoForce; split <;> rfl

@[simp] theorem FumPort.comeIntoForce_discards (f : FumPort) : f.comeIntoForce.discards = f.discards := by
  unfold FumPort.comeIntoForce; split <;> rfl

theorem FumPort.choose_keeps (f : FumPort) :
    ∃ staged filled, f.choose = { f with staged := staged, fillBank := filled } := by
  unfold FumPort.choose
  split
  · exact ⟨_, _, rfl⟩
  · split <;> exact ⟨_, _, rfl⟩

theorem FumPort.choose_of_nil {f : FumPort} (none_eligible : f.staged = []) : f.choose = f := by
  simp [FumPort.choose, none_eligible, bestItem]

theorem FumPort.choose_of_some {f : FumPort} {i : Item} (best : bestItem f.staged = some i)
    (room : sum (f.fillBank.map fun j => j.bytes.length) < 16_384) :
    f.choose = { f with staged := f.staged.erase i, fillBank := f.fillBank ++ [i] } := by
  simp only [FumPort.choose, best]
  exact if_neg (Nat.not_le.mpr room)

theorem itemBoundary_moves_best_item (s : State) (p : Nat) (live : s.live = true) (known : p < 8)
    (powered : s.dev.domOn (domFum p) = true) (mode : (s.dev.fum p).attr.mode ≠ 0) :
    ∃ t, exec (.fumItemBoundary p) s = .next t ∧
      (if (s.dev.fum p).sent = 0 ∧ (s.dev.fum p).tail = [] then
        (t.dev.fum p).txMode = (s.dev.fum p).attr.mode ∧ (t.dev.fum p).txDivider = (s.dev.fum p).attr.divider
      else (t.dev.fum p).txMode = (s.dev.fum p).txMode ∧ (t.dev.fum p).txDivider = (s.dev.fum p).txDivider) ∧
      ((s.dev.fum p).staged ≠ [] → sum ((s.dev.fum p).fillBank.map fun j => j.bytes.length) < 16_384 →
        ∃ i ∈ (s.dev.fum p).staged,
          (∀ j ∈ (s.dev.fum p).staged, i.prio < j.prio ∨ (i.prio = j.prio ∧ i.order ≤ j.order)) ∧
          (t.dev.fum p).staged = (s.dev.fum p).staged.erase i ∧
          (t.dev.fum p).fillBank = (s.dev.fum p).fillBank ++ [i]) ∧
      (t.dev.fum p).readBank = (s.dev.fum p).readBank ∧ (∀ q, q ≠ p → t.dev.fum q = s.dev.fum q) ∧
      t = { s with dev := { s.dev with fumPorts := t.dev.fumPorts } } := by
  obtain ⟨t, run, port, rest⟩ : ∃ t, execFumItemBoundary p s = .next t ∧ _ :=
    State.shows_setFum (p := p) (x := (s.dev.fum p).itemBoundary) live (by simp [known, powered]) (by simp [mode])
  obtain ⟨staged, filled, chosen⟩ := (s.dev.fum p).comeIntoForce.choose_keeps
  rw [FumPort.itemBoundary_eq] at port
  refine ⟨t, run, ?_, fun eligible room => ?_, ?_, rest⟩
  · rw [port, chosen]
    exact (s.dev.fum p).comeIntoForce_tx
  · obtain ⟨i, best⟩ := bestItem_isSome eligible
    obtain ⟨here, first⟩ := bestItem_goesFirst best
    rw [port, FumPort.choose_of_some (by simpa using best) (by simpa using room)]
    exact ⟨i, here, first, by simp, by simp⟩
  · simp [port, chosen]

/-! ### A port in MODE OFF (R307) -/

/-- Discarding items one by one counts each, up to the greatest count, and changes nothing else of the port. -/
theorem Dev.fumDiscards_fum (d : Dev) (p : Nat) (l : List Item) :
    (l.foldl (fun d i => d.fumDiscard p i.src 0) d).fum p = { d.fum p with
      discards := if l = [] then (d.fum p).discards else min 0xFFFF_FFFF ((d.fum p).discards + l.length) } := by
  induction l generalizing d with
  | nil => simp
  | cons i l ih =>
    rw [List.foldl_cons, ih, Dev.fumDiscard_fum]
    by_cases last : l = []
    · simp [last]
    · simp [last]
      omega

theorem Dev.fumDiscards_fumSources (d : Dev) (p : Nat) (l : List Item) :
    (l.foldl (fun d i => d.fumDiscard p i.src 0) d).fumSources = d.fumSources := by
  induction l generalizing d with
  | nil => rfl
  | cons i l ih => exact ih (d.fumDiscard p i.src 0)

/-- The item on FPp_TXD stays; what else a port in MODE OFF queues goes. -/
def FumPort.onlySent (f : FumPort) : List Item := if f.sent = 0 then [] else f.readBank.take 1

/-- The whole items that such a port gives up, in the order in which they are counted. -/
def FumPort.givenUp (f : FumPort) : List Item :=
  ((if f.sent = 0 then f.readBank else f.readBank.drop 1) ++ f.fillBank ++ f.staged).filter (·.whole)

/-- The port without them. -/
def FumPort.off (f : FumPort) : FumPort :=
  { f with
    staged := [], arriving := [], fillBank := [], readBank := f.onlySent
    expFill := sum (f.onlySent.map fun i => i.bytes.length) }

theorem FumPort.drop_onlySent (f : FumPort) :
    f.readBank.drop f.onlySent.length = if f.sent = 0 then f.readBank else f.readBank.drop 1 := by
  unfold FumPort.onlySent
  split
  · rfl
  · cases f.readBank <;> rfl

theorem Dev.fumOff_eq (d : Dev) (p : Nat) :
    d.fumOff p = (d.fum p).givenUp.foldl (fun d i => d.fumDiscard p i.src 0) (d.setFum p (d.fum p).off) := by
  rw [FumPort.givenUp, ← FumPort.drop_onlySent]
  rfl

theorem Dev.fumOff_fum (d : Dev) (p : Nat) : (d.fumOff p).fum p = { (d.fum p).off with
    discards := if (d.fum p).givenUp = [] then (d.fum p).discards
      else min 0xFFFF_FFFF ((d.fum p).discards + (d.fum p).givenUp.length) } := by
  simp [Dev.fumOff_eq, Dev.fumDiscards_fum, FumPort.off]

theorem Dev.fumOff_fumSources (d : Dev) (p : Nat) : (d.fumOff p).fumSources = d.fumSources := by
  rw [Dev.fumOff_eq, Dev.fumDiscards_fumSources]
  rfl

theorem Dev.fumOff_turns (d : Dev) (p : Nat) : d.TurnsFum p (d.fumOff p) := by
  rw [Dev.fumOff_eq]
  exact ((Dev.TurnsFum.refl d p).setFum _).trans (.foldl (fun e _ => (Dev.TurnsFum.refl e p).discard ..) _ _)

theorem itemBoundary_empties_port_in_mode_off (s : State) (p : Nat) (live : s.live = true) (known : p < 8)
    (powered : s.dev.domOn (domFum p) = true) (mode : (s.dev.fum p).attr.mode = 0) :
    ∃ t, exec (.fumItemBoundary p) s = .next t ∧ (t.dev.fum p).staged = [] ∧ (t.dev.fum p).arriving = [] ∧
      (t.dev.fum p).fillBank = [] ∧
      (t.dev.fum p).readBank = (if (s.dev.fum p).sent = 0 then [] else (s.dev.fum p).readBank.take 1) ∧
      ((s.dev.fum p).sent = 0 → (s.dev.fum p).tail = [] → (t.dev.fum p).txMode = 0) ∧
      (let gone := ((if (s.dev.fum p).sent = 0 then (s.dev.fum p).readBank else (s.dev.fum p).readBank.drop 1) ++
          (s.dev.fum p).fillBank ++ (s.dev.fum p).staged).filter (·.whole)
       (t.dev.fum p).discards = if gone = [] then (s.dev.fum p).discards
         else min 0xFFFF_FFFF ((s.dev.fum p).discards + gone.length)) ∧
      (∀ q, q ≠ p → t.dev.fum q = s.dev.fum q) ∧ t.dev.fumSources = s.dev.fumSources ∧ t.mem = s.mem ∧ t.bar1 = s.bar1 := by
  have run : execFumItemBoundary p s =
      .next (s.settle ((s.dev.fumOff p).setFum p ((s.dev.fumOff p).fum p).itemBoundary)) := by
    rw [execFumItemBoundary, State.runIf_eq s _ _ (State.powered_of_live live) (by simp [known, powered])]
    simp [mode]
  have emptied := s.dev.fumOff_fum p
  have boundary : ((s.dev.fumOff p).fum p).itemBoundary = ((s.dev.fumOff p).fum p).comeIntoForce :=
    (FumPort.itemBoundary_eq _).trans (FumPort.choose_of_nil (by simp [emptied, FumPort.off]))
  have port : (s.settle ((s.dev.fumOff p).setFum p ((s.dev.fumOff p).fum p).itemBoundary)).dev.fum p =
      ((s.dev.fumOff p).fum p).comeIntoForce := by simp [boundary]
  obtain ⟨others, mem, bar1⟩ := ((s.dev.fumOff_turns p).setFum ((s.dev.fumOff p).fum p).itemBoundary).settled live
  refine ⟨_, run, ?_⟩
  rw [port]
  refine ⟨by simp [emptied, FumPort.off], by simp [emptied, FumPort.off], by simp [emptied, FumPort.off],
    by simp [emptied, FumPort.off, FumPort.onlySent], fun unsent untailed => ?_, by simp [emptied, FumPort.givenUp],
    others, s.dev.fumOff_fumSources p, mem, bar1⟩
  have tx := ((s.dev.fumOff p).fum p).comeIntoForce_tx
  rw [emptied, if_pos ⟨unsent, untailed⟩] at tx
  rw [emptied]
  exact tx.1.trans mode

/-! ### FUM_BANK_EXCHANGE and FUM_UNDERRUN (R295, R296) -/

theorem empty_bank_is_exchanged (s : State) (p : Nat) (live : s.live = true) (known : p < 8)
    (runs : s.dev.fumRuns p = true) (emptied : (s.dev.fum p).readBank = []) (filled : (s.dev.fum p).fillBank ≠ []) :
    ∃ t, exec (.fumBankExchange p) s = .next t ∧
      t.dev.fum p = { s.dev.fum p with readBank := (s.dev.fum p).fillBank, fillBank := [], sent := 0 } ∧
      (∀ q, q ≠ p → t.dev.fum q = s.dev.fum q) ∧ t = { s with dev := { s.dev with fumPorts := t.dev.fumPorts } } :=
  show ∃ t, execFumBankExchange p s = .next t ∧ _ from
    State.shows_setFum live (by simp [known, runs, emptied, filled]) rfl

theorem underrun_aborts_item (s : State) (p : Nat) (i : Item) (rest : List Item) (live : s.live = true) (known : p < 8)
    (head : (s.dev.fum p).readBank = i :: rest) (part : i.whole = false)
    (short : (i.portForm (s.dev.fum p).txMode).length ≤ (s.dev.fum p).sent) :
    ∃ t, exec (.fumUnderrun p) s = .next t ∧
      t.dev.fum p = { s.dev.fum p with
        readBank := rest, sent := 0, tail := [0x7D, 0x7E], expFill := (s.dev.fum p).expFill - i.bytes.length,
        aborts := min 0xFFFF_FFFF ((s.dev.fum p).aborts + 1) } ∧
      t.dev.source i.src = { s.dev.source i.src with dropRest := true } ∧
      s.raisesOne t 0x0A02 (objFum p) (leBytes 1 p ++ leBytes 2 i.src ++ leBytes 1 2) ∧
      (∀ q, q ≠ p → t.dev.fum q = s.dev.fum q) ∧ t.mem = s.mem ∧ t.bar1 = s.bar1 := by
  have run : execFumUnderrun p s = .next (s.settle ((((s.dev.fumPop p).setFum p
      { (s.dev.fumPop p).fum p with tail := abortSeq }).setSource i.src
        { s.dev.source i.src with dropRest := true }).fumAbort p i.src 2)) := by
    rw [execFumUnderrun, State.runIf_eq s _ _ (State.powered_of_live live) (by simp [known, head, part, short])]
    simp [head, Dev.fumPop_of_cons head]
  rw [Dev.fumPop_of_cons head] at run
  refine ⟨_, run, by simp [Dev.fumAbort, abortSeq, satAdd, max32], by simp [Dev.fumAbort], ?_,
    ((((Dev.TurnsFum.refl ..).setFum _).setFum _).setSource ..).abort .. |>.settled live⟩
  exact State.raisesOne_settle_raise (by simp) (by simp) ..

/-- Settles O45: line frames by what becomes of them, item boundaries by MODE, the bank exchange, and the underrun. -/
theorem exportQueueMovesByPriority : Obligations.export_queue_moves_by_priority := by
  refine ⟨fun s src bytes aborted b live known bind runs mode takes bound next arriving queued => ?_,
    fun s src bytes aborted live known unbound => ?_, itemBoundary_empties_port_in_mode_off, itemBoundary_moves_best_item,
    empty_bank_is_exchanged, underrun_aborts_item⟩
  · have receives : s.dev.Receives src b := ⟨bind, runs, mode, takes, bound, arriving, queued⟩
    exact ⟨good_line_frame_joins_queue live known next receives, bad_line_frame_is_discarded live known next receives⟩
  · exact ⟨fun l => by simp [Dev.gccArrive, unbound], fun next => unbound_line_frame_is_dropped live known next unbound⟩

end Sys2Proof.Machine

namespace Sys2Proof.Machine

open Sys2Proof

/-! ### A port set twice -/

theorem Tab.set_set {α : Type} (t : Tab α) (k : Nat) (a b : α) : Tab.set (Tab.set t k a) k b = Tab.set t k b := by
  induction t with
  | nil => simp [Tab.set]
  | cons x t ih =>
    obtain ⟨j, c⟩ := x
    by_cases here : j = k
    · simp [Tab.set, here]
    · by_cases before : k < j
      · simp [Tab.set, here, before]
      · simp [Tab.set, here, before, ih]

@[simp] theorem Dev.setFum_setFum (d : Dev) (p : Nat) (x y : FumPort) : (d.setFum p x).setFum p y = d.setFum p y := by
  simp [Dev.setFum, Tab.set_set]

/-! ### Frames on FPp_RXD (R292, R300) -/

/-- A port whose next complete frame is taken up. -/
def FumPort.takeFrame (f : FumPort) : FumPort := { f with rx := { f.rx with done := f.rx.done.drop 1 } }

theorem exec_fumPortFrameReceived {s : State} {p : Nat} {bytes : List Byte} {aborted : Bool} (live : s.live = true)
    (known : p < 8) (runs : s.dev.fumRuns p = true) (mode : (s.dev.fum p).attr.mode = 1)
    (next : (s.dev.fum p).rx.done.head? = some (bytes, aborted)) :
    exec (.fumPortFrameReceived p bytes aborted) s =
      .next (s.settle ((s.dev.setFum p (s.dev.fum p).takeFrame).portFrame p bytes aborted)) :=
  show execFumPortFrameReceived p bytes aborted s = _ from
    State.runIf_eq s _ _ (State.powered_of_live live) (by simp [known, runs, mode, next])

/-- The content of a port frame is staged for its source. -/
def FumPort.stageImport (f : FumPort) (src : Nat) (content : List Byte) : FumPort :=
  { f with
    imports := f.imports ++ [{ src := src, prio := 0, order := f.nextOrder, bytes := content, whole := true }]
    nextOrder := f.nextOrder + 1, impFill := f.impFill + content.length }

theorem Dev.portFrame_of_good {d : Dev} {p : Nat} {bytes : List Byte} {aborted : Bool}
    (good : goodPortFrame bytes aborted = true) (bound : beNat (bytes.take 2) ∈ d.boundTo p)
    (room : (d.fum p).impFill + ((bytes.take (bytes.length - 4)).drop 2).length ≤ 131_072) :
    d.portFrame p bytes aborted = d.setFum p
      ((d.fum p).stageImport (beNat (bytes.take 2)) ((bytes.take (bytes.length - 4)).drop 2)) := by
  unfold Dev.portFrame
  dsimp only
  rw [if_neg (by simp [good, bound])]
  exact if_neg (Nat.not_lt.mpr room)

theorem Dev.portFrame_of_bad {d : Dev} {p : Nat} {bytes : List Byte} {aborted : Bool}
    (bad : goodPortFrame bytes aborted = false ∨ beNat (bytes.take 2) ∉ d.boundTo p) :
    d.portFrame p bytes aborted = (d.tick (fumCell p 2) 1).fumDiscard p (beNat (bytes.take 2)) 3 := by
  unfold Dev.portFrame
  exact if_pos (by simpa using bad)

theorem Dev.portFrame_of_full {d : Dev} {p : Nat} {bytes : List Byte} {aborted : Bool}
    (good : goodPortFrame bytes aborted = true) (bound : beNat (bytes.take 2) ∈ d.boundTo p)
    (full : 131_072 < (d.fum p).impFill + ((bytes.take (bytes.length - 4)).drop 2).length) :
    d.portFrame p bytes aborted =
      (d.tick (sourceCell (beNat (bytes.take 2)) 3) 1).fumDiscard p (beNat (bytes.take 2)) 4 := by
  unfold Dev.portFrame
  dsimp only
  rw [if_neg (by simp [good, bound])]
  exact if_pos full

section

variable {s : State} {p : Nat} {bytes : List Byte} {aborted : Bool}

theorem good_port_frame_joins_imports (live : s.live = true) (known : p < 8) (runs : s.dev.fumRuns p = true)
    (mode : (s.dev.fum p).attr.mode = 1) (next : (s.dev.fum p).rx.done.head? = some (bytes, aborted))
    (good : goodPortFrame bytes aborted = true) (bound : beNat (bytes.take 2) ∈ s.dev.boundTo p)
    (room : (s.dev.fum p).impFill + ((bytes.take (bytes.length - 4)).drop 2).length ≤ 131_072) :
    ∃ t, exec (.fumPortFrameReceived p bytes aborted) s = .next t ∧
      t.dev.fum p = (s.dev.fum p).takeFrame.stageImport (beNat (bytes.take 2)) ((bytes.take (bytes.length - 4)).drop 2) ∧
      (∀ q, q ≠ p → t.dev.fum q = s.dev.fum q) ∧ t = { s with dev := { s.dev with fumPorts := t.dev.fumPorts } } := by
  refine show ∃ t, execFumPortFrameReceived p bytes aborted s = .next t ∧ _ from
    State.shows_setFum live (by simp [known, runs, mode, next]) ?_
  have port : (s.dev.setFum p (s.dev.fum p).takeFrame).fum p = (s.dev.fum p).takeFrame := by simp
  have staged := Dev.portFrame_of_good (d := s.dev.setFum p (s.dev.fum p).takeFrame) good bound (by rwa [port])
  rwa [port, Dev.setFum_setFum] at staged

/-- Every other port frame is discarded, and reported with a reason. -/
theorem port_frame_is_discarded {cell reason : Nat} (live : s.live = true) (known : p < 8)
    (runs : s.dev.fumRuns p = true) (mode : (s.dev.fum p).attr.mode = 1)
    (next : (s.dev.fum p).rx.done.head? = some (bytes, aborted))
    (effect : (s.dev.setFum p (s.dev.fum p).takeFrame).portFrame p bytes aborted =
      ((s.dev.setFum p (s.dev.fum p).takeFrame).tick cell 1).fumDiscard p (beNat (bytes.take 2)) reason) :
    ∃ t, exec (.fumPortFrameReceived p bytes aborted) s = .next t ∧
      t.dev.fum p = { s.dev.fum p with
        rx := { (s.dev.fum p).rx with done := (s.dev.fum p).rx.done.drop 1 },
        discards := min 0xFFFF_FFFF ((s.dev.fum p).discards + 1) } ∧
      s.raisesOne t 0x0A01 (objFum p) (leBytes 1 p ++ leBytes 2 (beNat (bytes.take 2)) ++ leBytes 1 reason) ∧
      (∀ q, q ≠ p → t.dev.fum q = s.dev.fum q) ∧ t.mem = s.mem ∧ t.bar1 = s.bar1 := by
  refine ⟨_, exec_fumPortFrameReceived live known runs mode next, ?_⟩
  rw [effect]
  exact ⟨by simp [Dev.fumDiscard_fum, FumPort.takeFrame], State.raisesOne_settle_discard (by simp) (by simp) ..,
    (((Dev.TurnsFum.refl ..).setFum _).tick ..).discard .. |>.settled live⟩

end

/-! ### Transparent bytes (R293) -/

theorem transparent_byte_is_staged_or_counted (s : State) (p src : Nat) (rest : List Nat) (byte : Byte)
    (live : s.live = true) (known : p < 8) (runs : s.dev.fumRuns p = true) (mode : (s.dev.fum p).attr.mode = 2)
    (bound : s.dev.boundTo p = src :: rest) :
    ∃ t, exec (.fumTransparentByteReceived p byte) s = .next t ∧
      t.dev.fum p = (if 131_072 ≤ (s.dev.fum p).impFill
        then { s.dev.fum p with discards := min 0xFFFF_FFFF ((s.dev.fum p).discards + 1) }
        else { s.dev.fum p with
          imports := (s.dev.fum p).imports ++ [{
            src := src, prio := 0, order := (s.dev.fum p).nextOrder, bytes := [byte], whole := true }],
          nextOrder := (s.dev.fum p).nextOrder + 1, impFill := (s.dev.fum p).impFill + 1 }) ∧
      (∀ q, q ≠ p → t.dev.fum q = s.dev.fum q) ∧ s.raisesNone t ∧ t.mem = s.mem ∧ t.bar1 = s.bar1 := by
  have run : execFumTransparentByteReceived p byte s = .next (s.settle (if 131_072 ≤ (s.dev.fum p).impFill
      then (s.dev.setFum p { s.dev.fum p with discards := satAdd max32 (s.dev.fum p).discards 1 }).tick (fumCell p 6) 1
      else s.dev.setFum p ((s.dev.fum p).stageImport src [byte]))) := by
    rw [execFumTransparentByteReceived, State.runIf_eq s _ _ (State.powered_of_live live) (by simp [known, runs, mode])]
    simp only [bound]
    rfl
  by_cases full : 131_072 ≤ (s.dev.fum p).impFill
  · simp only [if_pos full] at run ⊢
    obtain ⟨others, frame⟩ := (((Dev.TurnsFum.refl s.dev p).setFum _).tick ..).settled live
    exact ⟨_, run, by simp [satAdd, max32], others, State.raisesNone_settle (by simp), frame⟩
  · simp only [if_neg full] at run ⊢
    obtain ⟨others, frame⟩ := ((Dev.TurnsFum.refl s.dev p).setFum _).settled live
    exact ⟨_, run, by simp [FumPort.stageImport], others, State.raisesNone_settle rfl, frame⟩

/-! ### FUM_IMPORT_FRAME_SENT (R291, R300) -/

theorem sent_import_frame_leaves_queue (s : State) (src : Nat) (b : Binding) (i : Item) (live : s.live = true)
    (bound : (s.dev.source src).bind = some b) (mode : (s.dev.fum b.port).attr.mode = 1)
    (first : (s.dev.fum b.port).imports.find? (fun i => i.src == src) = some i)
    (done : (lineForm b.fcs i).length ≤ (s.dev.source src).lineSent) :
    ∃ t, exec (.fumImportFrameSent src) s = .next t ∧
      t.dev.fum b.port = { s.dev.fum b.port with
        imports := (s.dev.fum b.port).imports.erase i, impFill := (s.dev.fum b.port).impFill - i.bytes.length } ∧
      t.dev.source src = { s.dev.source src with
        framesIn := ((s.dev.source src).framesIn + 1) % 2 ^ 32, lineSent := 0 } ∧
      s.raisesNone t ∧ t.mem = s.mem ∧ t.bar1 = s.bar1 := by
  have run : execFumImportFrameSent src s = .next (s.settle (((s.dev.setFum b.port
      ((s.dev.fum b.port).popImport src)).setSource src { s.dev.source src with
        framesIn := ((s.dev.source src).framesIn + 1) % 2 ^ 32, lineSent := 0 }).tick (sourceCell src 2) 1)) := by
    rw [execFumImportFrameSent, State.runIf_eq s _ _ (State.powered_of_live live) (by simp [bound, mode, first, done])]
    simp [bound]
  refine ⟨_, run, by simp [FumPort.popImport, first], by simp, State.raisesNone_settle (by simp), ?_⟩
  exact (((Dev.TurnsFum.refl ..).setFum _).setSource ..).tick .. |>.settled live |>.2

end Sys2Proof.Machine

namespace Sys2Proof.Machine

open Sys2Proof

/-! ### Effects on the check-value units alone

`Dev.TurnsContexts d e`: from `d` to `e` no port, no source, no event and no response changes; the engine takes and gives up
contexts so (R306). -/

structure Dev.TurnsContexts (d e : Dev) : Prop where
  fumPorts : e.fumPorts = d.fumPorts
  fumSources : e.fumSources = d.fumSources
  fc : e.fc = d.fc
  log : e.log = d.log
  host : e.host = d.host

namespace Dev.TurnsContexts

variable {d e f : Dev}

theorem refl (d : Dev) : d.TurnsContexts d := ⟨rfl, rfl, rfl, rfl, rfl⟩

theorem trans (h : d.TurnsContexts e) (k : e.TurnsContexts f) : d.TurnsContexts f :=
  ⟨k.fumPorts.trans h.fumPorts, k.fumSources.trans h.fumSources, k.fc.trans h.fc, k.log.trans h.log, k.host.trans h.host⟩

theorem setCrc (d : Dev) (unit : Nat) (u : CrcUnit) : d.TurnsContexts (d.setCrc unit u) :=
  ⟨by simp, by simp, by simp, by simp, by simp⟩

theorem draw (d : Dev) : d.TurnsContexts d.draw.2 := ⟨rfl, rfl, rfl, rfl, rfl⟩

theorem leaveContext (d : Dev) (unit src : Nat) : d.TurnsContexts (d.leaveContext unit src) :=
  (Dev.TurnsContexts.draw d).trans (.setCrc ..)

theorem releaseContexts (d : Dev) (src port fcs : Nat) : d.TurnsContexts (d.releaseContexts src port fcs) := by
  unfold Dev.releaseContexts
  split
  · exact .refl d
  · exact (leaveContext ..).trans (leaveContext ..)

theorem engineContexts (d : Dev) (src port fcs : Nat) : d.TurnsContexts (d.engineContexts src port fcs) := by
  unfold Dev.engineContexts
  split
  · exact .refl d
  · exact (setCrc ..).trans (setCrc ..)

/-- So for every source of a port. -/
theorem eachBound {g : Dev → Nat → Nat → Nat → Dev} (h : ∀ (d : Dev) src port fcs, d.TurnsContexts (g d src port fcs))
    (d : Dev) (p : Nat) : d.TurnsContexts (d.eachBound p g) := by
  unfold Dev.eachBound
  generalize d.boundTo p = l
  induction l generalizing d with
  | nil => exact .refl d
  | cons src l ih =>
    rw [List.foldl_cons]
    refine trans ?_ (ih _)
    split
    · exact h ..
    · exact .refl d

theorem ite {c : Prop} [Decidable c] (h : d.TurnsContexts e) : d.TurnsContexts (if c then e else d) := by
  split
  · exact h
  · exact .refl d

theorem fum (h : d.TurnsContexts e) (p : Nat) : e.fum p = d.fum p := by rw [Dev.fum, h.fumPorts, Dev.fum]

theorem source (h : d.TurnsContexts e) (n : Nat) : e.source n = d.source n := by rw [Dev.source, h.fumSources, Dev.source]

theorem boundTo (h : d.TurnsContexts e) (p : Nat) : e.boundTo p = d.boundTo p := by
  rw [Dev.boundTo, h.fumSources, Dev.boundTo]

end Dev.TurnsContexts

/-! ### A binding ends (R301) -/

/-- A source that is bound no longer. -/
def FumSource.unbound (x : FumSource) : FumSource :=
  { x with bind := none, unbinding := false, dropRest := false, lineSent := 0, rx := {} }

theorem Dev.bindingEnds_eq {d : Dev} {src : Nat} {b : Binding} (bound : (d.source src).bind = some b) :
    d.bindingEnds src b.port = ((d.releaseContexts src b.port b.fcs).setSource src (d.source src).unbound).raise 0x0A05
      (objSource src) (leBytes 2 src ++ leBytes 1 b.port ++ leBytes 1 0) := by
  have released := Dev.TurnsContexts.source (.releaseContexts d src b.port b.fcs) src
  simp only [Dev.bindingEnds, bound, released, FumSource.unbound]

theorem Dev.bindingEnds_fumPorts {d : Dev} {src : Nat} {b : Binding} (bound : (d.source src).bind = some b) :
    (d.bindingEnds src b.port).fumPorts = d.fumPorts := by
  rw [Dev.bindingEnds_eq bound]
  exact (Dev.TurnsContexts.releaseContexts d src b.port b.fcs).fumPorts

theorem Dev.bindingEnds_source {d : Dev} {src : Nat} {b : Binding} (bound : (d.source src).bind = some b) :
    (d.bindingEnds src b.port).source src = (d.source src).unbound := by
  rw [Dev.bindingEnds_eq bound]
  simp

theorem unbinding_is_completed (s : State) (src : Nat) (b : Binding) (live : s.live = true)
    (unbinding : (s.dev.source src).unbinding = true) (bound : (s.dev.source src).bind = some b)
    (imports : ∀ i ∈ (s.dev.fum b.port).imports, i.src ≠ src) (bank : ∀ i ∈ (s.dev.fum b.port).readBank, i.src ≠ src) :
    ∃ t, exec (.fumUnbindComplete src) s = .next t ∧ (t.dev.source src).bind = none ∧
      (t.dev.source src).unbinding = false ∧
      s.raisesOne t 0x0A05 (objSource src) (leBytes 2 src ++ leBytes 1 b.port ++ leBytes 1 0) ∧
      t.dev.fumPorts = s.dev.fumPorts ∧ t.mem = s.mem ∧ t.bar1 = s.bar1 := by
  have run : execFumUnbindComplete src s = .next (s.settle (s.dev.bindingEnds src b.port)) := by
    rw [execFumUnbindComplete,
      State.runIf_eq s _ _ (State.powered_of_live live) (by simpa [bound, unbinding] using ⟨bank, imports⟩)]
    simp [bound]
  have contexts := Dev.TurnsContexts.releaseContexts s.dev src b.port b.fcs
  have source := Dev.bindingEnds_source bound
  have ports := Dev.bindingEnds_fumPorts bound
  refine ⟨_, run, by simp [source, FumSource.unbound], by simp [source, FumSource.unbound], ?_, ports, rfl, ?_⟩
  · rw [Dev.bindingEnds_eq bound]
    exact State.raisesOne_settle_raise contexts.fc (by simp [contexts.log]) ..
  · rw [Dev.bindingEnds_eq bound]
    exact State.settle_bar1_of_live live (by simp [contexts.host])

/-! ### Ports, sources and contexts after an untimed command (R45) -/

/-- What the state shows of a command of this chapter that was answered is what its effect left. -/
theorem State.shows_fumarole {s : State} {op : Nat} {w : Waiting} {e : Dev} {st : Nat} {pl : List Byte}
    (due : s.effectDue op w = true) (chapter : op = 0x0A01 ∨ op = 0x0A02 ∨ op = 0x0A03)
    (applied : applyHigh s.dev w.cmd w.order = some (e, st, pl)) (ends : st ≠ stGoesOn) :
    ∃ t, exec .untimedCommandEffect s = .next t ∧ t.dev.fumPorts = e.fumPorts ∧ t.dev.fumSources = e.fumSources ∧
      t.dev.crc32c = e.crc32c ∧ ∀ x ∈ e.log.arising, x ∈ t.dev.log.arising := by
  have low : applyLow s.dev w.cmd = none := by
    rcases chapter with rfl | rfl | rfl <;> simp [applyLow, State.opcode_of_effectDue due]
  exact ⟨_, State.exec_highEffect due low applied ends, Dev.finish_fumPorts e w st pl, Dev.finish_fumSources e w st pl,
    Dev.finish_crc32c e w st pl, fun x here =>
      (State.mem_settle_arising ..).mpr (Dev.finish_keeps_event here w st pl)⟩

theorem Dev.fum_congr {d e : Dev} (ports : e.fumPorts = d.fumPorts) (p : Nat) : e.fum p = d.fum p := by
  rw [Dev.fum, ports, Dev.fum]

theorem Dev.source_congr {d e : Dev} (sources : e.fumSources = d.fumSources) (n : Nat) : e.source n = d.source n := by
  rw [Dev.source, sources, Dev.source]

/-! ### FUM_PORT_SET (R307) -/

/-- A bound source whose receiver starts afresh. -/
def Dev.clearRx (d : Dev) (src : Nat) : Dev :=
  if (d.source src).bind.isSome then d.setSource src { d.source src with rx := {} } else d

theorem Dev.clearRx_source (d : Dev) (src n : Nat) : (d.clearRx src).source n =
    if n = src ∧ (d.source n).bind.isSome = true then { d.source n with rx := {} } else d.source n := by
  unfold Dev.clearRx
  by_cases own : n = src
  · subst own
    split <;> simp [*]
  · split <;> simp [own]

/-- Receivers of the sources named start afresh, each once bound. -/
theorem Dev.clearRxs_source (l : List Nat) (d : Dev) (n : Nat) : (l.foldl Dev.clearRx d).source n =
    if n ∈ l ∧ (d.source n).bind.isSome = true then { d.source n with rx := {} } else d.source n := by
  induction l generalizing d with
  | nil => simp
  | cons src l ih =>
    rw [List.foldl_cons, ih, Dev.clearRx_source]
    by_cases own : n = src
    · subst own
      by_cases bound : (d.source n).bind.isSome = true <;> simp [bound]
    · simp [own]

theorem Dev.clearRxs_fumPorts (l : List Nat) (d : Dev) : (l.foldl Dev.clearRx d).fumPorts = d.fumPorts := by
  induction l generalizing d with
  | nil => rfl
  | cons src l ih =>
    rw [List.foldl_cons, ih, Dev.clearRx]
    split <;> rfl

/-- A port takes what FUM_PORT_SET writes; with a new MODE its receiver and those of its sources start afresh. -/
def Dev.putFumAttr (d : Dev) (p : Nat) (a : FumAttr) : Dev :=
  if (d.fum p).attr.mode = a.mode then d.setFum p { d.fum p with attr := a }
  else (d.boundTo p).foldl Dev.clearRx (d.setFum p { d.fum p with attr := a, rx := {} })

theorem Dev.putFumAttr_fum (d : Dev) (p q : Nat) (a : FumAttr) : (d.putFumAttr p a).fum q =
    if q = p then { d.fum p with attr := a, rx := if (d.fum p).attr.mode = a.mode then (d.fum p).rx else {} }
    else d.fum q := by
  unfold Dev.putFumAttr
  split
  next => simp
  next =>
    rw [Dev.fum_congr (Dev.clearRxs_fumPorts ..)]
    simp

theorem Dev.putFumAttr_source (d : Dev) (p n : Nat) (a : FumAttr) (other : (d.fum p).attr.mode ≠ a.mode) :
    (d.putFumAttr p a).source n =
      if n ∈ d.boundTo p ∧ (d.source n).bind.isSome = true then { d.source n with rx := {} } else d.source n := by
  rw [Dev.putFumAttr, if_neg other, Dev.clearRxs_source]
  rfl

theorem Dev.putFumAttr_fumSources (d : Dev) (p : Nat) (a : FumAttr) (same : (d.fum p).attr.mode = a.mode) :
    (d.putFumAttr p a).fumSources = d.fumSources := by
  rw [Dev.putFumAttr, if_pos same]
  rfl

theorem Dev.eachBound_clearRx (d : Dev) (p : Nat) :
    (d.eachBound p fun d src _ _ => d.setSource src { d.source src with rx := {} }) = (d.boundTo p).foldl Dev.clearRx d := by
  unfold Dev.eachBound
  congr 1
  funext d src
  unfold Dev.clearRx
  split <;> simp [*]

/-- Beside the contexts that the engine takes or gives up, FUM_PORT_SET does no more than that. -/
theorem Dev.setFumAttr_puts (d : Dev) (p : Nat) (a : FumAttr) :
    ∃ m, d.TurnsContexts m ∧ (m.putFumAttr p a).TurnsContexts (d.setFumAttr p a) := by
  have released : d.TurnsContexts
      (if (d.fum p).attr.mode = 1 && a.mode != 1 then d.eachBound p Dev.releaseContexts else d) :=
    .ite (.eachBound Dev.TurnsContexts.releaseContexts d p)
  refine ⟨_, released, ?_⟩
  unfold Dev.setFumAttr
  dsimp only
  generalize (if (d.fum p).attr.mode = 1 && a.mode != 1 then d.eachBound p Dev.releaseContexts else d) = m at released ⊢
  rw [← released.fum p, Dev.eachBound_clearRx]
  by_cases same : (m.fum p).attr.mode = a.mode
  · simp only [same, if_true, Dev.putFumAttr]
    exact .ite (.eachBound Dev.TurnsContexts.engineContexts _ p)
  · simp only [same, if_false, Dev.putFumAttr]
    exact .ite (.eachBound Dev.TurnsContexts.engineContexts _ p)

/-- A command of this chapter that its check refuses at the effect changes no port and no source. -/
theorem State.refused_changes_no_source {s : State} {op : Nat} {w : Waiting} {check : Check}
    (due : s.effectDue op w = true) (chapter : op = 0x0A01 ∨ op = 0x0A02 ∨ op = 0x0A03)
    (applied : ∀ r, check = some r → applyHigh s.dev w.cmd w.order = some (s.dev, r)) (refused : check ≠ none)
    (ends : ∀ r, check = some r → r.1 ≠ stGoesOn) :
    ∃ t, exec .untimedCommandEffect s = .next t ∧ t.dev.fumPorts = s.dev.fumPorts ∧
      t.dev.fumSources = s.dev.fumSources := by
  obtain ⟨r, refusal⟩ := Option.ne_none_iff_exists'.mp refused
  obtain ⟨t, run, ports, sources, -⟩ := State.shows_fumarole due chapter (applied r refusal) (ends r refusal)
  exact ⟨t, run, ports, sources⟩

theorem status_of_refuseIf {b : Bool} {st : Nat} {r : Nat × List Byte} (refused : refuseIf b st = some r) : r.1 = st := by
  have refusal := (refuseIf_of_ne_none (by simp [refused])).symm.trans refused
  exact congrArg Prod.fst (Option.some.inj refusal).symm

theorem port_set_takes_effect (s : State) (w : Waiting) (due : s.effectDue 0x0A01 w = true)
    (passes : checkFumPortSet s.dev w.cmd = none) :
    ∃ t, exec .untimedCommandEffect s = .next t ∧
      t.dev.fum w.cmd.index = { s.dev.fum w.cmd.index with
        attr := fumAttrOf w.cmd, rx := (t.dev.fum w.cmd.index).rx } ∧
      (∀ q, q ≠ w.cmd.index → t.dev.fum q = s.dev.fum q) ∧
      ((t.dev.fum w.cmd.index).attr.mode = (s.dev.fum w.cmd.index).attr.mode →
        t.dev.fumSources = s.dev.fumSources ∧ (t.dev.fum w.cmd.index).rx = (s.dev.fum w.cmd.index).rx) ∧
      ((t.dev.fum w.cmd.index).attr.mode ≠ (s.dev.fum w.cmd.index).attr.mode → (t.dev.fum w.cmd.index).rx = {} ∧
        ∀ q, t.dev.source q = (if q ∈ s.dev.boundTo w.cmd.index ∧ (s.dev.source q).bind.isSome = true
          then { s.dev.source q with rx := {} } else s.dev.source q)) := by
  have applied : applyHigh s.dev w.cmd w.order = some (okWith (s.dev.setFumAttr w.cmd.index (fumAttrOf w.cmd))) := by
    simp [applyHigh, State.opcode_of_effectDue due, applyFumPortSet, passes, recheck]
  obtain ⟨t, run, ports, sources, -⟩ := State.shows_fumarole due (.inl rfl) applied (by decide)
  obtain ⟨m, released, taken⟩ := s.dev.setFumAttr_puts w.cmd.index (fumAttrOf w.cmd)
  have fum (q : Nat) : t.dev.fum q = if q = w.cmd.index then { s.dev.fum w.cmd.index with
      attr := fumAttrOf w.cmd
      rx := if (s.dev.fum w.cmd.index).attr.mode = (fumAttrOf w.cmd).mode then (s.dev.fum w.cmd.index).rx else {} }
      else s.dev.fum q := by
    rw [Dev.fum_congr ports, taken.fum, Dev.putFumAttr_fum, released.fum, released.fum]
  refine ⟨t, run, by simp [fum], fun q ne => by simp [fum, ne], fun same => ?_, fun other => ?_⟩
  · have kept : (s.dev.fum w.cmd.index).attr.mode = (fumAttrOf w.cmd).mode := by simpa [fum] using same.symm
    refine ⟨?_, by simp [fum, kept]⟩
    rw [sources, taken.fumSources, Dev.putFumAttr_fumSources _ _ _ (by rwa [released.fum]), released.fumSources]
  · have changes : (s.dev.fum w.cmd.index).attr.mode ≠ (fumAttrOf w.cmd).mode := by simpa [fum] using other.symm
    refine ⟨by simp [fum, changes], fun q => ?_⟩
    rw [Dev.source_congr sources, taken.source, Dev.putFumAttr_source _ _ _ _ (by rwa [released.fum]), released.source,
      released.boundTo]

theorem refused_port_set_changes_no_source (s : State) (w : Waiting) (due : s.effectDue 0x0A01 w = true)
    (refused : checkFumPortSet s.dev w.cmd ≠ none) :
    ∃ t, exec .untimedCommandEffect s = .next t ∧ t.dev.fumPorts = s.dev.fumPorts ∧
      t.dev.fumSources = s.dev.fumSources := by
  refine State.refused_changes_no_source due (.inl rfl) (fun r refusal => ?_) refused fun r refusal => ?_
  · simp [applyHigh, State.opcode_of_effectDue due, applyFumPortSet, refusal, recheck]
  · rw [status_of_refuseIf refusal]
    decide

/-! ### FUM_BIND (R306, R308) -/

theorem CrcUnit.setContext_context (u : CrcUnit) (k : Nat) (x : Nat × Bool × Bool) : (u.setContext k x).context k = x := by
  unfold CrcUnit.setContext
  split
  next live => simp [CrcUnit.context, live]
  next saved => simp [CrcUnit.context, saved, Tab.get_set_self]

/-- At binding to a port in HDLC mode the source's port context starts fresh. -/
theorem Dev.engineContexts_context {d : Dev} {port : Nat} (src fcs : Nat) (mode : (d.fum port).attr.mode = 1) :
    (d.engineContexts src port fcs).crc32c.context src = (0xFFFF_FFFF, true, true) := by
  simp only [Dev.engineContexts, mode, bne_self_eq_false, Bool.false_eq_true, if_false]
  exact CrcUnit.setContext_context ..

/-- A source that is bound anew. -/
def FumSource.bindTo (x : FumSource) (b : Binding) : FumSource :=
  { x with bind := some b, unbinding := false, lineSent := 0, rx := {} }

theorem bind_takes_effect (s : State) (w : Waiting) (due : s.effectDue 0x0A02 w = true)
    (passes : checkFumBind s.dev w.cmd = none) :
    ∃ t, exec .untimedCommandEffect s = .next t ∧ (t.dev.source w.cmd.index).bind = some (bindingOf w.cmd) ∧
      s.dev.eventOf 0x0A05 w.cmd.object (leBytes 2 w.cmd.index ++ leBytes 1 (w.cmd.field 0 1) ++ leBytes 1 1)
        ∈ t.dev.log.arising ∧
      ((s.dev.fum (w.cmd.field 0 1)).attr.mode = 1 → t.dev.crc32c.context w.cmd.index = (0xFFFF_FFFF, true, true)) ∧
      (∀ q, q ≠ w.cmd.index → t.dev.source q = s.dev.source q) ∧ t.dev.fumPorts = s.dev.fumPorts := by
  have applied : applyHigh s.dev w.cmd w.order = some (okWith (((s.dev.setSource w.cmd.index
      ((s.dev.source w.cmd.index).bindTo (bindingOf w.cmd))).engineContexts w.cmd.index (w.cmd.field 0 1)
        (bindingOf w.cmd).fcs).raise 0x0A05 w.cmd.object
          (leBytes 2 w.cmd.index ++ leBytes 1 (w.cmd.field 0 1) ++ leBytes 1 1))) := by
    simp only [applyHigh, State.opcode_of_effectDue due, applyFumBind, passes, recheck]
    rfl
  obtain ⟨t, run, ports, sources, contexts, events⟩ := State.shows_fumarole due (.inr (.inl rfl)) applied (by decide)
  have engine := Dev.TurnsContexts.engineContexts (s.dev.setSource w.cmd.index
    ((s.dev.source w.cmd.index).bindTo (bindingOf w.cmd))) w.cmd.index (w.cmd.field 0 1) (bindingOf w.cmd).fcs
  have source (q : Nat) : t.dev.source q =
      if q = w.cmd.index then (s.dev.source w.cmd.index).bindTo (bindingOf w.cmd) else s.dev.source q := by
    rw [Dev.source_congr sources, Dev.raise_source, engine.source, Dev.setSource_source]
  refine ⟨t, run, by simp [source, FumSource.bindTo], events _ ?_, fun mode => ?_, fun q ne => by simp [source, ne],
    ports.trans engine.fumPorts⟩
  · simp [Dev.eventOf, engine.fc]
  · rw [contexts]
    exact Dev.engineContexts_context (d := s.dev.setSource ..) _ _ mode

theorem mem_of_firstRefusal {l : List Check} {r : Nat × List Byte} (refused : firstRefusal l = some r) : some r ∈ l := by
  induction l with
  | nil => cases refused
  | cons c l ih =>
    cases c with
    | none => exact List.mem_cons_of_mem _ (ih refused)
    | some q => exact refused ▸ List.mem_cons_self

theorem refused_bind_changes_no_source (s : State) (w : Waiting) (due : s.effectDue 0x0A02 w = true)
    (refused : checkFumBind s.dev w.cmd ≠ none) :
    ∃ t, exec .untimedCommandEffect s = .next t ∧ t.dev.fumPorts = s.dev.fumPorts ∧
      t.dev.fumSources = s.dev.fumSources := by
  refine State.refused_changes_no_source due (.inr (.inl rfl)) (fun r refusal => ?_) refused fun r refusal => ?_
  · simp [applyHigh, State.opcode_of_effectDue due, applyFumBind, refusal, recheck]
  · have one := mem_of_firstRefusal refusal
    simp only [List.mem_cons, List.not_mem_nil, or_false] at one
    rcases one with unknown | taken
    · rw [status_of_refuseIf unknown.symm]; decide
    · rw [status_of_refuseIf taken.symm]; decide

/-! ### FUM_UNBIND (R301, R309) -/

/-- The port without the items of a source, in either queue. -/
def FumPort.without (f : FumPort) (src : Nat) : FumPort :=
  { f with
    arriving := f.arriving.filter (fun i => i.src != src), staged := f.staged.filter (fun i => i.src != src)
    fillBank := f.fillBank.filter (fun i => i.src != src), readBank := f.readBank.filter (fun i => i.src != src)
    imports := f.imports.filter (fun i => i.src != src)
    expFill := sum ((f.arriving.filter (fun i => i.src != src) ++ f.staged.filter (fun i => i.src != src) ++
      f.fillBank.filter (fun i => i.src != src) ++ f.readBank.filter (fun i => i.src != src)).map fun i => i.bytes.length)
    impFill := sum ((f.imports.filter (fun i => i.src != src)).map fun i => i.bytes.length) }

/-- A source of which nothing was emitted is unbound at once: its items leave the port, and their number is reported. -/
theorem Dev.unbind_of_quiet {d : Dev} {src : Nat} {b : Binding} (bound : (d.source src).bind = some b)
    (line : (d.source src).lineSent = 0)
    (quiet : ∀ i ∈ (d.fum b.port).readBank.take (d.fum b.port).emitted, i.src ≠ src) :
    ∃ (n : Nat) (m : Dev), d.unbind src = (m.bindingEnds src b.port, n) ∧ m.fumSources = d.fumSources ∧
      m.fumPorts = (d.setFum b.port ((d.fum b.port).without src)).fumPorts := by
  have chain : ((d.fum b.port).readBank.take (d.fum b.port).emitted).any (fun i => i.src == src) = false :=
    List.any_eq_false.mpr fun i sent => by simpa using quiet i sent
  have bank : (d.fum b.port).readBank.take (d.fum b.port).emitted ++
      ((d.fum b.port).readBank.drop (d.fum b.port).emitted).filter (fun i => i.src != src) =
        (d.fum b.port).readBank.filter (fun i => i.src != src) := by
    have kept := List.filter_eq_self (p := fun i : Item => i.src != src).mpr fun i sent => by simpa using quiet i sent
    calc
      _ = ((d.fum b.port).readBank.take (d.fum b.port).emitted).filter (fun i => i.src != src) ++
          ((d.fum b.port).readBank.drop (d.fum b.port).emitted).filter (fun i => i.src != src) := by rw [kept]
      _ = (d.fum b.port).readBank.filter (fun i => i.src != src) := by
        rw [← List.filter_append, List.take_append_drop]
  unfold Dev.unbind
  simp only [bound, line, chain, bank, Nat.lt_irrefl, decide_false, Bool.or_self, Bool.false_eq_true, if_false]
  refine ⟨_, _, rfl, ?_, ?_⟩
  · split <;> simp
  · split <;> simp [FumPort.without]

theorem unbind_takes_effect (s : State) (w : Waiting) (b : Binding) (due : s.effectDue 0x0A03 w = true)
    (bound : (s.dev.source w.cmd.index).bind = some b) (line : (s.dev.source w.cmd.index).lineSent = 0)
    (quiet : ∀ i ∈ (s.dev.fum b.port).readBank.take (s.dev.fum b.port).emitted, i.src ≠ w.cmd.index) :
    ∃ t, exec .untimedCommandEffect s = .next t ∧ (t.dev.source w.cmd.index).bind = none ∧
      t.dev.fum b.port = (s.dev.fum b.port).without w.cmd.index ∧ (∀ q, q ≠ b.port → t.dev.fum q = s.dev.fum q) := by
  obtain ⟨n, m, unbound, sources, ports⟩ := Dev.unbind_of_quiet bound line quiet
  have still : (m.source w.cmd.index).bind = some b := by rw [Dev.source_congr sources, bound]
  have applied : applyHigh s.dev w.cmd w.order =
      some (m.bindingEnds w.cmd.index b.port, stOk, leBytes 4 n ++ leBytes 4 0) := by
    simp [applyHigh, State.opcode_of_effectDue due, applyFumUnbind, unbound]
  obtain ⟨t, run, fums, settled, -⟩ := State.shows_fumarole due (.inr (.inr rfl)) applied (by decide)
  have fum := Dev.fum_congr ((fums.trans (Dev.bindingEnds_fumPorts still)).trans ports)
  refine ⟨t, run, ?_, by simp [fum], fun q ne => by simp [fum, ne]⟩
  rw [Dev.source_congr settled, Dev.bindingEnds_source still]
  rfl

theorem unbind_of_unbound_changes_no_source (s : State) (w : Waiting) (due : s.effectDue 0x0A03 w = true)
    (unbound : (s.dev.source w.cmd.index).bind = none) :
    ∃ t, exec .untimedCommandEffect s = .next t ∧ t.dev.fumPorts = s.dev.fumPorts ∧
      t.dev.fumSources = s.dev.fumSources := by
  have applied : applyHigh s.dev w.cmd w.order = some (s.dev, stOk, leBytes 4 0 ++ leBytes 4 0) := by
    simp [applyHigh, State.opcode_of_effectDue due, applyFumUnbind, Dev.unbind, unbound]
  obtain ⟨t, run, ports, sources, -⟩ := State.shows_fumarole due (.inr (.inr rfl)) applied (by decide)
  exact ⟨t, run, ports, sources⟩

/-- Settles O46: port frames by what becomes of them, transparent bytes, the inserter, and each command with its refusal. -/
theorem importQueueAndBindingsChange : Obligations.import_queue_and_bindings_change := by
  refine ⟨fun s p bytes aborted live known runs mode next => ⟨?_, fun bad => ?_, fun good bound full => ?_⟩,
    transparent_byte_is_staged_or_counted, sent_import_frame_leaves_queue, unbinding_is_completed,
    fun s w due => ⟨port_set_takes_effect s w due, refused_port_set_changes_no_source s w due⟩,
    fun s w due => ⟨bind_takes_effect s w due, refused_bind_changes_no_source s w due⟩,
    fun s w due => ⟨unbind_of_unbound_changes_no_source s w due, fun b bound line quiet => ?_⟩⟩
  · exact good_port_frame_joins_imports live known runs mode next
  · exact port_frame_is_discarded live known runs mode next (Dev.portFrame_of_bad bad)
  · have room : 131_072 < ((s.dev.setFum p (s.dev.fum p).takeFrame).fum p).impFill +
        ((bytes.take (bytes.length - 4)).drop 2).length := by simpa [FumPort.takeFrame] using full
    obtain ⟨t, run, fum, event, -, frame⟩ :=
      port_frame_is_discarded live known runs mode next (Dev.portFrame_of_full good bound room)
    exact ⟨t, run, fum, event, frame⟩
  · obtain ⟨t, run, source, fum, others⟩ := unbind_takes_effect s w b due bound line quiet
    refine ⟨t, run, source, ?_⟩
    rw [fum]
    exact ⟨rfl, rfl, rfl, rfl, others⟩

end Sys2Proof.Machine

namespace Sys2Proof.Machine

open Sys2Proof

/-! ### How a command can end

Every command ends in one of few ways, and the statements about the whole machine are read off them. -/

/-- The outcomes that a command can have on a state. -/
inductive State.Ends (s : State) : Instr → Host.Outcome State Fault Refusal → Prop
  | settled {i : Instr} (d : Dev) : s.Ends i (.next (s.settle d))
  | lost {i : Instr} (d : Dev) : s.Ends i (.next { s.settle d with mem := [], bar1 := [] })
  | idle {i : Instr} : s.Ends i (.next s)
  | inOrder {i : Instr} (d : Dev) : s.Ends i (.next (s.settleInOrder d))
  | written {i : Instr} (u : State) (n : Nat) (keeps : s.memWf = true → u.memWf = true) :
      s.Ends i (.next { u with dev := u.dev.calm n, bar1 := u.bar1.puts u.dev.host.out, pending := s.pending })
  | undescribedDiagnostic (core : Nat) : s.Ends (.vendorDiagnostic core) (.refused .vendorDiagnostic)
  | undescribedJtag (n : Nat) : s.Ends (.jtagInstruction (.privateCode n)) (.refused .privateJtag)
  | outsideRegisters (w : RegWrite) : s.Ends (.registerWrite w) (.fault .outsideBar)
  | outsideSinter (off width value : Nat) : s.Ends (.sinterBar0Write off width value) (.fault .outsideBar)
  | outsideWindows (off : Nat) (a : WinAccess) : s.Ends (.hostWindowAccess off a) (.fault .outsideBar)

namespace State.Ends

/-- An effect on the device settles; `run` and `runIf` are such effects too. -/
theorem always (s : State) (i : Instr) (f : Dev → Dev) : s.Ends i (s.always f) := .settled _

theorem supply (s : State) (i : Instr) (f : Dev → Dev) : s.Ends i (s.supply f) := by
  unfold State.supply
  dsimp only
  split
  · exact .lost _
  · exact .settled _

theorem bootsInOrder (s : State) (i : Instr) (c : Dev → Bool) (f : Dev → Dev) : s.Ends i (s.inOrder c f) := by
  unfold State.inOrder
  split
  · exact .inOrder _
  · exact .idle

theorem runMem {s : State} (i : Instr) {f : State → State} (keeps : s.memWf = true → (f s).memWf = true) :
    s.Ends i (s.runMem f) := by
  unfold State.runMem
  split
  · exact .written _ _ keeps
  · exact .idle

end State.Ends

/-! ### Accesses through the windows keep the memories canonical -/

theorem State.memWf_iff (s : State) : s.memWf = true ↔ s.mem.wf = true ∧ s.bar1.wf = true := by
  simp [State.memWf]

theorem State.sramWrite_keeps_memWf {s : State} (wf : s.memWf = true) (a : Nat) (b : Byte) :
    (s.sramWrite a b).memWf = true := by
  obtain ⟨mem, bar1⟩ := s.memWf_iff.mp wf
  unfold State.sramWrite
  split
  · exact (State.memWf_iff _).mpr ⟨mem, Memory.write_wf _ _ _ bar1⟩
  · exact (State.memWf_iff _).mpr ⟨Memory.write_wf _ _ _ mem, bar1⟩

theorem State.readTarget_memWf (s : State) (t : Target) (n : Nat) : (s.readTarget t n).2.memWf = s.memWf := by
  cases t with
  | sram a => rfl
  | hub o => rfl
  | sinter o => rfl
  | slice k o => simp only [State.readTarget]; split <;> rfl
  | vendor o => rfl
  | hbm a => simp only [State.readTarget]; split <;> rfl

theorem State.writeTarget_keeps_memWf {s : State} (wf : s.memWf = true) (t : Target) (l : List Byte) :
    (s.writeTarget t l).memWf = true := by
  obtain ⟨mem, bar1⟩ := s.memWf_iff.mp wf
  cases t with
  | sram a =>
    exact List.foldlRecOn (motive := fun u : State => u.memWf = true) _ _ wf
      fun u keeps x _ => State.sramWrite_keeps_memWf keeps _ _
  | hub o => exact wf
  | sinter o => exact wf
  | slice k o =>
    simp only [State.writeTarget]
    split
    · refine (State.memWf_iff _).mpr ⟨?_, bar1⟩
      refine List.foldlRecOn (motive := fun m : Memory => m.wf = true) _ _ mem fun m keeps x _ => ?_
      split
      · exact Memory.write_wf _ _ _ keeps
      · exact keeps
    · exact wf
  | vendor o => exact wf
  | hbm a =>
    simp only [State.writeTarget]
    split
    · exact (State.memWf_iff _).mpr ⟨Memory.writeBytes_wf _ _ _ mem, bar1⟩
    · exact wf

theorem State.windowRead_keeps_memWf {s : State} (wf : s.memWf = true) (off n : Nat) :
    (s.windowRead off n).memWf = true := by
  unfold State.windowRead
  dsimp only
  split
  · exact wf
  · exact (s.readTarget_memWf _ n).trans wf

theorem State.windowWrite_keeps_memWf {s : State} (wf : s.memWf = true) (off : Nat) (l : List Byte) :
    (s.windowWrite off l).memWf = true := by
  unfold State.windowWrite
  dsimp only
  split
  · exact wf
  · exact State.writeTarget_keeps_memWf wf _ _

/-! ### Every command ends so -/

theorem registerWrite_ends (s : State) (w : RegWrite) : s.Ends (.registerWrite w) (exec (.registerWrite w) s) := by
  show s.Ends _ (execRegisterWrite w s)
  cases w with
  | bar0 off width value =>
    simp only [execRegisterWrite]
    split
    · exact .outsideRegisters _
    · exact .always ..
  | bar1 off bytes =>
    simp only [execRegisterWrite]
    split
    · exact .outsideRegisters _
    · refine .runMem _ fun wf => ?_
      obtain ⟨mem, bar1⟩ := s.memWf_iff.mp wf
      split
      · exact (State.memWf_iff _).mpr ⟨mem, Memory.writeBytes_wf _ _ _ bar1⟩
      · exact wf
  | busMaster on => exact .always ..

theorem hostWindowAccess_ends (s : State) (off : Nat) (a : WinAccess) :
    s.Ends (.hostWindowAccess off a) (exec (.hostWindowAccess off a) s) := by
  show s.Ends _ (execHostWindowAccess off a s)
  cases a with
  | read n =>
    simp only [execHostWindowAccess]
    split
    · exact .outsideWindows ..
    · refine .runMem _ fun wf => ?_
      split
      · exact wf
      · exact List.foldlRecOn (motive := fun u : State => u.memWf = true) _ _ wf
          fun u keeps x _ => State.windowRead_keeps_memWf keeps _ _
  | write l =>
    simp only [execHostWindowAccess]
    split
    · exact .outsideWindows ..
    · refine .runMem _ fun wf => ?_
      split
      · exact wf
      · exact List.foldlRecOn (motive := fun u : State => u.memWf = true) _ _ wf
          fun u keeps x _ => State.windowWrite_keeps_memWf keeps _ _

theorem sinterBar0Write_ends (s : State) (off width value : Nat) :
    s.Ends (.sinterBar0Write off width value) (exec (.sinterBar0Write off width value) s) := by
  show s.Ends _ (execSinterBar0Write off width value s)
  unfold execSinterBar0Write
  split
  · exact .outsideSinter ..
  · exact .always ..

theorem vendorDiagnostic_ends (s : State) (core : Nat) :
    s.Ends (.vendorDiagnostic core) (exec (.vendorDiagnostic core) s) := by
  show s.Ends _ (execVendorDiagnostic core s)
  unfold execVendorDiagnostic
  split
  · split
    · exact .always ..
    · exact .undescribedDiagnostic _
  · exact .always ..

/-- What the TAP decodes as an undescribed instruction was one as it came in: the lock turns others into BYPASS. -/
theorem Dev.jtagDecode_private {d : Dev} {i : JtagInstr} {n : Nat} (undescribed : d.jtagDecode i = .privateCode n) :
    i = .privateCode n := by
  unfold Dev.jtagDecode at undescribed
  split at undescribed
  · cases undescribed
  · exact undescribed

theorem jtagInstruction_ends (s : State) (i : JtagInstr) :
    s.Ends (.jtagInstruction i) (exec (.jtagInstruction i) s) := by
  show s.Ends _ (execJtagInstruction i s)
  unfold execJtagInstruction
  split
  next n decoded =>
    rw [Dev.jtagDecode_private decoded]
    exact .undescribedJtag n
  next => exact .always ..

theorem ttiAccepted_ends (s : State) (site : TtiSite) (tti : List Byte) :
    s.Ends (.ttiAccepted site tti) (exec (.ttiAccepted site tti) s) := by
  cases site <;> exact .always ..

/-- Every command ends in one of these ways: all but a few run an effect on the device, which settles. -/
theorem exec_ends (s : State) (i : Instr) : s.Ends i (exec i s) := by
  cases i with
  | registerWrite w => exact registerWrite_ends s w
  | hostWindowAccess off a => exact hostWindowAccess_ends s off a
  | sinterBar0Write off width value => exact sinterBar0Write_ends s off width value
  | vendorDiagnostic core => exact vendorDiagnostic_ends s core
  | jtagInstruction x => exact jtagInstruction_ends s x
  | ttiAccepted site tti => exact ttiAccepted_ends s site tti
  | vaonApplied => exact .supply ..
  | railReached ok => exact show s.Ends _ (execRailReached ok s) from .supply ..
  | powerRemoved committed => exact show s.Ends _ (execPowerRemoved committed s) from .supply ..
  | boot flash => exact show s.Ends _ (execBoot flash s) from .bootsInOrder ..
  | resetN => exact show s.Ends _ (execResetN s) from .always ..
  | wake => exact show s.Ends _ (execWake s) from .always ..
  | _ => exact .always ..

/-! ### What holds of every step -/

theorem exec_keeps_pending {s t : State} {i : Instr} (run : exec i s = .next t) : t.pending = s.pending := by
  have ends := exec_ends s i
  rw [run] at ends
  cases ends <;> rfl

theorem exec_keeps_memWf {s t : State} {i : Instr} (wf : s.memWf = true) (run : exec i s = .next t) :
    t.memWf = true := by
  have ends := exec_ends s i
  obtain ⟨mem, bar1⟩ := s.memWf_iff.mp wf
  rw [run] at ends
  cases ends with
  | settled d => exact (State.memWf_iff _).mpr ⟨mem, Memory.puts_wf _ _ bar1⟩
  | lost d => rfl
  | idle => exact wf
  | inOrder d => exact (State.memWf_iff _).mpr ⟨mem, Memory.puts_wf _ _ bar1⟩
  | written u n keeps =>
    obtain ⟨umem, ubar1⟩ := u.memWf_iff.mp (keeps wf)
    exact (State.memWf_iff _).mpr ⟨umem, Memory.puts_wf _ _ ubar1⟩

theorem exec_hands_over {s t : State} {i : Instr} (done : s.handedOver = true) (run : exec i s = .next t) :
    t.handedOver = true := by
  have ends := exec_ends s i
  rw [run] at ends
  cases ends with
  | idle => exact done
  | _ => rfl

theorem step_eq_exec {s : State} {c : Instr} {rest : List Instr} (front : s.pending = c :: rest) :
    step s = exec c { s with pending := rest } := by
  simp only [step, front]

theorem step_eq_idle {s : State} (empty : s.pending = []) : step s = .next s := by
  simp only [step, empty]

/-- What an idle step and every command keep, every step keeps. -/
theorem step_keeps {P : State → Prop} (keeps : ∀ (s t : State) (i : Instr), P s → exec i s = .next t → P t)
    (queue : ∀ (s : State) (rest : List Instr), P s → P { s with pending := rest }) {s t : State} (holds : P s)
    (run : step s = .next t) : P t := by
  cases front : s.pending with
  | nil =>
    rw [step_eq_idle front] at run
    cases run
    exact holds
  | cons c rest => exact keeps _ t c (queue s rest holds) (step_eq_exec front ▸ run)

/-- Settles O1: the step at a queue with a front. -/
theorem stepRunsFrontCommand : Obligations.step_runs_front_command := fun _ _ _ front => step_eq_exec front

/-- Settles O2: every end of a command leaves the queue as it was. -/
theorem queueIsLeftAloneAndIdlesWhenEmpty : Obligations.queue_is_left_alone_and_idles_when_empty :=
  ⟨fun _ _ _ run => exec_keeps_pending run, fun _ empty => step_eq_idle empty⟩

/-- Settles O3: every end of a command keeps both memories canonical. -/
theorem stepKeepsMemoriesCanonical : Obligations.step_keeps_memories_canonical := fun _ _ wf run =>
  step_keeps (P := fun s => s.memWf = true) (fun _ _ _ => exec_keeps_memWf) (fun _ _ wf => wf) wf run

/-- Settles O4: every end of a command leaves no response slot to be written. -/
theorem stepHandsResponsesOver : Obligations.step_hands_responses_over := fun _ _ done run =>
  step_keeps (P := fun s => s.handedOver = true) (fun _ _ _ => exec_hands_over) (fun _ _ done => done) done run

/-- Settles O5: of the ends of a command, only those of the two undescribed units are refusals, and only those of accesses
to a BAR are faults. -/
theorem onlyUndescribedUnitsStop : Obligations.only_undescribed_units_stop := by
  refine fun s i => ⟨fun r refused => ?_, fun f faults => ?_⟩
  · have ends := exec_ends s i
    rw [refused] at ends
    cases ends with
    | undescribedDiagnostic core => exact .inl ⟨rfl, core, rfl⟩
    | undescribedJtag n => exact .inr ⟨rfl, n, rfl⟩
  · have ends := exec_ends s i
    rw [faults] at ends
    cases ends with
    | outsideRegisters w => exact ⟨rfl, .inl ⟨w, rfl⟩⟩
    | outsideWindows off a => exact ⟨rfl, .inr (.inl ⟨off, a, rfl⟩)⟩
    | outsideSinter off width value => exact ⟨rfl, .inr (.inr ⟨off, width, value, rfl⟩)⟩

end Sys2Proof.Machine

namespace Sys2Proof.Machine

open Sys2Proof

/-! ### Effects on the host attachment and the log alone -/

/-- From `d` to `e` nothing but the host attachment and the log changes. -/
def Dev.SparesUnits (d e : Dev) : Prop := ∃ h l, e = { d with host := h, log := l }

namespace Dev.SparesUnits

theorem refl (d : Dev) : d.SparesUnits d := ⟨_, _, rfl⟩

theorem trans {d e f : Dev} (first : d.SparesUnits e) (then_ : e.SparesUnits f) : d.SparesUnits f := by
  obtain ⟨_, _, rfl⟩ := first
  obtain ⟨h, l, rfl⟩ := then_
  exact ⟨h, l, rfl⟩

theorem unqueue (d : Dev) (c : Cmd) : d.SparesUnits (d.unqueue c) := ⟨_, _, rfl⟩

theorem raise (d : Dev) (code obj : Nat) (l : List Byte) : d.SparesUnits (d.raise code obj l) := ⟨_, _, rfl⟩

theorem respond (d : Dev) (c : Cmd) (st : Nat) (pl : List Byte) (doneFc : Nat) (target : Option Nat) (mirrored : Bool) :
    d.SparesUnits (d.respond c st pl doneFc target mirrored) := by
  unfold Dev.respond
  dsimp only
  split <;> split <;> (try split) <;> exact ⟨_, _, rfl⟩

theorem answer (d : Dev) (c : Cmd) (st : Nat) (pl : List Byte) : d.SparesUnits (d.answer c st pl) := .respond ..

/-- A settled step shows it. -/
theorem settled {s : State} {e : Dev} (spares : s.dev.SparesUnits e) :
    (s.settle e).dev = { s.dev with host := (s.settle e).dev.host, log := (s.settle e).dev.log } := by
  obtain ⟨h, l, rfl⟩ := spares
  rfl

end Dev.SparesUnits

/-- The device after a command was taken and answered. -/
theorem Dev.unqueue_answer_spares (d : Dev) (c : Cmd) (st : Nat) (pl : List Byte) :
    d.SparesUnits ((d.unqueue c).answer c st pl) := (Dev.SparesUnits.unqueue d c).trans (.answer ..)

/-! ### What a response leaves -/

/-- Statuses that raise no event of R361. -/
theorem Dev.answer_log {st : Nat} (quiet : st ≠ stBadOpcode ∧ st ≠ stDenied ∧ st ≠ stLocked ∧ st ≠ stCancelled)
    (d : Dev) (c : Cmd) (pl : List Byte) : (d.answer c st pl).log = d.log := by
  obtain ⟨opcode, denied, locked, cancelled⟩ := quiet
  unfold Dev.answer Dev.respond
  dsimp only
  rw [if_neg (by simp [opcode, denied, locked]), if_neg cancelled]
  split <;> rfl

theorem Dev.answer_mb_of_ne {n : Nat} {c : Cmd} (other : n ≠ c.mb) (d : Dev) (st : Nat) (pl : List Byte) :
    (d.answer c st pl).mb n = d.mb n := by
  unfold Dev.answer Dev.respond
  dsimp only
  repeat' split
  all_goals simp [Dev.vector, Dev.setMb, Dev.mb, Tab.get_set_of_ne _ _ _ _ _ other]

theorem State.settle_mb (s : State) (d : Dev) (n : Nat) : (s.settle d).dev.mb n = d.mb n := rfl

/-! ### The command at the front of the queue -/

/-- Core `core` is free, firmware runs, and the sequencer's next command is `c`, whose opcode is defined (R322). -/
structure Dev.Fronts (d : Dev) (core : Nat) (c : Cmd) : Prop where
  free : d.coreFree core = true
  firmware : d.pwr.fwState = 2
  front : bestOf d.host.queue = some c
  known : (opRow c.opcode).isSome = true

/-- A core that can take a command belongs to a powered device. -/
theorem Dev.powered_of_coreFree {d : Dev} {core : Nat} (free : d.coreFree core = true) : d.powered = true := by
  simp only [Dev.coreFree, Bool.and_eq_true, beq_iff_eq] at free
  obtain ⟨⟨⟨⟨⟨⟨-, running⟩, -⟩, -⟩, -⟩, -⟩, -⟩ := free
  simp [Dev.powered, running]

theorem Dev.fronts_of_offers {d : Dev} {core op : Nat} {c : Cmd} (offered : d.offers core op c = true) :
    d.Fronts core c ∧ c.opcode = op ∧ (d.unqueue c).precheck c = none := by
  simp only [Dev.offers, Bool.and_eq_true, beq_iff_eq, Option.isNone_iff_eq_none] at offered
  obtain ⟨⟨⟨⟨⟨free, firmware⟩, front⟩, known⟩, opcode⟩, passes⟩ := offered
  exact ⟨⟨free, firmware, front, by rwa [opcode]⟩, opcode, passes⟩

namespace Dev.Fronts

variable {d : Dev} {core : Nat} {c : Cmd}

theorem powered (h : d.Fronts core c) : d.powered = true := Dev.powered_of_coreFree h.free

/-- A defined opcode at the front is not drained. -/
theorem drain (h : d.Fronts core c) (n : Nat) : d.drain n = d := by
  cases n with
  | zero => rfl
  | succ n => simp [Dev.drain, h.front, h.known, h.firmware]

theorem take (h : d.Fronts core c) {ops : List Nat} (row : ops.contains c.opcode = true) :
    d.take core ops = some (d.unqueue c, c) := by
  simp only [Dev.take, h.free, h.drain, h.front, row, if_true]

/-- A command that the checks refuse is answered with the first refusal (R342). -/
theorem serveRead_refused (h : d.Fronts core c) {ops : List Nat} (row : ops.contains c.opcode = true)
    {f : Dev → Cmd → Nat × List Byte} {st : Nat} {pl : List Byte} (refused : (d.unqueue c).precheck c = some (st, pl)) :
    d.serveRead core ops f = (d.unqueue c).answer c st pl := by
  simp [Dev.serveRead, h.take row, refused]

theorem serve_refused (h : d.Fronts core c) {ops : List Nat} (row : ops.contains c.opcode = true)
    {check : Dev → Cmd → Check} {accept : Dev → Nat → Cmd → Dev} {st : Nat} {pl : List Byte}
    (refused : (d.unqueue c).precheck c = some (st, pl)) :
    d.serve core ops check accept = (d.unqueue c).answer c st pl := by
  simp [Dev.serve, h.take row, refused, firstRefusal]

/-- A command that its own row refuses is answered with that refusal. -/
theorem serve_rejected (h : d.Fronts core c) {ops : List Nat} (row : ops.contains c.opcode = true)
    {check : Dev → Cmd → Check} {accept : Dev → Nat → Cmd → Dev} {st : Nat} {pl : List Byte}
    (passes : (d.unqueue c).precheck c = none) (rejected : check (d.unqueue c) c = some (st, pl)) :
    d.serve core ops check accept = (d.unqueue c).answer c st pl := by
  simp [Dev.serve, h.take row, passes, rejected, firstRefusal]

end Dev.Fronts

/-- A step that takes a command and answers it, and does nothing else. -/
theorem State.shows_answer {s : State} {i : Instr} {f : Dev → Dev} {c : Cmd} {st : Nat} {pl : List Byte}
    (run : exec i s = s.run f) (done : s.handedOver = true) (powered : s.dev.powered = true)
    (answer : f s.dev = (s.dev.unqueue c).answer c st pl) :
    ∃ t, exec i s = .next t ∧ s.answers t c st pl ∧ t.dev = { s.dev with host := t.dev.host, log := t.dev.log } := by
  refine ⟨_, run.trans (State.run_eq s f powered), ?_⟩
  rw [answer]
  exact ⟨s.answers_of_answer c st pl done, (s.dev.unqueue_answer_spares c st pl).settled⟩

/-! ### The rows that share a path -/

theorem exec_readRow {r : ReadRow} (row : r ∈ readRows) (core : Nat) (s : State) :
    exec (r.row core) s = s.run fun d => d.serveRead core [r.op] r.answer := by
  simp only [readRows, readRowsA, readRowsB, List.cons_append, List.nil_append, List.mem_cons, List.not_mem_nil,
    or_false] at row
  obtain rfl | rfl | rfl | rfl | rfl | rfl | rfl | rfl | rfl | rfl | rfl | rfl | rfl | rfl | rfl | rfl | rfl | rfl |
    rfl | rfl | rfl | rfl | rfl | rfl | rfl := row
  all_goals rfl

theorem exec_changeRow {r : ChangeRow} (row : r ∈ changeRows) (core : Nat) (s : State) :
    exec (r.row core) s = s.run fun d => d.serveChange core r.op r.check := by
  simp only [changeRows, changeRowsA, changeRowsB, List.cons_append, List.nil_append, List.mem_cons, List.not_mem_nil,
    or_false] at row
  obtain rfl | rfl | rfl | rfl | rfl | rfl | rfl | rfl | rfl | rfl | rfl | rfl | rfl | rfl | rfl | rfl | rfl | rfl |
    rfl | rfl | rfl | rfl | rfl | rfl | rfl | rfl | rfl | rfl | rfl | rfl | rfl | rfl | rfl | rfl | rfl | rfl | rfl |
    rfl := row
  all_goals rfl

theorem readRow_known : ∀ r ∈ readRows, (opRow r.op).isSome = true := by decide +kernel

theorem changeRow_known : ∀ r ∈ changeRows, (opRow r.op).isSome = true := by decide +kernel

/-- Settles O7: every row of the list serves a read, which a core answers as it takes it. -/
theorem readsAreAnsweredAtOnce : Obligations.reads_are_answered_at_once := fun _ row s core c done offered =>
  State.shows_answer (exec_readRow row core s) done (s.dev.powered_of_offers core _ c offered)
    (s.dev.serveRead_of_offers core _ c _ offered)

/-! ### The checks of R342 -/

theorem firstRefusal_eq_none_iff (l : List Check) : firstRefusal l = none ↔ ∀ c ∈ l, c = none := by
  induction l with
  | nil => simp [firstRefusal]
  | cons c l ih => cases c <;> simp [firstRefusal, ih]

theorem refuseIf_eq_none_iff (b : Bool) (st : Nat) : refuseIf b st = none ↔ b = false := by
  cases b <;> simp [refuseIf, refuse]

/-- Opcodes of R353: LOCK_PASSWORD_SET and the vendor diagnostics. -/
def lockedOp (op : Nat) : Bool := op == 0x0F14 || (0x0F20 ≤ op && op ≤ 0x0F2F)

theorem lockedOp_iff (op : Nat) : lockedOp op = true ↔ op = 0x0F14 ∨ (0x0F20 ≤ op ∧ op ≤ 0x0F2F) := by
  simp [lockedOp]

/-- The checks 1 to 8 pass exactly where each of them does. -/
theorem Dev.precheck_eq_none_iff (d : Dev) (c : Cmd) (r : OpRow) (row : opRow c.opcode = some r)
    (own : c.opcode ≠ 0x0002) :
    d.precheck c = none ↔
      (∀ q ∈ d.host.queue, ¬(q.mb = c.mb ∧ q.seq = c.seq)) ∧
      (∀ w ∈ d.host.waiting, ¬(w.cmd.mb = c.mb ∧ w.cmd.seq = c.seq)) ∧
      (r.access = .privileged → c.mb = 0) ∧
      ¬(d.locked = true ∧ (c.opcode = 0x0F14 ∨ (0x0F20 ≤ c.opcode ∧ c.opcode ≤ 0x0F2F))) ∧
      (r.anyRole = true ∨ d.inCharge = true) ∧
      objType c.object ∈ r.types ∧ d.grantRefuses c r.access = false ∧ d.objExists c.object = true ∧
      (c.opcode = 0x0303 → 64 ≤ c.index) := by
  have same : c.rowOf r = some r := by simp [Cmd.rowOf, own]
  simp only [Dev.precheck, row, same, firstRefusal_eq_none_iff, List.mem_cons, List.not_mem_nil, or_false,
    forall_eq_or_imp, forall_eq, refuseIf_eq_none_iff, laneRange]
  simp only [Bool.or_eq_false_iff, List.any_eq_false, Bool.and_eq_true, beq_iff_eq, Bool.and_eq_false_iff,
    Bool.not_eq_eq_eq_not, Bool.not_false, List.contains_eq_mem, decide_eq_true_eq]
  grind

/-- Settles O9: what the checks refuse is answered with the first refusal, on the path of either kind of row. -/
theorem refusedCommandsAreAnsweredAndChangeNothing : Obligations.refused_commands_are_answered_and_change_nothing := by
  refine ⟨fun _ row s core c st pl done free firmware front opcode refused => ?_,
    fun _ row s core c st pl done free firmware front opcode refused => ?_, Dev.precheck_eq_none_iff⟩
  · have fronts : s.dev.Fronts core c := ⟨free, firmware, front, opcode ▸ readRow_known _ row⟩
    exact State.shows_answer (exec_readRow row core s) done fronts.powered
      (fronts.serveRead_refused (by simp [opcode]) refused)
  · have fronts : s.dev.Fronts core c := ⟨free, firmware, front, opcode ▸ changeRow_known _ row⟩
    exact State.shows_answer (exec_changeRow row core s) done fronts.powered
      (fronts.serve_refused (by simp [opcode]) refused)

/-! ### SYS_ECHO (R336, R337, R358) -/

theorem leBytes_length (n v : Nat) : (leBytes n v).length = n := by
  induction n generalizing v with
  | zero => rfl
  | succ n ih => simp [leBytes, ih]

theorem byteAt_append_right (a b : List Byte) (i : Nat) : byteAt (a ++ b) (a.length + i) = byteAt b i := by
  simp [byteAt, List.getElem?_append_right]

theorem sliceAt_append_right (a b : List Byte) (i n : Nat) : sliceAt (a ++ b) (a.length + i) n = sliceAt b i n := by
  induction n generalizing i with
  | zero => rfl
  | succ n ih => simp [sliceAt, byteAt_append_right, Nat.add_assoc, ih]

theorem sliceAt_zero_length (l : List Byte) : sliceAt l 0 l.length = l := by
  induction l with
  | nil => rfl
  | cons b l ih =>
    have tail := sliceAt_append_right [b] l 0 l.length
    simp only [List.length_cons, sliceAt]
    exact congrArg₂ _ rfl (tail.trans ih)

theorem byteAt_sliceAt (l : List Byte) {i n : Nat} (within : i < n) (j : Nat) :
    byteAt (sliceAt l j n) i = byteAt l (j + i) := by
  induction n generalizing i j with
  | zero => omega
  | succ n ih =>
    cases i with
    | zero => simp [sliceAt, byteAt]
    | succ i =>
      have deeper := ih (i := i) (by omega) (j + 1)
      simpa [sliceAt, byteAt, Nat.add_comm, Nat.add_left_comm] using deeper

/-- The 32 bytes of a response before its payload (R337). -/
def Rsp.header (r : Rsp) : List Byte :=
  leBytes 2 r.opcode ++ leBytes 1 r.runFlags ++ leBytes 1 r.status ++ leBytes 2 r.payload.length ++ leBytes 2 r.seq ++
    leBytes 2 r.tag ++ leBytes 1 r.mailbox ++ leBytes 1 0 ++ leBytes 4 r.object ++ leBytes 8 r.doneFc ++
    leBytes 4 r.target ++ leBytes 4 0

theorem Rsp.bytes_eq (r : Rsp) : r.bytes = r.header ++ r.payload := rfl

theorem Rsp.header_length (r : Rsp) : r.header.length = 32 := by simp [Rsp.header, leBytes_length]

theorem Rsp.bytes_payloadLen (r : Rsp) (short : r.payload.length < 2 ^ 16) :
    fieldAt r.bytes 4 2 = r.payload.length := by
  simp [Rsp.bytes, leBytes, fieldAt, byteAt]
  omega

theorem Rsp.bytes_payload (r : Rsp) : sliceAt r.bytes 32 r.payload.length = r.payload := by
  have whole := sliceAt_append_right r.header r.payload 0 r.payload.length
  rw [Rsp.header_length, sliceAt_zero_length] at whole
  exact whole

theorem Rsp.bytes_length (r : Rsp) : r.bytes.length = 32 + r.payload.length := by
  simp [Rsp.bytes_eq, Rsp.header_length]

/-- The response that a slot spells. -/
theorem Dev.slotOf_eq {pl : List Byte} (fits : pl.length ≤ 224) (d : Dev) (c : Cmd) (st : Nat) :
    ∃ r : Rsp, d.slotOf c st pl = r.bytes ∧ r.payload = pl :=
  ⟨_, rfl, List.take_of_length_le fits⟩

theorem Cmd.ofSlot_payload (mb : Nat) (slot : List Byte) :
    (Cmd.ofSlot mb slot).payload = sliceAt slot 32 (min 224 (fieldAt slot 4 2)) := by
  have clamped : clamp 0 224 (fieldAt slot 4 2) = min 224 (fieldAt slot 4 2) := by
    unfold clamp
    split
    · omega
    · split <;> omega
  simp [Cmd.ofSlot, clamped]

/-- Settles O11: the payload of the response is that of the command, byte for byte. -/
theorem echoReturnsItsPayload : Obligations.echo_returns_its_payload := by
  refine ⟨fun s core c done offered => ?_, fun d c fits => ?_, fun mb slot => ?_⟩
  · have run : exec (.sysEcho core) s = .next (s.settle ((s.dev.unqueue c).answer c stOk c.payload)) := by
      show execSysEcho core s = _
      rw [execSysEcho, State.run_eq s _ (s.dev.powered_of_offers core _ c offered),
        s.dev.serveRead_of_offers core _ c _ offered]
      rfl
    refine ⟨_, run, s.answers_of_answer c _ _ done, State.raisesNone_settle ?_, Dev.answer_waiting .., fun n other => ?_,
      (s.dev.unqueue_answer_spares ..).settled⟩
    · rw [Dev.answer_log (by decide)]; rfl
    · exact Dev.answer_mb_of_ne other ..
  · obtain ⟨r, slot, payload⟩ := d.slotOf_eq fits c stOk
    rw [slot, ← payload]
    exact ⟨r.bytes_payloadLen (by rw [payload]; omega), r.bytes_payload, r.bytes_length⟩
  · rw [Cmd.ofSlot_payload, sliceAt_length]
    exact ⟨rfl, fun i within => byteAt_sliceAt slot within 32⟩

/-! ### The field lock's check (R353) -/

/-- The row of an opcode that the lock closes: for mailbox 0, on the device in charge, about the device. -/
theorem opRow_of_lockedOp {op : Nat} (closed : lockedOp op = true) :
    opRow op = some ⟨op, [0x00], .privileged, .l, false, false, false⟩ := by
  have every : ∀ op ∈ 0x0F14 :: (List.range 16).map (0x0F20 + ·),
      opRow op = some ⟨op, [0x00], .privileged, .l, false, false, false⟩ := by decide +kernel
  refine every op ?_
  rw [lockedOp_iff] at closed
  rcases closed with rfl | ⟨low, high⟩
  · exact List.mem_cons_self
  · exact List.mem_cons_of_mem _ (List.mem_map.mpr ⟨op - 0x0F20, List.mem_range.mpr (by omega), by omega⟩)

/-- While locked, such a command is refused LOCKED, whatever the role and the object. -/
theorem Dev.precheck_of_locked {d : Dev} {c : Cmd} (closed : lockedOp c.opcode = true) (locked : d.locked = true)
    (mailbox : c.mb = 0) (queued : ∀ q ∈ d.host.queue, ¬(q.mb = c.mb ∧ q.seq = c.seq))
    (waiting : ∀ w ∈ d.host.waiting, ¬(w.cmd.mb = c.mb ∧ w.cmd.seq = c.seq)) : d.precheck c = some (stLocked, []) := by
  have fresh : (d.host.queue.any (fun q => q.mb == c.mb && q.seq == c.seq) ||
      d.host.waiting.any (fun w => w.cmd.mb == c.mb && w.cmd.seq == c.seq)) = false := by
    simpa [Bool.or_eq_false_iff] using ⟨fun q h => by simpa using queued q h, fun w h => by simpa using waiting w h⟩
  have refused : (c.opcode == 0x0F14 || (0x0F20 ≤ c.opcode && c.opcode ≤ 0x0F2F)) = true := closed
  rw [Dev.precheck, fresh, opRow_of_lockedOp closed]
  simp [mailbox, locked, refused, refuseIf, refuse, firstRefusal]

/-- A check refuses with its own status alone. -/
theorem refuseIf_eq_some_iff (b : Bool) (st : Nat) (r : Nat × List Byte) :
    refuseIf b st = some r ↔ b = true ∧ r = (st, []) := by
  cases b <;> simp [refuseIf, refuse, eq_comm]

/-- LOCKED is the refusal of the lock's own check. -/
theorem Dev.locked_of_precheck {d : Dev} {c : Cmd} {pl : List Byte} (refused : d.precheck c = some (stLocked, pl)) :
    d.locked = true ∧ lockedOp c.opcode = true := by
  have busy := mem_of_firstRefusal refused
  simp only [List.mem_cons, List.not_mem_nil, or_false] at busy
  rcases busy with busy | row
  · exact absurd ((refuseIf_eq_some_iff ..).mp busy.symm).2 (by simp [stLocked, stBusy])
  cases known : opRow c.opcode with
  | none => simp [known, refuse, stLocked, stBadOpcode] at row
  | some r =>
    simp only [known] at row
    have checks := mem_of_firstRefusal row.symm
    simp only [List.mem_cons, List.not_mem_nil, or_false] at checks
    rcases checks with denied | locked | standby | object
    · exact absurd ((refuseIf_eq_some_iff ..).mp denied.symm).2 (by simp [stLocked, stDenied])
    · exact Bool.and_eq_true_iff.mp ((refuseIf_eq_some_iff ..).mp locked.symm).1
    · exact absurd ((refuseIf_eq_some_iff ..).mp standby.symm).2 (by simp [stLocked, stStandby])
    · cases governs : c.rowOf r with
      | none => simp [governs] at object
      | some q =>
        simp only [governs] at object
        have last := mem_of_firstRefusal object.symm
        simp only [List.mem_cons, List.not_mem_nil, or_false] at last
        rcases last with type | grant | exists_
        · exact absurd ((refuseIf_eq_some_iff ..).mp type.symm).2 (by simp [stLocked, stNoObject])
        · exact absurd ((refuseIf_eq_some_iff ..).mp grant.symm).2 (by simp [stLocked, stDenied])
        · exact absurd ((refuseIf_eq_some_iff ..).mp exists_.symm).2 (by simp [stLocked, stNoObject])

theorem vendorOps_contains {op : Nat} (low : 0x0F20 ≤ op) (high : op ≤ 0x0F2F) : vendorOps.contains op = true := by
  simp only [vendorOps, List.contains_eq_mem, List.mem_map, List.mem_range, decide_eq_true_eq]
  exact ⟨op - 0x0F20, by omega, by omega⟩

/-- A vendor diagnostic that the checks refuse is answered with the refusal. -/
theorem exec_vendorDiagnostic_refused {s : State} {core : Nat} {c : Cmd} {st : Nat} {pl : List Byte}
    (fronts : s.dev.Fronts core c) (low : 0x0F20 ≤ c.opcode) (high : c.opcode ≤ 0x0F2F)
    (refused : (s.dev.unqueue c).precheck c = some (st, pl)) :
    exec (.vendorDiagnostic core) s = s.run fun d => d.serve core vendorOps (fun _ _ => none) fun e _ _ => e := by
  show execVendorDiagnostic core s = _
  simp only [execVendorDiagnostic, fronts.powered, fronts.take (vendorOps_contains low high), refused]

/-- Settles O60: the lock's check stands before those of role and object, and no other check answers LOCKED. -/
theorem fieldLockRefusesDiagnosticsAndPasswordSet : Obligations.field_lock_refuses_diagnostics_and_password_set := by
  refine ⟨fun s core c live firmware free front queued waiting mailbox set closed =>
      ⟨fun low high => ?_, fun opcode => ?_⟩,
    fun d c pl other vendor refused => ?_, fun d c pl open_ refused => ?_⟩
  · have op : lockedOp c.opcode = true := (lockedOp_iff _).mpr (.inr ⟨low, high⟩)
    have fronts : s.dev.Fronts core c := ⟨free, firmware, front, by rw [opRow_of_lockedOp op]; rfl⟩
    have locked : (s.dev.unqueue c).locked = true := by simpa [Dev.locked, Dev.lockSet, closed] using set
    have refused := Dev.precheck_of_locked (d := s.dev.unqueue c) op locked mailbox queued waiting
    exact State.shows_answer (exec_vendorDiagnostic_refused fronts low high refused)
      (Bool.and_eq_true_iff.mp live).2 fronts.powered (fronts.serve_refused (vendorOps_contains low high) refused)
  · have op : lockedOp c.opcode = true := (lockedOp_iff _).mpr (.inl opcode)
    have fronts : s.dev.Fronts core c := ⟨free, firmware, front, by rw [opRow_of_lockedOp op]; rfl⟩
    have locked : (s.dev.unqueue c).locked = true := by simpa [Dev.locked, Dev.lockSet, closed] using set
    have refused := Dev.precheck_of_locked (d := s.dev.unqueue c) op locked mailbox queued waiting
    have run : exec (.lockPasswordSet core) s = s.run fun d => d.serveChange core 0x0F14 unchecked := rfl
    exact State.shows_answer run (Bool.and_eq_true_iff.mp live).2 fronts.powered
      (fronts.serve_refused (by simp [opcode]) refused)
  · exact ((lockedOp_iff _).mp (Dev.locked_of_precheck refused).2).elim other vendor
  · have locked := (Dev.locked_of_precheck refused).1
    rcases open_ with unset | session
    · simp [Dev.locked, unset] at locked
    · simp [Dev.locked, ← Option.not_isSome, session] at locked

end Sys2Proof.Machine

namespace Sys2Proof.Machine

open Sys2Proof

/-! ### A row's own refusals -/

/-- A command that passes the checks of every command and is refused by its row is answered, and nothing else happens. -/
theorem State.shows_rejection {s : State} {i : Instr} {core op : Nat} {c : Cmd} {check : Dev → Cmd → Check}
    {accept : Dev → Nat → Cmd → Dev} {st : Nat} {pl : List Byte}
    (run : exec i s = s.run fun d => d.serve core [op] check accept) (done : s.handedOver = true)
    (offered : s.dev.offers core op c = true) (rejected : check (s.dev.unqueue c) c = some (st, pl)) :
    ∃ t, exec i s = .next t ∧ s.answers t c st pl ∧ t.dev = { s.dev with host := t.dev.host, log := t.dev.log } := by
  obtain ⟨fronts, opcode, passes⟩ := Dev.fronts_of_offers offered
  exact State.shows_answer run done fronts.powered (fronts.serve_rejected (by simp [opcode]) passes rejected)

/-- A command that passes every check is accepted. -/
theorem State.exec_accepted {s : State} {i : Instr} {core op : Nat} {c : Cmd} {check : Dev → Cmd → Check}
    {accept : Dev → Nat → Cmd → Dev} (run : exec i s = s.run fun d => d.serve core [op] check accept)
    (offered : s.dev.offers core op c = true) (passes : check (s.dev.unqueue c) c = none) :
    exec i s = .next (s.settle (accept (s.dev.unqueue c) core c)) := by
  rw [run, State.run_eq s _ (s.dev.powered_of_offers core op c offered), s.dev.serve_of_offers core op c _ _ offered passes]

/-! ### The boot ROM's only command (R419) -/

/-- On the boot ROM core 0 takes a host's FW_STAGE at the front of the queue. -/
theorem Dev.take_of_rom {d : Dev} {c : Cmd} (free : d.coreFree 0 = true) (rom : d.pwr.fwState = 0)
    (front : bestOf d.host.queue = some c) (mailbox : c.mb = 0) (opcode : c.opcode = 0x0010) :
    d.take 0 [0x0010] = some (d.unqueue c, c) := by
  have undrained (n : Nat) : d.drain n = d := by
    cases n with
    | zero => rfl
    | succ n => simp [Dev.drain, front, rom, mailbox, opcode]
  simp [Dev.take, free, undrained, front, opcode]

theorem exec_fwStage (core : Nat) (s : State) : exec (.fwStage core) s =
    s.run fun d => d.serve core [0x0010] checkFwStage fun e _ c => e.beginStage c := rfl

/-! ### Firmware work makes commands busy (R428) -/

theorem Dev.fwBusy_of {d : Dev} (works : d.pwr.stage.isSome = true ∨ d.pwr.activation.isSome = true) :
    d.fwBusy = true := by
  simpa [Dev.fwBusy] using works

theorem refuseIf_true {b : Bool} (holds : b = true) (st : Nat) : refuseIf b st = some (st, []) := by
  rw [holds]; rfl

/-- A first check that refuses settles the rest. -/
theorem firstRefusal_cons_some (r : Nat × List Byte) (l : List Check) : firstRefusal (some r :: l) = some r := rfl

theorem checkFwStage_busy {d : Dev} {c : Cmd} (firmware : d.pwr.fwState ≠ 0) (busy : d.fwBusy = true) :
    checkFwStage d c = some (stBusy, []) := by
  rw [checkFwStage, if_neg firmware, refuseIf_true busy, firstRefusal_cons_some]

/-- On the boot ROM the source and the destination are checked first. -/
theorem checkFwStage_rom_busy {d : Dev} {c : Cmd} (rom : d.pwr.fwState = 0) (source : stageSource c = 0)
    (dest : stageDest c = 1) (busy : d.fwBusy = true) : checkFwStage d c = some (stBusy, []) := by
  rw [checkFwStage, if_pos rom, source, dest, refuseIf_true busy]
  rfl

theorem checkFwActivate_busy {d : Dev} (c : Cmd) (busy : d.activationBusy = true) :
    checkFwActivate d c = some (stBusy, []) := by
  rw [checkFwActivate, refuseIf_true busy, firstRefusal_cons_some]

theorem checkFwRollback_busy {d : Dev} (c : Cmd) (busy : d.activationBusy = true) :
    checkFwRollback d c = some (stBusy, []) := by
  unfold checkFwRollback
  split
  · exact refuseIf_true busy _
  · exact checkFwActivate_busy c busy

theorem checkSchedSwap_busy {d : Dev} (c : Cmd) (busy : d.fwBusy = true) : checkSchedSwap d c = some (stBusy, []) := by
  rw [checkSchedSwap, refuseIf_true (by simp [busy]), firstRefusal_cons_some]

theorem Dev.activationBusy_of_fwBusy {d : Dev} (busy : d.fwBusy = true) : d.activationBusy = true := by
  simp [Dev.activationBusy, busy]

/-- A swap that waits, a load that runs, and a join or a resync on either device make activations busy. -/
theorem Dev.activationBusy_of_schedule_or_pair {d : Dev}
    (works : d.sched.swap.isSome = true ∨ d.sched.load.isSome = true ∨ d.pair.joinPhase ≠ 0 ∨
      (∃ p ∈ d.pair.agree, p.2.resync ≠ 0) ∨
      (d.pair.link = 2 ∧ ∃ h, d.pair.rxHead = some h ∧ h.joinPhase ≠ 0)) : d.activationBusy = true := by
  rcases works with swap | load | join | ⟨p, member, resync⟩ | ⟨link, h, head, phase⟩
  · simp [Dev.activationBusy, swap]
  · simp [Dev.activationBusy, load]
  · simp [Dev.activationBusy, Dev.joinOrResync, join]
  · have some_resync : (d.pair.agree.any fun p => p.2.resync != 0) = true := List.any_eq_true.mpr ⟨p, member, by simpa⟩
    simp [Dev.activationBusy, Dev.joinOrResync, some_resync]
  · simp [Dev.activationBusy, Dev.joinOrResync, link, head, phase]

/-- Settles O57: each of these commands is refused BUSY by its row's first check. -/
theorem firmwareWorkMakesCommandsBusy : Obligations.firmware_work_makes_commands_busy := by
  refine fun s core c done => ⟨fun r row offered works => ?_, fun rom free front mailbox opcode passes source dest works => ?_,
    fun r row offered works => ?_⟩
  · have busy : (s.dev.unqueue c).fwBusy = true := Dev.fwBusy_of works
    have active := Dev.activationBusy_of_fwBusy busy
    have firmware : (s.dev.unqueue c).pwr.fwState ≠ 0 := by
      rw [Dev.unqueue_pwr, (Dev.fronts_of_offers offered).1.firmware]; decide
    simp only [List.mem_cons, List.not_mem_nil, or_false] at row
    obtain rfl | rfl | rfl | rfl | rfl | rfl := row
    · exact State.shows_rejection (exec_fwStage core s) done offered (checkFwStage_busy firmware busy)
    · exact State.shows_rejection (i := .fwActivate core) rfl done offered (checkFwActivate_busy c active)
    · exact State.shows_rejection (i := .fwRollback core) rfl done offered (checkFwRollback_busy c active)
    · exact State.shows_rejection (i := .schedLoad core) rfl done offered (refuseIf_true (by simp [busy]) _)
    · exact State.shows_rejection (i := .schedSwap core) rfl done offered (checkSchedSwap_busy c busy)
    · exact State.shows_rejection (i := .pwrDormant core) rfl done offered (refuseIf_true (by simp [busy]) _)
  · have busy : (s.dev.unqueue c).fwBusy = true := Dev.fwBusy_of works
    have refused := checkFwStage_rom_busy (d := s.dev.unqueue c) (c := c) rom source dest busy
    refine State.shows_answer (exec_fwStage 0 s) done (Dev.powered_of_coreFree free) ?_
    simp [Dev.serve, Dev.take_of_rom free rom front mailbox opcode, Option.isNone_iff_eq_none.mp passes, refused,
      firstRefusal]
  · have busy := Dev.activationBusy_of_schedule_or_pair (d := s.dev.unqueue c) works
    simp only [List.mem_cons, List.not_mem_nil, or_false] at row
    obtain rfl | rfl := row
    · exact State.shows_rejection (i := .fwActivate core) rfl done offered (checkFwActivate_busy c busy)
    · exact State.shows_rejection (i := .fwRollback core) rfl done offered (checkFwRollback_busy c busy)

end Sys2Proof.Machine

namespace Sys2Proof.Machine

open Sys2Proof

/-! ### Steps that raise nothing and answer nothing -/

theorem Dev.calm_self {d : Dev} (out : d.host.out = []) : d.calm d.log.arising.length = d := by
  have host : { d.host with out := [] } = d.host := by
    cases h : d.host with | mk => simp_all
  simp [Dev.calm, host]

/-- A step that raises nothing and answers nothing shows the device as the effect left it. -/
theorem State.settle_quiet {s : State} {d : Dev} (log : d.log = s.dev.log) (out : d.host.out = []) :
    s.settle d = { s with dev := d } := by
  have calm := Dev.calm_self out
  rw [log] at calm
  simp [State.settle, calm, out, Memory.puts]

/-- A step that an effect quiet in this sense makes. -/
theorem State.runIf_quiet {s : State} {c : Dev → Bool} {f : Dev → Dev} (live : s.live = true) (due : c s.dev = true)
    (log : (f s.dev).log = s.dev.log) (out : (f s.dev).host.out = s.dev.host.out) :
    s.runIf c f = .next { s with dev := f s.dev } := by
  rw [State.runIf_eq s c f (State.powered_of_live live) due, State.settle_quiet log (out.trans (State.out_of_live live))]

theorem State.run_quiet {s : State} {f : Dev → Dev} (live : s.live = true) (log : (f s.dev).log = s.dev.log)
    (out : (f s.dev).host.out = s.dev.host.out) : s.run f = .next { s with dev := f s.dev } := by
  rw [State.run_eq s f (State.powered_of_live live), State.settle_quiet log (out.trans (State.out_of_live live))]

/-- Where the moment has not come, a device that waits for nothing stays as it is. -/
theorem State.runIf_not_of_live {s : State} {c : Dev → Bool} {f : Dev → Dev} (live : s.live = true)
    (early : c s.dev = false) : s.runIf c f = .next s := by
  rw [State.runIf_not s c f early, State.settle_self s (State.out_of_live live)]

/-- A step on the memories too. -/
theorem State.runMem_eq {s : State} (f : State → State) (live : s.live = true) : s.runMem f = .next { f s with
    dev := (f s).dev.calm s.dev.log.arising.length, bar1 := (f s).bar1.puts (f s).dev.host.out, pending := s.pending } := by
  simp [State.runMem, State.powered_of_live live]

theorem State.runMem_congr {s : State} {f g : State → State} (same : f s = g s) : s.runMem f = s.runMem g := by
  simp only [State.runMem, same]

@[simp] theorem Dev.raise_mb (d : Dev) (code obj : Nat) (l : List Byte) (n : Nat) : (d.raise code obj l).mb n = d.mb n := by
  simp [Dev.mb]

@[simp] theorem Dev.tick_mb (d : Dev) (c k n : Nat) : (d.tick c k).mb n = d.mb n := by simp [Dev.mb]

/-! ### Acknowledging commands (R319) -/

/-- The slot of the `i`-th command of a mailbox that is still to be acknowledged. -/
def Dev.slotAhead (d : Dev) (bar1 : Memory) (mb i : Nat) : Cmd :=
  Cmd.ofSlot mb (bar1.readBytes (0x8000 * mb + 0x100 * (((d.mb mb).cmdAck + i) % 64)) 256)

/-- The first of a mailbox's commands is copied into the queue. -/
def Dev.acknowledgeOne (d : Dev) (bar1 : Memory) (mb : Nat) : Dev :=
  { d with host := { d.host with queue := d.host.queue ++ [d.slotAhead bar1 mb 0] } }.setMb mb
    { d.mb mb with cmdAck := ((d.mb mb).cmdAck + 1) % 2 ^ 16 }

theorem Dev.acknowledge_succ (d : Dev) (bar1 : Memory) (mb n : Nat) :
    d.acknowledge bar1 mb (n + 1) = (d.acknowledgeOne bar1 mb).acknowledge bar1 mb n := rfl

theorem Dev.acknowledgeOne_mb (d : Dev) (bar1 : Memory) (mb k : Nat) : (d.acknowledgeOne bar1 mb).mb k =
    if k = mb then { d.mb mb with cmdAck := ((d.mb mb).cmdAck + 1) % 2 ^ 16 } else d.mb k :=
  Dev.setMb_mb ..

/-- The commands after the first stand in the ring as they did. -/
theorem Dev.acknowledgeOne_slotAhead (d : Dev) (bar1 : Memory) (mb i : Nat) :
    (d.acknowledgeOne bar1 mb).slotAhead bar1 mb i = d.slotAhead bar1 mb (i + 1) := by
  have place : (((d.mb mb).cmdAck + 1) % 2 ^ 16 + i) % 64 = ((d.mb mb).cmdAck + (i + 1)) % 64 := by omega
  simp only [Dev.slotAhead, Dev.acknowledgeOne_mb, if_true, place]

/-- From `d` to `e` the next `n` commands of mailbox `mb` are acknowledged, and nothing else changes that an event or a
response depends on. -/
structure Dev.Acknowledges (d : Dev) (bar1 : Memory) (mb n : Nat) (e : Dev) : Prop where
  queue : e.host.queue = d.host.queue ++ (List.range n).map (d.slotAhead bar1 mb)
  own : e.mb mb = { d.mb mb with cmdAck := if n = 0 then (d.mb mb).cmdAck else ((d.mb mb).cmdAck + n) % 2 ^ 16 }
  other : ∀ k, k ≠ mb → e.mb k = d.mb k
  fc : e.fc = d.fc
  log : e.log = d.log
  out : e.host.out = d.host.out

theorem Dev.acknowledge_acknowledges (d : Dev) (bar1 : Memory) (mb n : Nat) :
    d.Acknowledges bar1 mb n (d.acknowledge bar1 mb n) := by
  induction n generalizing d with
  | zero => exact ⟨by simp [Dev.acknowledge], rfl, fun _ _ => rfl, rfl, rfl, rfl⟩
  | succ n ih =>
    have rest := ih (d.acknowledgeOne bar1 mb)
    rw [Dev.acknowledge_succ]
    refine ⟨?_, ?_, fun k ne => ?_, rest.fc, rest.log, rest.out⟩
    · have tail : (List.range n).map ((d.acknowledgeOne bar1 mb).slotAhead bar1 mb) =
          (List.range n).map fun i => d.slotAhead bar1 mb (i + 1) :=
        List.map_congr_left fun i _ => d.acknowledgeOne_slotAhead bar1 mb i
      rw [rest.queue, tail, List.range_succ_eq_map, List.map_cons, List.map_map]
      exact List.append_assoc ..
    · have count : (if n = 0 then ((d.mb mb).cmdAck + 1) % 2 ^ 16 else (((d.mb mb).cmdAck + 1) % 2 ^ 16 + n) % 2 ^ 16) =
          ((d.mb mb).cmdAck + (n + 1)) % 2 ^ 16 := by
        split <;> omega
      rw [rest.own, Dev.acknowledgeOne_mb, if_pos rfl, if_neg n.succ_ne_zero]
      exact congrArg (fun x => { d.mb mb with cmdAck := x }) count
    · rw [rest.other k ne, Dev.acknowledgeOne_mb, if_neg ne]

/-- The device whose mailbox has announced all that stands in its ring. -/
def Dev.announce (d : Dev) (mb : Nat) : Dev := d.setMb mb { d.mb mb with announced := (d.mb mb).cmdProd }

theorem Dev.announce_mb (d : Dev) (mb k : Nat) : (d.announce mb).mb k =
    if k = mb then { d.mb mb with announced := (d.mb mb).cmdProd } else d.mb k := Dev.setMb_mb ..

theorem Dev.announce_slotAhead (d : Dev) (bar1 : Memory) (mb : Nat) :
    (d.announce mb).slotAhead bar1 mb = d.slotAhead bar1 mb := by
  funext i
  simp [Dev.slotAhead, Dev.announce_mb]

/-- The doorbell announces, acknowledges what the credits cover, and reports an overrun (R319). -/
theorem Dev.doorbell_eq {d : Dev} {mb n excess : Nat} (bar1 : Memory)
    (covered : n = min (((d.mb mb).cmdProd + 2 ^ 16 - (d.mb mb).cmdAck) % 2 ^ 16) (d.mb mb).room)
    (uncovered : excess = ((d.mb mb).cmdProd + 2 ^ 16 - (d.mb mb).cmdAck) % 2 ^ 16 - n) :
    d.doorbell bar1 mb = if excess = 0 then (d.announce mb).acknowledge bar1 mb n
      else (((d.announce mb).acknowledge bar1 mb n).tick (0x41A0 + mb) 1).raise 0x1003 (objMailbox mb)
        (leBytes 1 mb ++ leBytes 4 excess) := by
  subst uncovered
  subst covered
  rfl

theorem doorbell_takes_effect (s : State) (mb n excess : Nat) (live : s.live = true) (known : mb < 8)
    (link : s.dev.host.linkUp = true)
    (covered : n = min (((s.dev.mb mb).cmdProd + 2 ^ 16 - (s.dev.mb mb).cmdAck) % 2 ^ 16) (s.dev.mb mb).room)
    (uncovered : excess = ((s.dev.mb mb).cmdProd + 2 ^ 16 - (s.dev.mb mb).cmdAck) % 2 ^ 16 - n) :
    ∃ t, exec (.doorbell mb) s = .next t ∧
      t.dev.host.queue = s.dev.host.queue ++ (List.range n).map (fun i =>
        Cmd.ofSlot mb (s.bar1.readBytes (0x8000 * mb + 0x100 * (((s.dev.mb mb).cmdAck + i) % 64)) 256)) ∧
      (t.dev.mb mb).cmdAck = (if n = 0 then (s.dev.mb mb).cmdAck else ((s.dev.mb mb).cmdAck + n) % 2 ^ 16) ∧
      (t.dev.mb mb).announced = (s.dev.mb mb).cmdProd ∧ (∀ k, k ≠ mb → t.dev.mb k = s.dev.mb k) ∧
      (excess = 0 → s.raisesNone t) ∧
      (excess ≠ 0 → s.raisesOne t 0x1003 (objMailbox mb) (leBytes 1 mb ++ leBytes 4 excess)) ∧
      t.mem = s.mem ∧ t.bar1 = s.bar1 := by
  have run : exec (.doorbell mb) s = .next (s.settle (s.dev.doorbell s.bar1 mb)) := by
    show execDoorbell mb s = _
    rw [execDoorbell, State.runIf_eq s _ _ (State.powered_of_live live) (by simp [known, link])]
  have acks := (s.dev.announce mb).acknowledge_acknowledges s.bar1 mb n
  have queue := acks.queue
  rw [Dev.announce_slotAhead] at queue
  have own := acks.own
  rw [Dev.announce_mb, if_pos rfl] at own
  have other (k : Nat) (ne : k ≠ mb) : ((s.dev.announce mb).acknowledge s.bar1 mb n).mb k = s.dev.mb k := by
    rw [acks.other k ne, Dev.announce_mb, if_neg ne]
  rw [s.dev.doorbell_eq s.bar1 covered uncovered] at run
  refine ⟨_, run, ?_⟩
  by_cases zero : excess = 0
  · rw [if_pos zero]
    refine ⟨queue, ?_, ?_, other, fun _ => State.raisesNone_settle (by rw [acks.log]; rfl),
      fun excess => absurd zero excess, rfl, State.settle_bar1_of_live live acks.out⟩
    · rw [State.settle_mb, own]
    · rw [State.settle_mb, own]
  · rw [if_neg zero]
    refine ⟨?_, ?_, ?_, fun k ne => ?_, fun none => absurd none zero, fun _ => ?_, rfl, ?_⟩
    · exact (Dev.raise_queue ..).trans ((by rw [Dev.tick_host] : _ = _).trans queue)
    · rw [State.settle_mb, Dev.raise_mb, Dev.tick_mb, own]
    · rw [State.settle_mb, Dev.raise_mb, Dev.tick_mb, own]
    · rw [State.settle_mb, Dev.raise_mb, Dev.tick_mb, other k ne]
    · exact State.raisesOne_settle_raise (by rw [Dev.tick_fc, acks.fc]; rfl) (by rw [Dev.tick_log, acks.log]; rfl) ..
    · exact State.settle_bar1_of_live live (by rw [Dev.raise_out, Dev.tick_host, acks.out]; rfl)

theorem announced_command_is_acknowledged (s : State) (mb : Nat) (live : s.live = true) (known : mb < 8)
    (announced : (s.dev.mb mb).unacked ≠ 0) (room : (s.dev.mb mb).room ≠ 0) :
    ∃ t, exec (.announcedCommandAcknowledged mb) s = .next t ∧
      t.dev.host.queue = s.dev.host.queue ++
        [Cmd.ofSlot mb (s.bar1.readBytes (0x8000 * mb + 0x100 * ((s.dev.mb mb).cmdAck % 64)) 256)] ∧
      t.dev.mb mb = { s.dev.mb mb with cmdAck := ((s.dev.mb mb).cmdAck + 1) % 2 ^ 16 } ∧
      (∀ k, k ≠ mb → t.dev.mb k = s.dev.mb k) ∧ s.raisesNone t ∧ t.mem = s.mem ∧ t.bar1 = s.bar1 := by
  have run : exec (.announcedCommandAcknowledged mb) s = .next (s.settle (s.dev.acknowledge s.bar1 mb 1)) := by
    show execAnnouncedCommandAcknowledged mb s = _
    rw [execAnnouncedCommandAcknowledged,
      State.runIf_eq s _ _ (State.powered_of_live live) (by simp [known, announced, room])]
  have acks := s.dev.acknowledge_acknowledges s.bar1 mb 1
  exact ⟨_, run, acks.queue, acks.own, acks.other, State.raisesNone_settle (by rw [acks.log]), rfl,
    State.settle_bar1_of_live live acks.out⟩

/-! ### RSP_CONS (R318) -/

/-- Where RSP_CONS stands after it moves by what is written, at most up to RSP_PROD. -/
theorem consumed_index {prod cons value : Nat} (hp : prod < 2 ^ 16) (hc : cons < 2 ^ 16) :
    (cons + (if (prod + 2 ^ 16 - cons) % 2 ^ 16 < (value % 2 ^ 16 + 2 ^ 16 - cons) % 2 ^ 16
        then (prod + 2 ^ 16 - cons) % 2 ^ 16 else (value % 2 ^ 16 + 2 ^ 16 - cons) % 2 ^ 16)) % 2 ^ 16 =
      if (value % 2 ^ 16 + 2 ^ 16 - cons) % 2 ^ 16 ≤ (prod + 2 ^ 16 - cons) % 2 ^ 16 then value % 2 ^ 16 else prod := by
  split <;> split <;> omega

theorem rsp_cons_is_written (s : State) (mb value : Nat) (live : s.live = true) (known : mb < 8)
    (link : s.dev.host.linkUp = true) (hp : (s.dev.mb mb).rspProd < 2 ^ 16) (hc : (s.dev.mb mb).rspCons < 2 ^ 16) :
    ∃ t, exec (.rspConsWrite mb value) s = .next t ∧
      (t.dev.mb mb).rspCons =
        (if (value % 2 ^ 16 + 2 ^ 16 - (s.dev.mb mb).rspCons) % 2 ^ 16 ≤
            ((s.dev.mb mb).rspProd + 2 ^ 16 - (s.dev.mb mb).rspCons) % 2 ^ 16
          then value % 2 ^ 16 else (s.dev.mb mb).rspProd) ∧
      (t.dev.mb mb).rspProd = (s.dev.mb mb).rspProd ∧ (t.dev.mb mb).cmdProd = (s.dev.mb mb).cmdProd ∧
      (∀ k, k ≠ mb → t.dev.mb k = s.dev.mb k) ∧ t.dev.host.queue = s.dev.host.queue ∧ s.raisesNone t ∧
      t.mem = s.mem ∧ t.bar1 = s.bar1 := by
  have run : exec (.rspConsWrite mb value) s = .next { s with dev := s.dev.consume mb value } := by
    show execRspConsWrite mb value s = _
    rw [execRspConsWrite, State.runIf_quiet live (by simp [known, link]) rfl rfl]
  refine ⟨_, run, ?_, ?_, ?_, fun k ne => ?_, rfl, rfl, rfl, rfl⟩
  · rw [← consumed_index hp hc]
    simp [Dev.consume]
  · simp [Dev.consume]
  · simp [Dev.consume]
  · simp [Dev.consume, ne]

/-! ### Register writes (R11, R316) -/

/-- A write that the link carries to a register of BAR0. -/
theorem exec_registerWrite_bar0 {s : State} {off : Nat} (width value : Nat) (live : s.live = true)
    (link : s.dev.host.linkUp = true) (inside : off < 0x8000) :
    exec (.registerWrite (.bar0 off width value)) s =
      .next (s.settle (if width = 4 && off % 4 = 0 then s.dev.writeBar0 off value else s.dev.tick 0x4187 1)) := by
  show execRegisterWrite (.bar0 off width value) s = _
  rw [execRegisterWrite, if_neg (by omega), State.runIf_eq s _ _ (State.powered_of_live live) (by simp [link, inside])]

/-- A 32-bit write at a multiple of 4, under the register's access code, that raises and answers nothing. -/
theorem exec_registerWrite_word {s : State} {off value : Nat} {d : Dev} (live : s.live = true)
    (link : s.dev.host.linkUp = true) (inside : off < 0x8000) (aligned : off % 4 = 0)
    (writes : s.dev.writeBar0 off value = d) (log : d.log = s.dev.log) (out : d.host.out = s.dev.host.out) :
    exec (.registerWrite (.bar0 off 4 value)) s = .next { s with dev := d } := by
  rw [exec_registerWrite_bar0 4 value live link inside, if_pos (by simp [aligned]), writes,
    State.settle_quiet log (out.trans (State.out_of_live live))]

theorem Dev.writeBar0_cmdProd (d : Dev) {n : Nat} (known : n < 8) (value : Nat) :
    d.writeBar0 (0x0100 + 0x20 * n) value = d.setMb n { d.mb n with cmdProd := value % 2 ^ 16 } := by
  have mailbox : (0x0100 + 0x20 * n - 0x0100) / 0x20 = n := by omega
  have register : (0x0100 + 0x20 * n - 0x0100) % 0x20 = 0x00 := by omega
  rw [Dev.writeBar0, if_neg (by omega), if_neg (by omega), if_neg (by omega), if_pos (by simp; omega)]
  simp only [mailbox, register]

theorem Dev.writeBar0_irqEn (d : Dev) {n : Nat} (known : n < 8) (value : Nat) :
    d.writeBar0 (0x0114 + 0x20 * n) value = d.setMb n { d.mb n with irqEn := bit value 0 } := by
  have mailbox : (0x0114 + 0x20 * n - 0x0100) / 0x20 = n := by omega
  have register : (0x0114 + 0x20 * n - 0x0100) % 0x20 = 0x14 := by omega
  rw [Dev.writeBar0, if_neg (by omega), if_neg (by omega), if_neg (by omega), if_pos (by simp; omega)]
  simp only [mailbox, register]

/-- The registers below 0x0020 are read-only. -/
theorem Dev.writeBar0_low (d : Dev) {off : Nat} (low : off < 0x20) (value : Nat) : d.writeBar0 off value = d := by
  rw [Dev.writeBar0, if_neg (by omega), if_neg (by omega), if_neg (by omega), if_neg (by simp; omega),
    if_neg (by simp; omega)]

theorem Dev.tick_one (d : Dev) (c : Nat) : d.tick c 1 = { d with cnt := d.cnt.tick c 1 } := rfl

/-- The registers of BAR0 under their access codes. -/
theorem bar0_registers_are_written (s : State) (off width value : Nat) (live : s.live = true)
    (link : s.dev.host.linkUp = true) (inside : off < 0x8000) :
    ((width ≠ 4 ∨ off % 4 ≠ 0) → exec (.registerWrite (.bar0 off width value)) s =
      .next { s with dev := { s.dev with cnt := s.dev.cnt.tick 0x4187 1 } }) ∧
    (width = 4 → off = 0x0020 → exec (.registerWrite (.bar0 off width value)) s =
      .next { s with dev := { s.dev with host := { s.dev.host with
        alarmFatal := s.dev.host.alarmFatal && !bit value 0, alarmPair := s.dev.host.alarmPair && !bit value 1 } } }) ∧
    (width = 4 → off = 0x0300 → exec (.registerWrite (.bar0 off width value)) s =
      .next { s with dev := { s.dev with host := { s.dev.host with sinterWe := value % 2 ^ 16 } } }) ∧
    (∀ n, width = 4 → n < 8 → off = 0x0100 + 0x20 * n →
      ∃ t, exec (.registerWrite (.bar0 off width value)) s = .next t ∧
        t.dev.mb n = { s.dev.mb n with cmdProd := value % 2 ^ 16 } ∧ (∀ k, k ≠ n → t.dev.mb k = s.dev.mb k) ∧
        t.dev.host.queue = s.dev.host.queue ∧ s.raisesNone t ∧ t.mem = s.mem ∧ t.bar1 = s.bar1) ∧
    (∀ n, width = 4 → n < 8 → off = 0x0114 + 0x20 * n →
      ∃ t, exec (.registerWrite (.bar0 off width value)) s = .next t ∧
        t.dev.mb n = { s.dev.mb n with irqEn := bit value 0 } ∧ (∀ k, k ≠ n → t.dev.mb k = s.dev.mb k)) ∧
    (width = 4 → off < 0x20 → off % 4 = 0 → exec (.registerWrite (.bar0 off width value)) s = .next s) := by
  refine ⟨fun bad => ?_, ?_, ?_, ?_, ?_, ?_⟩
  · rw [exec_registerWrite_bar0 width value live link inside, if_neg (by simpa [imp_iff_not_or] using bad),
      State.settle_quiet (d := s.dev.tick 0x4187 1) rfl (State.out_of_live live), Dev.tick_one]
  · rintro rfl rfl
    exact exec_registerWrite_word live link inside rfl rfl rfl rfl
  · rintro rfl rfl
    exact exec_registerWrite_word live link inside rfl rfl rfl rfl
  · rintro n rfl known rfl
    exact ⟨_, exec_registerWrite_word live link inside (by omega) (s.dev.writeBar0_cmdProd known value) rfl rfl,
      by simp, fun k ne => by simp [ne], rfl, rfl, rfl, rfl⟩
  · rintro n rfl known rfl
    exact ⟨_, exec_registerWrite_word live link inside (by omega) (s.dev.writeBar0_irqEn known value) rfl rfl,
      by simp, fun k ne => by simp [ne]⟩
  · rintro rfl low aligned
    exact exec_registerWrite_word live link inside aligned (s.dev.writeBar0_low low value) rfl rfl

theorem bar1_is_written (s : State) (off : Nat) (bytes : List Byte) (live : s.live = true)
    (link : s.dev.host.linkUp = true) (inside : off + bytes.length ≤ 0x4_0000) :
    exec (.registerWrite (.bar1 off bytes)) s = .next { s with bar1 := s.bar1.writeBytes off bytes } := by
  show execRegisterWrite (.bar1 off bytes) s = _
  rw [execRegisterWrite, if_neg (by omega), State.runMem_eq _ live]
  simp [link, Dev.calm_self (State.out_of_live live), State.out_of_live live, Memory.puts]

/-! ### Accesses through the windows (R326 to R329) -/

/-- A transaction ends: only counter cells change. -/
theorem Dev.transaction_keeps (d : Dev) (master : Nat) (delegated : Bool) (cls addr len : Nat) :
    (d.transaction master delegated cls addr len).host = d.host ∧
      (d.transaction master delegated cls addr len).log = d.log := by
  refine List.foldlRecOn (motive := fun e : Dev => e.host = d.host ∧ e.log = d.log) _ _ ⟨rfl, rfl⟩ ?_
  rintro e ⟨host, log⟩ f -
  split
  · simp [host, log]
  · exact ⟨host, log⟩

theorem transactions_of_one {off n : Nat} (f : Nat) (nonempty : 0 < n) (one : off % 256 + n ≤ 256) :
    transactions (f + 2) off n = [(off, n)] := by
  have whole : min n (256 - off % 256) = n := by omega
  simp [transactions, whole, Nat.ne_of_gt nonempty]

/-- What an event signals to the host: alarm bits and MSI-X vectors, and nothing else of the attachment. -/
theorem Dev.raise_signals (d : Dev) (code obj : Nat) (l : List Byte) : ∃ fatal pair pba sent,
    (d.raise code obj l).host =
      { d.host with alarmFatal := fatal, alarmPair := pair, pba := pba, sentThisBeat := sent } := by
  unfold Dev.raise Dev.raiseAs HostIf.vector
  dsimp only
  repeat' split
  all_goals exact ⟨_, _, _, _, rfl⟩

/-- A decode error of the host windows: it is counted and reported, and answers nothing. -/
theorem Dev.decodeError_keeps (d : Dev) (master addr : Nat) :
    (d.decodeError master addr).host.decodeErrors = min max32 (d.host.decodeErrors + 1) ∧
      (d.decodeError master addr).host.readData = d.host.readData ∧
      (d.decodeError master addr).host.out = d.host.out ∧
      (d.decodeError master addr).log.arising =
        d.log.arising ++ [d.eventOf 0x1001 0 (leBytes 1 master ++ leBytes 5 addr)] := by
  unfold Dev.decodeError
  dsimp only
  obtain ⟨fatal, pair, pba, sent, host⟩ := Dev.raise_signals
    (({ d with host := { d.host with decodeErrors := satAdd max32 d.host.decodeErrors 1 } } : Dev).tick
      (0x4180 + master) 1) 0x1001 0 (leBytes 1 master ++ leBytes 5 addr)
  rw [host, Dev.raise_arising, Dev.tick_host, Dev.tick_log]
  exact ⟨rfl, rfl, rfl, rfl⟩

/-- The device whose last read is forgotten, as an access begins. -/
def Dev.forgetRead (d : Dev) : Dev := { d with host := { d.host with readData := [] } }

/-- What the host finds after a read of `n` bytes: those bytes behind what stands there. -/
def Dev.reads (d : Dev) (l : List Byte) : Dev := { d with host := { d.host with readData := d.host.readData ++ l } }

/-- An access that meets no target (R328): a decode error, then a transaction that delivers nothing. -/
def Dev.decodeMiss (d : Dev) (a n : Nat) : Dev := (d.decodeError 7 a).transaction 7 true 3 a n

theorem Dev.decodeMiss_keeps (d : Dev) (a n : Nat) :
    (d.decodeMiss a n).host.decodeErrors = min max32 (d.host.decodeErrors + 1) ∧
      (d.decodeMiss a n).host.readData = d.host.readData ∧ (d.decodeMiss a n).host.out = d.host.out ∧
      (d.decodeMiss a n).log.arising = d.log.arising ++ [d.eventOf 0x1001 0 (leBytes 1 7 ++ leBytes 5 a)] := by
  obtain ⟨host, log⟩ := (d.decodeError 7 a).transaction_keeps 7 true 3 a n
  rw [Dev.decodeMiss, host, log]
  exact d.decodeError_keeps 7 a

theorem State.windowRead_undecoded {s : State} {off : Nat} (n : Nat) (undecoded : s.dev.windowTarget off false = none) :
    s.windowRead off n =
      { s with dev := (s.dev.decodeMiss (s.dev.windowAddress off false).1 n).reads (zeros n) } := by
  simp only [State.windowRead, undecoded, Dev.reads, Dev.decodeMiss]

theorem State.windowRead_sram {s : State} {off a : Nat} (n : Nat) (target : s.dev.windowTarget off false = some (.sram a)) :
    s.windowRead off n = { s with dev := ((s.dev.transaction 7 true 0
      (s.dev.windowAddress off false).1 n).reads ((List.range n).map fun i => s.sramByte (a + i))) } := by
  simp only [State.windowRead, target, State.readTarget, Dev.reads]

theorem State.windowWrite_undecoded {s : State} {off : Nat} (l : List Byte) (undecoded : s.dev.windowTarget off true = none) :
    s.windowWrite off l = { s with dev := s.dev.decodeMiss (s.dev.windowAddress off true).1 l.length } := by
  simp only [State.windowWrite, undecoded, Dev.decodeMiss]

/-- One read transaction of a window. -/
theorem exec_hostWindowAccess_read {s : State} {off n : Nat} (link : s.dev.host.linkUp = true)
    (nonempty : 0 < n) (one : off % 256 + n ≤ 256) (inside : off + n ≤ 2 ^ 32) :
    exec (.hostWindowAccess off (.read n)) s =
      s.runMem fun s => ({ s with dev := s.dev.forgetRead } : State).windowRead off n := by
  show execHostWindowAccess off (.read n) s = _
  rw [execHostWindowAccess, if_neg (by omega)]
  apply State.runMem_congr
  simp [link, transactions_of_one _ nonempty one, Dev.forgetRead]

/-- What a step shows that read through a window, whatever device the read leaves. -/
theorem exec_hostWindowAccess_reads {s : State} {off n : Nat} {d : Dev} (live : s.live = true)
    (link : s.dev.host.linkUp = true) (nonempty : 0 < n) (one : off % 256 + n ≤ 256) (inside : off + n ≤ 2 ^ 32)
    (reads : ({ s with dev := s.dev.forgetRead } : State).windowRead off n = { s with dev := d }) :
    exec (.hostWindowAccess off (.read n)) s = .next (s.settle d) := by
  rw [exec_hostWindowAccess_read link nonempty one inside, State.runMem_eq _ live, reads]
  rfl

/-- One write transaction of a window. -/
theorem exec_hostWindowAccess_write {s : State} {off : Nat} {l : List Byte} (link : s.dev.host.linkUp = true) (nonempty : l ≠ [])
    (one : off % 256 + l.length ≤ 256) (inside : off + l.length ≤ 2 ^ 32) :
    exec (.hostWindowAccess off (.write l)) s = s.runMem fun s => s.windowWrite off l := by
  show execHostWindowAccess off (.write l) s = _
  rw [execHostWindowAccess, if_neg (by omega)]
  apply State.runMem_congr
  simp [link, transactions_of_one _ (List.length_pos_iff.mpr nonempty) one]

/-- Sorting the events of a step loses none. -/
theorem Dev.mem_calm_arising (d : Dev) (n : Nat) (x : Event) :
    x ∈ (d.calm n).log.arising ↔ x ∈ d.log.arising := by
  rw [show (d.calm n).log.arising = d.log.arising.take n ++ sortBy Event.key (d.log.arising.drop n) from rfl,
    List.mem_append, mem_sortBy, ← List.mem_append, List.take_append_drop]

theorem Dev.calm_arising_of_quiet {d : Dev} {n : Nat} (quiet : d.log.arising.length = n) :
    (d.calm n).log.arising = d.log.arising := by
  rw [show (d.calm n).log.arising = d.log.arising.take n ++ sortBy Event.key (d.log.arising.drop n) from rfl]
  simp [← quiet]

/-! ### Bytes of hub SRAM -/

theorem ringOffset_eq_some_iff (a o : Nat) :
    ringOffset a = some o ↔ Config.bar1Base.toNat ≤ a ∧ a < Config.bar1Base.toNat + 0x4_0000 ∧
      o = a - Config.bar1Base.toNat := by
  unfold ringOffset
  generalize Config.bar1Base.toNat = base
  simp only [Bool.and_eq_true, decide_eq_true_eq]
  split
  · rw [Option.some.injEq]; omega
  · simp only [reduceCtorEq, false_iff]; omega

/-- A byte of hub SRAM reads as written, and every other as before. -/
theorem State.sramByte_sramWrite {s : State} (wf : s.memWf = true) (a x : Nat) (b : Byte) :
    (s.sramWrite a b).sramByte x = if x = a then b else s.sramByte x := by
  obtain ⟨mem, bar1⟩ := s.memWf_iff.mp wf
  unfold State.sramWrite State.sramByte
  cases ha : ringOffset a with
  | some o =>
    cases hx : ringOffset x with
    | some p =>
      have same : p = o ↔ x = a := by
        rw [ringOffset_eq_some_iff] at ha hx
        omega
      simp [Memory.read_write _ _ _ _ bar1, same]
    | none =>
      have ne : x ≠ a := by rintro rfl; simp [ha] at hx
      simp [ne]
  | none =>
    cases hx : ringOffset x with
    | some p =>
      have ne : x ≠ a := by rintro rfl; simp [ha] at hx
      simp [ne]
    | none => simp [Memory.read_write _ _ _ _ mem]

/-- Bytes written one after the other at consecutive addresses. -/
theorem State.sramByte_writeTarget {s : State} (wf : s.memWf = true) (a x : Nat) (l : List Byte) :
    (s.writeTarget (.sram a) l).sramByte x = if a ≤ x ∧ x < a + l.length then byteAt l (x - a) else s.sramByte x := by
  have shifted (k : Nat) : ((l.zipIdx k).foldl (fun s x => s.sramWrite (a + x.2) x.1) s).sramByte x =
      if a + k ≤ x ∧ x < a + k + l.length then byteAt l (x - (a + k)) else s.sramByte x := by
    induction l generalizing s k with
    | nil => rw [if_neg (by simp only [List.length_nil]; omega)]; rfl
    | cons b l ih =>
      simp only [List.zipIdx_cons, List.foldl_cons]
      rw [ih (State.sramWrite_keeps_memWf wf _ _), State.sramByte_sramWrite wf]
      rcases Nat.lt_trichotomy x (a + k) with before | rfl | after
      · simp only [List.length_cons]
        rw [if_neg (by omega), if_neg (by omega), if_neg (by omega)]
      · rw [if_neg (by omega), if_pos rfl, if_pos (by simp)]
        simp [byteAt]
      · have place : x - (a + k) = x - (a + (k + 1)) + 1 := by omega
        by_cases inside : x < a + k + 1 + l.length
        · rw [if_pos (by omega), if_pos (by simp; omega), place]
          simp [byteAt]
        · rw [if_neg (by omega), if_neg (by omega), if_neg (by simp; omega)]
  exact shifted 0

/-- A byte outside the rings does not see what is written into them. -/
theorem State.sramByte_congr {s t : State} (mem : t.mem = s.mem) (bar1 : t.bar1 = s.bar1) (x : Nat) :
    t.sramByte x = s.sramByte x := by
  simp only [State.sramByte, mem, bar1]

/-! ### The windows' answers -/

theorem undecoded_read_returns_zeros (s : State) (off n : Nat) (live : s.live = true) (link : s.dev.host.linkUp = true)
    (nonempty : 0 < n) (one : off % 256 + n ≤ 256) (inside : off + n ≤ 2 ^ 32)
    (undecoded : s.dev.windowTarget off false = none) :
    ∃ t, exec (.hostWindowAccess off (.read n)) s = .next t ∧
      t.dev.host.readData = zeros n ∧ t.dev.host.decodeErrors = min 0xFFFF_FFFF (s.dev.host.decodeErrors + 1) ∧
      s.dev.eventOf 0x1001 0 (leBytes 1 7 ++ leBytes 5 (s.dev.windowAddress off false).1) ∈ t.dev.log.arising ∧
      t.mem = s.mem ∧ t.bar1 = s.bar1 := by
  have run : exec (.hostWindowAccess off (.read n)) s =
      .next (s.settle ((s.dev.forgetRead.decodeMiss (s.dev.windowAddress off false).1 n).reads (zeros n))) :=
    exec_hostWindowAccess_reads live link nonempty one inside (State.windowRead_undecoded n undecoded)
  obtain ⟨count, data, out, event⟩ := s.dev.forgetRead.decodeMiss_keeps (s.dev.windowAddress off false).1 n
  generalize s.dev.forgetRead.decodeMiss (s.dev.windowAddress off false).1 n = e at run count data out event
  have reported : s.dev.eventOf 0x1001 0 (leBytes 1 7 ++ leBytes 5 (s.dev.windowAddress off false).1) ∈
      e.log.arising := by
    rw [event]
    exact List.mem_append_right _ (List.mem_singleton.mpr rfl)
  exact ⟨_, run, congrArg (· ++ zeros n) data, count, (Dev.mem_calm_arising ..).mpr reported, rfl,
    State.settle_bar1_of_live live out⟩

theorem sram_read_returns_bytes (s : State) (off n a : Nat) (live : s.live = true) (link : s.dev.host.linkUp = true)
    (nonempty : 0 < n) (one : off % 256 + n ≤ 256) (inside : off + n ≤ 2 ^ 32)
    (target : s.dev.windowTarget off false = some (.sram a)) :
    ∃ t, exec (.hostWindowAccess off (.read n)) s = .next t ∧
      t.dev.host.readData = (List.range n).map (fun i => s.sramByte (a + i)) ∧ s.raisesNone t ∧
      t.mem = s.mem ∧ t.bar1 = s.bar1 := by
  have run := exec_hostWindowAccess_reads live link nonempty one inside
    (State.windowRead_sram (s := { s with dev := s.dev.forgetRead }) n target)
  obtain ⟨host, log⟩ := s.dev.forgetRead.transaction_keeps 7 true 0 (s.dev.windowAddress off false).1 n
  have out := congrArg HostIf.out host
  refine ⟨_, run, ?_, State.raisesNone_settle (congrArg Tephra.arising log), rfl, State.settle_bar1_of_live live out⟩
  exact congrArg (fun h : HostIf => h.readData ++ (List.range n).map fun i => s.sramByte (a + i)) host

theorem undecoded_write_is_reported (s : State) (off : Nat) (l : List Byte) (live : s.live = true)
    (link : s.dev.host.linkUp = true) (nonempty : l ≠ [])
    (one : off % 256 + l.length ≤ 256) (inside : off + l.length ≤ 2 ^ 32) (undecoded : s.dev.windowTarget off true = none) :
    ∃ t, exec (.hostWindowAccess off (.write l)) s = .next t ∧
      s.dev.eventOf 0x1001 0 (leBytes 1 7 ++ leBytes 5 (s.dev.windowAddress off true).1) ∈ t.dev.log.arising ∧
      t.mem = s.mem ∧ t.bar1 = s.bar1 := by
  have run : exec (.hostWindowAccess off (.write l)) s =
      .next (s.settle (s.dev.decodeMiss (s.dev.windowAddress off true).1 l.length)) := by
    rw [exec_hostWindowAccess_write link nonempty one inside, State.runMem_eq _ live,
      State.windowWrite_undecoded l undecoded]
    rfl
  obtain ⟨-, -, out, event⟩ := s.dev.decodeMiss_keeps (s.dev.windowAddress off true).1 l.length
  refine ⟨_, run, (Dev.mem_calm_arising ..).mpr ?_, rfl, State.settle_bar1_of_live live out⟩
  rw [event]
  exact List.mem_append_right _ (List.mem_singleton.mpr rfl)

/-- A write to hub SRAM touches the memories alone. -/
theorem State.writeTarget_sram_dev (s : State) (a : Nat) (l : List Byte) : (s.writeTarget (.sram a) l).dev = s.dev := by
  refine List.foldlRecOn (motive := fun u : State => u.dev = s.dev) _ _ rfl fun u same x _ => ?_
  rw [← same]
  unfold State.sramWrite
  split <;> rfl

theorem sram_write_is_stored (s : State) (off a : Nat) (l : List Byte) (live : s.live = true) (wf : s.memWf = true)
    (link : s.dev.host.linkUp = true) (nonempty : l ≠ [])
    (one : off % 256 + l.length ≤ 256) (inside : off + l.length ≤ 2 ^ 32) (target : s.dev.windowTarget off true = some (.sram a)) :
    ∃ t, exec (.hostWindowAccess off (.write l)) s = .next t ∧
      (∀ x, t.sramByte x = if a ≤ x ∧ x < a + l.length then byteAt l (x - a) else s.sramByte x) ∧ s.raisesNone t := by
  have write : s.windowWrite off l = { s.writeTarget (.sram a) l with
      dev := s.dev.transaction 7 true 1 (s.dev.windowAddress off true).1 l.length } := by
    simp only [State.windowWrite, target, State.writeTarget_sram_dev]
    rfl
  obtain ⟨host, log⟩ := s.dev.transaction_keeps 7 true 1 (s.dev.windowAddress off true).1 l.length
  have out : (s.dev.transaction 7 true 1 (s.dev.windowAddress off true).1 l.length).host.out = [] := by
    rw [host, State.out_of_live live]
  refine ⟨_, by rw [exec_hostWindowAccess_write link nonempty one inside, State.runMem_eq _ live, write], fun x => ?_, ?_⟩
  · rw [← s.sramByte_writeTarget wf]
    exact State.sramByte_congr (by rfl) (by simp only [out]; rfl) x
  · exact Dev.calm_arising_of_quiet (congrArg (fun g : Tephra => g.arising.length) log) |>.trans
      (congrArg Tephra.arising log)

/-! ### Registers that a read or a pop changes (R316, R318) -/

theorem fc_and_lwf_registers_are_read (s : State) (live : s.live = true) (link : s.dev.host.linkUp = true) :
    exec .fcLoRead s = .next { s with dev := { s.dev with host := { s.dev.host with
      fcHi := s.dev.fc / 2 ^ 32 % 2 ^ 32, readData := leBytes 4 (s.dev.fc % 2 ^ 32) } } } ∧
    exec .lwfLostRead s = .next { s with dev := { s.dev with host := { s.dev.host with
      lwfLost := 0, readData := leBytes 4 (s.dev.host.lwf.length + 2 ^ 16 * s.dev.host.lwfLost) } } } ∧
    (∀ value, exec (.lwfPop value) s = .next { s with dev := { s.dev with host := { s.dev.host with
      lwf := if bit value 0 then s.dev.host.lwf.drop 1 else s.dev.host.lwf } } }) := by
  refine ⟨?_, ?_, fun value => ?_⟩
  · show execFcLoRead s = _
    rw [execFcLoRead, State.runIf_quiet live (by simp [link]) rfl rfl]
  · show execLwfLostRead s = _
    rw [execLwfLostRead, State.runIf_quiet live (by simp [link]) rfl rfl, Dev.lwfRegister]
  · show execLwfPop value s = _
    rw [execLwfPop]
    by_cases pop : bit value 0 = true
    · rw [State.runIf_quiet live (by simp [link, pop]) rfl rfl, if_pos pop]
    · rw [State.runIf_not_of_live live (by simp [pop]), if_neg pop]

/-- Settles O48: each register, the doorbell and the windows by its own command. -/
theorem hostRegistersRingsAndWindows : Obligations.host_registers_rings_and_windows := by
  refine ⟨doorbell_takes_effect, announced_command_is_acknowledged, rsp_cons_is_written, fc_and_lwf_registers_are_read,
    bar0_registers_are_written, bar1_is_written, fun s off n live link nonempty one inside => ⟨?_, fun a => ?_⟩,
    fun s off l live wf link nonempty one inside => ⟨?_, fun a => ?_⟩⟩
  · exact undecoded_read_returns_zeros s off n live link nonempty one inside
  · exact sram_read_returns_bytes s off n a live link nonempty one inside
  · exact undecoded_write_is_reported s off l live link nonempty one inside
  · exact sram_write_is_stored s off a l live wf link nonempty one inside

end Sys2Proof.Machine

namespace Sys2Proof.Machine

open Sys2Proof

@[simp] theorem State.settle_cnt (s : State) (d : Dev) : (s.settle d).dev.cnt = d.cnt := rfl

/-! ### Effects of the counter and Geyser commands -/

/-- What the state shows of an answered command of chapter 15: the counters as its effect left them, and its events. -/
theorem State.shows_counters {s : State} {op : Nat} {w : Waiting} {e : Dev} {st : Nat} {pl : List Byte}
    (due : s.effectDue op w = true) (chapter : 0x0C02 ≤ op ∧ op ≤ 0x0C05)
    (applied : applyHigh s.dev w.cmd w.order = some (e, st, pl)) (ends : st ≠ stGoesOn) :
    ∃ t, exec .untimedCommandEffect s = .next t ∧ t.dev.cnt = e.cnt ∧ ∀ x ∈ e.log.arising, x ∈ t.dev.log.arising := by
  have low : applyLow s.dev w.cmd = none := by
    have one : op = 0x0C02 ∨ op = 0x0C03 ∨ op = 0x0C04 ∨ op = 0x0C05 := by omega
    rcases one with rfl | rfl | rfl | rfl <;> simp [applyLow, State.opcode_of_effectDue due]
  exact ⟨_, State.exec_highEffect due low applied ends, Dev.finish_cnt e w st pl, fun x here =>
    (State.mem_settle_arising ..).mpr (Dev.finish_keeps_event here w st pl)⟩

/-! ### CNT_CHAIN_SET (R382, R393) -/

/-- What CNT_CHAIN_SET makes of a pair: unchained, chained, or as after reset. -/
def chainWanted (pair mode : Nat) : Bool := match mode with | 0 => false | 1 => true | _ => chainedAtReset (2 * pair)

theorem Counters.setChain_eq (n : Counters) (pair mode : Nat) : n.setChain pair mode =
    { n with flipped := if chainWanted pair mode = chainedAtReset (2 * pair) then n.flipped.filter fun p => p != pair
      else insertBy id pair (n.flipped.filter fun p => p != pair) } := rfl

theorem Counters.chained_even (n : Counters) (j : Nat) :
    n.chained (2 * j) = (chainedAtReset (2 * j) != decide (j ∈ n.flipped)) := by
  simp [Counters.chained, List.contains_eq_mem]

theorem Counters.setChain_chained (n : Counters) (pair mode j : Nat) :
    (n.setChain pair mode).chained (2 * j) = if j = pair then chainWanted pair mode else n.chained (2 * j) := by
  rw [Counters.chained_even, Counters.chained_even, Counters.setChain_eq]
  by_cases asReset : chainWanted pair mode = chainedAtReset (2 * pair)
  · by_cases own : j = pair
    · subst own
      simp [asReset]
    · simp [asReset, own]
  · by_cases own : j = pair
    · subst own
      have opposite := Bool.eq_not_of_ne asReset
      simp [mem_insertBy, opposite]
    · simp [asReset, own, mem_insertBy]

/-- The named pairs are set one after the other; values, CHAIN_SEQ and filters stay. -/
theorem Counters.setChains (n : Counters) (first mode len : Nat) :
    let x := (List.range len).foldl (fun x i => x.setChain (first + i) mode) n
    x.cells = n.cells ∧ x.chainSeq = n.chainSeq ∧ x.filters = n.filters ∧
      ∀ j, x.chained (2 * j) = if first ≤ j ∧ j < first + len then chainWanted j mode else n.chained (2 * j) := by
  induction len with
  | zero => exact ⟨rfl, rfl, rfl, fun j => by rw [if_neg (by omega)]; rfl⟩
  | succ len ih =>
    obtain ⟨cells, seq, filters, chained⟩ := ih
    simp only [List.range_succ, List.foldl_append, List.foldl_cons, List.foldl_nil, Counters.setChain_chained, chained]
    refine ⟨cells, seq, filters, fun j => ?_⟩
    by_cases last : j = first + len
    · rw [if_pos last, if_pos (by omega), last]
    · rw [if_neg last]
      exact if_congr (by omega) rfl rfl

theorem chainWanted_fallback (j mode : Nat) : chainWanted j (fallback 2 2 mode) =
    if mode = 0 then false else if mode = 1 then true else chainedAtReset (2 * j) := by
  match mode with
  | 0 => rfl
  | 1 => rfl
  | 2 => rfl
  | n + 3 => simp [fallback, chainWanted]

theorem chain_set_takes_effect (s : State) (w : Waiting) (due : s.effectDue 0x0C02 w = true) :
    ∃ t, exec .untimedCommandEffect s = .next t ∧ t.dev.cnt.cells = s.dev.cnt.cells ∧
      t.dev.cnt.chainSeq = (s.dev.cnt.chainSeq + 1) % 2 ^ 32 ∧ t.dev.cnt.filters = s.dev.cnt.filters ∧
      (∀ j, t.dev.cnt.chained (2 * j) =
        (if w.cmd.index / 2 ≤ j ∧ j < w.cmd.index / 2 + min (clamp 1 4_096 (w.cmd.field 2 2)) (12_288 - w.cmd.index / 2) then
          (if w.cmd.field 0 1 = 0 then false else if w.cmd.field 0 1 = 1 then true else chainedAtReset (2 * j))
          else s.dev.cnt.chained (2 * j))) := by
  have applied : applyHigh s.dev w.cmd w.order = some (applyCntChainSet s.dev w.cmd) := by
    simp [applyHigh, State.opcode_of_effectDue due]
  obtain ⟨t, run, cnt, -⟩ := State.shows_counters due (by decide) applied (by decide)
  obtain ⟨cells, seq, filters, chained⟩ := s.dev.cnt.setChains (w.cmd.index / 2) (fallback 2 2 (w.cmd.field 0 1))
    (min (clamp 1 4_096 (w.cmd.field 2 2)) (12_288 - w.cmd.index / 2))
  simp only [chainWanted_fallback] at chained
  refine ⟨t, run, ?_⟩
  rw [cnt]
  exact ⟨cells, congrArg (fun n => (n + 1) % 2 ^ 32) seq, filters, chained⟩

/-! ### CNT_FILTER_SET (R383, R394) -/

theorem filter_set_takes_effect (s : State) (w : Waiting) (due : s.effectDue 0x0C03 w = true) :
    ∃ t, exec .untimedCommandEffect s = .next t ∧ t.dev.cnt.cells = s.dev.cnt.cells ∧
      Tab.get {} t.dev.cnt.filters ((w.cmd.index - 0x4100) / 4) = ({
        masters := w.cmd.field 0 2 % 512, priv := if w.cmd.field 2 1 ≤ 2 then w.cmd.field 2 1 else 0,
        classes := w.cmd.field 3 1 % 16, base := clamp 0 0xFF_FFFF_FFFF (w.cmd.field 8 8),
        limit := clamp 0 0xFF_FFFF_FFFF (w.cmd.field 16 8) } : Filter) ∧
      (∀ k, k ≠ (w.cmd.index - 0x4100) / 4 →
        Tab.get {} t.dev.cnt.filters k = (Tab.get {} s.dev.cnt.filters k : Filter)) := by
  have applied : applyHigh s.dev w.cmd w.order = some (applyCntFilterSet s.dev w.cmd) := by
    simp [applyHigh, State.opcode_of_effectDue due]
  obtain ⟨t, run, cnt, -⟩ := State.shows_counters due (by decide) applied (by decide)
  refine ⟨t, run, ?_⟩
  rw [cnt]
  exact ⟨rfl, Tab.get_set_self .., fun k ne => Tab.get_set_of_ne _ _ _ _ _ ne⟩

/-! ### Cells that count (R382) -/

theorem Counters.tick_own (n : Counters) (c k : Nat) (own : n.chained c = false) :
    Tab.get 0 (n.tick c k).cells c = (Tab.get 0 n.cells c + k) % 2 ^ 32 ∧
      ∀ j, j ≠ c → Tab.get 0 (n.tick c k).cells j = Tab.get 0 n.cells j := by
  rw [Counters.tick, if_neg (by simp [own])]
  exact ⟨Tab.get_set_self .., fun j ne => Tab.get_set_of_ne _ _ _ _ _ ne⟩

theorem Counters.tick_upper (n : Counters) (c k : Nat) (chained : n.chained c = true) (odd : c % 2 = 1) :
    n.tick c k = n := by
  rw [Counters.tick, if_pos chained, if_pos odd]

theorem Counters.tick_chained (n : Counters) (c k : Nat) (chained : n.chained c = true) (even : c % 2 = 0) :
    Tab.get 0 (n.tick c k).cells c + 2 ^ 32 * Tab.get 0 (n.tick c k).cells (c + 1) =
        (Tab.get 0 n.cells c + 2 ^ 32 * Tab.get 0 n.cells (c + 1) + k) % 2 ^ 64 ∧
      ∀ j, j ≠ c → j ≠ c + 1 → Tab.get 0 (n.tick c k).cells j = Tab.get 0 n.cells j := by
  rw [Counters.tick, if_pos chained, if_neg (by omega)]
  refine ⟨?_, fun j lower upper => ?_⟩
  · dsimp only
    rw [Tab.get_set_self, Tab.get_set_of_ne _ _ _ _ _ (by omega), Tab.get_set_self]
    omega
  · dsimp only
    rw [Tab.get_set_of_ne _ _ _ _ _ upper, Tab.get_set_of_ne _ _ _ _ _ lower]

/-- Settles O53: chaining, filters and counting, each by its own lemma. -/
theorem counterSettingsTakeEffect : Obligations.counter_settings_take_effect :=
  ⟨chain_set_takes_effect, fun s w due _ => filter_set_takes_effect s w due,
    fun n c k => ⟨n.tick_own c k, n.tick_upper c k, n.tick_chained c k⟩⟩

/-! ### Snapshots (R389, R391) -/

/-- A latched snapshot holds every cell of its banks. -/
theorem Counters.banks_get (n : Counters) {mask b k : Nat} (bank : b < 7) (enabled : bit mask b = true)
    (low : (bankRange b).1 ≤ k) (high : k < (bankRange b).1 + (bankRange b).2) :
    Tab.get 0 (n.banks mask) k = Tab.get 0 n.cells k := by
  refine Tab.get_filter 0 n.cells (fun k => (banksOf mask).any fun b =>
    (bankRange b).1 ≤ k && k < (bankRange b).1 + (bankRange b).2) k (List.any_eq_true.mpr ⟨b, ?_, by simp [low, high]⟩)
  simp [banksOf, bank, enabled]

/-- The snapshot that a device latches, before it has a DUMP_SEQ. -/
def Dev.freshDump (d : Dev) : Dump :=
  { seq := 0, fc := d.fc, mask := d.cnt.bankMask, gen := d.activeGen, d := d.cnt.interval, chainSeq := d.cnt.chainSeq
    cells := d.cnt.banks d.cnt.bankMask }

theorem cells_are_latched (d : Dev) (enabled : d.cnt.enabled = true) (powered : d.domOn domGeyser = true)
    (posted : d.cnt.slots ≠ 0) (due : (d.fc / 256 + 1) % d.cnt.interval = 0) :
    ∃ x, d.latchCells.cnt.latched = some x ∧ x.fc = d.fc ∧ x.mask = d.cnt.bankMask ∧ x.gen = d.activeGen ∧
      x.d = d.cnt.interval ∧ x.chainSeq = d.cnt.chainSeq ∧
      (∀ b k, b < 7 → bit d.cnt.bankMask b = true → (bankRange b).1 ≤ k → k < (bankRange b).1 + (bankRange b).2 →
        Tab.get 0 x.cells k = Tab.get 0 d.cnt.cells k) ∧
      d.latchCells = { d with cnt := { d.cnt with latched := some x } } := by
  have latched : d.latchCells = { d with cnt := { d.cnt with latched := some d.freshDump } } := by
    simp [Dev.latchCells, enabled, powered, posted, Dev.mfn, due, Dev.freshDump]
  exact ⟨d.freshDump, by rw [latched], rfl, rfl, rfl, rfl, rfl, fun b k => d.cnt.banks_get, latched⟩

/-- A count spares every setting of the counters, and the cells of other pairs. -/
theorem Counters.tick_spares (n : Counters) (c k : Nat) :
    ∃ cells, n.tick c k = { n with cells := cells } ∧
      ∀ j, j / 2 ≠ c / 2 → Tab.get 0 cells j = Tab.get 0 n.cells j := by
  cases chained : n.chained c with
  | false =>
    rw [Counters.tick, if_neg (by simp [chained])]
    exact ⟨_, rfl, fun j ne => Tab.get_set_of_ne _ _ _ _ _ (by rintro rfl; exact ne rfl)⟩
  | true =>
    rcases Nat.mod_two_eq_zero_or_one c with even | odd
    · rw [Counters.tick, if_pos chained, if_neg (by omega)]
      refine ⟨_, rfl, fun j ne => ?_⟩
      rw [Tab.get_set_of_ne _ _ _ _ _ (by omega), Tab.get_set_of_ne _ _ _ _ _ (by omega)]
    · exact ⟨n.cells, n.tick_upper c k chained odd, fun _ _ => rfl⟩

theorem Dev.tick_spares (d : Dev) (c k : Nat) :
    ∃ cells, (d.tick c k).cnt = { d.cnt with cells := cells } ∧
      ∀ j, j / 2 ≠ c / 2 → Tab.get 0 cells j = Tab.get 0 d.cnt.cells j := by
  unfold Dev.tick
  split
  · exact ⟨d.cnt.cells, rfl, fun _ _ => rfl⟩
  · exact d.cnt.tick_spares c k

/-- The device that took a DUMP_SEQ for the snapshot it holds, with room for it in staging. -/
def Dev.stageDump (d : Dev) (x : Dump) : Dev :=
  { d with cnt := { d.cnt with
    dumpSeq := (d.cnt.dumpSeq + 1) % 2 ^ 32, latched := none
    staged := d.cnt.staged ++ [{ x with seq := (d.cnt.dumpSeq + 1) % 2 ^ 32 }] } }

/-- The device that took a DUMP_SEQ for a snapshot that it misses. -/
def Dev.missDump (d : Dev) : Dev :=
  { d with cnt := { d.cnt with dumpSeq := (d.cnt.dumpSeq + 1) % 2 ^ 32, latched := none, missed := d.cnt.missed + 1 } }

theorem Dev.snapshot_of_latched {d : Dev} {x : Dump} (latched : d.cnt.latched = some x) : d.snapshot =
    if d.cnt.staged.length < d.stagingDumps then (d.stageDump x).tick 0x5400 1
    else ((d.missDump.tick 0x5400 1).tick 0x5401 1).raise 0x0C01 0
      (leBytes 4 ((d.cnt.dumpSeq + 1) % 2 ^ 32) ++ leBytes 1 0) := by
  simp only [Dev.snapshot, latched]
  rfl

theorem snapshot_is_taken (s : State) (x : Dump) (live : s.live = true) (latched : s.dev.cnt.latched = some x)
    (posted : s.dev.cnt.slots ≠ 0) :
    ∃ t, exec .geyserSnapshot s = .next t ∧ t.dev.cnt.dumpSeq = (s.dev.cnt.dumpSeq + 1) % 2 ^ 32 ∧
      t.dev.cnt.latched = none ∧ t.dev.snapshotDue = false ∧
      (s.dev.cnt.staged.length < s.dev.stagingDumps →
        t.dev.cnt.staged = s.dev.cnt.staged ++ [{ x with seq := (s.dev.cnt.dumpSeq + 1) % 2 ^ 32 }] ∧ s.raisesNone t) ∧
      (s.dev.stagingDumps ≤ s.dev.cnt.staged.length → t.dev.cnt.staged = s.dev.cnt.staged ∧
        t.dev.cnt.missed = s.dev.cnt.missed + 1 ∧
        s.raisesOne t 0x0C01 0 (leBytes 4 ((s.dev.cnt.dumpSeq + 1) % 2 ^ 32) ++ leBytes 1 0)) ∧
      (∀ k, k / 2 ≠ 0x5400 / 2 → Tab.get 0 t.dev.cnt.cells k = Tab.get 0 s.dev.cnt.cells k) ∧
      t.mem = s.mem ∧ t.bar1 = s.bar1 := by
  have run : exec .geyserSnapshot s = .next (s.settle s.dev.snapshot) :=
    State.runIf_eq s _ _ (State.powered_of_live live) (by simp [Dev.snapshotDue, latched, posted])
  rw [Dev.snapshot_of_latched latched] at run
  by_cases room : s.dev.cnt.staged.length < s.dev.stagingDumps
  · rw [if_pos room] at run
    obtain ⟨cells, taken, others⟩ := (s.dev.stageDump x).tick_spares 0x5400 1
    refine ⟨_, run, ?_⟩
    simp only [State.settle_cnt, Dev.snapshotDue, taken]
    exact ⟨rfl, rfl, rfl, fun _ => ⟨rfl, State.raisesNone_settle (by rw [Dev.tick_log]; rfl)⟩,
      fun full => absurd room (by omega), others, rfl, State.settle_bar1_of_live live (by rw [Dev.tick_host]; rfl)⟩
  · rw [if_neg room] at run
    obtain ⟨first, taken, others⟩ := s.dev.missDump.tick_spares 0x5400 1
    obtain ⟨second, missed, rest⟩ := (s.dev.missDump.tick 0x5400 1).tick_spares 0x5401 1
    rw [taken] at missed rest
    have fc : ((s.dev.missDump.tick 0x5400 1).tick 0x5401 1).fc = s.dev.fc := by simp only [Dev.tick_fc]; rfl
    have log : ((s.dev.missDump.tick 0x5400 1).tick 0x5401 1).log = s.dev.log := by simp only [Dev.tick_log]; rfl
    have host : ((s.dev.missDump.tick 0x5400 1).tick 0x5401 1).host = s.dev.host := by simp only [Dev.tick_host]; rfl
    generalize (s.dev.missDump.tick 0x5400 1).tick 0x5401 1 = e at run missed fc log host
    refine ⟨_, run, ?_⟩
    simp only [State.settle_cnt, Dev.raise_cnt, Dev.snapshotDue, missed]
    exact ⟨rfl, rfl, rfl, fun free => absurd free room,
      fun _ => ⟨rfl, rfl, State.raisesOne_settle_raise fc (congrArg Tephra.arising log) ..⟩,
      fun k ne => (rest k ne).trans (others k ne), rfl,
      State.settle_bar1_of_live live ((Dev.raise_out ..).trans (congrArg HostIf.out host))⟩

/-! ### Delivery (R390, R391) -/

/-- The device whose oldest staged dump stands whole in its slot. -/
def Dev.deliverDump (d : Dev) (x : Dump) (rest : List Dump) : Dev :=
  { d with cnt := { d.cnt with
    staged := rest, missed := 0
    lastDump := some (d.cnt.slotAddress x.seq, dumpBytes x d.pair.index d.cnt.missed) } }

theorem dump_is_written (s : State) (x : Dump) (rest : List Dump) (live : s.live = true)
    (staged : s.dev.cnt.staged = x :: rest) (posted : s.dev.cnt.slots ≠ 0) (ready : s.dev.dmaReady = true) :
    ∃ t, exec .geyserDumpWritten s = .next t ∧
      t.dev.cnt = { s.dev.cnt with
        staged := rest, missed := 0,
        lastDump := some (s.dev.cnt.slotAddress x.seq,
          dumpBytes x s.dev.pair.index s.dev.cnt.missed) } ∧
      s.raisesNone t ∧ t.mem = s.mem ∧ t.bar1 = s.bar1 := by
  have run : exec .geyserDumpWritten s = .next (s.settle ((s.dev.deliverDump x rest).vector 9)) := by
    show execGeyserDumpWritten s = _
    rw [execGeyserDumpWritten, State.runIf_eq s _ _ (State.powered_of_live live) (by simp [staged, posted, ready])]
    simp only [staged, Dev.deliverDump]
  exact ⟨_, run, Dev.vector_cnt _ 9, State.raisesNone_settle (by rw [Dev.vector_log]; rfl), rfl,
    State.settle_bar1_of_live live (HostIf.vector_out ..)⟩

/-- The device whose oldest staged dump was dropped, its slot left without MAGIC. -/
def Dev.dropDump (d : Dev) (x : Dump) (rest : List Dump) : Dev :=
  { d with cnt := { d.cnt with
    staged := rest, missed := d.cnt.missed + 1, lastDump := some (d.cnt.slotAddress x.seq, zeros 4) } }

theorem Dev.dumpFails_of_staged {d : Dev} {x : Dump} {rest : List Dump} (staged : d.cnt.staged = x :: rest) :
    d.dumpFails = (((d.dropDump x rest).tick 0x5402 1).raise 0x0C01 0 (leBytes 4 x.seq ++ leBytes 1 1)).raise 0x1006 0
      (leBytes 1 6 ++ leBytes 2 0 ++ leBytes 8 (d.cnt.slotAddress x.seq)) := by
  simp only [Dev.dumpFails, staged, Dev.dropDump]

theorem dump_transfer_fails (s : State) (x : Dump) (rest : List Dump) (live : s.live = true)
    (staged : s.dev.cnt.staged = x :: rest) (posted : s.dev.cnt.slots ≠ 0) :
    ∃ t, exec (.dmaTransferFailed .geyser) s = .next t ∧ t.dev.cnt.staged = rest ∧
      t.dev.cnt.missed = s.dev.cnt.missed + 1 ∧ t.dev.cnt.lastDump = some (s.dev.cnt.slotAddress x.seq, zeros 4) ∧
      s.dev.eventOf 0x0C01 0 (leBytes 4 x.seq ++ leBytes 1 1) ∈ t.dev.log.arising ∧ t.mem = s.mem ∧ t.bar1 = s.bar1 := by
  have run : exec (.dmaTransferFailed .geyser) s = .next (s.settle s.dev.dumpFails) := by
    show execDmaTransferFailed .geyser s = _
    rw [execDmaTransferFailed, State.run_eq s _ (State.powered_of_live live), if_neg posted]
  rw [Dev.dumpFails_of_staged staged] at run
  obtain ⟨cells, ticked, -⟩ := (s.dev.dropDump x rest).tick_spares 0x5402 1
  have drop : s.dev.Reports (s.dev.dropDump x rest) := .of_eq rfl rfl rfl
  have dropped := drop.trans (.tick _ 0x5402 1)
  generalize (s.dev.dropDump x rest).tick 0x5402 1 = e at run ticked dropped
  have event := dropped.event (code := 0x0C01) (obj := 0) (l := leBytes 4 x.seq ++ leBytes 1 1)
    (.raise _ 0x1006 0 (leBytes 1 6 ++ leBytes 2 0 ++ leBytes 8 (s.dev.cnt.slotAddress x.seq)))
  have out := ((dropped.trans (.raise _ 0x0C01 0 (leBytes 4 x.seq ++ leBytes 1 1))).trans
    (.raise _ 0x1006 0 (leBytes 1 6 ++ leBytes 2 0 ++ leBytes 8 (s.dev.cnt.slotAddress x.seq)))).out
  refine ⟨_, run, ?_⟩
  simp only [State.settle_cnt, Dev.raise_cnt, ticked]
  exact ⟨rfl, rfl, rfl, (State.mem_settle_arising ..).mpr event, rfl, State.settle_bar1_of_live live out⟩

/-! ### GEYSER_SET and GEYSER_POST (R395, R396) -/

/-- A check that refuses names a status of its own, so its command does not go on. -/
theorem refuseIf_status_ends {cond : Bool} {st st' : Nat} {pl : List Byte} (ends : st ≠ stGoesOn)
    (refused : refuseIf cond st = some (st', pl)) : st' ≠ stGoesOn := by
  obtain ⟨-, own⟩ := (refuseIf_eq_some_iff ..).mp refused
  obtain ⟨rfl, -⟩ := Prod.mk.inj own
  exact ends

theorem geyser_set_takes_effect (s : State) (w : Waiting) (due : s.effectDue 0x0C04 w = true) :
    (checkGeyserSet s.dev w.cmd = none → ∃ t, exec .untimedCommandEffect s = .next t ∧
      t.dev.cnt = { s.dev.cnt with
        enabled := if w.cmd.field 0 1 = 0 then false else if w.cmd.field 0 1 = 1 then true else s.dev.cnt.enabled,
        bankMask := w.cmd.field 1 1 % 128, interval := clamp 1 65_535 (w.cmd.field 2 2) }) ∧
    (checkGeyserSet s.dev w.cmd ≠ none → ∃ t, exec .untimedCommandEffect s = .next t ∧ t.dev.cnt = s.dev.cnt) := by
  have applied : applyHigh s.dev w.cmd w.order = some (applyGeyserSet s.dev w.cmd) := by
    simp [applyHigh, State.opcode_of_effectDue due]
  cases check : checkGeyserSet s.dev w.cmd with
  | none =>
    refine ⟨fun _ => ?_, fun refused => absurd rfl refused⟩
    simp only [applyGeyserSet, check, recheck, okWith] at applied
    obtain ⟨t, run, cnt, -⟩ := State.shows_counters due (by decide) applied (by decide)
    refine ⟨t, run, cnt.trans ?_⟩
    match w.cmd.field 0 1 with
    | 0 => rfl
    | 1 => rfl
    | 2 => rfl
    | n + 3 => simp [fallback]
  | some r =>
    refine ⟨nofun, fun _ => ?_⟩
    simp only [applyGeyserSet, check, recheck] at applied
    obtain ⟨t, run, cnt, -⟩ := State.shows_counters due (by decide) applied (refuseIf_status_ends (by decide) check)
    exact ⟨t, run, cnt⟩

theorem geyser_post_takes_effect (s : State) (w : Waiting) (due : s.effectDue 0x0C05 w = true) :
    (checkGeyserPost s.dev w.cmd = none → s.dev.cnt.staged = [] → ∃ t, exec .untimedCommandEffect s = .next t ∧
      t.dev.cnt = { s.dev.cnt with
        base := w.cmd.field 0 8 - w.cmd.field 0 8 % 4_096, slotBytes := postSlotBytes w.cmd,
        slots := if w.cmd.field 12 2 = 0 then 0 else clamp 2 4_096 (w.cmd.field 12 2),
        firstSeq := (s.dev.cnt.dumpSeq + 1) % 2 ^ 32 } ∧
      s.dev.eventOf 0x0C04 0 (leBytes 4 ((s.dev.cnt.dumpSeq + 1) % 2 ^ 32) ++ leBytes 2 (postSlots w.cmd))
        ∈ t.dev.log.arising) ∧
    (checkGeyserPost s.dev w.cmd ≠ none → ∃ t, exec .untimedCommandEffect s = .next t ∧ t.dev.cnt = s.dev.cnt) := by
  have applied : applyHigh s.dev w.cmd w.order = some (applyGeyserPost s.dev w.cmd) := by
    simp [applyHigh, State.opcode_of_effectDue due]
  cases check : checkGeyserPost s.dev w.cmd with
  | none =>
    refine ⟨fun _ unstaged => ?_, fun refused => absurd rfl refused⟩
    simp only [applyGeyserPost, check, recheck, unstaged] at applied
    obtain ⟨t, run, cnt, kept⟩ := State.shows_counters due (by decide) applied (by decide)
    exact ⟨t, run, by simp [cnt, unstaged, postSlots], kept _ (by simp [Dev.eventOf])⟩
  | some r =>
    refine ⟨nofun, fun _ => ?_⟩
    simp only [applyGeyserPost, check, recheck] at applied
    obtain ⟨t, run, cnt, -⟩ := State.shows_counters due (by decide) applied (refuseIf_status_ends (by decide) check)
    exact ⟨t, run, cnt⟩

/-- Settles O52: latching, taking, delivering and the two settings, each by its own lemma. -/
theorem geyserTakesAndDeliversSnapshots : Obligations.geyser_takes_and_delivers_snapshots :=
  ⟨cells_are_latched, snapshot_is_taken, dump_is_written, dump_transfer_fails, geyser_set_takes_effect,
    geyser_post_takes_effect⟩

end Sys2Proof.Machine

namespace Sys2Proof.Machine

open Sys2Proof

/-! ### What a response leaves of the host attachment and the log -/

/-- A response fills one slot of its own mailbox: RSP_PROD and the unread slots change, and no other mailbox. -/
theorem Dev.respond_mbs (d : Dev) (c : Cmd) (st : Nat) (pl : List Byte) (doneFc : Nat) (target : Option Nat)
    (mirrored : Bool) : (d.respond c st pl doneFc target mirrored).host.mbs = Tab.set d.host.mbs c.mb
      { d.mb c.mb with
        rspProd := ((d.mb c.mb).rspProd + 1) % 2 ^ 16
        unread := (d.mb c.mb).unread ++ [(c.seq, c.opcode, target.getD 0 % 2 ^ 32)] } := by
  unfold Dev.respond
  dsimp only
  repeat' split
  all_goals simp [Dev.vector, Dev.setMb]

theorem Dev.respond_grants (d : Dev) (c : Cmd) (st : Nat) (pl : List Byte) (doneFc : Nat) (target : Option Nat)
    (mirrored : Bool) (n : Nat) : ((d.respond c st pl doneFc target mirrored).mb n).grants = (d.mb n).grants := by
  rw [Dev.mb, Dev.respond_mbs, Tab.get_set]
  split
  next own => rw [own]
  next => rfl

theorem Dev.finish_grants (d : Dev) (w : Waiting) (st : Nat) (pl : List Byte) (n : Nat) :
    ((d.finish w st pl).mb n).grants = (d.mb n).grants := by
  unfold Dev.finish
  dsimp only
  split
  · rfl
  · rw [Dev.respond_grants]
    rfl

theorem Dev.answer_arising {st : Nat} (quiet : st ≠ stBadOpcode ∧ st ≠ stDenied ∧ st ≠ stLocked ∧ st ≠ stCancelled)
    (d : Dev) (c : Cmd) (pl : List Byte) : (d.answer c st pl).log.arising = d.log.arising := by
  rw [Dev.answer_log quiet]

/-- A withdrawn command is reported (R361). -/
theorem Dev.answer_cancelled_arising (d : Dev) (c : Cmd) (pl : List Byte) : (d.answer c stCancelled pl).log.arising =
    d.log.arising ++ [d.eventOf 0x0004 (objMailbox c.mb) (leBytes 1 c.mb ++ leBytes 2 c.seq ++ leBytes 2 c.opcode)] := by
  unfold Dev.answer Dev.respond
  dsimp only
  rw [if_neg (by decide), if_pos rfl, Dev.raise_arising]
  split <;> rfl

theorem HostIf.vector_wins (h : HostIf) (v : Nat) : (h.vector v).wins = h.wins := by
  unfold HostIf.vector
  repeat' split
  all_goals rfl

theorem Dev.raise_wins (d : Dev) (code obj : Nat) (l : List Byte) : (d.raise code obj l).host.wins = d.host.wins := by
  obtain ⟨fatal, pair, pba, sent, signals⟩ := Dev.raise_signals d code obj l
  rw [signals]

theorem Dev.answer_wins (d : Dev) (c : Cmd) (st : Nat) (pl : List Byte) :
    (d.answer c st pl).host.wins = d.host.wins := by
  unfold Dev.answer Dev.respond
  dsimp only
  repeat' split
  all_goals simp [Dev.vector, Dev.setMb, Dev.raise_wins, HostIf.vector_wins]

/-! ### SYS_CANCEL (R324, R357) -/

section Cancel
variable {d : Dev} {c : Cmd}

theorem Dev.cancel_own (own : c.index = c.mb ∧ c.field 0 2 = c.seq) : d.cancel c = d.answer c stConstraint [] := by
  simp [Dev.cancel, own]

theorem Dev.cancel_queued {q : Cmd} (other : ¬(c.index = c.mb ∧ c.field 0 2 = c.seq))
    (queued : d.host.queue.find? (fun q => q.mb == c.index && q.seq == c.field 0 2) = some q) :
    d.cancel c = ((d.unqueue q).answer q stCancelled []).answer c stOk (cancelResponse q.opcode 0 0) := by
  simp only [Dev.cancel, queued]
  rw [if_neg (by simpa using other)]

theorem Dev.cancel_taken {w : Waiting} (other : ¬(c.index = c.mb ∧ c.field 0 2 = c.seq))
    (unqueued : d.host.queue.find? (fun q => q.mb == c.index && q.seq == c.field 0 2) = none)
    (waits : d.host.waiting.find? (fun w => w.cmd.mb == c.index && w.cmd.seq == c.field 0 2 && !w.fromTwin) = some w)
    (taken : d.taken w = true) :
    d.cancel c = d.answer c stTooLate (cancelResponse w.cmd.opcode 1 (w.target.getD 0 % 2 ^ 32)) := by
  simp only [Dev.cancel, unqueued, waits, taken, if_true]
  rw [if_neg (by simpa using other)]

/-- A waiting command goes with what it started: its mirror, its handover, its swap or its activation. -/
def Dev.dropWaiting (d : Dev) (c : Cmd) (w : Waiting) : Dev :=
  let d := (d.unhold w.order).answer w.cmd stCancelled []
  { d with
    pair := { d.pair with
      unacked := d.pair.unacked.filter fun e => !(e.mb == c.index && e.seq == c.field 0 2)
      cancelTx := d.pair.cancelTx ++ w.mirror.toList
      handover := if w.cmd.opcode = 0x0904 || w.cmd.opcode = 0x0905 then none else d.pair.handover }
    sched := if w.cmd.opcode = 0x0203 then { d.sched with swap := none } else d.sched
    pwr := if w.cmd.opcode = 0x0011 || w.cmd.opcode = 0x0012 then { d.pwr with activation := none } else d.pwr }

theorem Dev.dropWaiting_keeps (d : Dev) (c : Cmd) (w : Waiting) :
    (d.dropWaiting c w).host = ((d.unhold w.order).answer w.cmd stCancelled []).host ∧
      (d.dropWaiting c w).log = ((d.unhold w.order).answer w.cmd stCancelled []).log ∧
      (d.dropWaiting c w).fc = d.fc ∧ (w.cmd.opcode = 0x0203 → (d.dropWaiting c w).sched.swap = none) :=
  ⟨rfl, rfl, Dev.answer_fc (d.unhold w.order) .., fun swap => by simp only [Dev.dropWaiting, if_pos swap]⟩

theorem Dev.cancel_waiting {w : Waiting} (other : ¬(c.index = c.mb ∧ c.field 0 2 = c.seq))
    (unqueued : d.host.queue.find? (fun q => q.mb == c.index && q.seq == c.field 0 2) = none)
    (waits : d.host.waiting.find? (fun w => w.cmd.mb == c.index && w.cmd.seq == c.field 0 2 && !w.fromTwin) = some w)
    (free : d.taken w = false) :
    d.cancel c = (d.dropWaiting c w).answer c stOk (cancelResponse w.cmd.opcode 0 (w.target.getD 0 % 2 ^ 32)) := by
  simp only [Dev.cancel, unqueued, waits, free, Dev.dropWaiting]
  rw [if_neg (by simpa using other)]
  rfl

theorem Dev.cancel_unknown (other : ¬(c.index = c.mb ∧ c.field 0 2 = c.seq))
    (unqueued : d.host.queue.find? (fun q => q.mb == c.index && q.seq == c.field 0 2) = none)
    (gone : ∀ w ∈ d.host.waiting, ¬(w.cmd.mb = c.index ∧ w.cmd.seq = c.field 0 2))
    (read : ∀ u ∈ (d.mb c.index).unread, u.1 ≠ c.field 0 2) : d.cancel c = d.answer c stNoObject [] := by
  have waits : d.host.waiting.find? (fun w => w.cmd.mb == c.index && w.cmd.seq == c.field 0 2 && !w.fromTwin) = none :=
    List.find?_eq_none.mpr fun w m h => gone w m (by
      simp only [Bool.and_eq_true, beq_iff_eq] at h
      exact h.1)
  have unread : (d.mb c.index).unread.find? (fun u => u.1 == c.field 0 2) = none :=
    List.find?_eq_none.mpr fun u m h => read u m (by simpa using h)
  simp only [Dev.cancel, unqueued, waits, unread]
  rw [if_neg (by simpa using other)]

end Cancel

@[simp] theorem State.settle_queue (s : State) (d : Dev) : (s.settle d).dev.host.queue = d.host.queue := rfl

theorem exec_sysCancel {s : State} {core : Nat} {c : Cmd} (offered : s.dev.offers core 0x0003 c = true) :
    exec (.sysCancel core) s = .next (s.settle ((s.dev.unqueue c).cancel c)) :=
  State.exec_accepted (i := .sysCancel core) (check := fun _ _ => none) (accept := fun e _ c => e.cancel c) rfl offered rfl

/-- A cancel that withdraws nothing is answered, and nothing but the host attachment and the log changes. -/
theorem cancel_is_answered {s : State} {core : Nat} {c : Cmd} {st : Nat} {pl : List Byte} (done : s.handedOver = true)
    (offered : s.dev.offers core 0x0003 c = true) (answer : (s.dev.unqueue c).cancel c = (s.dev.unqueue c).answer c st pl) :
    ∃ t, exec (.sysCancel core) s = .next t ∧ s.answers t c st pl ∧
      t.dev = { s.dev with host := t.dev.host, log := t.dev.log } ∧ t.dev.host.waiting = s.dev.host.waiting := by
  refine ⟨_, exec_sysCancel offered, ?_⟩
  rw [answer]
  refine ⟨s.answers_of_answer c st pl done, (s.dev.unqueue_answer_spares c st pl).settled, ?_⟩
  rw [State.settle_waiting, Dev.answer_waiting]
  rfl

theorem queued_command_is_withdrawn (s : State) (core : Nat) (c q : Cmd) (offered : s.dev.offers core 0x0003 c = true)
    (other : ¬(c.index = c.mb ∧ c.field 0 2 = c.seq))
    (queued : (s.dev.host.queue.erase c).find? (fun q => q.mb == c.index && q.seq == c.field 0 2) = some q) :
    ∃ t, exec (.sysCancel core) s = .next t ∧ t.dev.host.queue = (s.dev.host.queue.erase c).erase q ∧
      s.raisesOne t 0x0004 (objMailbox q.mb) (leBytes 1 q.mb ++ leBytes 2 q.seq ++ leBytes 2 q.opcode) ∧
      t.dev.host.waiting = s.dev.host.waiting ∧
      t.dev = { s.dev with host := t.dev.host, log := t.dev.log } ∧ t.mem = s.mem := by
  have run := exec_sysCancel offered
  rw [Dev.cancel_queued (d := s.dev.unqueue c) other queued] at run
  have spares := (((Dev.SparesUnits.unqueue s.dev c).trans (.unqueue _ q)).trans (.answer _ q stCancelled [])).trans
    (.answer _ c stOk (cancelResponse q.opcode 0 0))
  refine ⟨_, run, ?_, State.settle_arising_one _ _ _ ?_, ?_, spares.settled, rfl⟩
  · rw [State.settle_queue, Dev.answer_queue, Dev.answer_queue]
    rfl
  · rw [Dev.answer_arising (by decide), Dev.answer_cancelled_arising]
    rfl
  · rw [State.settle_waiting, Dev.answer_waiting, Dev.answer_waiting]
    rfl

theorem waiting_command_is_withdrawn (s : State) (core : Nat) (c : Cmd) (w : Waiting)
    (offered : s.dev.offers core 0x0003 c = true) (other : ¬(c.index = c.mb ∧ c.field 0 2 = c.seq))
    (unqueued : (s.dev.host.queue.erase c).find? (fun q => q.mb == c.index && q.seq == c.field 0 2) = none)
    (waits : s.dev.host.waiting.find? (fun w => w.cmd.mb == c.index && w.cmd.seq == c.field 0 2 && !w.fromTwin) = some w)
    (free : s.dev.taken w = false) :
    ∃ t, exec (.sysCancel core) s = .next t ∧
      t.dev.host.waiting = s.dev.host.waiting.filter (fun v => v.order != w.order) ∧
      s.raisesOne t 0x0004 (objMailbox w.cmd.mb)
        (leBytes 1 w.cmd.mb ++ leBytes 2 w.cmd.seq ++ leBytes 2 w.cmd.opcode) ∧
      t.dev.host.queue = s.dev.host.queue.erase c ∧
      (w.cmd.opcode = 0x0203 → t.dev.sched.swap = none) ∧ t.dev.fc = s.dev.fc ∧ t.mem = s.mem := by
  have run := exec_sysCancel offered
  rw [Dev.cancel_waiting (d := s.dev.unqueue c) other unqueued waits free] at run
  obtain ⟨host, log, fc, swapped⟩ := (s.dev.unqueue c).dropWaiting_keeps c w
  refine ⟨_, run, ?_, State.settle_arising_one _ _ _ ?_, ?_, fun swap => ?_, ?_, rfl⟩
  · rw [State.settle_waiting, Dev.answer_waiting, host, Dev.answer_waiting]
    rfl
  · rw [Dev.answer_arising (by decide), log, Dev.answer_cancelled_arising]
    rfl
  · rw [State.settle_queue, Dev.answer_queue, host, Dev.answer_queue]
    rfl
  · rw [State.settle_sched, Dev.answer_sched, swapped swap]
  · rw [State.settle_fc, Dev.answer_fc, fc]
    rfl

/-! ### SYS_WINDOW_SET (R360) -/

/-- The device whose window stands as SYS_WINDOW_SET writes it. -/
def Dev.putWindow (d : Dev) (c : Cmd) : Dev :=
  { d with host := { d.host with wins := Tab.set d.host.wins (c.field 0 1) (windowOf c) } }

/-- What the event of SYS_WINDOW_SET carries. -/
def windowNote (c : Cmd) : List Byte :=
  leBytes 1 (c.field 0 1) ++ leBytes 1 (b2n (windowOf c).enabled + 2 * b2n (windowOf c).readOnly) ++
    leBytes 8 (windowOf c).base

@[simp] theorem State.settle_wins (s : State) (d : Dev) : (s.settle d).dev.host.wins = d.host.wins := rfl

theorem unknown_window_is_refused (s : State) (core : Nat) (c : Cmd) (done : s.handedOver = true)
    (offered : s.dev.offers core 0x0006 c = true) (unknown : 8 ≤ c.field 0 1) :
    ∃ t, exec (.sysWindowSet core) s = .next t ∧ s.answers t c stNoObject [] ∧ t.dev.host.wins = s.dev.host.wins := by
  obtain ⟨fronts, opcode, passes⟩ := Dev.fronts_of_offers offered
  have refused : s.dev.serve core [0x0006] (fun _ c => refuseIf (8 ≤ c.field 0 1) stNoObject)
      (fun e _ c => e.setWindow c) = (s.dev.unqueue c).answer c stNoObject [] :=
    fronts.serve_rejected (by simp [opcode]) passes (by simp [refuseIf, refuse, unknown])
  have run : exec (.sysWindowSet core) s = .next (s.settle ((s.dev.unqueue c).answer c stNoObject [])) := by
    show execSysWindowSet core s = _
    rw [execSysWindowSet, State.run_eq s _ fronts.powered, refused]
  refine ⟨_, run, s.answers_of_answer c stNoObject [] done, ?_⟩
  rw [State.settle_wins, Dev.answer_wins]
  rfl

theorem window_is_set (s : State) (core : Nat) (c : Cmd) (done : s.handedOver = true)
    (offered : s.dev.offers core 0x0006 c = true) (known : c.field 0 1 < 8) :
    ∃ t, exec (.sysWindowSet core) s = .next t ∧ ∃ x, s.answers t c stOk (windowBytes (c.field 0 1) x) ∧
      x = ({
        base := clamp 0 0xFF_E000_0000 (c.field 8 8) - clamp 0 0xFF_E000_0000 (c.field 8 8) % 2 ^ 20,
        enabled := bit (c.field 1 1) 0, readOnly := bit (c.field 1 1) 1 } : Window) ∧
      Tab.get {} t.dev.host.wins (c.field 0 1) = x ∧
      (∀ k, k ≠ c.field 0 1 → Tab.get {} t.dev.host.wins k = (Tab.get {} s.dev.host.wins k : Window)) ∧
      t.dev = { s.dev with host := t.dev.host, log := t.dev.log } := by
  have run : exec (.sysWindowSet core) s = .next (s.settle ((s.dev.unqueue c).setWindow c)) :=
    State.exec_accepted (i := .sysWindowSet core) (check := fun _ c => refuseIf (8 ≤ c.field 0 1) stNoObject)
      (accept := fun e _ c => e.setWindow c) rfl offered (by simp [refuseIf, known])
  obtain ⟨e, raised⟩ : ∃ e, e = ((s.dev.unqueue c).putWindow c).raise 0x0003 0 (windowNote c) := ⟨_, rfl⟩
  have set : (s.dev.unqueue c).setWindow c = e.answer c stOk (windowBytes (c.field 0 1) (windowOf c)) := by
    rw [raised]
    rfl
  have wins : e.host.wins = Tab.set s.dev.host.wins (c.field 0 1) (windowOf c) := by
    rw [raised, Dev.raise_wins]
    rfl
  have put : s.dev.SparesUnits ((s.dev.unqueue c).putWindow c) := ⟨_, _, rfl⟩
  have spares : s.dev.SparesUnits e := raised ▸ put.trans (.raise ..)
  rw [set] at run
  refine ⟨_, run, windowOf c, ?_, rfl, ?_, fun k ne => ?_, (spares.trans (.answer ..)).settled⟩
  · refine State.answers_of_answer_after done ?_ ?_ ?_ ?_ _ _
    · rw [raised, Dev.raise_fc]; rfl
    · rw [raised, Dev.raise_mbs]; rfl
    · rw [raised, Dev.raise_out]; rfl
    · rw [raised, Dev.raise_queue]; rfl
  · rw [State.settle_wins, Dev.answer_wins, wins, Tab.get_set_self]
  · rw [State.settle_wins, Dev.answer_wins, wins, Tab.get_set_of_ne _ _ _ _ _ ne]

/-! ### SYS_MBX_GRANT (R359) -/

/-- The entries of a mailbox after an operation of SYS_MBX_GRANT. -/
def grantsAfter (op : Nat) (g : Grant) (l : List Grant) : List Grant :=
  if op = 1 then (if g ∈ l then l else l ++ [g]) else if op = 2 then l.erase g else if op = 3 then [] else l

theorem grantsAfter_grantOp (c : Cmd) (g : Grant) (l : List Grant) :
    grantsAfter (grantOp c) g l = grantsAfter (c.field 0 1) g l := by
  unfold grantOp fallback
  split
  · rfl
  · unfold grantsAfter
    rw [if_neg (by omega), if_neg (by omega), if_neg (by omega), if_neg (by omega), if_neg (by omega), if_neg (by omega)]

theorem applySysMbxGrant_grants (d : Dev) (c : Cmd) (passes : checkSysMbxGrant d c = none) :
    ∃ e pl, applySysMbxGrant d c = (e, stOk, pl) ∧
      (e.mb c.index).grants = grantsAfter (c.field 0 1) (grantOf c) (d.mb c.index).grants ∧
      ∀ n, n ≠ c.index → e.mb n = d.mb n := by
  have stored (d : Dev) (m : Mailbox) (data : List Byte) (same : Prop) [Decidable same] (n : Nat) :
      (if same then d.setMb c.index m else (d.setMb c.index m).raise 0x0002 (objMailbox c.index) data).mb n =
        if n = c.index then m else d.mb n := by
    split
    · exact Dev.setMb_mb ..
    · rw [Dev.raise_mb, Dev.setMb_mb]
  refine ⟨_, _, by simp only [applySysMbxGrant, passes, recheck]; rfl, ?_, fun n ne => ?_⟩
  · rw [stored, if_pos rfl, ← grantsAfter_grantOp]
    have code : grantOp c = 0 ∨ grantOp c = 1 ∨ grantOp c = 2 ∨ grantOp c = 3 := by
      unfold grantOp fallback
      split <;> omega
    rcases code with op | op | op | op <;> simp [op, grantsAfter]
  · rw [stored, if_neg ne]

theorem grants_are_set (s : State) (w : Waiting) (due : s.effectDue 0x0005 w = true)
    (passes : checkSysMbxGrant s.dev w.cmd = none) :
    ∃ t, exec .untimedCommandEffect s = .next t ∧
      (t.dev.mb w.cmd.index).grants = grantsAfter (w.cmd.field 0 1) (grantOf w.cmd) (s.dev.mb w.cmd.index).grants ∧
      (∀ n, n ≠ w.cmd.index → (t.dev.mb n).grants = (s.dev.mb n).grants) ∧ t.mem = s.mem := by
  obtain ⟨e, pl, effect, own, others⟩ := applySysMbxGrant_grants s.dev w.cmd passes
  have applied : applyLow s.dev w.cmd = some (e, stOk, pl) := by
    simp [applyLow, State.opcode_of_effectDue due, effect]
  refine ⟨_, State.exec_effect due applied (by decide), ?_, fun n ne => ?_, rfl⟩
  · rw [State.settle_mb, Dev.finish_grants, own]
  · rw [State.settle_mb, Dev.finish_grants, others n ne]

/-- Settles O50: the ways a cancel ends, the window and the grants, each by its own lemma. -/
theorem systemCommandsTakeEffect : Obligations.system_commands_take_effect := by
  refine ⟨fun s core c done offered => ⟨fun own seq => ?_, fun other => ⟨fun q => ?_, fun unqueued =>
    ⟨fun w waits => ⟨fun taken => ?_, ?_⟩, fun gone read => ?_⟩⟩⟩, fun s core c done offered => ⟨fun unknown => ?_, ?_⟩,
    grants_are_set⟩
  · obtain ⟨t, run, answers, dev, -⟩ := cancel_is_answered done offered (Dev.cancel_own ⟨own, seq⟩)
    exact ⟨t, run, answers, dev⟩
  · exact queued_command_is_withdrawn s core c q offered other
  · exact cancel_is_answered done offered (Dev.cancel_taken other unqueued waits taken)
  · exact waiting_command_is_withdrawn s core c w offered other unqueued waits
  · obtain ⟨t, run, answers, dev, -⟩ := cancel_is_answered done offered (Dev.cancel_unknown other unqueued gone read)
    exact ⟨t, run, answers, dev⟩
  · exact unknown_window_is_refused s core c done offered unknown
  · exact window_is_set s core c done offered

end Sys2Proof.Machine

namespace Sys2Proof.Machine

open Sys2Proof

/-! ### What the state shows of a command of chapter 18 -/

theorem Dev.respond_log {st : Nat} (quiet : st ≠ stBadOpcode ∧ st ≠ stDenied ∧ st ≠ stLocked ∧ st ≠ stCancelled)
    (d : Dev) (c : Cmd) (pl : List Byte) (doneFc : Nat) (target : Option Nat) (mirrored : Bool) :
    (d.respond c st pl doneFc target mirrored).log = d.log := by
  obtain ⟨opcode, denied, locked, cancelled⟩ := quiet
  unfold Dev.respond
  dsimp only
  rw [if_neg (by simp [opcode, denied, locked]), if_neg cancelled]
  split <;> rfl

theorem Dev.finish_log {st : Nat} (quiet : st ≠ stBadOpcode ∧ st ≠ stDenied ∧ st ≠ stLocked ∧ st ≠ stCancelled)
    (d : Dev) (w : Waiting) (pl : List Byte) : (d.finish w st pl).log = d.log := by
  unfold Dev.finish
  dsimp only
  split
  · rfl
  · rw [Dev.respond_log quiet]
    rfl

@[simp] theorem State.settle_svc (s : State) (d : Dev) : (s.settle d).dev.svc = d.svc := rfl

@[simp] theorem State.settle_sinter (s : State) (d : Dev) : (s.settle d).dev.sinter = d.sinter := rfl

/-- Events that stood when a command was answered stand after the step. -/
theorem State.event_of_finish {s : State} {e : Dev} {x : Event} (here : x ∈ e.log.arising) (w : Waiting) (st : Nat)
    (pl : List Byte) : x ∈ (s.settle (e.finish w st pl)).dev.log.arising :=
  (State.mem_settle_arising ..).mpr (Dev.finish_keeps_event here w st pl)

theorem State.raisesNone_of_finish {s : State} {e : Dev} (log : e.log.arising = s.dev.log.arising) (w : Waiting)
    (pl : List Byte) : s.raisesNone (s.settle (e.finish w stOk pl)) :=
  State.raisesNone_settle (by rw [Dev.finish_log (by decide), log])

/-- A command of the field lock that is due takes effect (R463 to R465). -/
theorem State.exec_lockEffect {s : State} {op : Nat} {w : Waiting} {e : Dev} {st : Nat} {pl : List Byte}
    (due : s.effectDue op w = true) (chapter : 0x0F10 ≤ op ∧ op ≤ 0x0F14)
    (applied : applyHigh s.dev w.cmd w.order = some (e, st, pl)) (ends : st ≠ stGoesOn) :
    exec .untimedCommandEffect s = .next (s.settle (e.finish w st pl)) := by
  have low : applyLow s.dev w.cmd = none := by
    have one : op = 0x0F10 ∨ op = 0x0F11 ∨ op = 0x0F12 ∨ op = 0x0F13 ∨ op = 0x0F14 := by omega
    rcases one with rfl | rfl | rfl | rfl | rfl <;> simp [applyLow, State.opcode_of_effectDue due]
  exact State.exec_highEffect due low applied ends

theorem nonce_is_drawn (s : State) (w : Waiting) (due : s.effectDue 0x0F10 w = true) :
    ∃ t, exec .untimedCommandEffect s = .next t ∧
      t.dev.svc.lock = { s.dev.svc.lock with nonce := some (Config.freeValue s.dev.free).toNat, nonceMfn := s.dev.mfn } ∧
      t.dev.free = s.dev.free + 1 ∧ t.dev.sinter = s.dev.sinter ∧ t.mem = s.mem := by
  have applied : applyHigh s.dev w.cmd w.order = some (applyLockChallenge s.dev w.cmd) := by
    simp [applyHigh, State.opcode_of_effectDue due]
  refine ⟨_, State.exec_lockEffect due (by decide) applied (by decide), ?_, ?_, ?_, rfl⟩
  · rw [State.settle_svc, Dev.finish_svc]
    rfl
  · exact Dev.finish_free ..
  · rw [State.settle_sinter, Dev.finish_sinter]
    rfl

/-! ### Attempts (R453, R454) -/

@[simp] theorem Dev.setLock_sinter (d : Dev) (l : Lock) : (d.setLock l).sinter = d.sinter := rfl
@[simp] theorem Dev.setLock_lock (d : Dev) (l : Lock) : (d.setLock l).svc.lock = l := rfl
@[simp] theorem Dev.sinterPut_svc (d : Dev) (w v : Nat) : (d.sinterPut w v).svc = d.svc := rfl

/-- A session opens, or starts again (R454). -/
theorem Dev.openSession_eq (d : Dev) (method : Nat) : d.openSession method =
    let e := (if d.fails = 0 then d else d.sinterPut 129 0).setLock
      { d.svc.lock with session := some (d.mfn + 96_768_000) }
    if d.svc.lock.session.isNone then e.raise 0x0F03 0 (leBytes 1 method) else e := by
  unfold Dev.openSession
  by_cases zero : d.fails = 0
  · simp only [if_pos zero]
  · simp only [if_neg zero]
    rfl

theorem Dev.openSession_lock (d : Dev) (method : Nat) :
    (d.openSession method).svc.lock = { d.svc.lock with session := some (d.mfn + 96_768_000) } := by
  rw [Dev.openSession_eq]
  dsimp only
  split <;> simp

theorem Dev.openSession_sinter (d : Dev) (method : Nat) : (d.openSession method).sinter =
    if d.fails = 0 then d.sinter else d.sinter.put { word := 129, width := 0, value := 0 } := by
  rw [Dev.openSession_eq]
  dsimp only
  split <;> split <;> rfl

theorem Dev.openSession_event {d : Dev} (fresh : d.svc.lock.session = none) (method : Nat) :
    d.eventOf 0x0F03 0 (leBytes 1 method) ∈ (d.openSession method).log.arising := by
  rw [Dev.openSession_eq, fresh]
  dsimp only [Option.isNone_none]
  rw [if_pos rfl, Dev.raise_arising]
  refine List.mem_append_right _ (List.mem_singleton.mpr ?_)
  split <;> rfl

/-- FAILS after one more failed attempt. -/
def Dev.failsNext (d : Dev) : Nat := min 0xFFFF (d.fails + 1)

theorem Dev.failAttempt_lock (d : Dev) :
    d.failAttempt.svc.lock = { d.svc.lock with backoffEnd := some (d.mfn + backoffMf d.failsNext) } := rfl

theorem Dev.failAttempt_sinter (d : Dev) :
    d.failAttempt.sinter = d.sinter.put { word := 129, width := 0, value := d.failsNext } := rfl

theorem Dev.failAttempt_event (d : Dev) :
    d.eventOf 0x0F04 0 (leBytes 2 d.failsNext ++ leBytes 4 (backoffMf d.failsNext)) ∈ d.failAttempt.log.arising :=
  List.mem_append_right _ (List.mem_singleton.mpr rfl)

/-- What an attempt leaves, whatever of the lock but its session changed before it. -/
theorem attempt_takes_effect {s : State} {op method : Nat} {w : Waiting} {d : Dev} (good : Bool)
    (due : s.effectDue op w = true) (chapter : 0x0F10 ≤ op ∧ op ≤ 0x0F14)
    (applied : applyHigh s.dev w.cmd w.order = some (d.attempt good method)) (fc : d.fc = s.dev.fc)
    (sinter : d.sinter = s.dev.sinter) (session : d.svc.lock.session = s.dev.svc.lock.session) :
    ∃ t, exec .untimedCommandEffect s = .next t ∧ t.mem = s.mem ∧ t.dev.svc.lock.nonce = d.svc.lock.nonce ∧
      (good = true → t.dev.svc.lock.session = some (s.dev.mfn + 96_768_000) ∧
        t.dev.sinter = (if s.dev.fails = 0 then s.dev.sinter else s.dev.sinter.put { word := 129, width := 0, value := 0 }) ∧
        (s.dev.svc.lock.session = none → s.dev.eventOf 0x0F03 0 (leBytes 1 method) ∈ t.dev.log.arising)) ∧
      (good = false → t.dev.svc.lock.session = s.dev.svc.lock.session ∧
        t.dev.svc.lock.backoffEnd = some (s.dev.mfn + backoffMf s.dev.failsNext) ∧
        t.dev.sinter = s.dev.sinter.put { word := 129, width := 0, value := s.dev.failsNext } ∧
        s.dev.eventOf 0x0F04 0 (leBytes 2 s.dev.failsNext ++ leBytes 4 (backoffMf s.dev.failsNext)) ∈
          t.dev.log.arising) := by
  have mfn : d.mfn = s.dev.mfn := by rw [Dev.mfn, fc, Dev.mfn]
  have fails : d.fails = s.dev.fails := by rw [Dev.fails, sinter, Dev.fails]
  have next : d.failsNext = s.dev.failsNext := by rw [Dev.failsNext, fails, Dev.failsNext]
  have same (code : Nat) (l : List Byte) : s.dev.eventOf code 0 l = d.eventOf code 0 l := by simp [Dev.eventOf, fc]
  cases good with
  | true =>
    rw [Dev.attempt, if_pos rfl] at applied
    refine ⟨_, State.exec_lockEffect due chapter applied (by decide), rfl, ?_, fun _ => ⟨?_, ?_, fun fresh => ?_⟩, nofun⟩
    · rw [State.settle_svc, Dev.finish_svc, Dev.openSession_lock]
    · rw [State.settle_svc, Dev.finish_svc, Dev.openSession_lock, mfn]
    · rw [State.settle_sinter, Dev.finish_sinter, Dev.openSession_sinter, fails, sinter]
    · rw [same]
      exact State.event_of_finish (Dev.openSession_event (session.trans fresh) method) ..
  | false =>
    rw [Dev.attempt, if_neg (by decide)] at applied
    refine ⟨_, State.exec_lockEffect due chapter applied (by decide), rfl, ?_, nofun, fun _ => ⟨?_, ?_, ?_, ?_⟩⟩
    · rw [State.settle_svc, Dev.finish_svc, Dev.failAttempt_lock]
    · rw [State.settle_svc, Dev.finish_svc, Dev.failAttempt_lock, session]
    · rw [State.settle_svc, Dev.finish_svc, Dev.failAttempt_lock, mfn, next]
    · rw [State.settle_sinter, Dev.finish_sinter, Dev.failAttempt_sinter, sinter, next]
    · rw [same, ← next]
      exact State.event_of_finish d.failAttempt_event ..

/-- The response in `c` answers the nonce that is valid (R452). -/
def Dev.responseGood (d : Dev) (c : Cmd) : Bool :=
  match d.svc.lock.validNonce d.mfn with
  | some v =>
    (beBytes 32 (Config.hmac (leBytes 16 v ++ leBytes 8 Config.unitId.toNat)).toNat).take 16 == sliceAt c.payload 0 16
  | none => false

theorem Lock.validNonce_eq_some_iff (l : Lock) (mfn v : Nat) :
    l.validNonce mfn = some v ↔ l.nonce = some v ∧ mfn < l.nonceMfn + 201_600 := by
  unfold Lock.validNonce
  split
  next n nonce =>
    rw [nonce]
    split
    next valid => simp [valid]
    next stale => simp [stale]
  next nonce => simp [nonce]

theorem Dev.responseGood_iff (d : Dev) (c : Cmd) : d.responseGood c = true ↔ ∃ v, d.svc.lock.nonce = some v ∧
    d.mfn < d.svc.lock.nonceMfn + 201_600 ∧
    (beBytes 32 (Config.hmac (leBytes 16 v ++ leBytes 8 Config.unitId.toNat)).toNat).take 16 = sliceAt c.payload 0 16 := by
  unfold Dev.responseGood
  constructor
  · intro good
    split at good
    next v valid =>
      obtain ⟨nonce, fresh⟩ := (Lock.validNonce_eq_some_iff ..).mp valid
      exact ⟨v, nonce, fresh, by simpa using good⟩
    next => exact absurd good (by decide)
  · rintro ⟨v, nonce, fresh, response⟩
    rw [(Lock.validNonce_eq_some_iff ..).mpr ⟨nonce, fresh⟩]
    simpa using response

/-- The password in `c` gives the stored verifier (R451). -/
def Dev.passwordGood (d : Dev) (c : Cmd) : Bool :=
  d.storedVerifier == some (d.verifier (sliceAt c.payload 8 (clamp 8 64 (c.field 0 1))))

theorem checkBackoff_of_backoff {d : Dev} (c : Cmd) (runs : 0 < d.backoffLeft) :
    checkBackoff d c = some (stLocked, leBytes 4 d.backoffLeft ++ leBytes 4 0) := if_pos runs

theorem checkBackoff_of_none {d : Dev} (c : Cmd) (free : d.backoffLeft = 0) : checkBackoff d c = none :=
  if_neg (by omega)

theorem applyLockRespond_of_free {d : Dev} {c : Cmd} (free : d.backoffLeft = 0) : applyLockRespond d c =
    (d.setLock { d.svc.lock with nonce := none }).attempt (d.responseGood c) 1 := by
  simp only [applyLockRespond, checkBackoff_of_none c free, recheck]
  rfl

theorem applyLockPassword_of_free {d : Dev} {c : Cmd} (free : d.backoffLeft = 0) :
    applyLockPassword d c = d.attempt (d.passwordGood c) 0 := by
  simp only [applyLockPassword, checkBackoff_of_none c free, recheck]
  rfl

/-- During a backoff an attempt is turned away (R453). -/
theorem backoff_turns_attempts_away (s : State) (w : Waiting) (due : s.effectDue 0x0F11 w = true ∨ s.effectDue 0x0F12 w = true)
    (runs : 0 < s.dev.backoffLeft) : ∃ t, exec .untimedCommandEffect s = .next t ∧ t.dev.svc = s.dev.svc ∧
      t.dev.sinter = s.dev.sinter ∧ t.mem = s.mem := by
  have applied : applyHigh s.dev w.cmd w.order = some (s.dev, stLocked, leBytes 4 s.dev.backoffLeft ++ leBytes 4 0) := by
    rcases due with due | due <;>
      simp [applyHigh, State.opcode_of_effectDue due, applyLockRespond, applyLockPassword,
        checkBackoff_of_backoff w.cmd runs, recheck]
  have run : exec .untimedCommandEffect s =
      .next (s.settle (s.dev.finish w stLocked (leBytes 4 s.dev.backoffLeft ++ leBytes 4 0))) := by
    rcases due with due | due <;> exact State.exec_lockEffect due (by decide) applied (by decide)
  exact ⟨_, run, by rw [State.settle_svc, Dev.finish_svc], by rw [State.settle_sinter, Dev.finish_sinter], rfl⟩

theorem attempt_is_judged (s : State) (w : Waiting) (good : Bool)
    (due : s.effectDue 0x0F11 w = true ∨ s.effectDue 0x0F12 w = true)
    (response : w.cmd.opcode = 0x0F11 → (good = true ↔ ∃ v, s.dev.svc.lock.nonce = some v ∧
      s.dev.mfn < s.dev.svc.lock.nonceMfn + 201_600 ∧
      (beBytes 32 (Config.hmac (leBytes 16 v ++ leBytes 8 Config.unitId.toNat)).toNat).take 16 =
        sliceAt w.cmd.payload 0 16))
    (password : w.cmd.opcode = 0x0F12 → (good = true ↔
      s.dev.storedVerifier = some (s.dev.verifier (sliceAt w.cmd.payload 8 (clamp 8 64 (w.cmd.field 0 1))))))
    (free : s.dev.backoffLeft = 0) :
    ∃ t, exec .untimedCommandEffect s = .next t ∧ t.mem = s.mem ∧
      (w.cmd.opcode = 0x0F11 → t.dev.svc.lock.nonce = none) ∧
      (w.cmd.opcode = 0x0F12 → t.dev.svc.lock.nonce = s.dev.svc.lock.nonce) ∧
      (good = true → t.dev.svc.lock.session = some (s.dev.mfn + 96_768_000) ∧
        t.dev.sinter = (if s.dev.fails = 0 then s.dev.sinter else s.dev.sinter.put { word := 129, width := 0, value := 0 }) ∧
        (s.dev.svc.lock.session = none → s.dev.eventOf 0x0F03 0 (leBytes 1 (if w.cmd.opcode = 0x0F11 then 1 else 0)) ∈
          t.dev.log.arising)) ∧
      (good = false → t.dev.svc.lock.session = s.dev.svc.lock.session ∧
        t.dev.svc.lock.backoffEnd = some (s.dev.mfn + backoffMf (min 0xFFFF (s.dev.fails + 1))) ∧
        t.dev.sinter = s.dev.sinter.put { word := 129, width := 0, value := min 0xFFFF (s.dev.fails + 1) } ∧
        s.dev.eventOf 0x0F04 0 (leBytes 2 (min 0xFFFF (s.dev.fails + 1)) ++
          leBytes 4 (backoffMf (min 0xFFFF (s.dev.fails + 1)))) ∈ t.dev.log.arising) := by
  rcases due with due | due
  · have opcode := State.opcode_of_effectDue due
    have judged : good = s.dev.responseGood w.cmd := Bool.eq_iff_iff.mpr ((response opcode).trans
      (s.dev.responseGood_iff w.cmd).symm)
    have applied : applyHigh s.dev w.cmd w.order =
        some ((s.dev.setLock { s.dev.svc.lock with nonce := none }).attempt good 1) := by
      simp [applyHigh, opcode, applyLockRespond_of_free free, judged]
    obtain ⟨t, run, mem, nonce, succeeds, fails⟩ := attempt_takes_effect good due (by decide) applied rfl rfl rfl
    exact ⟨t, run, mem, fun _ => nonce, fun other => by omega, by rw [if_pos opcode]; exact succeeds, fails⟩
  · have opcode := State.opcode_of_effectDue due
    have judged : good = s.dev.passwordGood w.cmd := Bool.eq_iff_iff.mpr ((password opcode).trans
      (by simp [Dev.passwordGood]))
    have applied : applyHigh s.dev w.cmd w.order = some (s.dev.attempt good 0) := by
      simp [applyHigh, opcode, applyLockPassword_of_free free, judged]
    obtain ⟨t, run, mem, nonce, succeeds, fails⟩ := attempt_takes_effect good due (by decide) applied rfl rfl rfl
    rw [if_neg (show w.cmd.opcode ≠ 0x0F11 by omega)]
    exact ⟨t, run, mem, fun other => by omega, fun _ => nonce, succeeds, fails⟩

theorem backoffMf_eq (k : Nat) (_ : 1 ≤ k) : backoffMf k = min (2 ^ k * 3_360) 12_096_000 := by
  unfold backoffMf
  split
  next long =>
    have least : 2 ^ 12 ≤ 2 ^ k := Nat.pow_le_pow_right (by decide) long
    omega
  next => rfl

/-! ### Closing (R454, R464) -/

theorem Dev.closeSession_of_open {d : Dev} (opened : d.svc.lock.session.isSome = true) (cause : Nat) :
    d.closeSession cause =
      (d.setLock { d.svc.lock with session := none }).raise 0x0F03 0 (leBytes 1 (0x80 + cause)) :=
  if_neg (by simp [Option.isNone_iff_eq_none, ← Option.isSome_iff_ne_none, opened])

theorem Dev.closeSession_of_closed {d : Dev} (closed : d.svc.lock.session = none) (cause : Nat) :
    d.closeSession cause = d := if_pos (by simp [closed])

theorem session_is_closed (s : State) (w : Waiting) (due : s.effectDue 0x0F13 w = true) :
    ∃ t, exec .untimedCommandEffect s = .next t ∧
      t.dev.svc.lock = { s.dev.svc.lock with session := none } ∧ t.dev.sinter = s.dev.sinter ∧ t.mem = s.mem ∧
      (s.dev.svc.lock.session.isSome = true → s.dev.eventOf 0x0F03 0 (leBytes 1 0x80) ∈ t.dev.log.arising) ∧
      (s.dev.svc.lock.session = none → s.raisesNone t) := by
  have applied : applyHigh s.dev w.cmd w.order = some (s.dev.closeSession 0, stOk, []) := by
    simp [applyHigh, State.opcode_of_effectDue due, applyLockClose, okWith]
  have run := State.exec_lockEffect due (by decide) applied (by decide)
  cases session : s.dev.svc.lock.session with
  | none =>
    rw [Dev.closeSession_of_closed session] at run
    refine ⟨_, run, ?_, ?_, rfl, nofun, fun _ => State.raisesNone_of_finish rfl ..⟩
    · rw [State.settle_svc, Dev.finish_svc, ← session]
    · rw [State.settle_sinter, Dev.finish_sinter]
  | some e =>
    rw [Dev.closeSession_of_open (by rw [session]; rfl)] at run
    refine ⟨_, run, ?_, ?_, rfl, fun _ => State.event_of_finish ?_ .., nofun⟩
    · rw [State.settle_svc, Dev.finish_svc]
      rfl
    · rw [State.settle_sinter, Dev.finish_sinter]
      rfl
    · exact List.mem_append_right _ (List.mem_singleton.mpr rfl)

/-! ### LOCK_PASSWORD_SET (R465) -/

/-- Words written to Sinter one after the other. -/
def Sinter.putAll (x : Sinter) (l : List (Nat × Nat)) : Sinter :=
  l.foldl (fun x e => x.put { word := e.1, width := 0, value := e.2 }) x

theorem Dev.putLockState_sinter (d : Dev) (lock : Bool) :
    (d.putLockState lock).sinter = d.sinter.putAll [(128, if lock then 0x4C4B else 0)] := by
  unfold Dev.putLockState
  dsimp only
  split <;> rfl

theorem Dev.putLockState_svc (d : Dev) (lock : Bool) : (d.putLockState lock).svc = d.svc := by
  unfold Dev.putLockState
  dsimp only
  split <;> rfl

theorem Dev.putLockState_event {d : Dev} {lock : Bool} (turns : d.lockSet ≠ lock) :
    d.eventOf 0x0F05 0 (leBytes 1 (b2n lock)) ∈ (d.putLockState lock).log.arising := by
  unfold Dev.putLockState
  dsimp only
  rw [if_neg turns]
  exact List.mem_append_right _ (List.mem_singleton.mpr rfl)

theorem Dev.putLockState_quiet {d : Dev} {lock : Bool} (stays : d.lockSet = lock) :
    d.putLockState lock = d.sinterPut 128 (if lock then 0x4C4B else 0) := if_pos stays

/-- The device with a new salt, before the verifier is made under it. -/
def Dev.salted (d : Dev) : Dev := d.draw.2.sinterPuts 130 [d.draw.1 % 2 ^ 64, d.draw.1 / 2 ^ 64 % 2 ^ 64]

/-- The verifier of the password that a LOCK_PASSWORD_SET brings. -/
def Dev.newVerifier (d : Dev) (c : Cmd) : List Byte := d.salted.verifier (sliceAt c.payload 8 (clamp 8 64 (c.field 1 1)))

/-- What LOCK_PASSWORD_SET makes of the device. -/
def Dev.setPassword (d : Dev) (c : Cmd) : Nat → Dev
  | 1 => (d.salted.sinterPuts 132 [fieldAt (d.newVerifier c) 0 8, fieldAt (d.newVerifier c) 8 8,
      fieldAt (d.newVerifier c) 16 8, fieldAt (d.newVerifier c) 24 8]).putLockState true
  | 2 => d.putLockState true
  | 3 => (d.sinterPuts 130 (List.replicate 6 unset)).putLockState false
  | _ => d

theorem applyLockPasswordSet_eq (d : Dev) (c : Cmd) :
    applyLockPasswordSet d c = okWith (d.setPassword c (fallback 3 0 (c.field 0 1))) := by
  unfold applyLockPasswordSet
  generalize fallback 3 0 (c.field 0 1) = op
  match op with
  | 0 => rfl
  | 1 => rfl
  | 2 => rfl
  | 3 => rfl
  | n + 4 => rfl

theorem Dev.sinterPuts_svc (d : Dev) (w : Nat) (l : List Nat) : (d.sinterPuts w l).svc = d.svc := by
  induction l generalizing d w with
  | nil => rfl
  | cons v l ih => exact ih ..

theorem Dev.sinterPuts_sinter (d : Dev) (w : Nat) (l : List Nat) :
    (d.sinterPuts w l).sinter = d.sinter.putAll ((l.zipIdx w).map Prod.swap) := by
  induction l generalizing d w with
  | nil => rfl
  | cons v l ih => exact ih ..

theorem Sinter.putAll_append (x : Sinter) (l r : List (Nat × Nat)) : x.putAll (l ++ r) = (x.putAll l).putAll r :=
  List.foldl_append

theorem Dev.salted_sinter (d : Dev) : d.salted.sinter =
    d.sinter.putAll [(130, d.draw.1 % 2 ^ 64), (131, d.draw.1 / 2 ^ 64 % 2 ^ 64)] := Dev.sinterPuts_sinter ..

theorem Dev.verifier_congr {d e : Dev} (sinter : e.sinter = d.sinter) (pw : List Byte) :
    e.verifier pw = d.verifier pw := by
  simp only [Dev.verifier, sinter]

theorem Dev.setPassword_svc (d : Dev) (c : Cmd) (op : Nat) : (d.setPassword c op).svc = d.svc := by
  unfold Dev.setPassword
  split
  · rw [Dev.putLockState_svc, Dev.sinterPuts_svc, Dev.salted, Dev.sinterPuts_svc]
    rfl
  · rw [Dev.putLockState_svc]
  · rw [Dev.putLockState_svc, Dev.sinterPuts_svc]
  · rfl

theorem password_is_set (s : State) (w : Waiting) (op : Nat) (puts : List (Nat × Nat) → Sinter)
    (due : s.effectDue 0x0F14 w = true) (code : op = w.cmd.field 0 1)
    (writes : ∀ l, puts l = l.foldl (fun x e => x.put { word := e.1, width := 0, value := e.2 }) s.dev.sinter) :
    ∃ t, exec .untimedCommandEffect s = .next t ∧ t.dev.svc = s.dev.svc ∧ t.mem = s.mem ∧
      ((op = 0 ∨ 3 < op) → t.dev.sinter = s.dev.sinter ∧ s.raisesNone t) ∧
      (op = 1 → ∃ (a b : Nat) (v : List Byte), a < 2 ^ 64 ∧ b < 2 ^ 64 ∧
        v = ({ s.dev with sinter := puts [(130, a), (131, b)] } : Dev).verifier
          (sliceAt w.cmd.payload 8 (clamp 8 64 (w.cmd.field 1 1))) ∧
        t.dev.sinter = puts [(130, a), (131, b), (132, fieldAt v 0 8), (133, fieldAt v 8 8), (134, fieldAt v 16 8),
          (135, fieldAt v 24 8), (128, 0x4C4B)]) ∧
      (op = 2 → t.dev.sinter = puts [(128, 0x4C4B)] ∧
        (s.dev.lockSet = false → s.dev.eventOf 0x0F05 0 (leBytes 1 1) ∈ t.dev.log.arising) ∧
        (s.dev.lockSet = true → s.raisesNone t)) ∧
      (op = 3 → t.dev.sinter = puts [(130, unset), (131, unset), (132, unset), (133, unset), (134, unset), (135, unset),
        (128, 0)]) := by
  obtain rfl : puts = s.dev.sinter.putAll := funext writes
  have applied : applyHigh s.dev w.cmd w.order = some (s.dev.setPassword w.cmd (fallback 3 0 op), stOk, []) := by
    simp [applyHigh, State.opcode_of_effectDue due, applyLockPasswordSet_eq, okWith, code]
  refine ⟨_, State.exec_lockEffect due (by decide) applied (by decide), ?_, rfl, fun none => ?_, ?_, ?_, ?_⟩
  · rw [State.settle_svc, Dev.finish_svc, Dev.setPassword_svc]
  · have keeps : s.dev.setPassword w.cmd (fallback 3 0 op) = s.dev := by
      have zero : fallback 3 0 op = 0 := by unfold fallback; split <;> omega
      rw [zero, Dev.setPassword]
      all_goals decide
    rw [keeps]
    exact ⟨by rw [State.settle_sinter, Dev.finish_sinter], State.raisesNone_of_finish rfl ..⟩
  · rintro rfl
    refine ⟨s.dev.draw.1 % 2 ^ 64, s.dev.draw.1 / 2 ^ 64 % 2 ^ 64, s.dev.newVerifier w.cmd, Nat.mod_lt _ (by decide),
      Nat.mod_lt _ (by decide), Dev.verifier_congr (s.dev.salted_sinter) _, ?_⟩
    rw [State.settle_sinter, Dev.finish_sinter]
    simp only [show fallback 3 0 1 = 1 from rfl, Dev.setPassword, Dev.putLockState_sinter, Dev.sinterPuts_sinter,
      Dev.salted_sinter, ← Sinter.putAll_append]
    rfl
  · rintro rfl
    rw [State.settle_sinter, Dev.finish_sinter]
    refine ⟨Dev.putLockState_sinter .., fun opened => State.event_of_finish ?_ .., fun locked => State.raisesNone_of_finish ?_ ..⟩
    · exact Dev.putLockState_event (lock := true) (by simp [opened])
    · show (s.dev.putLockState true).log.arising = _
      rw [Dev.putLockState_quiet locked]
      rfl
  · rintro rfl
    rw [State.settle_sinter, Dev.finish_sinter]
    simp only [show fallback 3 0 3 = 3 from rfl, Dev.setPassword, Dev.putLockState_sinter, Dev.sinterPuts_sinter,
      ← Sinter.putAll_append]
    rfl

/-! ### Expiries (R452 to R454) -/

theorem lock_times_run_out (s : State) (live : s.live = true) :
    (s.dev.svc.lock.nonce.isSome = true → s.dev.svc.lock.nonceMfn + 201_600 ≤ s.dev.mfn → exec .nonceExpiry s =
      .next { s with dev := { s.dev with svc := { s.dev.svc with lock := { s.dev.svc.lock with nonce := none } } } }) ∧
    (∀ e, s.dev.svc.lock.backoffEnd = some e → e ≤ s.dev.mfn → exec .lockBackoffEnd s =
      .next { s with dev := { s.dev with svc := { s.dev.svc with lock := { s.dev.svc.lock with backoffEnd := none } } } }) ∧
    (∀ e, s.dev.svc.lock.session = some e → e ≤ s.dev.mfn → ∃ t, exec .lockSessionExpiry s = .next t ∧
      t.dev.svc.lock = { s.dev.svc.lock with session := none } ∧ s.raisesOne t 0x0F03 0 (leBytes 1 0x81) ∧
      t.dev.sinter = s.dev.sinter ∧ t.mem = s.mem ∧ t.bar1 = s.bar1) := by
  refine ⟨fun drawn stale => ?_, fun e backoff past => ?_, fun e session past => ?_⟩
  · show execNonceExpiry s = _
    rw [execNonceExpiry, State.runIf_quiet live (by simp [drawn, stale]) rfl rfl]
    rfl
  · show execLockBackoffEnd s = _
    rw [execLockBackoffEnd, State.runIf_quiet live (by simp [backoff, Dev.backoffLeft]; omega) rfl rfl]
    rfl
  · have run : exec .lockSessionExpiry s = .next (s.settle (s.dev.closeSession 1)) := by
      show execLockSessionExpiry s = _
      rw [execLockSessionExpiry, State.runIf_eq s _ _ (State.powered_of_live live) (by simp [session, past])]
    rw [Dev.closeSession_of_open (by rw [session]; rfl)] at run
    refine ⟨_, run, ?_, State.raisesOne_settle_raise rfl rfl .., ?_, rfl, State.settle_bar1_of_live live ?_⟩
    · rw [State.settle_svc, Dev.raise_svc, Dev.setLock_lock]
    · rw [State.settle_sinter, Dev.raise_sinter, Dev.setLock_sinter]
    · rw [Dev.raise_out]
      rfl

/-- A command that the lock refuses is reported (R361). -/
theorem Dev.answer_locked_arising (d : Dev) (c : Cmd) (pl : List Byte) : (d.answer c stLocked pl).log.arising =
    d.log.arising ++ [d.eventOf 0x0001 (objMailbox c.mb) (leBytes 1 c.mb ++ leBytes 2 c.opcode ++ leBytes 1 stLocked)] := by
  unfold Dev.answer Dev.respond
  dsimp only
  rw [if_pos (by decide), Dev.raise_arising]
  split <;> rfl

/-! ### Vendor diagnostics (R351, R353) -/

theorem vendor_diagnostic_stops_or_is_locked (s : State) (core : Nat) (c : Cmd) (done : s.handedOver = true)
    (firmware : s.dev.pwr.fwState = 2) (free : s.dev.coreFree core = true)
    (front : bestOf s.dev.host.queue = some c) (lowest : 0x0F20 ≤ c.opcode) (highest : c.opcode ≤ 0x0F2F) :
    (((s.dev.unqueue c).precheck c).isNone = true → exec (.vendorDiagnostic core) s = .refused .vendorDiagnostic) ∧
    (c.mb = 0 → s.dev.locked = true → (∀ q ∈ s.dev.host.queue.erase c, ¬(q.mb = c.mb ∧ q.seq = c.seq)) →
      (∀ w ∈ s.dev.host.waiting, ¬(w.cmd.mb = c.mb ∧ w.cmd.seq = c.seq)) →
      ∃ t, exec (.vendorDiagnostic core) s = .next t ∧ s.answers t c stLocked [] ∧
        s.dev.eventOf 0x0001 (objMailbox c.mb) (leBytes 1 c.mb ++ leBytes 2 c.opcode ++ leBytes 1 stLocked) ∈
          t.dev.log.arising) := by
  have op : lockedOp c.opcode = true := (lockedOp_iff _).mpr (.inr ⟨lowest, highest⟩)
  have fronts : s.dev.Fronts core c := ⟨free, firmware, front, by rw [opRow_of_lockedOp op]; rfl⟩
  have vendor := vendorOps_contains lowest highest
  refine ⟨fun passes => ?_, fun mailbox locked queued waiting => ?_⟩
  · show execVendorDiagnostic core s = _
    simp only [execVendorDiagnostic, fronts.powered, fronts.take vendor, Option.isNone_iff_eq_none.mp passes]
  · have refused := Dev.precheck_of_locked (d := s.dev.unqueue c) op locked mailbox queued waiting
    have run : exec (.vendorDiagnostic core) s = .next (s.settle ((s.dev.unqueue c).answer c stLocked [])) := by
      rw [exec_vendorDiagnostic_refused fronts lowest highest refused, State.run_eq s _ fronts.powered,
        fronts.serve_refused vendor refused]
    refine ⟨_, run, s.answers_of_answer c stLocked [] done, (State.mem_settle_arising ..).mpr ?_⟩
    rw [Dev.answer_locked_arising]
    exact List.mem_append_right _ (List.mem_singleton.mpr rfl)

/-- Settles O59: the lock's commands, its times and the vendor diagnostics, each by its own lemma. -/
theorem fieldLockOpensAndCloses : Obligations.field_lock_opens_and_closes :=
  ⟨nonce_is_drawn, fun s w good due response password => ⟨backoff_turns_attempts_away s w due,
    attempt_is_judged s w good due response password⟩, backoffMf_eq, session_is_closed, password_is_set,
    lock_times_run_out, fun s core c done _ => vendor_diagnostic_stops_or_is_locked s core c done⟩

end Sys2Proof.Machine

namespace Sys2Proof.Machine

open Sys2Proof

/-! ### Test patterns (R444, R460) -/

/-- A checker that found its pattern, or lost it (R444). -/
def Prbs.turnTo (x : Prbs) (sync : Bool) (fc : Nat) : Prbs :=
  if sync then { x with inSync := true, syncFc := fc, window := 0, lost := false }
  else { x with inSync := false, losses := satAdd 0xFFFF_FFFF x.losses 1, lost := false, run := 0 }

theorem checker_turns (s : State) (obj : Nat) (sync : Bool) (x : Prbs) (live : s.live = true)
    (own : x = Tab.get {} s.dev.svc.prbs obj) (checks : x.checks = true) (was : x.inSync = !sync)
    (reason : patternHeld obj = true → if sync then 1_024 ≤ x.run else x.lost = true) :
    ∃ t, exec (.prbsSyncChange obj sync) s = .next t ∧
      Tab.get {} t.dev.svc.prbs obj = (if sync then { x with inSync := true, syncFc := s.dev.fc, window := 0, lost := false }
        else { x with inSync := false, losses := satAdd 0xFFFF_FFFF x.losses 1, lost := false, run := 0 }) ∧
      (∀ k, k ≠ obj → Tab.get {} t.dev.svc.prbs k = Tab.get ({} : Prbs) s.dev.svc.prbs k) ∧
      s.raisesOne t 0x0F01 obj (leBytes 4 obj ++ leBytes 1 (if sync then 2 else 1)) ∧ t.mem = s.mem ∧ t.bar1 = s.bar1 := by
  have turns : (s.dev.prbs obj).turns (patternHeld obj) sync = true := by
    rw [Dev.prbs, ← own, Prbs.turns, checks, was]
    cases held : patternHeld obj with
    | false => cases sync <;> rfl
    | true =>
      have reason := reason held
      cases sync <;> simpa using reason
  have run : exec (.prbsSyncChange obj sync) s = .next (s.settle ((s.dev.setPrbs obj (x.turnTo sync s.dev.fc)).raise 0x0F01
      obj (leBytes 4 obj ++ leBytes 1 (if sync then 2 else 1)))) := by
    show execPrbsSyncChange obj sync s = _
    rw [execPrbsSyncChange, State.runIf_eq s _ _ (State.powered_of_live live) turns, own]
    rfl
  refine ⟨_, run, ?_, fun k ne => ?_, State.raisesOne_settle_raise rfl rfl .., rfl, State.settle_bar1_of_live live ?_⟩
  · exact Tab.get_set_self ..
  · exact Tab.get_set_of_ne _ _ _ _ _ ne
  · exact Dev.raise_out (s.dev.setPrbs obj _) ..

/-- A command of the link tests that is due takes effect (R460, R462). -/
theorem State.exec_testEffect {s : State} {op : Nat} {w : Waiting} {e : Dev} {st : Nat} {pl : List Byte}
    (due : s.effectDue op w = true) (chapter : op = 0x0F01 ∨ op = 0x0F03)
    (applied : applyHigh s.dev w.cmd w.order = some (e, st, pl)) (ends : st ≠ stGoesOn) :
    exec .untimedCommandEffect s = .next (s.settle (e.finish w st pl)) := by
  have low : applyLow s.dev w.cmd = none := by
    rcases chapter with rfl | rfl <;> simp [applyLow, State.opcode_of_effectDue due]
  exact State.exec_highEffect due low applied ends

/-- A change of pattern, inversion or checker starts the counts anew (R444). -/
def Prbs.restarts (x : Prbs) (p m : Nat) : Bool :=
  p != x.pattern || bit m 2 != bit x.mode 2 || (bit m 1 && !bit x.mode 1)

theorem Prbs.restarts_iff (x : Prbs) (p m : Nat) : x.restarts p m = true ↔
    p ≠ x.pattern ∨ bit m 2 ≠ bit x.mode 2 ∨ (bit m 1 = true ∧ bit x.mode 1 = false) := by
  simp [Prbs.restarts, or_assoc]

/-- Generator and checker as PRBS_SET leaves them, with the value `v` that was drawn. -/
def Prbs.reset (x : Prbs) (p m inject v : Nat) : Prbs :=
  let y : Prbs := if x.restarts p m then {} else x
  { y with pattern := p, mode := m, inject := inject, injectLeft := inject
           inSync := y.inSync && bit m 1 && p != 0
           gen := if x.restarts p m || !bit x.mode 0 then 1 + v % 127 else x.gen }

theorem applyPrbsSet_of_passes {d : Dev} {c : Cmd} (passes : checkPrbsSet d c = none) : applyPrbsSet d c =
    okWith (d.draw.2.setPrbs c.object ((Tab.get {} d.svc.prbs c.object : Prbs).reset (fallback 9 0 (c.field 0 1))
      (c.field 1 1 % 16) (c.field 2 1) d.draw.1)) := by
  simp only [applyPrbsSet, passes, recheck]
  rfl

theorem prbs_is_set (s : State) (w : Waiting) (p m : Nat) (x : Prbs) (due : s.effectDue 0x0F01 w = true)
    (pattern : p = fallback 9 0 (w.cmd.field 0 1)) (mode : m = w.cmd.field 1 1 % 16)
    (own : x = Tab.get {} s.dev.svc.prbs w.cmd.object) :
    (checkPrbsSet s.dev w.cmd = none → ∃ t, exec .untimedCommandEffect s = .next t ∧
      (∃ y : Prbs, Tab.get {} t.dev.svc.prbs w.cmd.object = y ∧ y.pattern = p ∧ y.mode = m ∧ y.inject = w.cmd.field 2 1 ∧
        ((p ≠ x.pattern ∨ bit m 2 ≠ bit x.mode 2 ∨ (bit m 1 = true ∧ bit x.mode 1 = false)) →
          y.bits = 0 ∧ y.errors = 0 ∧ y.losses = 0 ∧ y.inSync = false) ∧
        ((p = x.pattern ∧ bit m 2 = bit x.mode 2 ∧ (bit m 1 = false ∨ bit x.mode 1 = true)) →
          y.bits = x.bits ∧ y.errors = x.errors ∧ y.losses = x.losses)) ∧
      (∀ k, k ≠ w.cmd.object → Tab.get {} t.dev.svc.prbs k = Tab.get ({} : Prbs) s.dev.svc.prbs k) ∧ t.mem = s.mem) ∧
    (checkPrbsSet s.dev w.cmd ≠ none → ∃ t, exec .untimedCommandEffect s = .next t ∧ t.dev.svc = s.dev.svc ∧
      t.mem = s.mem) ∧
    (p ≠ 0 → bit m 0 = true → s.dev.twinBound = true → checkPrbsSet s.dev w.cmd = some (stConstraint, [])) := by
  have applied : applyHigh s.dev w.cmd w.order = some (applyPrbsSet s.dev w.cmd) := by
    simp [applyHigh, State.opcode_of_effectDue due]
  refine ⟨fun passes => ?_, fun refused => ?_, fun nonzero generates bound => ?_⟩
  · rw [applyPrbsSet_of_passes passes, ← own, ← pattern, ← mode] at applied
    have run := State.exec_testEffect due (.inl rfl) applied (by decide)
    refine ⟨_, run, ⟨x.reset p m (w.cmd.field 2 1) s.dev.draw.1, ?_, rfl, rfl, rfl, fun changed => ?_, fun same => ?_⟩,
      fun k ne => ?_, rfl⟩
    · rw [State.settle_svc, Dev.finish_svc]
      exact Tab.get_set_self ..
    · have restarts := (x.restarts_iff p m).mpr changed
      simp [Prbs.reset, restarts]
    · have continues : x.restarts p m = false := by
        rw [← Bool.not_eq_true, Prbs.restarts_iff]
        rintro (other | other | ⟨on, off⟩)
        · exact other same.1
        · exact other same.2.1
        · rcases same.2.2 with h | h <;> simp [h] at on off
      simp [Prbs.reset, continues]
    · rw [State.settle_svc, Dev.finish_svc]
      exact Tab.get_set_of_ne _ _ _ _ _ ne
  · cases check : checkPrbsSet s.dev w.cmd with
    | none => exact absurd check refused
    | some r =>
      simp only [applyPrbsSet, check, recheck] at applied
      have run := State.exec_testEffect due (.inl rfl) applied (refuseIf_status_ends (by decide) check)
      exact ⟨_, run, by rw [State.settle_svc, Dev.finish_svc], rfl⟩
  · rw [pattern] at nonzero
    rw [mode] at generates
    simp [checkPrbsSet, nonzero, generates, bound, refuseIf, refuse]

/-! ### Loopbacks (R446, R462) -/

def Dev.putLaneLoop (d : Dev) (l n : Nat) : Dev :=
  { d with svc := { d.svc with laneLoop := Tab.set d.svc.laneLoop l n } }

/-- The device with another loop in force on an object. -/
def Dev.putLoop (d : Dev) (c : Cmd) (n : Nat) : Dev :=
  match objType c.object with
  | 0x02 => d.setPort c.index { d.port c.index with loop := n }
  | 0x03 => d.setClient c.index { d.client c.index with loop := n }
  | _ => if n = 0 then d.putLaneLoop c.index n else (d.putLaneLoop c.index n).restartLane c.index

theorem Dev.restartLane_svc (d : Dev) (l : Nat) : (d.restartLane l).svc = d.svc := by
  unfold Dev.restartLane
  dsimp only
  split <;> rfl

theorem Dev.restartLane_fc (d : Dev) (l : Nat) : (d.restartLane l).fc = d.fc := by
  unfold Dev.restartLane
  dsimp only
  split <;> rfl

theorem Dev.loopAt_lane (d : Dev) {o : Nat} (line : objType o ≠ 0x02) (client : objType o ≠ 0x03) :
    d.loopAt o = Tab.get 0 d.svc.laneLoop (objIndex o) := by
  unfold Dev.loopAt
  split
  · contradiction
  · contradiction
  · rfl

theorem Dev.putLoop_lane (d : Dev) {c : Cmd} (n : Nat) (line : objType c.object ≠ 0x02) (client : objType c.object ≠ 0x03) :
    (d.putLoop c n).svc = (d.putLaneLoop c.index n).svc ∧ (d.putLoop c n).fc = d.fc := by
  unfold Dev.putLoop
  split
  · contradiction
  · contradiction
  · split
    · exact ⟨rfl, rfl⟩
    · exact ⟨Dev.restartLane_svc .., Dev.restartLane_fc ..⟩

/-- The loop of its object is in force, and nothing else of the test objects and the lock changes. -/
theorem Dev.putLoop_puts (d : Dev) (c : Cmd) (n : Nat) : (d.putLoop c n).loopAt c.object = n ∧
    (d.putLoop c n).svc.prbs = d.svc.prbs ∧ (d.putLoop c n).svc.lock = d.svc.lock ∧ (d.putLoop c n).fc = d.fc := by
  by_cases line : objType c.object = 0x02
  · simp [Dev.putLoop, Dev.loopAt, line, Cmd.index]
  by_cases client : objType c.object = 0x03
  · simp [Dev.putLoop, Dev.loopAt, client, Cmd.index]
  obtain ⟨svc, fc⟩ := d.putLoop_lane n line client
  rw [Dev.loopAt_lane _ line client, svc]
  exact ⟨Tab.get_set_self .., rfl, rfl, fc⟩

theorem applyLoopSet_of_passes {d : Dev} {c : Cmd} (passes : checkLoopSet d c = none) : applyLoopSet d c =
    okWith (if loopOf c = d.loopAt c.object then d
      else (d.putLoop c (loopOf c)).raise 0x0F02 c.object (leBytes 4 c.object ++ leBytes 1 (loopOf c))) := by
  simp only [applyLoopSet, passes, recheck]
  split <;> rfl

theorem Dev.loopAt_congr {d e : Dev} (ports : e.ports = d.ports) (clients : e.clients = d.clients) (svc : e.svc = d.svc)
    (o : Nat) : e.loopAt o = d.loopAt o := by
  simp only [Dev.loopAt, Dev.port, Dev.client, ports, clients, svc]

theorem loop_is_set (s : State) (w : Waiting) (n : Nat) (due : s.effectDue 0x0F03 w = true) (code : n = loopOf w.cmd) :
    (n ≠ 0 → s.dev.twinBound = true → ∃ t, exec .untimedCommandEffect s = .next t ∧
      t.dev.loopAt w.cmd.object = s.dev.loopAt w.cmd.object ∧ t.dev.svc = s.dev.svc ∧ t.mem = s.mem) ∧
    ((n = 0 ∨ s.dev.twinBound = false) → ∃ t, exec .untimedCommandEffect s = .next t ∧
      t.dev.loopAt w.cmd.object = n ∧
      (n ≠ s.dev.loopAt w.cmd.object →
        s.dev.eventOf 0x0F02 w.cmd.object (leBytes 4 w.cmd.object ++ leBytes 1 n) ∈ t.dev.log.arising) ∧
      t.dev.svc.prbs = s.dev.svc.prbs ∧ t.dev.svc.lock = s.dev.svc.lock ∧ t.mem = s.mem) := by
  have applied : applyHigh s.dev w.cmd w.order = some (applyLoopSet s.dev w.cmd) := by
    simp [applyHigh, State.opcode_of_effectDue due]
  have shown (e : Dev) (st : Nat) (pl : List Byte) :
      (s.settle (e.finish w st pl)).dev.loopAt w.cmd.object = e.loopAt w.cmd.object :=
    Dev.loopAt_congr (Dev.finish_ports ..) (Dev.finish_clients ..) (Dev.finish_svc ..) _
  refine ⟨fun nonzero bound => ?_, fun allowed => ?_⟩
  · have refused : checkLoopSet s.dev w.cmd = some (stConstraint, []) := by
      simp [checkLoopSet, ← code, nonzero, bound, refuseIf, refuse]
    simp only [applyLoopSet, refused, recheck] at applied
    exact ⟨_, State.exec_testEffect due (.inr rfl) applied (by decide), shown .., by rw [State.settle_svc, Dev.finish_svc],
      rfl⟩
  · have passes : checkLoopSet s.dev w.cmd = none := by
      rcases allowed with zero | unbound
      · simp [checkLoopSet, ← code, zero, refuseIf]
      · simp [checkLoopSet, unbound, refuseIf]
    rw [applyLoopSet_of_passes passes, ← code] at applied
    have run := State.exec_testEffect due (.inr rfl) applied (by decide)
    by_cases same : n = s.dev.loopAt w.cmd.object
    · rw [if_pos same] at run
      refine ⟨_, run, (shown ..).trans same.symm, fun other => absurd same other, ?_, ?_, rfl⟩
      all_goals rw [State.settle_svc, Dev.finish_svc]
    · rw [if_neg same] at run
      obtain ⟨loop, prbs, lock, fc⟩ := s.dev.putLoop_puts w.cmd n
      refine ⟨_, run, (shown ..).trans loop, fun _ => State.event_of_finish ?_ .., ?_, ?_, rfl⟩
      · simp [Dev.eventOf, fc]
      · rw [State.settle_svc, Dev.finish_svc]
        exact prbs
      · rw [State.settle_svc, Dev.finish_svc]
        exact lock

/-! ### JTAG and the service UART (R448, R455, R459) -/

theorem jtag_instruction_takes_effect (s : State) (i : JtagInstr) (live : s.live = true) :
    ((∀ n, i ≠ .privateCode n) → s.dev.locked = false → exec (.jtagInstruction i) s =
      .next { s with dev := { s.dev with svc := { s.dev.svc with jtag := i } } }) ∧
    (s.dev.locked = true → exec (.jtagInstruction i) s =
      .next { s with dev := { s.dev with svc := { s.dev.svc with jtag := if i = .idcode then .idcode else .bypass } } }) := by
  have decoded {j : JtagInstr} (is : s.dev.jtagDecode i = j) (known : ∀ n, j ≠ .privateCode n) :
      exec (.jtagInstruction i) s = .next { s with dev := { s.dev with svc := { s.dev.svc with jtag := j } } } := by
    show execJtagInstruction i s = _
    rw [execJtagInstruction, is]
    cases j
    case privateCode n => exact absurd rfl (known n)
    all_goals exact State.run_quiet live rfl rfl
  refine ⟨fun known opened => decoded (by simp [Dev.jtagDecode, opened]) known, fun locked => decoded ?_ fun n => ?_⟩
  · by_cases id : i = .idcode <;> simp [Dev.jtagDecode, locked, id]
  · split <;> exact nofun

theorem private_instruction_stops (s : State) (n : Nat) (opened : s.dev.locked = false) :
    exec (.jtagInstruction (.privateCode n)) s = .refused .privateJtag := by
  show execJtagInstruction (.privateCode n) s = _
  simp [execJtagInstruction, Dev.jtagDecode, opened]

theorem uart_character_is_taken (s : State) (byte : Byte) (live : s.live = true) :
    exec (.uartCharacterReceived byte false) s = .next { s with dev := { s.dev with svc := { s.dev.svc with
      uartFraming := satAdd 0xFFFF s.dev.svc.uartFraming 1 } } } ∧
    (s.dev.locked = true → exec (.uartCharacterReceived byte true) s = .next { s with dev := { s.dev with svc :=
      { s.dev.svc with uartClosed := satAdd 0xFFFF s.dev.svc.uartClosed 1 } } }) ∧
    (s.dev.locked = false → exec (.uartCharacterReceived byte true) s = .next { s with dev := { s.dev with svc :=
      { s.dev.svc with uartRx := some byte } } }) ∧
    (∃ t, exec .uartCounterRead s = .next t ∧
      t.dev.host.readData = leBytes 4 (s.dev.svc.uartFraming + 2 ^ 16 * s.dev.svc.uartClosed) ∧
      t.dev.svc = { s.dev.svc with uartFraming := 0, uartClosed := 0 } ∧ s.raisesNone t ∧ t.mem = s.mem ∧
      t.bar1 = s.bar1) := by
  have read : exec .uartCounterRead s = .next { s with dev := { s.dev with
      svc := { s.dev.svc with uartFraming := 0, uartClosed := 0 }
      host := { s.dev.host with readData := leBytes 4 (s.dev.svc.uartFraming + 2 ^ 16 * s.dev.svc.uartClosed) } } } := by
    show execUartCounterRead s = _
    rw [execUartCounterRead, State.run_quiet live rfl rfl]
    rfl
  refine ⟨?_, fun locked => ?_, fun opened => ?_, _, read, rfl, rfl, rfl, rfl, rfl⟩
  · show execUartCharacterReceived byte false s = _
    rw [execUartCharacterReceived, State.run_quiet live rfl rfl]
    rfl
  · show execUartCharacterReceived byte true s = _
    rw [execUartCharacterReceived, State.run_quiet live (by simp [locked]) (by simp [locked])]
    simp [locked]
  · show execUartCharacterReceived byte true s = _
    rw [execUartCharacterReceived, State.run_quiet live (by simp [opened]) (by simp [opened])]
    simp [opened]

/-! ### Peripheral controllers (R457, R458) -/

theorem Dev.setPmb_pmb (d : Dev) {unit : Nat} (known : unit < 2) (x : Pmb) :
    (d.setPmb unit x).pmb unit = x ∧ (d.setPmb unit x).pmb (1 - unit) = d.pmb (1 - unit) := by
  have one : unit = 0 ∨ unit = 1 := by omega
  rcases one with rfl | rfl <;> exact ⟨rfl, rfl⟩

theorem Dev.setPmb_spares (d : Dev) (unit : Nat) (x : Pmb) : ∃ v, d.setPmb unit x = { d with svc := v } := by
  unfold Dev.setPmb
  split <;> exact ⟨_, rfl⟩

/-- A step that sets one controller and nothing else. -/
theorem State.shows_setPmb {s : State} {i : Instr} {unit : Nat} {x : Pmb} (live : s.live = true) (known : unit < 2)
    (run : exec i s = .next (s.settle (s.dev.setPmb unit x))) :
    ∃ t, exec i s = .next t ∧ t.dev.pmb unit = x ∧ t.dev.pmb (1 - unit) = s.dev.pmb (1 - unit) ∧ s.raisesNone t ∧
      t = { s with dev := { s.dev with svc := t.dev.svc } } := by
  obtain ⟨v, spares⟩ := s.dev.setPmb_spares unit x
  obtain ⟨own, other⟩ := s.dev.setPmb_pmb known x
  rw [State.settle_quiet (by rw [spares]) (by rw [spares]; exact State.out_of_live live)] at run
  refine ⟨_, run, own, other, ?_, ?_⟩
  · rw [spares]; rfl
  · rw [spares]

theorem pmbStore_get (t : Tab Byte) (n k : Nat) (l : List Byte) :
    Tab.get 0 (pmbStore t n l) k = if k < n then byteAt l k else Tab.get 0 t k := by
  unfold pmbStore
  induction n with
  | zero => simp
  | succ n ih =>
    rw [List.range_succ, List.foldl_append, List.foldl_cons, List.foldl_nil, Tab.get_set, ih]
    by_cases last : k = n
    · subst last; simp
    · rw [if_neg last]
      exact if_congr (by omega) rfl rfl

/-- A controller whose transaction ends. -/
def Pmb.complete (x : Pmb) (nack : Bool) (data : List Byte) : Pmb :=
  let y := { x with busy := false, done := x.done || !nack, nack := x.nack || nack }
  if y.read && !nack then { y with data := pmbStore y.data (pmbLen y.len) data } else y

theorem Pmb.complete_shows (x : Pmb) (nack : Bool) (data : List Byte) :
    (x.complete nack data).busy = false ∧ (x.complete nack data).done = (x.done || !nack) ∧
      (x.complete nack data).nack = (x.nack || nack) ∧
      ∀ k, Tab.get 0 (x.complete nack data).data k =
        if x.read = true ∧ nack = false ∧ k < pmbLen x.len then byteAt data k else Tab.get 0 x.data k := by
  unfold Pmb.complete
  by_cases reads : (x.read && !nack) = true
  · simp only [if_pos reads, true_and]
    intro k
    simp only [Bool.and_eq_true, Bool.not_eq_true'] at reads
    rw [pmbStore_get]
    exact if_congr (by simp [reads]) rfl rfl
  · simp only [if_neg reads, true_and]
    intro k
    rw [if_neg (by rintro ⟨read, acked, -⟩; simp [read, acked] at reads)]

theorem controllers_work (s : State) (unit : Nat) (x : Pmb) (live : s.live = true) (known : unit < 2)
    (own : x = s.dev.pmb unit) :
    (∃ t, exec (.pmbStart unit) s = .next t ∧ t.dev.pmb unit = (if x.busy then { x with collide := true }
        else { x with busy := true, retries := 0, lost := false }) ∧
      t.dev.pmb (1 - unit) = s.dev.pmb (1 - unit) ∧ s.raisesNone t ∧ t = { s with dev := { s.dev with svc := t.dev.svc } }) ∧
    (x.busy = true → x.lost = false → ∃ t, exec (.pmbArbitrationLost unit) s = .next t ∧
      t.dev.pmb unit = { x with lost := true, losses := satAdd 0xFFFF_FFFF x.losses 1 } ∧
      t.dev.pmb (1 - unit) = s.dev.pmb (1 - unit) ∧ s.raisesNone t ∧ t = { s with dev := { s.dev with svc := t.dev.svc } }) ∧
    (x.busy = true → x.lost = true → x.retries < 3 → ∃ t, exec (.pmbRetry unit) s = .next t ∧
      t.dev.pmb unit = { x with lost := false, retries := x.retries + 1 } ∧
      t.dev.pmb (1 - unit) = s.dev.pmb (1 - unit) ∧ s.raisesNone t ∧ t = { s with dev := { s.dev with svc := t.dev.svc } }) ∧
    (x.busy = true → x.lost = true → 3 ≤ x.retries → ∃ t, exec (.pmbRetry unit) s = .next t ∧
      t.dev.pmb unit = { x with lost := false, busy := false, arbFail := true } ∧
      t.dev.pmb (1 - unit) = s.dev.pmb (1 - unit) ∧
      s.raisesOne t 0x0F06 0 (leBytes 1 unit ++ leBytes 1 x.addr) ∧ t.mem = s.mem ∧ t.bar1 = s.bar1) ∧
    (x.busy = true → x.lost = false → ∀ (nack : Bool) (data : List Byte), ∃ t,
      exec (.pmbTransactionDone unit nack data) s = .next t ∧ (t.dev.pmb unit).busy = false ∧
      (t.dev.pmb unit).done = (x.done || !nack) ∧ (t.dev.pmb unit).nack = (x.nack || nack) ∧
      (∀ k, Tab.get 0 (t.dev.pmb unit).data k =
        (if x.read = true ∧ nack = false ∧ k < pmbLen x.len then byteAt data k else Tab.get 0 x.data k)) ∧
      t.dev.pmb (1 - unit) = s.dev.pmb (1 - unit) ∧ s.raisesNone t ∧
      t = { s with dev := { s.dev with svc := t.dev.svc } }) := by
  subst own
  refine ⟨?_, fun busy won => ?_, fun busy lost few => ?_, fun busy lost many => ?_, fun busy won nack data => ?_⟩
  · refine State.shows_setPmb live known ?_
    show execPmbStart unit s = _
    rw [execPmbStart, State.runIf_eq s _ _ (State.powered_of_live live) (by simp [known])]
    rfl
  · refine State.shows_setPmb live known ?_
    show execPmbArbitrationLost unit s = _
    rw [execPmbArbitrationLost, State.runIf_eq s _ _ (State.powered_of_live live) (by simp [known, busy, won])]
    rfl
  · refine State.shows_setPmb live known ?_
    show execPmbRetry unit s = _
    rw [execPmbRetry, State.runIf_eq s _ _ (State.powered_of_live live) (by simp [known, busy, lost])]
    exact congrArg (fun d => Host.Outcome.next (s.settle d)) (if_pos few)
  · have run : exec (.pmbRetry unit) s = .next (s.settle ((s.dev.setPmb unit { s.dev.pmb unit with
        lost := false, busy := false, arbFail := true }).raise 0x0F06 0 (leBytes 1 unit ++ leBytes 1 (s.dev.pmb unit).addr))) := by
      show execPmbRetry unit s = _
      rw [execPmbRetry, State.runIf_eq s _ _ (State.powered_of_live live) (by simp [known, busy, lost])]
      exact congrArg (fun d => Host.Outcome.next (s.settle d)) (if_neg (by omega))
    obtain ⟨v, spares⟩ := s.dev.setPmb_spares unit { s.dev.pmb unit with lost := false, busy := false, arbFail := true }
    obtain ⟨own, other⟩ :=
      s.dev.setPmb_pmb known { s.dev.pmb unit with lost := false, busy := false, arbFail := true }
    generalize s.dev.setPmb unit { s.dev.pmb unit with lost := false, busy := false, arbFail := true } = e at run spares own other
    refine ⟨_, run, own, other, State.raisesOne_settle_raise (by rw [spares]) (by rw [spares]) .., rfl,
      State.settle_bar1_of_live live ((Dev.raise_out ..).trans (by rw [spares]))⟩
  · have run : exec (.pmbTransactionDone unit nack data) s =
        .next (s.settle (s.dev.setPmb unit ((s.dev.pmb unit).complete nack data))) := by
      show execPmbTransactionDone unit nack data s = _
      rw [execPmbTransactionDone, State.runIf_eq s _ _ (State.powered_of_live live) (by simp [known, busy, won])]
      rfl
    obtain ⟨t, run, pmb, other, silent, keeps⟩ := State.shows_setPmb live known run
    obtain ⟨idle, done, nacked, stored⟩ := (s.dev.pmb unit).complete_shows nack data
    refine ⟨t, run, ?_⟩
    rw [pmb]
    exact ⟨idle, done, nacked, stored, other, silent, keeps⟩

/-- Settles O58: patterns, loops, JTAG, the UART and the controllers, each by its own lemma. -/
theorem linkTestsAndServicePorts : Obligations.link_tests_and_service_ports :=
  ⟨checker_turns, prbs_is_set, loop_is_set, jtag_instruction_takes_effect, private_instruction_stops,
    uart_character_is_taken, controllers_work⟩

end Sys2Proof.Machine

namespace Sys2Proof.Machine

open Sys2Proof

/-! ### Writes to Sinter words (R363, R366, R367) -/

/-- The device with other Sinter words. -/
def Dev.setSinter (d : Dev) (x : Sinter) : Dev := { d with sinter := x }

@[simp] theorem Dev.setSinter_sinter (d : Dev) (x : Sinter) : (d.setSinter x).sinter = x := rfl
@[simp] theorem Dev.setSinter_host (d : Dev) (x : Sinter) : (d.setSinter x).host = d.host := rfl
@[simp] theorem Dev.setSinter_log (d : Dev) (x : Sinter) : (d.setSinter x).log = d.log := rfl
@[simp] theorem Dev.setSinter_fc (d : Dev) (x : Sinter) : (d.setSinter x).fc = d.fc := rfl

/-- Sinter with another content in a cell. -/
def Sinter.setCell (x : Sinter) (k : Nat) (c : Cell) : Sinter := { x with cells := Tab.set x.cells k c }

def Sinter.cell (x : Sinter) (k : Nat) : Cell := Tab.get {} x.cells k

theorem Sinter.setCell_cell (x : Sinter) (k j : Nat) (c : Cell) :
    (x.setCell k c).cell j = if j = k then c else x.cell j := Tab.get_set ..

/-- Sinter with one more accepted write in its commit queue. -/
def Sinter.enqueue (x : Sinter) (c : Commit) : Sinter := { x with queue := x.queue ++ [c] }

theorem Sinter.put_of_room {x : Sinter} (room : x.queue.length < 64) (free : x.held = []) (c : Commit) :
    x.put c = x.enqueue c := by
  simp [Sinter.put, room, free, Sinter.enqueue]

theorem hostWritable_of_reserved {w : Nat} (reserved : reservedWord w = true) : hostWritable w = false := by
  simp [hostWritable, reserved]

/-- The latest accepted write of a whole word is what a read returns (R367). -/
theorem Sinter.read_enqueue {x : Sinter} {w : Nat} (writable : reservedWord w = false) (second : x.second = [])
    (held : x.held = []) (v : Nat) : (x.enqueue { word := w, width := 0, value := v }).read w = v % 2 ^ 64 := by
  simp [Sinter.read, Sinter.enqueue, writable, second, held, List.foldl_append, mergeWord]

/-- A write that BAR0 brings (R366). -/
theorem exec_sinterBar0Write {s : State} {off : Nat} (width value : Nat) (live : s.live = true)
    (link : s.dev.host.linkUp = true) (low : 0x8000 ≤ off) (high : off < 0x1_0000) :
    exec (.sinterBar0Write off width value) s = .next (s.settle (s.dev.sinterBar0 off width value)) := by
  show execSinterBar0Write off width value s = _
  rw [execSinterBar0Write, if_neg (by omega), State.runIf_eq s _ _ (State.powered_of_live live) (by simp [link, low])]

theorem Dev.sinterBar0_accepted {d : Dev} {off value w : Nat} (word : w = (off - 0x8000) / 8) (aligned : off % 8 = 0)
    (enabled : d.host.sinterWe = 0x5157) (writable : hostWritable w = true)
    (own : ¬(twinWord w = true ∧ d.pair.role = .standby)) (held : d.sinter.held = []) (room : d.sinter.queue.length < 64) :
    d.sinterBar0 off 8 value =
      d.setSinter (d.sinter.enqueue { word := w, width := 0, value := value % 2 ^ 64 }) := by
  have mine : (twinWord w && d.pair.role == .standby) = false := by simpa using own
  subst word
  simp [Dev.sinterBar0, aligned, enabled, writable, mine, Nat.not_le.mpr room, held, Sinter.put_of_room room held,
    Dev.setSinter]

theorem Dev.sinterBar0_refused {d : Dev} {off value w : Nat} (word : w = (off - 0x8000) / 8) (aligned : off % 8 = 0)
    (closed : d.host.sinterWe ≠ 0x5157 ∨ hostWritable w = false) : d.sinterBar0 off 8 value = d.sinterRefuse 7 w := by
  subst word
  rcases closed with h | h <;> simp [Dev.sinterBar0, aligned, h]

theorem Dev.sinterBar0_narrow {d : Dev} {off width value : Nat} (narrow : width = 1 ∨ width = 2) :
    d.sinterBar0 off width value = d.decodeError 7 (0x3000_0000 + (off - 0x8000)) := by
  rcases narrow with rfl | rfl <;> simp [Dev.sinterBar0]

theorem Dev.decodeError_sinter (d : Dev) (master addr : Nat) : (d.decodeError master addr).sinter = d.sinter := by
  unfold Dev.decodeError
  dsimp only
  rw [Dev.raise_sinter, Dev.tick_sinter]

theorem sinter_write_is_accepted_or_refused (s : State) (off value : Nat) (live : s.live = true)
    (link : s.dev.host.linkUp = true) (low : 0x8000 ≤ off) (high : off < 0x1_0000) (aligned : off % 8 = 0) :
    (s.dev.host.sinterWe = 0x5157 → hostWritable ((off - 0x8000) / 8) = true →
      ¬(twinWord ((off - 0x8000) / 8) = true ∧ s.dev.pair.role = .standby) → s.dev.sinter.held = [] →
      s.dev.sinter.queue.length < 64 → s.dev.sinter.second = [] →
      ∃ t, exec (.sinterBar0Write off 8 value) s = .next t ∧
        t.dev.sinter = { s.dev.sinter with queue := s.dev.sinter.queue ++
          [{ word := (off - 0x8000) / 8, width := 0, value := value % 2 ^ 64 }] } ∧
        t.dev.sinter.read ((off - 0x8000) / 8) = value % 2 ^ 64 ∧ s.raisesNone t ∧ t.mem = s.mem ∧ t.bar1 = s.bar1) ∧
    ((s.dev.host.sinterWe ≠ 0x5157 ∨ hostWritable ((off - 0x8000) / 8) = false) →
      ∃ t, exec (.sinterBar0Write off 8 value) s = .next t ∧ t.dev.sinter = s.dev.sinter ∧
        t.dev.cnt = s.dev.cnt.tick 0x5380 1 ∧
        s.raisesOne t 0x0B01 (objWord ((off - 0x8000) / 8)) (leBytes 1 7 ++ leBytes 2 ((off - 0x8000) / 8)) ∧
        t.mem = s.mem ∧ t.bar1 = s.bar1) := by
  have run := exec_sinterBar0Write 8 value live link low high
  refine ⟨fun enabled writable own held room second => ?_, fun closed => ?_⟩
  · rw [Dev.sinterBar0_accepted rfl aligned enabled writable own held room] at run
    refine ⟨_, run, rfl, ?_, State.raisesNone_settle rfl, rfl, State.settle_bar1_of_live live rfl⟩
    have unreserved : reservedWord ((off - 0x8000) / 8) = false := by
      rw [← Bool.not_eq_true]
      exact fun reserved => by simp [hostWritable_of_reserved reserved] at writable
    rw [State.settle_sinter, Dev.setSinter_sinter, Sinter.read_enqueue unreserved second held, Nat.mod_mod]
  · rw [Dev.sinterBar0_refused rfl aligned closed] at run
    refine ⟨_, run, Dev.tick_sinter s.dev 0x5380 1, rfl,
      State.raisesOne_settle_raise (Dev.tick_fc ..) (by rw [Dev.tick_log]) .., rfl,
      State.settle_bar1_of_live live ?_⟩
    exact (Dev.raise_out ..).trans (congrArg HostIf.out (Dev.tick_host ..))

theorem narrow_sinter_write_is_decode_error (s : State) (off width value : Nat) (live : s.live = true)
    (link : s.dev.host.linkUp = true) (low : 0x8000 ≤ off) (high : off < 0x1_0000) (narrow : width = 1 ∨ width = 2) :
    ∃ t, exec (.sinterBar0Write off width value) s = .next t ∧ t.dev.sinter = s.dev.sinter ∧
      s.raisesOne t 0x1001 0 (leBytes 1 7 ++ leBytes 5 (0x3000_0000 + (off - 0x8000))) ∧ t.mem = s.mem ∧
      t.bar1 = s.bar1 := by
  have run := exec_sinterBar0Write width value live link low high
  rw [Dev.sinterBar0_narrow narrow] at run
  obtain ⟨-, -, out, event⟩ := s.dev.decodeError_keeps 7 (0x3000_0000 + (off - 0x8000))
  exact ⟨_, run, s.dev.decodeError_sinter 7 (0x3000_0000 + (off - 0x8000)), State.settle_arising_one _ _ _ event, rfl,
    State.settle_bar1_of_live live out⟩

/-! ### Commits (R370 to R372) -/

theorem Dev.twinCopy_keeps (d : Dev) (w : Nat) : ∃ p, d.twinCopy w = { d with pair := p } := by
  unfold Dev.twinCopy
  split <;> exact ⟨_, rfl⟩

/-- Sinter whose first commit has left the queue. -/
def Sinter.dequeue (x : Sinter) : Sinter := { x with queue := x.queue.tail }

/-- The first of the queue commits, and no command waits for it. -/
theorem Dev.commitNext_of_queue {d : Dev} {c : Commit} {rest : List Commit} (queue : d.sinter.queue = c :: rest)
    (held : d.sinter.held = []) (unwatched : c.waiter = none) (ok : Bool) : d.commitNext false ok =
      (((d.setSinter d.sinter.dequeue).commit c.word c.width c.value ok).1).twinCopy c.word := by
  simp only [Dev.commitNext, queue, held, Sinter.dequeue, Bool.false_eq_true, if_false, List.tail_cons, unwatched,
    Dev.setSinter]

theorem Sinter.home_congr {x y : Sinter} (cells : y.cells = x.cells) (n k : Nat) : y.home n k = x.home n k := by
  induction n generalizing k with
  | zero => rfl
  | succ n ih =>
    simp only [Sinter.home, cells]
    split
    · exact ih _
    · rfl

theorem Sinter.cellOf_congr {x y : Sinter} (cells : y.cells = x.cells) (w : Nat) : y.cellOf w = x.cellOf w :=
  Sinter.home_congr cells 257 w

theorem Sinter.dequeue_cellOf (x : Sinter) (w : Nat) : x.dequeue.cellOf w = x.cellOf w :=
  Sinter.cellOf_congr (x := x) (y := x.dequeue) rfl w

/-- A word whose cell has a spare that has none of its own is served by that spare (R370). -/
theorem Sinter.cellOf_of_spare {x : Sinter} {w m : Nat} (moved : (x.cell w).spare = some m)
    (last : (x.cell (6144 + m)).spare = none) : x.cellOf w = 6144 + m := by
  simp only [Sinter.cell] at moved last
  simp only [Sinter.cellOf, Sinter.home, moved, last]

theorem Sinter.remap_cell (x : Sinter) (k j : Nat) :
    (x.remap k).cell j = if j = k then { x.cell k with spare := some x.spares } else x.cell j := Tab.get_set ..

theorem Sinter.stored_eq (x : Sinter) (w : Nat) : x.stored w = (x.cell (x.cellOf w)).value := rfl

/-- A sound word that is not worn takes its value in its own cell. -/
theorem Dev.commit_of_sound {d : Dev} {w : Nat} {c : Cell} (cell : c = d.sinter.cell (d.sinter.cellOf w))
    (sound : c.failed = false) (fresh : c.worn = false) (width value : Nat) : (d.commit w width value true).1 =
      d.burn w (d.sinter.cellOf w) (mergeWord c.value width value) := by
  subst cell
  simp only [Sinter.cell] at sound fresh
  simp [Dev.commit, sound, fresh, Sinter.cell]

/-- A worn word moves to a free spare first (R370). -/
theorem Dev.commit_of_worn {d : Dev} {w k : Nat} {c : Cell} (place : d.sinter.cellOf w = k) (cell : c = d.sinter.cell k)
    (sound : c.failed = false) (worn : c.worn = true) (spare : d.sinter.spares < 256) (width value : Nat) :
    (d.commit w width value true).1 =
      (d.remapWord w k).burn w ((d.remapWord w k).sinter.cellOf w) (mergeWord c.value width value) := by
  subst cell place
  simp only [Sinter.cell] at sound worn
  have free : d.sinter.sparesFree ≠ 0 := by simp only [Sinter.sparesFree]; omega
  simp [Dev.commit, sound, worn, free, Sinter.cell]

/-- The event of a remapping (R371). -/
theorem Dev.remapWord_eq (d : Dev) (w k : Nat) : d.remapWord w k = (d.setSinter (d.sinter.remap k)).raise 0x0B03 0
    (leBytes 2 w ++ leBytes 2 d.sinter.spares ++ leBytes 2 (256 - (d.sinter.spares + 1))) := rfl

/-- A cell that takes a value below the end of its endurance. -/
theorem Dev.burn_below {d : Dev} {k : Nat} {c : Cell} (cell : c = d.sinter.cell k)
    (fresh : c.worn = false) (below : c.wear + 1 < 1_000_000_000) (w v : Nat) : d.burn w k v =
      (d.setSinter (d.sinter.setCell k { c with value := v, wear := c.wear + 1 })).tick 0x5382 1 := by
  have count : satAdd max32 c.wear 1 = c.wear + 1 := by simp only [satAdd, max32]; omega
  have used : c.wear + 1 ≠ 1_000_000_000 := by omega
  have unworn : (c.wear + 1 == 1_000_000_000) = false := beq_eq_false_iff_ne.mpr used
  subst cell
  simp only [Sinter.cell] at count used unworn fresh
  simp only [Dev.burn, count, unworn, fresh, if_neg used, Bool.or_false, Dev.setSinter, Sinter.setCell, Sinter.cell]

/-- What the state shows of a commit: the Sinter words as it left them, and the events it raised. -/
theorem State.shows_commit {s : State} {c : Commit} {rest : List Commit} {e : Dev} (live : s.live = true)
    (queue : s.dev.sinter.queue = c :: rest) (held : s.dev.sinter.held = []) (unwatched : c.waiter = none)
    (commit : ((s.dev.setSinter s.dev.sinter.dequeue).commit c.word c.width c.value true).1 = e)
    (out : e.host.out = s.dev.host.out) :
    ∃ t, exec (.sinterCommit false true) s = .next t ∧ t.dev.sinter = e.sinter ∧
      (e.log.arising = s.dev.log.arising → s.raisesNone t) ∧ (∀ x ∈ e.log.arising, x ∈ t.dev.log.arising) ∧
      t.mem = s.mem ∧ t.bar1 = s.bar1 := by
  have run : exec (.sinterCommit false true) s = .next (s.settle (s.dev.commitNext false true)) := by
    show execSinterCommit false true s = _
    rw [execSinterCommit, State.run_eq s _ (State.powered_of_live live)]
  obtain ⟨p, copied⟩ := e.twinCopy_keeps c.word
  rw [Dev.commitNext_of_queue queue held unwatched, commit, copied] at run
  exact ⟨_, run, rfl, State.raisesNone_settle, fun x here => (State.mem_settle_arising ..).mpr here, rfl,
    State.settle_bar1_of_live live out⟩

theorem sound_word_commits (s : State) (c : Commit) (rest : List Commit) (k : Nat) (live : s.live = true)
    (queue : s.dev.sinter.queue = c :: rest) (held : s.dev.sinter.held = []) (unwatched : c.waiter = none)
    (place : k = s.dev.sinter.cellOf c.word) (sound : (s.dev.sinter.cell k).failed = false)
    (fresh : (s.dev.sinter.cell k).worn = false) (below : (s.dev.sinter.cell k).wear + 1 < 1_000_000_000) :
    ∃ t, exec (.sinterCommit false true) s = .next t ∧ t.dev.sinter.queue = rest ∧
      t.dev.sinter.cell k = { s.dev.sinter.cell k with
        value := mergeWord (s.dev.sinter.cell k).value c.width c.value, wear := (s.dev.sinter.cell k).wear + 1 } ∧
      (∀ j, j ≠ k → t.dev.sinter.cell j = s.dev.sinter.cell j) ∧
      t.dev.sinter.spares = s.dev.sinter.spares ∧ s.raisesNone t ∧ t.mem = s.mem ∧ t.bar1 = s.bar1 := by
  have here : (s.dev.setSinter s.dev.sinter.dequeue).sinter.cellOf c.word = k := by
    rw [Dev.setSinter_sinter, Sinter.dequeue_cellOf, place]
  have cell : s.dev.sinter.cell k = (s.dev.setSinter s.dev.sinter.dequeue).sinter.cell
      ((s.dev.setSinter s.dev.sinter.dequeue).sinter.cellOf c.word) := by
    rw [here]
    rfl
  have done := Dev.commit_of_sound cell sound fresh c.width c.value
  rw [here] at cell done
  rw [Dev.burn_below cell fresh below] at done
  obtain ⟨t, run, sinter, silent, -, mem, bar1⟩ := State.shows_commit live queue held unwatched done
    (by rw [Dev.tick_host]; rfl)
  rw [Dev.tick_sinter, Dev.setSinter_sinter, Dev.setSinter_sinter] at sinter
  refine ⟨t, run, ?_, ?_, fun j ne => ?_, ?_, silent ?_, mem, bar1⟩
  · rw [sinter]
    exact congrArg List.tail queue
  · rw [sinter, Sinter.setCell_cell, if_pos rfl]
  · rw [sinter, Sinter.setCell_cell, if_neg ne]
    rfl
  · rw [sinter]
    rfl
  · rw [Dev.tick_log]
    rfl

theorem worn_word_moves_to_spare (s : State) (c : Commit) (rest : List Commit) (k : Nat) (live : s.live = true)
    (queue : s.dev.sinter.queue = c :: rest) (held : s.dev.sinter.held = []) (unwatched : c.waiter = none)
    (place : k = s.dev.sinter.cellOf c.word) (sound : (s.dev.sinter.cell k).failed = false)
    (worn : (s.dev.sinter.cell k).worn = true) (spare : s.dev.sinter.spares < 256)
    (unused : ∀ j, 6144 + s.dev.sinter.spares ≤ j → s.dev.sinter.cell j = ({} : Cell)) (word : k < 6144)
    (own : k = c.word) :
    ∃ t, exec (.sinterCommit false true) s = .next t ∧ t.dev.sinter.queue = rest ∧
      t.dev.sinter.spares = s.dev.sinter.spares + 1 ∧
      t.dev.sinter.cellOf c.word = 6144 + s.dev.sinter.spares ∧
      t.dev.sinter.stored c.word = mergeWord (s.dev.sinter.cell k).value c.width c.value ∧
      s.dev.eventOf 0x0B03 0 (leBytes 2 c.word ++ leBytes 2 s.dev.sinter.spares ++
        leBytes 2 (256 - (s.dev.sinter.spares + 1))) ∈ t.dev.log.arising ∧ t.mem = s.mem ∧ t.bar1 = s.bar1 := by
  have here : (s.dev.setSinter s.dev.sinter.dequeue).sinter.cellOf c.word = k := by
    rw [Dev.setSinter_sinter, Sinter.dequeue_cellOf, place]
  have done := Dev.commit_of_worn (d := s.dev.setSinter s.dev.sinter.dequeue) here rfl sound worn spare c.width c.value
  obtain ⟨d, moves⟩ : ∃ d, d = (s.dev.setSinter s.dev.sinter.dequeue).remapWord c.word k := ⟨_, rfl⟩
  obtain ⟨m, first⟩ : ∃ m, m = s.dev.sinter.spares := ⟨_, rfl⟩
  have remapped : d.sinter = s.dev.sinter.dequeue.remap k := by rw [moves, Dev.remapWord_eq]; rfl
  have cells (j : Nat) : d.sinter.cell j =
      if j = k then { s.dev.sinter.cell k with spare := some m } else s.dev.sinter.cell j := by
    rw [remapped, Sinter.remap_cell, first]
    rfl
  have fresh : d.sinter.cell (6144 + m) = {} := by rw [cells, if_neg (by omega), unused _ (by omega)]
  have spareOf : (d.sinter.cell c.word).spare = some m := by rw [cells, if_pos own.symm]
  have served : d.sinter.cellOf c.word = 6144 + m := Sinter.cellOf_of_spare spareOf (by rw [fresh])
  rw [← moves, served, Dev.burn_below fresh.symm rfl (by decide)] at done
  obtain ⟨t, run, sinter, -, kept, mem, bar1⟩ := State.shows_commit live queue held unwatched done
    (by rw [Dev.tick_host, Dev.setSinter_host, moves, Dev.remapWord_eq, Dev.raise_out]; rfl)
  rw [Dev.tick_sinter, Dev.setSinter_sinter] at sinter
  have after (j : Nat) : t.dev.sinter.cell j = if j = 6144 + m then
      { value := mergeWord (s.dev.sinter.cell k).value c.width c.value, wear := 1 } else d.sinter.cell j := by
    rw [sinter, Sinter.setCell_cell]
    rfl
  have ends : t.dev.sinter.cellOf c.word = 6144 + m :=
    Sinter.cellOf_of_spare (by rw [after, if_neg (by omega), spareOf]) (by rw [after, if_pos rfl])
  refine ⟨t, run, ?_, ?_, by rw [ends, first], ?_, kept _ ?_, mem, bar1⟩
  · rw [sinter]
    exact (congrArg Sinter.queue remapped).trans (congrArg List.tail queue)
  · rw [sinter]
    exact congrArg Sinter.spares remapped
  · rw [Sinter.stored_eq, ends, after, if_pos rfl]
  · rw [Dev.tick_log, Dev.setSinter_log, moves, Dev.remapWord_eq, Dev.raise_arising]
    exact List.mem_append_right _ (List.mem_singleton.mpr rfl)

/-! ### SINTER_WRITE (R376) -/

theorem mem_of_firstOf {p : Waiting → Bool} {l : List Waiting} {w : Waiting} (first : firstOf p l = some w) : w ∈ l := by
  induction l with
  | nil => exact absurd first (by simp [firstOf])
  | cons v l ih =>
    unfold firstOf at first
    split at first
    next none =>
      split at first
      · exact Option.some.inj first ▸ List.mem_cons_self
      · exact absurd first (by simp)
    next b rest =>
      split at first
      · exact Option.some.inj first ▸ List.mem_cons_self
      · exact List.mem_cons_of_mem v (ih (rest.trans first))

/-- The command that a hub unit carries on waits as a job. -/
theorem Dev.makeJob_waits {d : Dev} {w : Waiting} (waits : w ∈ d.host.waiting) :
    ∃ v ∈ (d.makeJob w.order).host.waiting, v.order = w.order ∧ v.job = true :=
  ⟨{ w with job := true, core := none, listed := false }, List.mem_map.mpr ⟨w, waits, if_pos rfl⟩, rfl, rfl⟩

theorem write_command_is_accepted (s : State) (w : Waiting) (due : s.effectDue 0x0B02 w = true)
    (held : s.dev.sinter.held = []) (room : s.dev.sinter.queue.length < 64) :
    ∃ t, exec .untimedCommandEffect s = .next t ∧
      t.dev.sinter = { s.dev.sinter with queue := s.dev.sinter.queue ++
        [{ word := w.cmd.index, width := if w.cmd.field 0 1 ≤ 2 then w.cmd.field 0 1 else 0, value := w.cmd.field 8 8,
           waiter := some w.order }] } ∧
      (∃ v ∈ t.dev.host.waiting, v.order = w.order ∧ v.job = true) ∧ s.raisesNone t ∧ t.mem = s.mem ∧ t.bar1 = s.bar1 := by
  have opcode := State.opcode_of_effectDue due
  simp only [State.effectDue, Bool.and_eq_true, beq_iff_eq, Bool.not_eq_true'] at due
  obtain ⟨⟨⟨⟨live, next⟩, -⟩, object⟩, own⟩ := due
  have effect : s.dev.effect w = (s.dev.setSinter (s.dev.sinter.enqueue
      { word := w.cmd.index, width := fallback 2 0 (w.cmd.field 0 1), value := w.cmd.field 8 8,
        waiter := some w.order })).makeJob w.order := by
    simp [Dev.effect, own, Dev.effectOf, Dev.applyCmd, object, applyLow, applyHigh, opcode, applySinterWrite, goesOn,
      Sinter.put_of_room room held, Dev.setSinter]
  have run : exec .untimedCommandEffect s = .next (s.settle (s.dev.effect w)) := by
    show execUntimedCommandEffect s = _
    rw [execUntimedCommandEffect, State.run_eq s _ (State.powered_of_live live)]
    simp only [next]
  rw [effect] at run
  exact ⟨_, run, rfl, Dev.makeJob_waits (mem_of_firstOf next), State.raisesNone_settle rfl, rfl,
    State.settle_bar1_of_live live rfl⟩

/-- Settles O51: acceptance, refusal, the two commits and SINTER_WRITE, each by its own lemma. -/
theorem sinterWordsAreAcceptedAndCommitted : Obligations.sinter_words_are_accepted_and_committed := by
  refine ⟨sinter_write_is_accepted_or_refused, narrow_sinter_write_is_decode_error,
    fun s c rest k live queue held unwatched place sound => ⟨?_, ?_⟩, write_command_is_accepted,
    fun s off width value beyond => ?_⟩
  · exact sound_word_commits s c rest k live queue held unwatched place sound
  · exact worn_word_moves_to_spare s c rest k live queue held unwatched place sound
  · show execSinterBar0Write off width value s = _
    rw [execSinterBar0Write, if_pos beyond]

end Sys2Proof.Machine

namespace Sys2Proof.Machine

open Sys2Proof

/-! ### The response to a command that waits (R337, R340) -/

theorem Dev.respond_out (d : Dev) (c : Cmd) (st : Nat) (pl : List Byte) (doneFc : Nat) (target : Option Nat)
    (mirrored : Bool) : (d.respond c st pl doneFc target mirrored).host.out = d.host.out ++ [(d.rspSlot c.mb,
      Rsp.bytes { opcode := c.opcode, runFlags := c.cls + 4 * b2n target.isSome + 8 * b2n mirrored, status := st, seq := c.seq
                  tag := c.tag, mailbox := c.mb, object := c.object, doneFc := doneFc, target := target.getD 0 % 2 ^ 32
                  payload := pl.take 224 })] := by
  unfold Dev.respond
  dsimp only
  repeat' split
  all_goals simp [Dev.vector, Dev.setMb, Dev.rspSlot]

/-- A command of this device's own that takes effect at no set MF is answered in the Beat in progress. -/
theorem Dev.finish_out {d : Dev} {w : Waiting} (own : w.fromTwin = false) (untimed : w.target = none) (st : Nat)
    (pl : List Byte) : (d.finish w st pl).host.out =
      d.host.out ++ [(d.rspSlot w.cmd.mb, (w.response st pl d.fc).bytes)] := by
  unfold Dev.finish
  dsimp only
  rw [if_neg (by simp [own]), Dev.respond_out, untimed]
  simp only [Waiting.response, untimed]
  rfl

theorem Dev.respond_waiting (d : Dev) (c : Cmd) (st : Nat) (pl : List Byte) (doneFc : Nat) (target : Option Nat)
    (mirrored : Bool) : (d.respond c st pl doneFc target mirrored).host.waiting = d.host.waiting := by
  unfold Dev.respond
  dsimp only
  repeat' split
  all_goals simp [Dev.vector, Dev.setMb]

theorem Dev.finish_waiting (d : Dev) (w : Waiting) (st : Nat) (pl : List Byte) :
    (d.finish w st pl).host.waiting = d.host.waiting.filter fun v => v.order != w.order := by
  unfold Dev.finish
  dsimp only
  split
  · rfl
  · rw [Dev.respond_waiting]
    rfl

/-- A command that ended waits no more. -/
theorem order_ne_of_filter {l : List Waiting} {order : Nat} :
    ∀ v ∈ l.filter fun v => v.order != order, v.order ≠ order :=
  fun _ m => by simpa using (List.mem_filter.mp m).2

theorem State.settle_bar1_of_one {s : State} {d : Dev} {a : Nat} {l : List Byte} (live : s.live = true)
    (out : d.host.out = s.dev.host.out ++ [(a, l)]) : (s.settle d).bar1 = Memory.writeBytes s.bar1 a l := by
  rw [State.settle_bar1, out, State.out_of_live live]
  rfl

/-! ### Late write faults (R330) -/

/-- The host attachment with a late write fault in its records, or counted as lost. -/
def HostIf.record (h : HostIf) (fc master id addr win cause : Nat) : HostIf :=
  { h with
    lwf := if h.lwf.length < 16 then h.lwf ++ [{ addr, master, id, win := if master = 7 then win else 0, cause, fc }]
      else h.lwf
    lwfLost := if h.lwf.length < 16 then h.lwfLost else satAdd 0xFFFF h.lwfLost 1
    lwfTotal := satAdd max32 h.lwfTotal 1
    hwinFault := if master = 7 then setBit h.hwinFault win true else h.hwinFault }

/-- The fault is recorded and reported (R330). -/
def Dev.recordFault (d : Dev) (master id addr win cause : Nat) : Dev :=
  (({ d with host := d.host.record d.fc master id addr win cause } : Dev).tick (0x4190 + master) 1).raise 0x1002 0
    (leBytes 1 master ++ leBytes 1 id ++ leBytes 5 addr ++ leBytes 1 cause)

/-- A fault that no core's command met is recorded, and nothing more. -/
theorem Dev.lateWrite_of_none {d : Dev} {master : Nat}
    (alone : ¬(2 ≤ master ∧ master ≤ 5) ∨ ∀ w ∈ d.host.waiting, w.core ≠ some (master - 2)) (id addr win cause : Nat) :
    d.lateWrite master id addr win cause = d.recordFault master id addr win cause := by
  have nobody : ¬(2 ≤ master ∧ master ≤ 5) ∨ d.host.waiting.find? (fun w => w.core == some (master - 2)) = none :=
    alone.imp_right fun h => List.find?_eq_none.mpr fun w m => by simpa using h w m
  unfold Dev.lateWrite
  by_cases room : d.host.lwf.length < 16 <;> rcases nobody with other | none <;>
    simp [Dev.recordFault, HostIf.record, *]

/-- A core whose command wrote ends it WRITE_FAULT. -/
theorem Dev.lateWrite_of_core {d : Dev} {core : Nat} {w : Waiting} (known : core < 4)
    (holds : d.host.waiting.find? (fun w => w.core == some core) = some w) (id addr win cause : Nat) :
    d.lateWrite (core + 2) id addr win cause =
      (d.recordFault (core + 2) id addr win cause).finish w stWriteFault [] := by
  have range : core ≤ 3 := by omega
  unfold Dev.lateWrite
  by_cases room : d.host.lwf.length < 16 <;> simp [Dev.recordFault, HostIf.record, room, holds, range]

/-- What the host finds of a recorded fault (R316, R330). -/
theorem Dev.recordFault_host (d : Dev) (master id addr win cause : Nat) : ∃ fatal pair pba sent,
    (d.recordFault master id addr win cause).host = { d.host.record d.fc master id addr win cause with
      alarmFatal := fatal, alarmPair := pair, pba := pba, sentThisBeat := sent } := by
  have signals := Dev.raise_signals
    (({ d with host := d.host.record d.fc master id addr win cause } : Dev).tick (0x4190 + master) 1) 0x1002 0
    (leBytes 1 master ++ leBytes 1 id ++ leBytes 5 addr ++ leBytes 1 cause)
  rw [Dev.tick_host] at signals
  exact signals

theorem exec_lateWriteFault {s : State} {master id addr win cause : Nat} (live : s.live = true) (masters : master < 9)
    (ids : id < 16) (wins : win < 8) (least : 1 ≤ cause) (most : cause ≤ 5) :
    exec (.lateWriteFault master id addr win cause) s =
      .next (s.settle (s.dev.lateWrite master id addr win cause)) := by
  show execLateWriteFault master id addr win cause s = _
  rw [execLateWriteFault, State.runIf_eq s _ _ (State.powered_of_live live) (by simp [masters, ids, wins, least, most])]

theorem late_write_fault_is_recorded (s : State) (master id addr win cause : Nat) (live : s.live = true)
    (masters : master < 9) (ids : id < 16) (wins : win < 8) (least : 1 ≤ cause) (most : cause ≤ 5)
    (alone : ¬(2 ≤ master ∧ master ≤ 5) ∨ (∀ w ∈ s.dev.host.waiting, w.core ≠ some (master - 2))) :
    ∃ t, exec (.lateWriteFault master id addr win cause) s = .next t ∧
      (s.dev.host.lwf.length < 16 → t.dev.host.lwf = s.dev.host.lwf ++
          [{ addr := addr, master := master, id := id, win := if master = 7 then win else 0, cause := cause, fc := s.dev.fc }] ∧
        t.dev.host.lwfLost = s.dev.host.lwfLost) ∧
      (16 ≤ s.dev.host.lwf.length → t.dev.host.lwf = s.dev.host.lwf ∧
        t.dev.host.lwfLost = min 0xFFFF (s.dev.host.lwfLost + 1)) ∧
      (master = 7 → bit t.dev.host.hwinFault win = true) ∧ (master ≠ 7 → t.dev.host.hwinFault = s.dev.host.hwinFault) ∧
      s.raisesOne t 0x1002 0 (leBytes 1 master ++ leBytes 1 id ++ leBytes 5 addr ++ leBytes 1 cause) ∧
      t.dev.host.waiting = s.dev.host.waiting ∧ t.mem = s.mem ∧ t.bar1 = s.bar1 := by
  have run := exec_lateWriteFault (addr := addr) live masters ids wins least most
  rw [Dev.lateWrite_of_none alone] at run
  have one : s.raisesOne (s.settle (s.dev.recordFault master id addr win cause)) 0x1002 0
      (leBytes 1 master ++ leBytes 1 id ++ leBytes 5 addr ++ leBytes 1 cause) :=
    State.raisesOne_settle_raise (by rw [Dev.tick_fc]) (by rw [Dev.tick_log]) ..
  obtain ⟨fatal, pair, pba, sent, host⟩ := s.dev.recordFault_host master id addr win cause
  generalize s.dev.recordFault master id addr win cause = e at run one host
  have lwf := congrArg HostIf.lwf host
  have lost := congrArg HostIf.lwfLost host
  have fault := congrArg HostIf.hwinFault host
  have waiting := congrArg HostIf.waiting host
  have out := congrArg HostIf.out host
  simp only [HostIf.record] at lwf lost fault waiting out
  refine ⟨_, run, fun room => ⟨lwf.trans (if_pos room), lost.trans (if_pos room)⟩,
    fun full => ⟨lwf.trans (if_neg (by omega)), lost.trans (if_neg (by omega))⟩, fun window => ?_,
    fun other => fault.trans (if_neg other), one, waiting, rfl, State.settle_bar1_of_live live out⟩
  show bit e.host.hwinFault win = true
  rw [fault, if_pos window, bit_setBit_self]

theorem late_write_fault_ends_command (s : State) (core id addr win cause : Nat) (w : Waiting) (live : s.live = true)
    (known : core < 4) (ids : id < 16) (wins : win < 8) (least : 1 ≤ cause) (most : cause ≤ 5)
    (holds : s.dev.host.waiting.find? (fun w => w.core == some core) = some w) (own : w.fromTwin = false)
    (untimed : w.target = none) :
    ∃ t, exec (.lateWriteFault (core + 2) id addr win cause) s = .next t ∧
      t.bar1 = Memory.writeBytes s.bar1 (s.dev.rspSlot w.cmd.mb) (w.response stWriteFault [] s.dev.fc).bytes ∧
      (∀ v ∈ t.dev.host.waiting, v.order ≠ w.order) ∧ t.mem = s.mem := by
  have run := exec_lateWriteFault (master := core + 2) (addr := addr) live (by omega) ids wins least most
  rw [Dev.lateWrite_of_core known holds] at run
  obtain ⟨fatal, pair, pba, sent, host⟩ := s.dev.recordFault_host (core + 2) id addr win cause
  have fc : (s.dev.recordFault (core + 2) id addr win cause).fc = s.dev.fc := by
    rw [Dev.recordFault, Dev.raise_fc, Dev.tick_fc]
  generalize s.dev.recordFault (core + 2) id addr win cause = e at run host fc
  refine ⟨_, run, State.settle_bar1_of_one live ?_, ?_, rfl⟩
  · rw [Dev.finish_out own untimed, fc, Dev.rspSlot, Dev.mb, host]
    rfl
  · rw [State.settle_waiting, Dev.finish_waiting]
    exact order_ne_of_filter

/-! ### A load whose transfer fails (R314) -/

/-- A load whose transfer failed has left the loader, with event 0x1006 (R314). -/
def Dev.loadAborted (d : Dev) (j : LoadJob) : Dev :=
  Dev.transferFailed { d with sched := { d.sched with load := none } } 0x0201 j.address

theorem Dev.loadFails_eq {d : Dev} {j : LoadJob} {w : Waiting}
    (waits : d.host.waiting.find? (fun w => w.order == j.order) = some w) :
    d.loadFails j = (d.loadAborted j).finish w stWriteFault [] := by
  have still : (d.loadAborted j).host.waiting.find? (fun w => w.order == j.order) = some w := by
    rw [Dev.loadAborted, Dev.transferFailed, Dev.raise_waiting, waits]
  show (d.loadAborted j).finishOrder j.order stWriteFault [] = _
  rw [Dev.finishOrder, still]

theorem load_transfer_fails (s : State) (j : LoadJob) (w : Waiting) (live : s.live = true)
    (loads : s.dev.sched.load = some j) (host : j.source = 0) (uncopied : j.copy = none)
    (waits : s.dev.host.waiting.find? (fun w => w.order == j.order) = some w) (own : w.fromTwin = false)
    (untimed : w.target = none) :
    ∃ t, exec (.dmaTransferFailed .load) s = .next t ∧ t.dev.sched = { s.dev.sched with load := none } ∧
      s.raisesOne t 0x1006 0 (leBytes 1 1 ++ leBytes 2 0x0201 ++ leBytes 8 j.address) ∧
      t.bar1 = Memory.writeBytes s.bar1 (s.dev.rspSlot w.cmd.mb) (w.response stWriteFault [] s.dev.fc).bytes ∧
      t.mem = s.mem := by
  have run : exec (.dmaTransferFailed .load) s =
      .next (s.settle ((s.dev.loadAborted j).finish w stWriteFault [])) := by
    show execDmaTransferFailed .load s = _
    rw [execDmaTransferFailed, State.run_eq s _ (State.powered_of_live live), loads]
    simp only [host, uncopied, Option.isNone_none, Bool.and_true, decide_true, if_true]
    rw [Dev.loadFails_eq waits]
  refine ⟨_, run, ?_, ?_, State.settle_bar1_of_one live ?_, rfl⟩
  · rw [State.settle_sched, Dev.finish_sched]
    rfl
  · refine State.settle_arising_one s _ _ ?_
    rw [Dev.finish_log (by decide), Dev.loadAborted, Dev.transferFailed, Dev.raise_arising]
    rfl
  · rw [Dev.finish_out own untimed, Dev.loadAborted, Dev.transferFailed, Dev.raise_out, Dev.raise_fc, Dev.rspSlot,
      Dev.rspSlot, Dev.raise_mb]
    rfl

/-! ### Resets of the endpoint (R315) -/

theorem Tab.get_map {α : Type} {a : α} {f : α → α} (dflt : f a = a) (t : Tab α) (k : Nat) :
    Tab.get a (t.map fun p => (p.1, f p.2)) k = f (Tab.get a t k) := by
  induction t with
  | nil => exact dflt.symm
  | cons p t ih =>
    obtain ⟨j, b⟩ := p
    by_cases own : j = k
    · simp [Tab.get, own]
    · simpa [Tab.get, own] using ih

/-- A mailbox after a reset of the endpoint: what was announced and not acknowledged is forgotten. -/
def Mailbox.restart (m : Mailbox) : Mailbox := { m with cmdProd := m.cmdAck, announced := m.cmdAck, irqEn := false }

theorem Dev.endpointReset_mb (d : Dev) (n : Nat) : d.endpointReset.mb n = (d.mb n).restart :=
  Tab.get_map (f := Mailbox.restart) rfl d.host.mbs n

/-- From `d` to `e` the endpoint was reset, whatever became of its alarm bits, its pending vectors, its link, the power
domains and the log. -/
structure Dev.ResetsEndpoint (d e : Dev) : Prop where
  fc : e.fc = d.fc
  sched : e.sched = d.sched
  pair : e.pair = d.pair
  mbs : e.host.mbs = d.endpointReset.host.mbs
  queue : e.host.queue = d.host.queue
  waiting : e.host.waiting = d.host.waiting
  out : e.host.out = d.host.out
  wins : e.host.wins = []
  sinterWe : e.host.sinterWe = 0
  msix : e.host.msix = []
  busMaster : e.host.busMaster = false
  lwf : e.host.lwf = []
  hwinFault : e.host.hwinFault = 0

theorem Dev.ResetsEndpoint.endpointReset (d : Dev) : d.ResetsEndpoint d.endpointReset :=
  ⟨rfl, rfl, rfl, rfl, rfl, rfl, rfl, rfl, rfl, rfl, rfl, rfl, rfl⟩

theorem Dev.ResetsEndpoint.raise {d e : Dev} (h : d.ResetsEndpoint e) (code obj : Nat) (l : List Byte) :
    d.ResetsEndpoint (e.raise code obj l) := by
  obtain ⟨fatal, pair, pba, sent, host⟩ := Dev.raise_signals e code obj l
  exact ⟨h.fc, h.sched, h.pair, by rw [host]; exact h.mbs, by rw [host]; exact h.queue, by rw [host]; exact h.waiting,
    by rw [host]; exact h.out, by rw [host]; exact h.wins, by rw [host]; exact h.sinterWe, by rw [host]; exact h.msix,
    by rw [host]; exact h.busMaster, by rw [host]; exact h.lwf, by rw [host]; exact h.hwinFault⟩

theorem Dev.ResetsEndpoint.setDomain {d e : Dev} (h : d.ResetsEndpoint e) (k : Nat) (x : Domain) :
    d.ResetsEndpoint (e.setDomain k x) :=
  ⟨h.fc, h.sched, h.pair, h.mbs, h.queue, h.waiting, h.out, h.wins, h.sinterWe, h.msix, h.busMaster, h.lwf, h.hwinFault⟩

/-- The device with its PCIe link as given (R315). -/
def Dev.setLink (d : Dev) (up : Bool) (width speed : Nat) : Dev :=
  { d with host := { d.host with linkUp := up, linkWidth := width, linkSpeed := speed } }

theorem Dev.ResetsEndpoint.setLink {d e : Dev} (h : d.ResetsEndpoint e) (up : Bool) (width speed : Nat) :
    d.ResetsEndpoint (e.setLink up width speed) :=
  ⟨h.fc, h.sched, h.pair, h.mbs, h.queue, h.waiting, h.out, h.wins, h.sinterWe, h.msix, h.busMaster, h.lwf, h.hwinFault⟩

theorem Dev.ResetsEndpoint.mb {d e : Dev} (h : d.ResetsEndpoint e) (n : Nat) : e.mb n = (d.mb n).restart := by
  rw [← Dev.endpointReset_mb, Dev.mb, h.mbs, Dev.mb]

/-- PERST_N asserted: the endpoint is reset, and its power domain rises where it was off (R315, R416). -/
def Dev.perst (d : Dev) : Dev :=
  if (d.domain domPcie).state = .off then
    d.endpointReset.setDomain domPcie { d.domain domPcie with
      state := .rising, risingMfn := d.mfn, switches := satAdd max32 (d.domain domPcie).switches 1, lastFc := d.fc }
  else d.endpointReset

/-- The link goes up or down, or changes its width or its speed, with event 0x1004 (R315). -/
def Dev.changeLink (d : Dev) (up : Bool) (width speed : Nat) : Dev :=
  if up = d.host.linkUp && width = d.host.linkWidth && speed = d.host.linkSpeed then d
  else (d.setLink (up && d.domOn domPcie) width speed).raise 0x1004 0 (leBytes 1 (b2n up) ++ leBytes 1 width ++ leBytes 1 speed)

theorem Dev.ResetsEndpoint.changeLink {d e : Dev} (h : d.ResetsEndpoint e) (up : Bool) (width speed : Nat) :
    d.ResetsEndpoint (e.changeLink up width speed) := by
  unfold Dev.changeLink
  split
  · exact h
  · exact (h.setLink ..).raise ..

theorem Dev.changeLink_keeps_event {d : Dev} {x : Event} (h : x ∈ d.log.arising) (up : Bool) (width speed : Nat) :
    x ∈ (d.changeLink up width speed).log.arising := by
  unfold Dev.changeLink
  split
  · exact h
  · rw [Dev.raise_arising]
    exact List.mem_append_left _ h

/-- A link that was up goes down. -/
theorem Dev.changeLink_down {d : Dev} (up : d.host.linkUp = true) (width speed : Nat) : d.changeLink false width speed =
    (d.setLink false width speed).raise 0x1004 0 (leBytes 1 0 ++ leBytes 1 width ++ leBytes 1 speed) := by
  simp [Dev.changeLink, up, b2n]

theorem Dev.perst_resetsEndpoint (d : Dev) : d.ResetsEndpoint d.perst := by
  unfold Dev.perst
  split
  · exact (Dev.ResetsEndpoint.endpointReset d).setDomain ..
  · exact .endpointReset d

theorem Dev.perst_rises {d : Dev} (off : (d.domain domPcie).state = .off) : (d.perst.domain domPcie).state = .rising := by
  rw [Dev.perst, if_pos off, Dev.setDomain_domain, if_pos rfl]

theorem exec_perstNAsserted {s : State} (live : s.live = true) : exec .perstNAsserted s = .next (s.settle s.dev.perst) := by
  show execPerstNAsserted s = _
  rw [execPerstNAsserted, State.run_eq s _ (State.powered_of_live live)]
  rfl

theorem exec_pcieFlr {s : State} (live : s.live = true) :
    exec .pcieFlr s = .next (s.settle (s.dev.endpointReset.raise 0x1005 0 (leBytes 1 0))) := by
  show execPcieFlr s = _
  rw [execPcieFlr, State.run_eq s _ (State.powered_of_live live)]

theorem exec_hotReset {s : State} (live : s.live = true) (width speed : Nat) :
    exec (.pcieLinkChange true true width speed) s =
      .next (s.settle ((s.dev.endpointReset.raise 0x1005 0 (leBytes 1 1)).changeLink true width speed)) := by
  show execPcieLinkChange true true width speed s = _
  rw [execPcieLinkChange, State.run_eq s _ (State.powered_of_live live)]
  rfl

theorem exec_linkDown {s : State} (live : s.live = true) (width speed : Nat) :
    exec (.pcieLinkChange false false width speed) s = .next (s.settle (s.dev.endpointReset.changeLink false width speed)) := by
  show execPcieLinkChange false false width speed s = _
  rw [execPcieLinkChange, State.run_eq s _ (State.powered_of_live live)]
  rfl

/-- The host finds a reset of the endpoint in a state that hands over a device that went through one. -/
theorem State.shows_endpointReset {s : State} {e : Dev} (live : s.live = true) (resets : s.dev.ResetsEndpoint e) :
    ((s.settle e).dev.fc = s.dev.fc ∧ (s.settle e).dev.sched = s.dev.sched ∧ (s.settle e).dev.pair = s.dev.pair ∧
      (s.settle e).dev.host.queue = s.dev.host.queue ∧ (s.settle e).dev.host.waiting = s.dev.host.waiting ∧
      (∀ n, (s.settle e).dev.mb n = { s.dev.mb n with
        cmdProd := (s.dev.mb n).cmdAck, announced := (s.dev.mb n).cmdAck, irqEn := false }) ∧
      (s.settle e).dev.host.wins = [] ∧ (s.settle e).dev.host.sinterWe = 0 ∧ (s.settle e).dev.host.msix = [] ∧
      (s.settle e).dev.host.busMaster = false ∧ (s.settle e).dev.host.lwf = [] ∧
      (s.settle e).dev.host.hwinFault = 0) ∧ (s.settle e).bar1 = s.bar1 :=
  ⟨⟨resets.fc, resets.sched, resets.pair, resets.queue, resets.waiting,
    fun n => (State.settle_mb ..).trans (resets.mb n), resets.wins, resets.sinterWe, resets.msix, resets.busMaster,
    resets.lwf, resets.hwinFault⟩, State.settle_bar1_of_live live resets.out⟩

theorem endpoint_reset_keeps_rings (s : State) (i : Instr) (live : s.live = true)
    (which : i = .perstNAsserted ∨ i = .pcieFlr ∨ ∃ width speed, i = .pcieLinkChange true true width speed) :
    ∃ t, exec i s = .next t ∧ t.dev.fc = s.dev.fc ∧ t.dev.sched = s.dev.sched ∧ t.dev.pair = s.dev.pair ∧
      t.dev.host.queue = s.dev.host.queue ∧ t.dev.host.waiting = s.dev.host.waiting ∧
      (∀ n, t.dev.mb n = { s.dev.mb n with
        cmdProd := (s.dev.mb n).cmdAck, announced := (s.dev.mb n).cmdAck, irqEn := false }) ∧
      t.dev.host.wins = [] ∧ t.dev.host.sinterWe = 0 ∧ t.dev.host.msix = [] ∧ t.dev.host.busMaster = false ∧
      t.dev.host.lwf = [] ∧ t.dev.host.hwinFault = 0 ∧
      (i = .pcieFlr → s.raisesOne t 0x1005 0 (leBytes 1 0)) ∧
      ((∃ width speed, i = .pcieLinkChange true true width speed) →
        s.dev.eventOf 0x1005 0 (leBytes 1 1) ∈ t.dev.log.arising) ∧
      (i = .perstNAsserted → (s.dev.domain domPcie).state = .off → (t.dev.domain domPcie).state = .rising) ∧
      t.mem = s.mem ∧ t.bar1 = s.bar1 := by
  have reset := Dev.ResetsEndpoint.endpointReset s.dev
  obtain rfl | rfl | ⟨width, speed, rfl⟩ := which
  · obtain ⟨⟨fc, sched, pair, queue, waiting, mbs, wins, we, msix, master, lwf, fault⟩, bar1⟩ :=
      State.shows_endpointReset live s.dev.perst_resetsEndpoint
    exact ⟨_, exec_perstNAsserted live, fc, sched, pair, queue, waiting, mbs, wins, we, msix, master, lwf, fault, nofun,
      nofun, fun _ off => Dev.perst_rises off, rfl, bar1⟩
  · obtain ⟨⟨fc, sched, pair, queue, waiting, mbs, wins, we, msix, master, lwf, fault⟩, bar1⟩ :=
      State.shows_endpointReset live (reset.raise 0x1005 0 (leBytes 1 0))
    exact ⟨_, exec_pcieFlr live, fc, sched, pair, queue, waiting, mbs, wins, we, msix, master, lwf, fault,
      fun _ => State.raisesOne_settle_raise rfl rfl .., nofun, nofun, rfl, bar1⟩
  · obtain ⟨⟨fc, sched, pair, queue, waiting, mbs, wins, we, msix, master, lwf, fault⟩, bar1⟩ :=
      State.shows_endpointReset live ((reset.raise 0x1005 0 (leBytes 1 1)).changeLink true width speed)
    refine ⟨_, exec_hotReset live width speed, fc, sched, pair, queue, waiting, mbs, wins, we, msix, master, lwf, fault,
      nofun, fun _ => ?_, nofun, rfl, bar1⟩
    refine (State.mem_settle_arising ..).mpr (Dev.changeLink_keeps_event ?_ ..)
    rw [Dev.raise_arising]
    exact List.mem_append_right _ (List.mem_singleton_self _)

theorem link_down_resets_endpoint (s : State) (width speed : Nat) (live : s.live = true)
    (up : s.dev.host.linkUp = true) :
    ∃ t, exec (.pcieLinkChange false false width speed) s = .next t ∧ t.dev.host.linkUp = false ∧ t.dev.host.wins = [] ∧
      s.raisesOne t 0x1004 0 (leBytes 1 0 ++ leBytes 1 width ++ leBytes 1 speed) ∧
      t.dev.host.queue = s.dev.host.queue ∧ t.dev.fc = s.dev.fc ∧ t.mem = s.mem ∧ t.bar1 = s.bar1 := by
  have run := exec_linkDown live width speed
  have resets := (Dev.ResetsEndpoint.endpointReset s.dev).setLink false width speed
  have log : (s.dev.endpointReset.setLink false width speed).log.arising = s.dev.log.arising := rfl
  have down : (s.dev.endpointReset.setLink false width speed).host.linkUp = false := rfl
  rw [Dev.changeLink_down (d := s.dev.endpointReset) up] at run
  generalize s.dev.endpointReset.setLink false width speed = e at run resets log down
  obtain ⟨fatal, pair, pba, sent, host⟩ := Dev.raise_signals e 0x1004 0 (leBytes 1 0 ++ leBytes 1 width ++ leBytes 1 speed)
  have linkUp := congrArg HostIf.linkUp host
  have raised := resets.raise 0x1004 0 (leBytes 1 0 ++ leBytes 1 width ++ leBytes 1 speed)
  exact ⟨_, run, linkUp.trans down, raised.wins, State.raisesOne_settle_raise resets.fc log .., raised.queue, raised.fc, rfl,
    State.settle_bar1_of_live live raised.out⟩

/-! ### Cores that restart (R323, R416) -/

/-- The device with a command at the head of its queue. -/
def Dev.pushBack (d : Dev) (c : Cmd) : Dev := { d with host := { d.host with queue := c :: d.host.queue } }

/-- The command that core `core` was executing returns to the head of its class. -/
def Dev.giveBack (d : Dev) (core : Nat) : Dev :=
  match d.host.waiting.find? fun w => w.core == some core with
  | some w => (d.unhold w.order).pushBack w.cmd
  | none => d

/-- A restart counts against the trial that runs. -/
def Dev.countTrip (d : Dev) : Dev :=
  { d with pwr := { d.pwr with trial := match d.pwr.trial with | some (m, n, k, b) => some (m, n, k + 1, b) | none => none } }

@[simp] theorem Dev.countTrip_fc (d : Dev) : d.countTrip.fc = d.fc := rfl
@[simp] theorem Dev.countTrip_log (d : Dev) : d.countTrip.log = d.log := rfl
@[simp] theorem Dev.countTrip_host (d : Dev) : d.countTrip.host = d.host := rfl

theorem Dev.restartCore_eq (d : Dev) (core cause : Nat) :
    d.restartCore core cause = ((d.giveBack core).countTrip).raise 0x0014 0 (leBytes 1 core ++ leBytes 1 cause) := by
  unfold Dev.restartCore Dev.giveBack
  cases d.host.waiting.find? fun w => w.core == some core <;> rfl

theorem exec_coreWatchdogExpiry {s : State} {core : Nat} (live : s.live = true) (known : core < 4)
    (up : bit s.dev.pwr.coresUp core = true) (runs : s.dev.pwr.fwState = 2) :
    exec (.coreWatchdogExpiry core) s =
      .next (s.settle (((s.dev.giveBack core).countTrip).raise 0x0014 0 (leBytes 1 core ++ leBytes 1 0))) := by
  show execCoreWatchdogExpiry core s = _
  rw [execCoreWatchdogExpiry, State.runIf_eq s _ _ (State.powered_of_live live) (by simp [known, up, runs]),
    Dev.restartCore_eq]

theorem Dev.giveBack_of_some {d : Dev} {core : Nat} {w : Waiting}
    (holds : d.host.waiting.find? (fun w => w.core == some core) = some w) :
    d.giveBack core = (d.unhold w.order).pushBack w.cmd := by
  rw [Dev.giveBack, holds]

theorem Dev.giveBack_of_none {d : Dev} {core : Nat} (free : ∀ w ∈ d.host.waiting, w.core ≠ some core) :
    d.giveBack core = d := by
  have nobody : d.host.waiting.find? (fun w => w.core == some core) = none :=
    List.find?_eq_none.mpr fun w m => by simpa using free w m
  rw [Dev.giveBack, nobody]

/-- What stands outside the queue and the commands that wait stays as a core gives its command back. -/
theorem Dev.giveBack_keeps (d : Dev) (core : Nat) :
    (d.giveBack core).fc = d.fc ∧ (d.giveBack core).log = d.log ∧ (d.giveBack core).host.out = d.host.out := by
  unfold Dev.giveBack
  split <;> exact ⟨rfl, rfl, rfl⟩

theorem core_restart_gives_command_back (s : State) (core : Nat) (live : s.live = true) (known : core < 4)
    (up : bit s.dev.pwr.coresUp core = true) (runs : s.dev.pwr.fwState = 2) :
    ∃ t, exec (.coreWatchdogExpiry core) s = .next t ∧
      s.raisesOne t 0x0014 0 (leBytes 1 core ++ leBytes 1 0) ∧
      (∀ w, s.dev.host.waiting.find? (fun w => w.core == some core) = some w →
        t.dev.host.queue = w.cmd :: s.dev.host.queue ∧ (∀ v ∈ t.dev.host.waiting, v.order ≠ w.order)) ∧
      ((∀ w ∈ s.dev.host.waiting, w.core ≠ some core) →
        t.dev.host.queue = s.dev.host.queue ∧ t.dev.host.waiting = s.dev.host.waiting) ∧
      t.mem = s.mem ∧ t.bar1 = s.bar1 := by
  obtain ⟨fc, log, out⟩ := s.dev.giveBack_keeps core
  refine ⟨_, exec_coreWatchdogExpiry live known up runs,
    State.raisesOne_settle_raise (by rw [Dev.countTrip_fc, fc]) (by rw [Dev.countTrip_log, log]) .., fun w holds => ?_, fun free => ?_, rfl,
    State.settle_bar1_of_live live ?_⟩
  · rw [State.settle_queue, State.settle_waiting, Dev.raise_queue, Dev.raise_waiting, Dev.countTrip_host,
      Dev.giveBack_of_some holds]
    exact ⟨rfl, order_ne_of_filter⟩
  · rw [State.settle_queue, State.settle_waiting, Dev.raise_queue, Dev.raise_waiting, Dev.countTrip_host,
      Dev.giveBack_of_none free]
    exact ⟨rfl, rfl⟩
  · rw [Dev.raise_out, Dev.countTrip_host, out]

/-- The image that runs, and the bank that it came from. -/
def Dev.runBank (d : Dev) (b : Nat) : Dev := { d with pwr := { d.pwr with running := d.pwr.bank b, fwSource := b } }

/-- The boot ROM takes the bank that FW_BANK names where its image passes. -/
theorem Dev.bootBank_of_sound {d : Dev} (sound : d.bankCheck d.fwBank = 0) : d.bootBank = (d, some d.fwBank) := by
  simp [Dev.bootBank, sound]

theorem exec_allCoresHalted {s : State} (live : s.live = true) (runs : s.dev.pwr.fwState = 2 ∨ s.dev.pwr.fwState = 3)
    (tried : s.dev.pwr.trial = none) (pause : s.dev.trialPause = false) (sound : s.dev.bankCheck s.dev.fwBank = 0) :
    exec .allCoresHalted s = .next (s.settle
      ((s.dev.requeue.raise 0x0014 0 (leBytes 1 0xFF ++ leBytes 1 1)).runBank s.dev.fwBank)) := by
  have boots : (s.dev.requeue.raise 0x0014 0 (leBytes 1 0xFF ++ leBytes 1 1)).bootBank =
      (s.dev.requeue.raise 0x0014 0 (leBytes 1 0xFF ++ leBytes 1 1), some s.dev.fwBank) :=
    Dev.bootBank_of_sound sound
  show execAllCoresHalted s = _
  rw [execAllCoresHalted, State.runIf_eq s _ _ (State.powered_of_live live)
    (by obtain r | r := runs <;> simp [r, tried, pause])]
  dsimp only
  rw [boots]
  rfl

/-- The cores give back every command that they were executing. -/
theorem Dev.requeue_host (d : Dev) : d.requeue.host.queue = (d.host.waiting.filter fun w => w.core.isSome).map (·.cmd) ++
    d.host.queue ∧ d.requeue.host.waiting = (d.host.waiting.filter fun w => w.core.isNone) ∧
    d.requeue.host.out = d.host.out := ⟨rfl, rfl, rfl⟩

theorem halted_cores_restart_from_bank (s : State) (live : s.live = true)
    (runs : s.dev.pwr.fwState = 2 ∨ s.dev.pwr.fwState = 3) (tried : s.dev.pwr.trial = none)
    (pause : s.dev.trialPause = false) (sound : s.dev.bankCheck s.dev.fwBank = 0) :
    ∃ t, exec .allCoresHalted s = .next t ∧ t.dev.pwr.running = s.dev.pwr.bank s.dev.fwBank ∧
      t.dev.pwr.fwSource = s.dev.fwBank ∧ s.raisesOne t 0x0014 0 (leBytes 1 0xFF ++ leBytes 1 1) ∧
      (∀ w ∈ s.dev.host.waiting, w.core.isSome = true → w.cmd ∈ t.dev.host.queue) ∧
      (∀ w ∈ s.dev.host.waiting, w.core = none → w ∈ t.dev.host.waiting) ∧
      t.dev.fc = s.dev.fc ∧ t.dev.sched = s.dev.sched ∧ t.mem = s.mem ∧ t.bar1 = s.bar1 := by
  have run := exec_allCoresHalted live runs tried pause sound
  have same : s.dev.requeue.fc = s.dev.fc ∧ s.dev.requeue.sched = s.dev.sched ∧ s.dev.requeue.pwr = s.dev.pwr ∧
      s.dev.requeue.log = s.dev.log := ⟨rfl, rfl, rfl, rfl⟩
  obtain ⟨queue, waiting, out⟩ := s.dev.requeue_host
  obtain ⟨fc, sched, pwr, log⟩ := same
  generalize s.dev.requeue = e at run queue waiting out fc sched pwr log
  refine ⟨_, run, congrArg (Power.bank · s.dev.fwBank) pwr, rfl, State.settle_arising_one s _ _ ?_,
    fun w m core => ?_, fun w m core => ?_, fc, sched, rfl, State.settle_bar1_of_live live ?_⟩
  · rw [Dev.runBank, Dev.raise_arising, log, Dev.eventOf, Dev.eventOf, fc]
  · rw [State.settle_queue, Dev.runBank, Dev.raise_queue, queue]
    exact List.mem_append_left _ (List.mem_map_of_mem (List.mem_filter.mpr ⟨m, core⟩))
  · rw [State.settle_waiting, Dev.runBank, Dev.raise_waiting, waiting]
    exact List.mem_filter.mpr ⟨m, by simp [core]⟩
  · rw [Dev.runBank, Dev.raise_out, out]

/-- Settles O49: late write faults and failed transfers, then the three resets of the endpoint and the link that goes down,
then the cores that restart. -/
theorem endpointResetsAndBusFaults : Obligations.endpoint_resets_and_bus_faults :=
  ⟨late_write_fault_is_recorded, late_write_fault_ends_command, load_transfer_fails, endpoint_reset_keeps_rings,
    link_down_resets_endpoint, core_restart_gives_command_back, halted_cores_restart_from_bank⟩

end Sys2Proof.Machine

namespace Sys2Proof.Machine

open Sys2Proof

/-! ### Steps on the log alone (R402, R403) -/

/-- The device with another log. -/
def Dev.setLog (d : Dev) (t : Tephra) : Dev := { d with log := t }

@[simp] theorem Dev.setLog_log (d : Dev) (t : Tephra) : (d.setLog t).log = t := rfl
@[simp] theorem Dev.setLog_host (d : Dev) (t : Tephra) : (d.setLog t).host = d.host := rfl
@[simp] theorem Dev.setLog_fc (d : Dev) (t : Tephra) : (d.setLog t).fc = d.fc := rfl

/-- A step on the log that raises nothing shows the log as its effect left it. -/
theorem State.settle_setLog {s : State} {t : Tephra} (live : s.live = true)
    (fewer : t.arising.length ≤ s.dev.log.arising.length) : s.settle (s.dev.setLog t) = { s with dev := s.dev.setLog t } := by
  have out : s.dev.host.out = [] := State.out_of_live live
  have host : { s.dev.host with out := [] } = s.dev.host := by
    cases h : s.dev.host with | mk => simp_all
  simp [State.settle, Dev.calm, Dev.setLog, List.take_of_length_le fewer, List.drop_of_length_le fewer, sortBy, out, host,
    Memory.puts]

/-! ### Overflow and replacement (R403) -/

/-- The log with another record in the staging queue. -/
def Tephra.stage (t : Tephra) (r : Record) : Tephra := { t with staging := t.staging ++ [r] }

theorem Tephra.enqueue_of_room {t : Tephra} (room : t.staging.length < 64) (r : Record) : t.enqueue r = t.stage r :=
  if_pos room

/-- The entry of a code counts a record that overflows. -/
theorem mem_overflowAdd (l : List Counted) (code obj sev fc n first : Nat) :
    ∃ c ∈ overflowAdd l code obj sev fc n first, c.code = code ∧ fc ≤ c.lastFc := by
  unfold overflowAdd
  split
  next known =>
    obtain ⟨c, m, own⟩ := List.any_eq_true.mp known
    have own : c.code = code := by simpa using own
    exact ⟨_, List.mem_map_of_mem m, by rw [if_pos own]; exact ⟨own, Nat.le_max_right ..⟩⟩
  next fresh => exact ⟨_, (mem_insertBy ..).mpr (.inl rfl), rfl, Nat.le_refl fc⟩

theorem lowestSev_le_iff (l : List Record) (n : Nat) : n ≤ lowestSev l ↔ n ≤ 3 ∧ ∀ r ∈ l, n ≤ r.sev := by
  have general : ∀ m, n ≤ l.foldl (fun m r => min m r.sev) m ↔ n ≤ m ∧ ∀ r ∈ l, n ≤ r.sev := by
    induction l with
    | nil => simp
    | cons r l ih => intro m; simp [ih, and_assoc]
  exact general 3

/-- The lowest severity, where it is below 3, is that of a record in the queue. -/
theorem exists_lowestSev {l : List Record} (low : lowestSev l < 3) : ∃ r ∈ l, r.sev = lowestSev l := by
  have some_at_most : ¬ ∀ r ∈ l, lowestSev l + 1 ≤ r.sev := fun all =>
    absurd ((lowestSev_le_iff l _).mpr ⟨low, all⟩) (by omega)
  have least := ((lowestSev_le_iff l _).mp (Nat.le_refl _)).2
  push Not at some_at_most
  obtain ⟨r, m, below⟩ := some_at_most
  exact ⟨r, m, by have := least r m; omega⟩

/-- A record of a severity that stands in the list is taken out of it. -/
theorem dropLatest_of_mem {l : List Record} {r : Record} (m : r ∈ l) :
    ∃ k x, k < l.length ∧ dropLatest r.sev l = (l.eraseIdx k, some x) := by
  unfold dropLatest
  split
  next i found =>
    have inside := (List.findIdx?_eq_some_iff_getElem.mp found).1
    rw [List.length_reverse] at inside
    have k : l.length - 1 - i < l.length := by omega
    exact ⟨_, l[l.length - 1 - i], k, by rw [← List.getElem?_eq_getElem k]⟩
  next none =>
    have absent := List.findIdx?_eq_none_iff.mp none r (List.mem_reverse.mpr m)
    simp at absent

@[simp] theorem Tephra.overflowRecord_staging (t : Tephra) (r : Record) : (t.overflowRecord r).staging = t.staging := rfl
@[simp] theorem Tephra.overflowRecord_arising (t : Tephra) (r : Record) : (t.overflowRecord r).arising = t.arising := rfl
@[simp] theorem Tephra.overflowRecord_ring (t : Tephra) (r : Record) : (t.overflowRecord r).ring = t.ring := rfl

/-- Where no staged record is less severe, the one that arrives overflows. -/
theorem Tephra.enqueue_overflows {t : Tephra} {r : Record} (full : 64 ≤ t.staging.length) (known : r.sev ≤ 3)
    (least : ∀ x ∈ t.staging, r.sev ≤ x.sev) : t.enqueue r = t.overflowRecord r := by
  have low := (lowestSev_le_iff t.staging r.sev).mpr ⟨known, least⟩
  rw [Tephra.enqueue, if_neg (by omega)]
  exact if_neg (by omega)

/-- Where a staged record is less severe, the latest of the lowest severity makes room and overflows. -/
theorem Tephra.enqueue_replaces {t : Tephra} {r : Record} (full : 64 ≤ t.staging.length) (known : r.sev ≤ 3)
    (less : ∃ x ∈ t.staging, x.sev < r.sev) : ∃ k x, k < t.staging.length ∧
      t.enqueue r = Tephra.overflowRecord { t with staging := t.staging.eraseIdx k ++ [r] } x := by
  obtain ⟨x, mx, below⟩ := less
  have atMost := ((lowestSev_le_iff t.staging _).mp (Nat.le_refl _)).2 x mx
  obtain ⟨y, my, lowest⟩ := exists_lowestSev (l := t.staging) (by omega)
  obtain ⟨k, z, inside, drop⟩ := dropLatest_of_mem my
  refine ⟨k, z, inside, ?_⟩
  rw [lowest] at drop
  rw [Tephra.enqueue, if_neg (by omega)]
  dsimp only
  rw [if_pos (by omega), drop]

/-- A record that arrives at a full queue. -/
theorem Tephra.enqueue_full {t : Tephra} {r : Record} (full : 64 ≤ t.staging.length) (known : r.sev ≤ 3) :
    (t.enqueue r).arising = t.arising ∧ (t.enqueue r).ring = t.ring ∧ (t.enqueue r).staging.length = t.staging.length ∧
      ((∃ x ∈ t.staging, x.sev < r.sev) → r ∈ (t.enqueue r).staging) := by
  by_cases less : ∃ x ∈ t.staging, x.sev < r.sev
  · obtain ⟨k, z, inside, own⟩ := Tephra.enqueue_replaces full known less
    rw [own]
    refine ⟨rfl, rfl, ?_, fun _ => ?_⟩
    · simp [List.length_eraseIdx, inside]
      omega
    · simp
  · rw [Tephra.enqueue_overflows full known (by push Not at less; exact less)]
    exact ⟨rfl, rfl, rfl, fun h => absurd h less⟩

/-! ### Events that are staged or counted (R402, R404) -/

theorem Tephra.enqueue_arising (t : Tephra) (r : Record) : (t.enqueue r).arising = t.arising := by
  unfold Tephra.enqueue
  dsimp only
  repeat' split
  all_goals rfl

theorem Tephra.see_arising (t : Tephra) (code obj : Nat) : (t.see code obj).arising = t.arising := by
  unfold Tephra.see
  split <;> rfl

theorem Tephra.coalesceAdd_arising (t : Tephra) (e : Event) : (t.coalesceAdd e).arising = t.arising := by
  unfold Tephra.coalesceAdd
  dsimp only
  repeat' split
  all_goals rfl

/-- The log once the first event that had arisen is taken up. -/
def Tephra.takeUp (t : Tephra) (rest : List Event) : Tephra := { t with arising := rest }

theorem Tephra.stageNext_eq {t : Tephra} {e : Event} {rest : List Event} (first : t.arising = e :: rest) :
    t.stageNext = if coalesces e.code then
        if (t.takeUp rest).seenCount e.code e.seenObj < ordinaryLimit e.code
        then ((t.takeUp rest).see e.code e.seenObj).enqueue e.record else (t.takeUp rest).coalesceAdd e
      else (t.takeUp rest).enqueue e.record := by
  simp only [Tephra.stageNext, first]
  rfl

theorem Tephra.stageNext_arising {t : Tephra} {e : Event} {rest : List Event} (first : t.arising = e :: rest) :
    t.stageNext.arising = rest := by
  rw [Tephra.stageNext_eq first]
  split
  · split
    · rw [Tephra.enqueue_arising, Tephra.see_arising]
      rfl
    · rw [Tephra.coalesceAdd_arising]
      rfl
  · rw [Tephra.enqueue_arising]
    rfl

theorem exec_eventStaged {s : State} {e : Event} {rest : List Event} (live : s.live = true)
    (first : s.dev.log.arising = e :: rest) :
    exec .eventStaged s = .next { s with dev := s.dev.setLog s.dev.log.stageNext } := by
  show execEventStaged s = _
  rw [execEventStaged, State.run_eq s _ (State.powered_of_live live)]
  exact congrArg _ (State.settle_setLog live (by rw [Tephra.stageNext_arising first, first]; simp))

theorem ordinary_event_is_staged (s : State) (e : Event) (rest : List Event) (live : s.live = true)
    (first : s.dev.log.arising = e :: rest) (plain : coalesces e.code = false) :
    (s.dev.log.staging.length < 64 → exec .eventStaged s = .next { s with dev := { s.dev with log := { s.dev.log with
      arising := rest, staging := s.dev.log.staging ++ [e.record] } } }) ∧
    (64 ≤ s.dev.log.staging.length → e.sev ≤ 3 → ∃ t, exec .eventStaged s = .next t ∧ t.dev.log.arising = rest ∧
      t.dev.log.staging.length = s.dev.log.staging.length ∧
      ((∀ r ∈ s.dev.log.staging, e.sev ≤ r.sev) → t.dev.log.staging = s.dev.log.staging ∧
        (∃ c ∈ t.dev.log.overflow, c.code = e.code ∧ e.fc ≤ c.lastFc)) ∧
      ((∃ r ∈ s.dev.log.staging, r.sev < e.sev) → e.record ∈ t.dev.log.staging) ∧
      t.dev.log.ring = s.dev.log.ring ∧ t.mem = s.mem ∧ t.bar1 = s.bar1) := by
  have run := exec_eventStaged live first
  rw [Tephra.stageNext_eq first, plain, if_neg Bool.false_ne_true] at run
  refine ⟨fun room => ?_, fun full known => ?_⟩
  · rw [Tephra.enqueue_of_room (t := s.dev.log.takeUp rest) room] at run
    exact run
  · obtain ⟨arising, ring, staging, replaced⟩ :=
      Tephra.enqueue_full (t := s.dev.log.takeUp rest) (r := e.record) full known
    refine ⟨_, run, arising, staging, fun least => ?_, replaced, ring, rfl, rfl⟩
    have overflows := Tephra.enqueue_overflows (t := s.dev.log.takeUp rest) (r := e.record) full known least
    rw [Dev.setLog, overflows]
    exact ⟨rfl, mem_overflowAdd ..⟩

theorem Tephra.seenCount_of_unseen {t : Tephra} {code obj : Nat} (unseen : ∀ x ∈ t.seen, ¬(x.1 = code ∧ x.2.1 = obj)) :
    t.seenCount code obj = 0 := by
  have none : t.seen.find? (fun x => x.1 == code && x.2.1 == obj) = none :=
    List.find?_eq_none.mpr fun x m => by simpa using unseen x m
  rw [Tephra.seenCount, none]

/-- The first ordinary record of a key. -/
theorem Tephra.see_of_unseen {t : Tephra} {code obj : Nat} (unseen : ∀ x ∈ t.seen, ¬(x.1 = code ∧ x.2.1 = obj)) :
    t.see code obj = { t with seen := t.seen ++ [(code, obj, 1)] } ∧ (t.see code obj).seenCount code obj = 1 := by
  have none : t.seen.find? (fun x => x.1 == code && x.2.1 == obj) = none :=
    List.find?_eq_none.mpr fun x m => by simpa using unseen x m
  have own : t.see code obj = { t with seen := t.seen ++ [(code, obj, 1)] } := if_pos (Tephra.seenCount_of_unseen unseen)
  refine ⟨own, ?_⟩
  simp [own, Tephra.seenCount, none]

/-- A further occurrence that has no entry of its own yet. -/
theorem Tephra.coalesceAdd_of_fresh {t : Tephra} {e : Event} (room : t.coalesce.length < 256)
    (fresh : ∀ c ∈ t.coalesce, ¬(c.code = e.code ∧ c.obj = e.obj)) :
    t.coalesceAdd e = { t with coalesce := t.coalesce ++ [{
      code := e.code, obj := e.obj, count := 1, firstFc := e.fc, lastFc := e.fc, sev := e.sev }] } := by
  have none : (t.coalesce.any fun c => c.code == e.code && c.obj == e.obj) = false := by
    simpa using fresh
  simp [Tephra.coalesceAdd, none, room]

theorem coalesced_event_is_staged_or_counted (s : State) (e : Event) (rest : List Event) (live : s.live = true)
    (first : s.dev.log.arising = e :: rest) (coalesced : coalesces e.code = true) (raised : e.code ≠ 0x0701)
    (cleared : e.code ≠ 0x0702) :
    ((∀ x ∈ s.dev.log.seen, ¬(x.1 = e.code ∧ x.2.1 = e.obj)) → s.dev.log.staging.length < 64 →
      ∃ t, exec .eventStaged s = .next t ∧ t.dev.log.staging = s.dev.log.staging ++ [e.record] ∧
        t.dev.log.seenCount e.code e.obj = 1 ∧ t.dev.log.coalesce = s.dev.log.coalesce) ∧
    (s.dev.log.seenCount e.code e.obj ≠ 0 → s.dev.log.coalesce.length < 256 →
      (∀ c ∈ s.dev.log.coalesce, ¬(c.code = e.code ∧ c.obj = e.obj)) →
      exec .eventStaged s = .next { s with dev := { s.dev with log := { s.dev.log with
        arising := rest, coalesce := s.dev.log.coalesce ++ [{
          code := e.code, obj := e.obj, count := 1, firstFc := e.fc, lastFc := e.fc, sev := e.sev }] } } }) := by
  have key : e.seenObj = e.obj := by simp [Event.seenObj, raised, cleared]
  have limit : ordinaryLimit e.code = 1 := by simp [ordinaryLimit, raised, cleared]
  have run := exec_eventStaged live first
  rw [Tephra.stageNext_eq first, if_pos coalesced, key, limit] at run
  refine ⟨fun unseen room => ?_, fun known room fresh => ?_⟩
  · have none := Tephra.seenCount_of_unseen (t := s.dev.log.takeUp rest) unseen
    obtain ⟨own, one⟩ := Tephra.see_of_unseen (t := s.dev.log.takeUp rest) unseen
    rw [if_pos (by omega), own, Tephra.enqueue_of_room (t := { s.dev.log.takeUp rest with seen := _ }) room] at run
    rw [own] at one
    exact ⟨_, run, rfl, one, rfl⟩
  · have some : (s.dev.log.takeUp rest).seenCount e.code e.obj ≠ 0 := known
    rw [if_neg (by omega), Tephra.coalesceAdd_of_fresh (t := s.dev.log.takeUp rest) room fresh] at run
    exact run

/-! ### Summaries (R403, R404) -/

theorem closed_entry_is_staged (s : State) (c : Counted) (rest : List Counted) (live : s.live = true)
    (due : s.dev.log.due = c :: rest) (room : s.dev.log.staging.length < 64) :
    exec .coalescedSummaryStaged s = .next { s with dev := { s.dev with log := { s.dev.log with
      due := rest, staging := s.dev.log.staging ++ [c.record] } } } := by
  show execCoalescedSummaryStaged s = _
  rw [execCoalescedSummaryStaged, State.run_eq s _ (State.powered_of_live live), due]
  dsimp only
  rw [Tephra.enqueue_of_room (t := { s.dev.log with due := rest }) room]
  exact congrArg _ (State.settle_setLog (t := Tephra.stage { s.dev.log with due := rest } c.record) live (Nat.le_refl _))

/-- The overflow entry staged next is one of least order. -/
theorem nextOverflow_spec {l : List Counted} (pending : l ≠ []) :
    ∃ c, nextOverflow l = some c ∧ c ∈ l ∧ ∀ x ∈ l, c.order ≤ x.order := by
  have general : ∀ (l : List Counted) (b : Counted), ∃ c,
      l.foldl (fun b c => match b with | none => some c | some x => if c.order < x.order then some c else some x) (some b) =
        some c ∧ (c = b ∨ c ∈ l) ∧ c.order ≤ b.order ∧ ∀ x ∈ l, c.order ≤ x.order := by
    intro l
    induction l with
    | nil => exact fun b => ⟨b, rfl, .inl rfl, Nat.le_refl _, nofun⟩
    | cons y l ih =>
      intro b
      by_cases below : y.order < b.order
      · obtain ⟨c, own, place, best, least⟩ := ih y
        refine ⟨c, by simpa [below] using own, .inr (List.mem_cons.mpr place), by omega, ?_⟩
        exact List.forall_mem_cons.mpr ⟨best, least⟩
      · obtain ⟨c, own, place, best, least⟩ := ih b
        refine ⟨c, by simpa [below] using own, place.imp_right (List.mem_cons_of_mem y), best, ?_⟩
        exact List.forall_mem_cons.mpr ⟨by omega, least⟩
  cases l with
  | nil => exact absurd rfl pending
  | cons b l =>
    obtain ⟨c, own, place, best, least⟩ := general l b
    exact ⟨c, own, List.mem_cons.mpr place, List.forall_mem_cons.mpr ⟨best, least⟩⟩

/-- The log once a pending overflow entry is staged. -/
def Tephra.stageOverflow (t : Tephra) (c : Counted) : Tephra :=
  { t with overflow := t.overflow.erase c, staging := t.staging ++ [c.record] }

theorem overflow_entry_is_staged (s : State) (live : s.live = true) (room : s.dev.log.staging.length < 64)
    (pending : s.dev.log.overflow ≠ []) :
    ∃ t, exec .overflowSummaryStaged s = .next t ∧ ∃ c, c ∈ s.dev.log.overflow ∧
      (∀ x ∈ s.dev.log.overflow, c.order ≤ x.order) ∧ t.dev.log.overflow = s.dev.log.overflow.erase c ∧
      t.dev.log.staging = s.dev.log.staging ++ [c.record] ∧ s.raisesNone t ∧ t.mem = s.mem ∧ t.bar1 = s.bar1 := by
  obtain ⟨c, next, m, least⟩ := nextOverflow_spec pending
  have run : exec .overflowSummaryStaged s = .next { s with dev := s.dev.setLog (s.dev.log.stageOverflow c) } := by
    show execOverflowSummaryStaged s = _
    rw [execOverflowSummaryStaged, State.runIf_eq s _ _ (State.powered_of_live live) (by simpa using room), next]
    exact congrArg _ (State.settle_setLog (t := s.dev.log.stageOverflow c) live (Nat.le_refl _))
  exact ⟨_, run, c, m, least, rfl, rfl, rfl, rfl, rfl⟩

/-! ### The writer (R401, R402, R407) -/

/-- The record written next is one of highest severity. -/
theorem bestRecord_spec {l : List Record} (staged : l ≠ []) :
    ∃ r, bestRecord l = some r ∧ r ∈ l ∧ ∀ y ∈ l, y.sev ≤ r.sev := by
  induction l with
  | nil => exact absurd rfl staged
  | cons r l ih =>
    cases l with
    | nil => exact ⟨r, rfl, by simp, by simp⟩
    | cons q l =>
      obtain ⟨b, own, m, best⟩ := ih (by simp)
      unfold bestRecord
      rw [own]
      by_cases less : r.sev < b.sev
      · exact ⟨b, if_pos less, List.mem_cons_of_mem r m, List.forall_mem_cons.mpr ⟨by omega, best⟩⟩
      · refine ⟨r, if_neg less, List.mem_cons_self, List.forall_mem_cons.mpr ⟨Nat.le_refl _, fun y my => ?_⟩⟩
        have := best y my
        omega

/-- The log after a record was written into the ring. -/
structure Tephra.Writes (t u : Tephra) (x : Record) : Prop where
  last : u.ring.getLast? = some (t.region * 65_536 + t.slot, t.seq, x)
  seq : u.seq = (t.seq + 1) % 2 ^ 32
  slot : u.slot = (t.slot + 1) % t.size
  staging : u.staging = t.staging
  arising : u.arising = t.arising

theorem Tephra.writeRing_writes {t : Tephra} (runs : t.region ≠ 2) (x : Record) : t.Writes (t.writeRing x) x := by
  rw [Tephra.writeRing, if_neg runs]
  exact ⟨List.getLast?_concat .., rfl, rfl, rfl, rfl⟩

/-- The black-box copy of a record writes Sinter words, and takes the next place of its ring. -/
theorem Dev.bbPut_keeps (d : Dev) (k v : Nat) : (d.bbPut k v).log = d.log ∧ (d.bbPut k v).host = d.host := by
  unfold Dev.bbPut
  dsimp only
  split <;> exact ⟨rfl, rfl⟩

theorem Dev.bbCopy_keeps (d : Dev) (l : List Byte) (fc : Nat) :
    (d.bbCopy l fc).log = { d.log with bbNext := (d.log.bbNext + 1) % 512 } ∧ (d.bbCopy l fc).host = d.host := by
  simp [Dev.bbCopy, Dev.bbPut_keeps]

/-- The log without a staged record. -/
def Tephra.unstage (t : Tephra) (r : Record) : Tephra := { t with staging := t.staging.erase r }

/-- A record that needs no black-box copy. -/
theorem Dev.writeRecord_of_masked {d : Dev} {r : Record} (next : bestRecord d.log.staging = some r)
    (masked : ¬ Tab.get 3 d.log.bbMin (r.code / 256) ≤ r.sev) :
    d.writeRecord = d.setLog ((d.log.unstage r).writeRing r) := by
  unfold Dev.writeRecord
  rw [next]
  exact if_neg masked

/-- A record that finds no token of the black box. -/
theorem Dev.writeRecord_of_empty {d : Dev} {r : Record} (next : bestRecord d.log.staging = some r)
    (copied : Tab.get 3 d.log.bbMin (r.code / 256) ≤ r.sev) (empty : d.log.bucket = 0) :
    d.writeRecord = (d.setLog { (d.log.unstage r).writeRing r with bbSkipped := satAdd max32 d.log.bbSkipped 1 }).raise
      0x1104 0 (leBytes 2 r.code) := by
  unfold Dev.writeRecord
  rw [next]
  exact (if_pos copied).trans (if_pos empty)

/-- A record is copied into the black box, written, and takes a token (R407). -/
def Dev.writeCopied (d : Dev) (r : Record) : Dev :=
  let r := { r with flags := r.flags + 2 }
  let d := d.bbCopy (r.bytes d.log.seq) r.fc
  { d with log := { d.log.writeRing r with bucket := d.log.bucket - 1 } }

/-- A record with its black-box copy. -/
theorem Dev.writeRecord_of_token {d : Dev} {r : Record} (next : bestRecord d.log.staging = some r)
    (copied : Tab.get 3 d.log.bbMin (r.code / 256) ≤ r.sev) (token : d.log.bucket ≠ 0) :
    d.writeRecord = (d.setLog (d.log.unstage r)).writeCopied r := by
  unfold Dev.writeRecord
  rw [next]
  exact (if_pos copied).trans (if_neg token)

theorem Dev.writeCopied_keeps (d : Dev) (r : Record) : (d.writeCopied r).host = d.host ∧ (d.writeCopied r).log =
    { Tephra.writeRing { d.log with bbNext := (d.log.bbNext + 1) % 512 } { r with flags := r.flags + 2 } with
      bucket := d.log.bucket - 1 } := by
  obtain ⟨log, host⟩ := d.bbCopy_keeps (Record.bytes { r with flags := r.flags + 2 } d.log.seq) r.fc
  unfold Dev.writeCopied
  dsimp only
  rw [host, log]
  exact ⟨rfl, rfl⟩

/-- The writer takes `r` from the staging queue; its record in the ring is `r`, or the copy that tells of the black box. -/
theorem Dev.writeRecord_spec {d : Dev} {r : Record} (next : bestRecord d.log.staging = some r) (runs : d.log.region ≠ 2) :
    d.writeRecord.host.out = d.host.out ∧ ∃ x,
      (d.log.unstage r).Writes { d.writeRecord.log with arising := d.log.arising } x ∧
      (x = r ∨ (x = { r with flags := r.flags + 2 } ∧ Tab.get 3 d.log.bbMin (r.code / 256) ≤ r.sev ∧
        d.writeRecord.log.bucket = d.log.bucket - 1)) := by
  by_cases copied : Tab.get 3 d.log.bbMin (r.code / 256) ≤ r.sev
  · by_cases empty : d.log.bucket = 0
    · obtain ⟨last, seq, slot, staging, arising⟩ := Tephra.writeRing_writes (t := d.log.unstage r) runs r
      rw [Dev.writeRecord_of_empty next copied empty, Dev.raise_out]
      exact ⟨rfl, r, ⟨last, seq, slot, staging, rfl⟩, .inl rfl⟩
    · obtain ⟨host, log⟩ := (d.setLog (d.log.unstage r)).writeCopied_keeps r
      obtain ⟨last, seq, slot, staging, arising⟩ := Tephra.writeRing_writes
        (t := { d.log.unstage r with bbNext := (d.log.bbNext + 1) % 512 }) runs { r with flags := r.flags + 2 }
      rw [Dev.writeRecord_of_token next copied empty, host, log]
      exact ⟨rfl, _, ⟨last, seq, slot, staging, rfl⟩, .inr ⟨rfl, copied, rfl⟩⟩
  · obtain ⟨last, seq, slot, staging, arising⟩ := Tephra.writeRing_writes (t := d.log.unstage r) runs r
    rw [Dev.writeRecord_of_masked next copied]
    exact ⟨rfl, r, ⟨last, seq, slot, staging, rfl⟩, .inl rfl⟩

theorem record_is_written (s : State) (live : s.live = true) (staged : s.dev.log.staging ≠ [])
    (runs : s.dev.log.region ≠ 2) :
    ∃ t, exec .tephraRecordWrite s = .next t ∧ ∃ r x, r ∈ s.dev.log.staging ∧
      (∀ y ∈ s.dev.log.staging, y.sev ≤ r.sev) ∧ t.dev.log.staging = s.dev.log.staging.erase r ∧
      t.dev.log.ring.getLast? = some (s.dev.log.region * 65_536 + s.dev.log.slot, s.dev.log.seq, x) ∧
      x.code = r.code ∧ x.fc = r.fc ∧ x.obj = r.obj ∧ x.data = r.data ∧
      (x = r ∨ (x = { r with flags := r.flags + 2 } ∧ Tab.get 3 s.dev.log.bbMin (r.code / 256) ≤ r.sev ∧
        t.dev.log.bucket = s.dev.log.bucket - 1)) ∧
      t.dev.log.seq = (s.dev.log.seq + 1) % 2 ^ 32 ∧ t.dev.log.slot = (s.dev.log.slot + 1) % s.dev.log.size ∧
      t.mem = s.mem ∧ t.bar1 = s.bar1 := by
  have run : exec .tephraRecordWrite s = .next (s.settle s.dev.writeRecord) := by
    show execTephraRecordWrite s = _
    rw [execTephraRecordWrite, State.run_eq s _ (State.powered_of_live live)]
  obtain ⟨r, next, m, best⟩ := bestRecord_spec staged
  obtain ⟨out, x, ⟨last, seq, slot, staging, -⟩, which⟩ := Dev.writeRecord_spec next runs
  generalize s.dev.writeRecord = e at run out last seq slot staging which
  have content : x.code = r.code ∧ x.fc = r.fc ∧ x.obj = r.obj ∧ x.data = r.data := by
    obtain rfl | ⟨rfl, -⟩ := which <;> exact ⟨rfl, rfl, rfl, rfl⟩
  obtain ⟨code, fc, obj, data⟩ := content
  exact ⟨_, run, r, x, m, best, staging, last, code, fc, obj, data, which, seq, slot, rfl,
    State.settle_bar1_of_live live out⟩

/-! ### Faults of the log memory (R406) -/

/-- The log on the spare region, after an uncorrectable error at a slot of the main ring. -/
def Tephra.moveToSpare (t : Tephra) (slot : Nat) (onWrite : Bool) : Tephra :=
  let u := { t with region := 1, slot := 0, badSlots := t.badSlots ++ [slot] }
  match t.ring.find? fun x => x.1 == slot with
  | some x => if onWrite && x.2.1 = (t.seq + 2 ^ 32 - 1) % 2 ^ 32 then
      { u with ring := (t.ring.filter fun y => y.1 != slot) ++ [(65536, x.2.1, x.2.2)], slot := 1 } else u
  | none => u

theorem Tephra.moveToSpare_keeps (t : Tephra) (slot : Nat) (onWrite : Bool) : (t.moveToSpare slot onWrite).region = 1 ∧
    (t.moveToSpare slot onWrite).seq = t.seq ∧ (t.moveToSpare slot onWrite).badSlots = t.badSlots ++ [slot] ∧
    (t.moveToSpare slot onWrite).arising = t.arising := by
  unfold Tephra.moveToSpare
  dsimp only
  repeat' split
  all_goals exact ⟨rfl, rfl, rfl, rfl⟩

/-- The error is counted, and where the writer leaves the main ring for the first time, Sinter notes when (R406). -/
def Dev.noteLogFault (d : Dev) : Dev :=
  let d := d.tick (0x4200 + 16 + 1) 1
  if d.log.region = 0 then (if d.sinter.read 56 = unset then d.sinterPut 56 d.fc else d) else d

theorem Dev.noteLogFault_keeps (d : Dev) :
    d.noteLogFault.log = d.log ∧ d.noteLogFault.host = d.host ∧ d.noteLogFault.fc = d.fc := by
  unfold Dev.noteLogFault
  dsimp only
  repeat' split
  all_goals simp [Dev.sinterPut]

theorem Dev.logFault_of_main {d : Dev} (main : d.log.region = 0) (slot : Nat) (onWrite : Bool) : d.logFault slot onWrite =
    (d.noteLogFault.setLog (d.log.moveToSpare slot onWrite)).raise 0x1102 0 (leBytes 2 slot) := by
  unfold Dev.logFault Dev.noteLogFault
  rw [Dev.tick_one]
  dsimp only
  rw [if_pos main, if_pos main]
  by_cases fresh : d.sinter.read 56 = unset
  · rw [if_pos fresh]
    rfl
  · rw [if_neg fresh]
    rfl

theorem Dev.logFault_of_spare {d : Dev} (spare : d.log.region = 1) (slot : Nat) (onWrite : Bool) : d.logFault slot onWrite =
    (d.noteLogFault.setLog { d.log with region := 2 }).raise 0x1103 0 (leBytes 2 slot) := by
  have other : d.log.region ≠ 0 := by omega
  unfold Dev.logFault Dev.noteLogFault
  rw [Dev.tick_one]
  dsimp only
  rw [if_neg other, if_pos spare, if_neg other]
  rfl

/-- A fault of severity 3 asserts the fatal alarm. -/
theorem Dev.raise_alarmFatal {code : Nat} (fatal : sevOf code = 3) (d : Dev) (obj : Nat) (l : List Byte) :
    (d.raise code obj l).host.alarmFatal = true := by
  unfold Dev.raise Dev.raiseAs HostIf.vector
  rw [fatal]
  dsimp only
  repeat' split
  all_goals simp_all [vectorOf]

theorem exec_logMemoryFault {s : State} {slot : Nat} (live : s.live = true) (inside : slot < s.dev.log.size)
    (onWrite : Bool) : exec (.logMemoryFault slot onWrite) s = .next (s.settle (s.dev.logFault slot onWrite)) := by
  show execLogMemoryFault slot onWrite s = _
  rw [execLogMemoryFault, State.runIf_eq s _ _ (State.powered_of_live live) (by simpa using inside)]

theorem log_memory_fault_moves_writer (s : State) (slot : Nat) (onWrite : Bool) (live : s.live = true)
    (inside : slot < s.dev.log.size) :
    (s.dev.log.region = 0 → ∃ t, exec (.logMemoryFault slot onWrite) s = .next t ∧ t.dev.log.region = 1 ∧
      t.dev.log.seq = s.dev.log.seq ∧ slot ∈ t.dev.log.badSlots ∧ t.dev.host.alarmFatal = true ∧
      s.raisesOne t 0x1102 0 (leBytes 2 slot) ∧ t.mem = s.mem ∧ t.bar1 = s.bar1) ∧
    (s.dev.log.region = 1 → ∃ t, exec (.logMemoryFault slot onWrite) s = .next t ∧ t.dev.log.region = 2 ∧
      t.dev.log.ring = s.dev.log.ring ∧ t.dev.host.alarmFatal = true ∧ s.raisesOne t 0x1103 0 (leBytes 2 slot) ∧
      t.mem = s.mem ∧ t.bar1 = s.bar1) := by
  have run := exec_logMemoryFault live inside onWrite
  obtain ⟨log, host, fc⟩ := s.dev.noteLogFault_keeps
  have out := congrArg HostIf.out host
  refine ⟨fun main => ?_, fun spare => ?_⟩
  · rw [Dev.logFault_of_main main] at run
    obtain ⟨region, seq, bad, arising⟩ := s.dev.log.moveToSpare_keeps slot onWrite
    refine ⟨_, run, region, seq, ?_, Dev.raise_alarmFatal (by decide) .., State.raisesOne_settle_raise ?_ ?_ .., rfl,
      State.settle_bar1_of_live live ?_⟩
    · show slot ∈ (s.dev.log.moveToSpare slot onWrite).badSlots
      rw [bad]
      exact List.mem_append_right _ (List.mem_singleton_self _)
    · rw [Dev.setLog_fc, fc]
    · rw [Dev.setLog_log, arising]
    · rw [Dev.raise_out, Dev.setLog_host, out]
  · rw [Dev.logFault_of_spare spare] at run
    refine ⟨_, run, rfl, rfl, Dev.raise_alarmFatal (by decide) .., State.raisesOne_settle_raise ?_ ?_ .., rfl,
      State.settle_bar1_of_live live ?_⟩
    · rw [Dev.setLog_fc, fc]
    · rw [Dev.setLog_log]
    · rw [Dev.raise_out, Dev.setLog_host, out]

/-! ### EVT_READ and EVT_MASK (R409, R410) -/

theorem event_read_is_answered (s : State) (core : Nat) (c : Cmd) (done : s.handedOver = true)
    (offered : s.dev.offers core 0x0D01 c = true) :
    ∃ t, exec (.evtRead core) s = .next t ∧
      s.answers t c stOk (evtRead ((s.dev.unqueue c).countBadReads c) c).2 ∧ t.dev.log.ring = s.dev.log.ring ∧
      t.dev.log.staging = s.dev.log.staging ∧ s.raisesNone t := by
  have run : exec (.evtRead core) s = .next (s.settle (((s.dev.unqueue c).countBadReads c).answer c stOk
      (evtRead ((s.dev.unqueue c).countBadReads c) c).2)) :=
    State.exec_accepted (i := .evtRead core) (check := fun _ _ => none)
      (accept := fun e _ c => (e.countBadReads c).answer c stOk (evtRead (e.countBadReads c) c).2) rfl offered rfl
  generalize (evtRead ((s.dev.unqueue c).countBadReads c) c).2 = pl at run ⊢
  have log : (((s.dev.unqueue c).countBadReads c).answer c stOk pl).log = ((s.dev.unqueue c).countBadReads c).log :=
    Dev.answer_log (by decide) ..
  have ring := congrArg Tephra.ring log
  have staging := congrArg Tephra.staging log
  have arising := congrArg Tephra.arising log
  exact ⟨_, run, State.answers_of_answer_after (d := (s.dev.unqueue c).countBadReads c) done rfl rfl rfl rfl stOk pl, ring,
    staging, State.raisesNone_settle arising⟩

theorem event_mask_is_set (s : State) (w : Waiting) (due : s.effectDue 0x0D02 w = true) :
    ∃ t, exec .untimedCommandEffect s = .next t ∧
      Tab.get 2 t.dev.log.irqMin (w.cmd.field 0 1) = clamp 0 4 (w.cmd.field 1 1) ∧
      Tab.get 3 t.dev.log.bbMin (w.cmd.field 0 1) = clamp 0 4 (w.cmd.field 2 1) ∧
      (∀ a, a ≠ w.cmd.field 0 1 → Tab.get 2 t.dev.log.irqMin a = Tab.get 2 s.dev.log.irqMin a ∧
        Tab.get 3 t.dev.log.bbMin a = Tab.get 3 s.dev.log.bbMin a) := by
  have opcode := State.opcode_of_effectDue due
  have applied : applyHigh s.dev w.cmd w.order = some (applyEvtMask s.dev w.cmd) := by
    simp [applyHigh, opcode]
  have run := State.exec_highEffect due (by simp [applyLow, opcode]) applied (by decide)
  have log := Dev.finish_log (st := stOk) (by decide) (applyEvtMask s.dev w.cmd).1 w []
  have irq := congrArg Tephra.irqMin log
  have bb := congrArg Tephra.bbMin log
  refine ⟨_, run, ?_, ?_, fun a other => ⟨?_, ?_⟩⟩
  · exact (congrArg (Tab.get 2 · _) irq).trans (Tab.get_set_self ..)
  · exact (congrArg (Tab.get 3 · _) bb).trans (Tab.get_set_self ..)
  · exact (congrArg (Tab.get 2 · _) irq).trans (Tab.get_set_of_ne _ _ _ _ _ other)
  · exact (congrArg (Tab.get 3 · _) bb).trans (Tab.get_set_of_ne _ _ _ _ _ other)

/-- Settles O54: staging and counting, then the summaries, the writer, the faults of its memory, and the two commands. -/
theorem eventsAreStagedCountedAndWritten : Obligations.events_are_staged_counted_and_written :=
  ⟨ordinary_event_is_staged, coalesced_event_is_staged_or_counted, closed_entry_is_staged, overflow_entry_is_staged,
    record_is_written, log_memory_fault_moves_writer, event_read_is_answered, event_mask_is_set⟩

end Sys2Proof.Machine

namespace Sys2Proof.Machine

open Sys2Proof

/-! ### Power and the two banks (R418, R424) -/

/-- The device with other power, boot and firmware state. -/
def Dev.setPwr (d : Dev) (p : Power) : Dev := { d with pwr := p }

@[simp] theorem Dev.setPwr_pwr (d : Dev) (p : Power) : (d.setPwr p).pwr = p := rfl
@[simp] theorem Dev.setPwr_host (d : Dev) (p : Power) : (d.setPwr p).host = d.host := rfl
@[simp] theorem Dev.setPwr_log (d : Dev) (p : Power) : (d.setPwr p).log = d.log := rfl
@[simp] theorem Dev.setPwr_fc (d : Dev) (p : Power) : (d.setPwr p).fc = d.fc := rfl
@[simp] theorem Dev.setPwr_sinter (d : Dev) (p : Power) : (d.setPwr p).sinter = d.sinter := rfl
@[simp] theorem State.settle_pwr (s : State) (d : Dev) : (s.settle d).dev.pwr = d.pwr := rfl

theorem Power.bank_setBank_self (p : Power) (b : Nat) (i : Option FwImage) : (p.setBank b i).bank b = i := by
  by_cases first : b = 0 <;> simp [Power.setBank, Power.bank, first]

/-- The bank that FW_BANK names stays as the other is written. -/
theorem Power.bank_setBank_inactive (p : Power) (b : Nat) (i : Option FwImage) :
    (p.setBank (1 - b) i).bank b = p.bank b := by
  by_cases first : b = 0
  · simp [Power.setBank, Power.bank, first]
  · have other : 1 - b = 0 := by omega
    simp [Power.setBank, Power.bank, first, other]

/-! ### Responses of jobs (R340) -/

theorem Dev.finishOrder_of_found {d : Dev} {order : Nat} {w : Waiting}
    (found : d.host.waiting.find? (fun w => w.order == order) = some w) (st : Nat) (pl : List Byte) :
    d.finishOrder order st pl = d.finish w st pl := by
  rw [Dev.finishOrder, found]

theorem Dev.finish_rspProd {d : Dev} {w : Waiting} (own : w.fromTwin = false) (st : Nat) (pl : List Byte) :
    ((d.finish w st pl).mb w.cmd.mb).rspProd = ((d.mb w.cmd.mb).rspProd + 1) % 2 ^ 16 := by
  unfold Dev.finish Dev.respond
  dsimp only
  rw [if_neg (by simp [own])]
  repeat' split
  all_goals simp [Dev.vector, Dev.setMb, Dev.mb, Tab.get_set_self, Dev.unhold]

/-! ### FW_STAGE (R424, R439) -/

/-- The stage that a command asks for. -/
def Dev.stageOf (d : Dev) (c : Cmd) : Stage :=
  { order := d.host.nextOrder, source := stageSource c, dest := stageDest c, length := stageLength c
    address := stageAddress c }

/-- The command waits as a job, the inactive bank is erased, and the transfer runs. -/
def Dev.openStage (d : Dev) (c : Cmd) : Dev :=
  (d.acceptJob c none false).setPwr
    { if stageDest c = 0 then d.pwr.setBank d.inactiveBank none else d.pwr with stage := some (d.stageOf c) }

theorem Dev.beginStage_eq (d : Dev) (c : Cmd) : d.beginStage c =
    if stageSource c = 0 && !d.dmaReady then (d.openStage c).stageFails (d.stageOf c) else d.openStage c := rfl

theorem Dev.openStage_keeps (d : Dev) (c : Cmd) : (d.openStage c).log = d.log ∧ (d.openStage c).host.out = d.host.out ∧
    (d.openStage c).host.queue = d.host.queue ∧ ∀ n, (d.openStage c).mb n = d.mb n := ⟨rfl, rfl, rfl, fun _ => rfl⟩

/-- The job that carries the stage waits last. -/
theorem Dev.openStage_waiting (d : Dev) (c : Cmd) : ∃ w : Waiting, (d.openStage c).host.waiting = d.host.waiting ++ [w] ∧
    w.cmd = c ∧ w.order = d.host.nextOrder ∧ w.fromTwin = false := ⟨_, rfl, rfl, rfl, rfl⟩

theorem Dev.openStage_pwr {d : Dev} {c : Cmd} (dest : stageDest c = 0) : (d.openStage c).pwr =
    { d.pwr.setBank d.inactiveBank none with stage := some (d.stageOf c) } := by
  rw [Dev.openStage, if_pos dest]
  rfl

theorem Dev.beginStage_of_ready {d : Dev} {c : Cmd} (ready : stageSource c ≠ 0 ∨ d.dmaReady = true) :
    d.beginStage c = d.openStage c := by
  rw [Dev.beginStage_eq, if_neg]
  rcases ready with flash | ready <;> simp [*]

/-- FW_STAGE into the inactive bank: RUN is for the boot ROM. -/
theorem stageDest_of_accepted {d : Dev} {c : Cmd} (firmware : d.pwr.fwState = 2) (accepted : checkFwStage d c = none) :
    stageDest c = 0 := by
  by_contra other
  have one : stageDest c = 1 := by
    have range : stageDest c ≤ 1 := by unfold stageDest fallback; split <;> omega
    omega
  rw [checkFwStage, if_neg (by omega), one] at accepted
  cases busy : d.fwBusy <;> simp [busy, refuseIf, refuse, firstRefusal] at accepted

/-- On the boot ROM FW_STAGE loads from the host into the running region. -/
theorem stage_of_accepted_on_rom {d : Dev} {c : Cmd} (rom : d.pwr.fwState = 0) (accepted : checkFwStage d c = none) :
    stageSource c = 0 ∧ stageDest c = 1 := by
  rw [checkFwStage, if_pos rom] at accepted
  by_contra other
  have refused : (stageSource c != 0 || stageDest c != 1) = true := by
    simp only [Bool.or_eq_true, bne_iff_ne]
    tauto
  rw [refuseIf_true refused, firstRefusal_cons_some] at accepted
  cases accepted

theorem exec_fwStage_accepted {s : State} {core : Nat} {c : Cmd} (offered : s.dev.offers core 0x0010 c = true)
    (accepted : checkFwStage s.dev c = none) :
    exec (.fwStage core) s = .next (s.settle ((s.dev.unqueue c).beginStage c)) :=
  State.exec_accepted (exec_fwStage core s) offered accepted

theorem stage_is_refused {s : State} {core : Nat} {c : Cmd} (done : s.handedOver = true)
    (offered : s.dev.offers core 0x0010 c = true) {st : Nat} {pl : List Byte}
    (refused : checkFwStage s.dev c = some (st, pl)) : ∃ t, exec (.fwStage core) s = .next t ∧ t.dev.pwr = s.dev.pwr ∧
      s.answers t c st pl := by
  obtain ⟨t, run, answers, rest⟩ := State.shows_rejection (exec_fwStage core s) done offered refused
  exact ⟨t, run, by rw [rest], answers⟩

theorem stage_is_opened {s : State} {core : Nat} {c : Cmd} (live : s.live = true)
    (offered : s.dev.offers core 0x0010 c = true) (accepted : checkFwStage s.dev c = none)
    (ready : stageSource c ≠ 0 ∨ s.dev.dmaReady = true) : ∃ t, exec (.fwStage core) s = .next t ∧
      t.dev.pwr.stage = some
        { order := s.dev.host.nextOrder, source := stageSource c, dest := 0, length := clamp 320 2_097_408 (c.field 4 4)
          address := c.field 8 8 / 64 * 64 } ∧
      t.dev.pwr.bank s.dev.inactiveBank = none ∧ t.dev.pwr.bank s.dev.fwBank = s.dev.pwr.bank s.dev.fwBank ∧
      t.dev.host.queue = s.dev.host.queue.erase c ∧ s.raisesNone t ∧ t.mem = s.mem ∧ t.bar1 = s.bar1 := by
  have run := exec_fwStage_accepted offered accepted
  have dest := stageDest_of_accepted (Dev.fronts_of_offers offered).1.firmware accepted
  rw [Dev.beginStage_of_ready (d := s.dev.unqueue c) ready] at run
  obtain ⟨log, out, queue, -⟩ := (s.dev.unqueue c).openStage_keeps c
  have pwr := Dev.openStage_pwr (d := s.dev.unqueue c) dest
  generalize (s.dev.unqueue c).openStage c = e at run log out queue pwr
  refine ⟨_, run, ?_, ?_, ?_, queue, State.raisesNone_settle (congrArg Tephra.arising log), rfl,
    State.settle_bar1_of_live live out⟩
  · rw [State.settle_pwr, pwr, ← dest]
    rfl
  · rw [State.settle_pwr, pwr]
    exact Power.bank_setBank_self ..
  · rw [State.settle_pwr, pwr]
    exact Power.bank_setBank_inactive ..

/-- A stage whose transfer fails has left the loader, and the bank stays as it was then. -/
theorem Dev.stageFails_eq (d : Dev) (g : Stage) : ∃ e : Dev, d.stageFails g = e.finishOrder g.order stWriteFault [] ∧
    e.pwr = { d.pwr with stage := none } ∧ e.host.waiting = d.host.waiting ∧ ∀ n, e.mb n = d.mb n := by
  refine ⟨_, rfl, rfl, ?_, fun n => ?_⟩
  · rw [Dev.raise_waiting]
    exact Dev.raise_waiting (d.setPwr { d.pwr with stage := none }) 0x1006 0
      (leBytes 1 1 ++ leBytes 2 0x0010 ++ leBytes 8 g.address)
  · rw [Dev.raise_mb]
    exact Dev.raise_mb (d.setPwr { d.pwr with stage := none }) 0x1006 0
      (leBytes 1 1 ++ leBytes 2 0x0010 ++ leBytes 8 g.address) n

/-- The one command that waits under a new order. -/
theorem find_of_fresh {l : List Waiting} {w : Waiting} (fresh : ∀ v ∈ l, v.order ≠ w.order) :
    (l ++ [w]).find? (fun v => v.order == w.order) = some w := by
  have none : l.find? (fun v => v.order == w.order) = none := List.find?_eq_none.mpr fun v m => by simpa using fresh v m
  simp [none]

theorem stage_without_transfer_ends {s : State} {core : Nat} {c : Cmd}
    (offered : s.dev.offers core 0x0010 c = true) (accepted : checkFwStage s.dev c = none) (source : stageSource c = 0)
    (ready : s.dev.dmaReady = false) (fresh : ∀ w ∈ s.dev.host.waiting, w.order ≠ s.dev.host.nextOrder) :
    ∃ t, exec (.fwStage core) s = .next t ∧
      t.dev.pwr.stage = none ∧ t.dev.pwr.bank s.dev.inactiveBank = none ∧
      (t.dev.mb c.mb).rspProd = ((s.dev.mb c.mb).rspProd + 1) % 2 ^ 16 := by
  have run := exec_fwStage_accepted offered accepted
  have dest := stageDest_of_accepted (Dev.fronts_of_offers offered).1.firmware accepted
  have idle : (s.dev.unqueue c).dmaReady = false := ready
  rw [Dev.beginStage_eq, if_pos (by simp [source, idle])] at run
  obtain ⟨w, waiting, cmd, order, own⟩ := (s.dev.unqueue c).openStage_waiting c
  obtain ⟨-, -, -, mbs⟩ := (s.dev.unqueue c).openStage_keeps c
  have pwr := Dev.openStage_pwr (d := s.dev.unqueue c) dest
  obtain ⟨e, fails, failedPwr, failedWaiting, failedMbs⟩ :=
    ((s.dev.unqueue c).openStage c).stageFails_eq ((s.dev.unqueue c).stageOf c)
  have found : e.host.waiting.find? (fun v => v.order == ((s.dev.unqueue c).stageOf c).order) = some w := by
    have same : ((s.dev.unqueue c).stageOf c).order = w.order := order.symm
    rw [failedWaiting, waiting, same]
    exact find_of_fresh fun v m => by rw [order]; exact fresh v m
  rw [fails, Dev.finishOrder_of_found found] at run
  refine ⟨_, run, ?_, ?_, ?_⟩
  · rw [State.settle_pwr, Dev.finish_pwr, failedPwr]
  · rw [State.settle_pwr, Dev.finish_pwr, failedPwr, pwr]
    exact Power.bank_setBank_self s.dev.pwr ..
  · rw [State.settle_mb, ← cmd, Dev.finish_rspProd own, failedMbs, mbs]
    rfl

/-- FW_STAGE on the boot ROM: a host's image is loaded to run, and no bank changes (R419, R439). -/
theorem stage_is_opened_on_rom (s : State) (c : Cmd) (rom : s.dev.pwr.fwState = 0)
    (free : s.dev.coreFree 0 = true) (front : bestOf s.dev.host.queue = some c) (mailbox : c.mb = 0)
    (opcode : c.opcode = 0x0010) (passes : ((s.dev.unqueue c).precheck c).isNone = true)
    (accepted : checkFwStage s.dev c = none) (ready : s.dev.dmaReady = true) :
    ∃ t, exec (.fwStage 0) s = .next t ∧
      t.dev.pwr.stage = some
        { order := s.dev.host.nextOrder, source := 0, dest := 1, length := clamp 320 2_097_408 (c.field 4 4)
          address := c.field 8 8 / 64 * 64 } ∧
      t.dev.pwr.bankA = s.dev.pwr.bankA ∧ t.dev.pwr.bankB = s.dev.pwr.bankB ∧ s.raisesNone t := by
  obtain ⟨source, dest⟩ := stage_of_accepted_on_rom rom accepted
  have run : exec (.fwStage 0) s = .next (s.settle ((s.dev.unqueue c).openStage c)) := by
    have clear : checkFwStage (s.dev.unqueue c) c = none := accepted
    rw [exec_fwStage, State.run_eq s _ (Dev.powered_of_coreFree free)]
    simp only [Dev.serve, Dev.take_of_rom free rom front mailbox opcode, Option.isNone_iff_eq_none.mp passes, clear,
      firstRefusal]
    rw [Dev.beginStage_of_ready (d := s.dev.unqueue c) (.inr ready)]
  obtain ⟨log, -, -, -⟩ := (s.dev.unqueue c).openStage_keeps c
  have pwr : ((s.dev.unqueue c).openStage c).pwr = { s.dev.pwr with stage := some ((s.dev.unqueue c).stageOf c) } := by
    rw [Dev.openStage, if_neg (by omega)]
    rfl
  generalize (s.dev.unqueue c).openStage c = e at run log pwr
  refine ⟨_, run, ?_, ?_, ?_, State.raisesNone_settle (congrArg Tephra.arising log)⟩
  · rw [State.settle_pwr, pwr, ← dest, ← source]
    rfl
  · rw [State.settle_pwr, pwr]
  · rw [State.settle_pwr, pwr]

/-! ### Activation (R425 to R427) -/

/-- The effect MF of a firmware command, and whether it was set to the default (R48). -/
def Dev.effectMf (d : Dev) (c : Cmd) : Nat × Bool := if c.timed then resolveTarget d.refMfn c.applyAt else (d.refMfn, false)

theorem Dev.effectMf_fst (d : Dev) (c : Cmd) :
    (d.effectMf c).1 = if c.timed then (resolveTarget d.refMfn c.applyAt).1 else d.refMfn := by
  rw [Dev.effectMf]
  split <;> rfl

/-- The activation that a command asks for. -/
def Dev.activationOf (d : Dev) (c : Cmd) (restore : Option Nat) : Activation :=
  { order := some d.host.nextOrder, target := (d.effectMf c).1, trial := c.opcode == 0x0011 && bit (c.field 0 1) 0
    trialMf := clamp 64 65_535 (c.field 2 2), restore := restore, oldVersion := versionOf d.pwr.running }

/-- The power state as an activation waits: the image to run stands in the preload region. -/
def Dev.armed (d : Dev) (c : Cmd) (restore : Option Nat) : Power :=
  { if restore.isSome then d.pwr else { d.pwr with preload := d.pwr.bank d.inactiveBank } with
    activation := some (d.activationOf c restore) }

/-- The command waits as a job, and its activation for the effect MF. -/
def Dev.arm (d : Dev) (c : Cmd) (restore : Option Nat) : Dev :=
  (d.acceptJob c (if c.timed then some (d.effectMf c).1 else none) c.timed).setPwr (d.armed c restore)

theorem Dev.arm_keeps (d : Dev) (c : Cmd) (restore : Option Nat) : (d.arm c restore).pwr = d.armed c restore ∧
    (d.arm c restore).host.queue = d.host.queue ∧ (d.arm c restore).host.out = d.host.out := ⟨rfl, rfl, rfl⟩

theorem Dev.startActivation_eq (d : Dev) (c : Cmd) (restore : Option Nat) : d.startActivation c restore =
    if c.timed && !d.timedRoom (d.effectMf c).1 then d.answer c stNoResource []
    else if (d.effectMf c).2 then
      (d.arm c restore).raise 0x0109 0 (leBytes 2 c.opcode ++ leBytes 2 c.seq ++ leBytes 4 c.applyAt)
    else d.arm c restore := rfl

/-- A timed activation that finds no room ends NO_RESOURCE (R49). -/
theorem Dev.startActivation_of_full {d : Dev} {c : Cmd} (timed : c.timed = true)
    (full : d.timedRoom (d.effectMf c).1 = false) (restore : Option Nat) :
    d.startActivation c restore = d.answer c stNoResource [] := by
  rw [Dev.startActivation_eq, if_pos (by simp [timed, full])]

theorem Dev.startActivation_keeps {d : Dev} {c : Cmd} (room : c.timed = true → d.timedRoom (d.effectMf c).1 = true)
    (restore : Option Nat) :
    (d.startActivation c restore).pwr = d.armed c restore ∧ (d.startActivation c restore).host.queue = d.host.queue ∧
      (d.startActivation c restore).host.out = d.host.out := by
  obtain ⟨pwr, queue, out⟩ := d.arm_keeps c restore
  have free : ¬(c.timed && !d.timedRoom (d.effectMf c).1) = true := by
    cases timed : c.timed <;> simp [timed] at room ⊢; exact room
  rw [Dev.startActivation_eq, if_neg free]
  split
  · rw [Dev.raise_pwr, Dev.raise_queue, Dev.raise_out]
    exact ⟨pwr, queue, out⟩
  · exact ⟨pwr, queue, out⟩

theorem State.live_of_powered {s : State} (powered : s.dev.powered = true) (done : s.handedOver = true) : s.live = true := by
  simp [State.live, powered, done]

theorem activation_waits_for_effect (s : State) (core target : Nat) (c : Cmd) (done : s.handedOver = true)
    (offered : s.dev.offers core 0x0011 c = true)
    (effect : target = (if c.timed then (resolveTarget s.dev.refMfn c.applyAt).1 else s.dev.refMfn)) :
    (∀ st pl, checkFwActivate s.dev c = some (st, pl) → ∃ t, exec (.fwActivate core) s = .next t ∧ t.dev.pwr = s.dev.pwr ∧
      s.answers t c st pl) ∧
    (checkFwActivate s.dev c = none → (c.timed = true → s.dev.timedRoom target = true) →
      ∃ t, exec (.fwActivate core) s = .next t ∧ t.dev.pwr.activation = some
        { order := some s.dev.host.nextOrder, target := target, trial := bit (c.field 0 1) 0, trialMf := clamp 64 65_535 (c.field 2 2), restore := none
          oldVersion := versionOf s.dev.pwr.running, pauseFc := none } ∧
      t.dev.pwr.preload = s.dev.pwr.bank s.dev.inactiveBank ∧ t.dev.pwr.running = s.dev.pwr.running ∧
      t.dev.host.queue = s.dev.host.queue.erase c ∧ t.mem = s.mem ∧ t.bar1 = s.bar1) ∧
    (checkFwActivate s.dev c = none → c.timed = true → s.dev.timedRoom target = false →
      ∃ t, exec (.fwActivate core) s = .next t ∧ t.dev.pwr = s.dev.pwr ∧ s.answers t c stNoResource []) := by
  obtain ⟨fronts, opcode, -⟩ := Dev.fronts_of_offers offered
  have live : s.live = true := State.live_of_powered fronts.powered done
  rw [← Dev.effectMf_fst] at effect
  subst effect
  refine ⟨fun st pl refused => ?_, fun accepted room => ?_, fun accepted timed full => ?_⟩
  · obtain ⟨t, run, answers, rest⟩ := State.shows_rejection (i := .fwActivate core) rfl done offered refused
    exact ⟨t, run, by rw [rest], answers⟩
  · have run : exec (.fwActivate core) s = .next (s.settle ((s.dev.unqueue c).startActivation c none)) :=
      State.exec_accepted (i := .fwActivate core) rfl offered accepted
    obtain ⟨pwr, queue, out⟩ := Dev.startActivation_keeps (d := s.dev.unqueue c) (c := c) room none
    generalize (s.dev.unqueue c).startActivation c none = e at run pwr queue out
    refine ⟨_, run, ?_, ?_, ?_, queue, rfl, State.settle_bar1_of_live live out⟩
    · rw [State.settle_pwr, pwr]
      simp [Dev.armed, Dev.activationOf, opcode]
      exact ⟨rfl, rfl⟩
    · rw [State.settle_pwr, pwr]
      rfl
    · rw [State.settle_pwr, pwr]
      rfl
  · have run : exec (.fwActivate core) s = .next (s.settle ((s.dev.unqueue c).startActivation c none)) :=
      State.exec_accepted (i := .fwActivate core) rfl offered accepted
    rw [Dev.startActivation_of_full (d := s.dev.unqueue c) timed full] at run
    exact ⟨_, run, Dev.answer_pwr .., s.answers_of_answer c stNoResource [] done⟩

theorem rollback_waits_for_effect (s : State) (core target : Nat) (c : Cmd) (done : s.handedOver = true)
    (offered : s.dev.offers core 0x0012 c = true)
    (effect : target = (if c.timed then (resolveTarget s.dev.refMfn c.applyAt).1 else s.dev.refMfn)) :
    (∀ st pl, checkFwRollback s.dev c = some (st, pl) → ∃ t, exec (.fwRollback core) s = .next t ∧ t.dev.pwr = s.dev.pwr ∧
      s.answers t c st pl) ∧
    (checkFwRollback s.dev c = none → (c.timed = true → s.dev.timedRoom target = true) →
      ∃ t, exec (.fwRollback core) s = .next t ∧
      (∃ a, t.dev.pwr.activation = some a ∧ a.target = target ∧ a.trial = false ∧ a.pauseFc = none ∧
        a.restore = if s.dev.pwr.trial.isSome then some 3 else none) ∧
      t.dev.pwr.preload = (if s.dev.pwr.trial.isSome then s.dev.pwr.preload else s.dev.pwr.bank s.dev.inactiveBank) ∧
      t.dev.pwr.running = s.dev.pwr.running ∧ t.mem = s.mem ∧ t.bar1 = s.bar1) := by
  obtain ⟨fronts, opcode, -⟩ := Dev.fronts_of_offers offered
  have live : s.live = true := State.live_of_powered fronts.powered done
  rw [← Dev.effectMf_fst] at effect
  subst effect
  refine ⟨fun st pl refused => ?_, fun accepted room => ?_⟩
  · obtain ⟨t, run, answers, rest⟩ := State.shows_rejection (i := .fwRollback core) rfl done offered refused
    exact ⟨t, run, by rw [rest], answers⟩
  · have run : exec (.fwRollback core) s = .next (s.settle
        ((s.dev.unqueue c).startActivation c (if s.dev.pwr.trial.isSome then some 3 else none))) :=
      State.exec_accepted (i := .fwRollback core) rfl offered accepted
    obtain ⟨pwr, -, out⟩ := Dev.startActivation_keeps (d := s.dev.unqueue c) (c := c) room
      (if s.dev.pwr.trial.isSome then some 3 else none)
    generalize (s.dev.unqueue c).startActivation c _ = e at run pwr out
    refine ⟨_, run, ⟨_, congrArg Power.activation pwr, rfl, ?_, rfl, rfl⟩, ?_, ?_, rfl, State.settle_bar1_of_live live out⟩
    · simp [Dev.activationOf, opcode]
    · rw [State.settle_pwr, pwr]
      cases tried : s.dev.pwr.trial <;> rfl
    · rw [State.settle_pwr, pwr]
      cases tried : s.dev.pwr.trial <;> rfl

/-! ### Pauses (R425 to R427, R440) -/

theorem Dev.exchange_keeps (d : Dev) (a : Activation) : (d.exchange a).sinter = d.sinter ∧ (d.exchange a).log = d.log ∧
    (d.exchange a).fc = d.fc ∧ (d.exchange a).host.out = d.host.out ∧
    (d.exchange a).pwr = { d.pwr with
      running := d.pwr.preload, preload := d.pwr.running, fwState := 3, activation := some { a with pauseFc := some d.fc } } := by
  obtain ⟨order, target, trial, trialMf, restore, oldVersion, pauseFc⟩ := a
  cases order <;> exact ⟨rfl, rfl, rfl, rfl, rfl⟩

/-- A write of boot word 1 touches Sinter alone. -/
theorem Dev.putBank_keeps (d : Dev) (b : Nat) (trial : Bool) : (d.putBank b trial).log = d.log ∧
    (d.putBank b trial).fc = d.fc ∧ (d.putBank b trial).host = d.host ∧ (d.putBank b trial).pwr = d.pwr :=
  ⟨rfl, rfl, rfl, rfl⟩

theorem Dev.putBank_sinter_congr {d e : Dev} (sinter : e.sinter = d.sinter) (b : Nat) (trial : Bool) :
    (e.putBank b trial).sinter = (d.putBank b trial).sinter := by
  simp only [Dev.putBank, Dev.sinterField, Dev.sinterPut, sinter]

/-- The old image is restored: the trial ends, boot word 1 names the old bank, and event 0x0012 says why (R426). -/
theorem Dev.restoreOld_eq (d : Dev) (b cause : Nat) : d.restoreOld b cause =
    ((d.setPwr { d.pwr with trial := none }).putBank b false).raise 0x0012 0 (leBytes 1 d.fwBank ++ leBytes 1 cause) := rfl

theorem Dev.restoreOld_keeps (d : Dev) (b cause : Nat) : (d.restoreOld b cause).sinter = (d.putBank b false).sinter ∧
    (d.restoreOld b cause).log.arising = d.log.arising ++ [d.eventOf 0x0012 0 (leBytes 1 d.fwBank ++ leBytes 1 cause)] ∧
    (d.restoreOld b cause).host.out = d.host.out ∧ (d.restoreOld b cause).host.waiting = d.host.waiting ∧
    (d.restoreOld b cause).fc = d.fc ∧ (d.restoreOld b cause).pwr = { d.pwr with trial := none } := by
  rw [Dev.restoreOld_eq]
  refine ⟨rfl, Dev.raise_arising .., ?_, ?_, rfl, rfl⟩
  · rw [Dev.raise_out]
    rfl
  · rw [Dev.raise_waiting]
    rfl

theorem Dev.fwBank_congr {d e : Dev} (sinter : e.sinter = d.sinter) : e.fwBank = d.fwBank := by
  rw [Dev.fwBank, Dev.fwBank, sinter]

/-- An activation of new firmware begins its pause: no trial runs any more, and boot word 1 names the bank. -/
def Dev.pauseActivation (d : Dev) (a : Activation) : Dev :=
  ((d.setPwr { d.pwr with trial := none }).exchange a).putBank d.inactiveBank a.trial

theorem Dev.pauseActivation_keeps (d : Dev) (a : Activation) :
    (d.pauseActivation a).sinter = (d.putBank d.inactiveBank a.trial).sinter ∧ (d.pauseActivation a).log = d.log ∧
    (d.pauseActivation a).host.out = d.host.out ∧ (d.pauseActivation a).pwr = { d.pwr with
      running := d.pwr.preload, preload := d.pwr.running, fwState := 3, trial := none,
      activation := some { a with pauseFc := some d.fc } } := by
  obtain ⟨sinter, log, -, out, pwr⟩ := (d.setPwr { d.pwr with trial := none }).exchange_keeps a
  obtain ⟨putLog, -, putHost, putPwr⟩ :=
    ((d.setPwr { d.pwr with trial := none }).exchange a).putBank_keeps d.inactiveBank a.trial
  exact ⟨Dev.putBank_sinter_congr (d := d) sinter .., putLog.trans log, (congrArg HostIf.out putHost).trans out,
    putPwr.trans pwr⟩

theorem exec_fwPauseBegin {s : State} {a : Activation} (live : s.live = true) (active : s.dev.pwr.activation = some a)
    (due : s.dev.pauseDue = true) : exec .fwPauseBegin s = .next (s.settle (
      match a.restore, s.dev.pwr.trial with
      | some cause, some (_, _, _, b) => (s.dev.exchange a).restoreOld b cause
      | _, _ => s.dev.pauseActivation a)) := by
  show execFwPauseBegin s = _
  rw [execFwPauseBegin, State.runIf_eq s _ _ (State.powered_of_live live) due, active]
  rfl

theorem pause_begins (s : State) (a : Activation) (live : s.live = true) (active : s.dev.pwr.activation = some a)
    (due : s.dev.pauseDue = true) :
    ∃ t, exec .fwPauseBegin s = .next t ∧ t.dev.pwr.running = s.dev.pwr.preload ∧ t.dev.pwr.preload = s.dev.pwr.running ∧
      t.dev.pwr.fwState = 3 ∧ t.dev.pwr.activation = some { a with pauseFc := some s.dev.fc } ∧
      t.dev.pwr.trial = none ∧ t.mem = s.mem ∧ t.bar1 = s.bar1 ∧
      (a.restore = none → t.dev.sinter = (s.dev.putBank s.dev.inactiveBank a.trial).sinter ∧ s.raisesNone t) ∧
      (∀ cause m n k b, a.restore = some cause → s.dev.pwr.trial = some (m, n, k, b) →
        t.dev.sinter = (s.dev.putBank b false).sinter ∧
        s.raisesOne t 0x0012 0 (leBytes 1 s.dev.fwBank ++ leBytes 1 cause)) := by
  have run := exec_fwPauseBegin live active due
  by_cases old : ∃ cause m n k b, a.restore = some cause ∧ s.dev.pwr.trial = some (m, n, k, b)
  · obtain ⟨cause, m, n, k, b, restore, trial⟩ := old
    rw [restore, trial] at run
    obtain ⟨sinter, log, fc, out, pwr⟩ := s.dev.exchange_keeps a
    obtain ⟨oldSinter, arising, oldOut, -, oldFc, oldPwr⟩ := (s.dev.exchange a).restoreOld_keeps b cause
    rw [pwr] at oldPwr
    have one : ((s.dev.exchange a).restoreOld b cause).log.arising =
        s.dev.log.arising ++ [s.dev.eventOf 0x0012 0 (leBytes 1 s.dev.fwBank ++ leBytes 1 cause)] := by
      rw [arising, log, Dev.fwBank_congr sinter, Dev.eventOf, Dev.eventOf, fc]
    refine ⟨_, run, congrArg Power.running oldPwr, congrArg Power.preload oldPwr, congrArg Power.fwState oldPwr,
      congrArg Power.activation oldPwr, congrArg Power.trial oldPwr, rfl, State.settle_bar1_of_live live (oldOut.trans out),
      fun none => absurd (restore.symm.trans none) (by simp), ?_⟩
    intro cause' m' n' k' b' restore' trial'
    obtain rfl : cause = cause' := by simpa [restore] using restore'
    obtain ⟨rfl, rfl, rfl, rfl⟩ : m = m' ∧ n = n' ∧ k = k' ∧ b = b' := by simpa [trial] using trial'
    exact ⟨oldSinter.trans (Dev.putBank_sinter_congr sinter ..), State.settle_arising_one s _ _ one⟩
  · have fresh : exec .fwPauseBegin s = .next (s.settle (s.dev.pauseActivation a)) := by
      rw [run]
      split
      next restore trial => exact absurd ⟨_, _, _, _, _, restore, trial⟩ old
      next => rfl
    obtain ⟨sinter, log, out, pwr⟩ := s.dev.pauseActivation_keeps a
    exact ⟨_, fresh, congrArg Power.running pwr, congrArg Power.preload pwr, congrArg Power.fwState pwr,
      congrArg Power.activation pwr, congrArg Power.trial pwr, rfl, State.settle_bar1_of_live live out,
      fun _ => ⟨sinter, State.raisesNone_settle (congrArg Tephra.arising log)⟩,
      fun cause m n k b restore trial => absurd ⟨cause, m, n, k, b, restore, trial⟩ old⟩

@[simp] theorem Dev.finishOrder_pwr (d : Dev) (order st : Nat) (pl : List Byte) : (d.finishOrder order st pl).pwr = d.pwr := by
  unfold Dev.finishOrder
  split <;> simp

@[simp] theorem Dev.finishOrder_sinter (d : Dev) (order st : Nat) (pl : List Byte) :
    (d.finishOrder order st pl).sinter = d.sinter := by
  unfold Dev.finishOrder
  split <;> simp

/-- The power state as new firmware runs. -/
def Dev.resumed (d : Dev) (a : Activation) : Power :=
  { d.pwr with
    activation := none, fwState := 2, fwSource := d.fwBank
    trial := if a.trial then some (d.mfn, a.trialMf, 0, 1 - d.fwBank) else none }

/-- The new firmware runs: the pause is over, and the versions are reported unless the old image was restored. -/
def Dev.resume (d : Dev) (a : Activation) : Dev :=
  if a.restore.isSome then d.setPwr (d.resumed a)
  else (d.setPwr (d.resumed a)).raise 0x0011 0 (leBytes 4 a.oldVersion ++ leBytes 4 (versionOf d.pwr.running) ++ leBytes 1 (b2n a.trial))

theorem Dev.resume_keeps (d : Dev) (a : Activation) : (d.resume a).host.waiting = d.host.waiting ∧
    (∀ n, (d.resume a).mb n = d.mb n) ∧ (d.resume a).pwr = d.resumed a := by
  unfold Dev.resume
  split
  · exact ⟨rfl, fun _ => rfl, rfl⟩
  · exact ⟨Dev.raise_waiting .., Dev.raise_mb _ _ _ _, rfl⟩

/-- The response of the command that asked for the activation (R440). -/
def Dev.resumeBlock (d : Dev) (a : Activation) : List Byte :=
  leBytes 4 a.oldVersion ++ leBytes 4 (versionOf d.pwr.running) ++ leBytes 4 (nsOf (d.pauseBeats * 15_296) / 1000) ++
    leBytes 1 d.fwBank ++ zeros 3

theorem exec_fwPauseEnd {s : State} {a : Activation} {f : Nat} (live : s.live = true)
    (active : s.dev.pwr.activation = some a) (paused : a.pauseFc = some f)
    (short : a.trial = true → s.dev.fc - f ≤ 43_009) : exec .fwPauseEnd s = .next (s.settle (
      match a.order with
      | some o => (s.dev.resume a).finishOrder o stOk (s.dev.resumeBlock a)
      | none => s.dev.resume a)) := by
  have due : (s.dev.paused && !s.dev.trialPauseOver) = true := by
    simp only [Dev.paused, Dev.trialPauseOver, Dev.pauseBeats, active, paused]
    cases tried : a.trial
    · rfl
    · simpa using short tried
  show execFwPauseEnd s = _
  rw [execFwPauseEnd, State.runIf_eq s _ _ (State.powered_of_live live) due, active]
  rfl

theorem pause_ends (s : State) (a : Activation) (f : Nat) (live : s.live = true)
    (active : s.dev.pwr.activation = some a) (paused : a.pauseFc = some f)
    (short : a.trial = true → s.dev.fc - f ≤ 43_009) :
    ∃ t, exec .fwPauseEnd s = .next t ∧ t.dev.pwr.activation = none ∧ t.dev.pwr.fwState = 2 ∧
      t.dev.pwr.fwSource = s.dev.fwBank ∧ t.dev.pwr.running = s.dev.pwr.running ∧
      t.dev.pwr.trial = (if a.trial then some (s.dev.mfn, a.trialMf, 0, 1 - s.dev.fwBank) else none) ∧
      (a.restore = none → s.dev.eventOf 0x0011 0 (leBytes 4 a.oldVersion ++ leBytes 4 (versionOf s.dev.pwr.running) ++
        leBytes 1 (b2n a.trial)) ∈ t.dev.log.arising) ∧
      (∀ o w, a.order = some o → s.dev.host.waiting.find? (fun w => w.order == o) = some w → w.fromTwin = false →
        (t.dev.mb w.cmd.mb).rspProd = ((s.dev.mb w.cmd.mb).rspProd + 1) % 2 ^ 16) ∧ t.mem = s.mem := by
  have run := exec_fwPauseEnd live active paused short
  obtain ⟨waiting, mbs, pwr⟩ := s.dev.resume_keeps a
  have reported : a.restore = none → s.dev.eventOf 0x0011 0 (leBytes 4 a.oldVersion ++
      leBytes 4 (versionOf s.dev.pwr.running) ++ leBytes 1 (b2n a.trial)) ∈ (s.dev.resume a).log.arising := by
    intro fresh
    rw [Dev.resume, fresh, Option.isSome_none, if_neg Bool.false_ne_true, Dev.raise_arising]
    exact List.mem_append_right _ (List.mem_singleton_self _)
  generalize s.dev.resume a = e at run waiting mbs pwr reported
  cases order : a.order with
  | none =>
    rw [order] at run
    have running := congrArg Power.running pwr
    exact ⟨_, run, congrArg Power.activation pwr, congrArg Power.fwState pwr, congrArg Power.fwSource pwr,
      running, congrArg Power.trial pwr, fun fresh => (State.mem_settle_arising ..).mpr (reported fresh),
      nofun, rfl⟩
  | some o =>
    rw [order] at run
    have pwr := (e.finishOrder_pwr o stOk (s.dev.resumeBlock a)).trans pwr
    have running := congrArg Power.running pwr
    refine ⟨_, run, congrArg Power.activation pwr, congrArg Power.fwState pwr, congrArg Power.fwSource pwr,
      running, congrArg Power.trial pwr,
      fun fresh => (State.mem_settle_arising ..).mpr (Dev.finishOrder_keeps_event (reported fresh) ..),
      fun o' w own found mine => ?_, rfl⟩
    obtain rfl := Option.some.inj own
    have still : e.host.waiting.find? (fun w => w.order == o) = some w := by rw [waiting, found]
    show ((e.finishOrder o stOk (s.dev.resumeBlock a)).mb w.cmd.mb).rspProd = _
    rw [Dev.finishOrder_of_found still, Dev.finish_rspProd mine, mbs]

/-! ### Trials (R426) -/

/-- A trial that lasted: boot word 1 keeps the bank, without TRIAL. -/
def Dev.keepBank (d : Dev) : Dev := (d.putBank d.fwBank false).setPwr { d.pwr with trial := none }

theorem Dev.keepBank_keeps (d : Dev) : d.keepBank.log = d.log ∧ d.keepBank.fc = d.fc ∧ d.keepBank.host = d.host ∧
    d.keepBank.pwr = { d.pwr with trial := none } ∧ d.keepBank.sinter = (d.putBank d.fwBank false).sinter :=
  ⟨rfl, rfl, rfl, rfl, rfl⟩

theorem trial_succeeds (s : State) (m n k b : Nat) (live : s.live = true) (runs : s.dev.paused = false)
    (trial : s.dev.pwr.trial = some (m, n, k, b)) (lasted : m + n ≤ s.dev.mfn) (trips : k ≤ 3) :
    ∃ t, exec .fwTrialSuccess s = .next t ∧ t.dev.pwr = { s.dev.pwr with trial := none } ∧
      t.dev.sinter = (s.dev.putBank s.dev.fwBank false).sinter ∧
      s.raisesOne t 0x0011 0 (leBytes 4 (versionOf s.dev.pwr.preload) ++ leBytes 4 (versionOf s.dev.pwr.running) ++
        leBytes 1 2) ∧ t.mem = s.mem ∧ t.bar1 = s.bar1 := by
  have run : exec .fwTrialSuccess s = .next (s.settle (s.dev.keepBank.raise 0x0011 0
      (leBytes 4 (versionOf s.dev.pwr.preload) ++ leBytes 4 (versionOf s.dev.pwr.running) ++ leBytes 1 2))) := by
    show execFwTrialSuccess s = _
    rw [execFwTrialSuccess, State.runIf_eq s _ _ (State.powered_of_live live) (by simp [runs, trial, lasted, trips])]
    rfl
  obtain ⟨log, fc, host, pwr, sinter⟩ := s.dev.keepBank_keeps
  have out := congrArg HostIf.out host
  generalize s.dev.keepBank = e at run log fc out pwr sinter
  exact ⟨_, run, pwr, sinter, State.raisesOne_settle_raise fc (congrArg Tephra.arising log) .., rfl,
    State.settle_bar1_of_live live ((Dev.raise_out ..).trans out)⟩

/-- Acceptance order of the command whose activation waits or pauses. -/
def Dev.activationOrder (d : Dev) : Option Nat := match d.pwr.activation with | some a => a.order | none => none

/-- A trial that fails withdraws an activation that waits (R426). -/
def Dev.withdrawActivation (d : Dev) : Dev :=
  if d.paused then d else match d.activationOrder with | some o => d.finishOrder o stBusy [] | none => d

/-- The activation that restores the old image, for a command that pauses. -/
def Dev.restoration (d : Dev) (order : Option Nat) (cause : Nat) : Activation :=
  { order := order, target := d.mfn, trial := false, trialMf := 0, restore := some cause
    oldVersion := versionOf d.pwr.running }

theorem exec_fwTrialFailure {s : State} {cause : Nat} (live : s.live = true) (fails : s.dev.trialFails cause = true) :
    ∃ bank order, exec (.fwTrialFailure cause) s = .next (s.settle
      ((s.dev.withdrawActivation.requeue.exchange (s.dev.withdrawActivation.restoration order cause)).restoreOld bank
        cause)) := by
  refine ⟨match s.dev.pwr.trial with | some (_, _, _, b) => b | none => 1 - s.dev.fwBank,
    if s.dev.paused then s.dev.activationOrder else none, ?_⟩
  show execFwTrialFailure cause s = _
  rw [execFwTrialFailure, State.runIf_eq s _ _ (State.powered_of_live live) fails]
  rfl

theorem Dev.withdrawActivation_keeps (d : Dev) : d.withdrawActivation.pwr = d.pwr ∧ d.withdrawActivation.fc = d.fc ∧
    d.withdrawActivation.sinter = d.sinter := by
  unfold Dev.withdrawActivation
  repeat' split
  all_goals simp

/-- No core holds a command as a pause begins, where none held one before. -/
theorem Dev.exchange_idle {d : Dev} (idle : ∀ w ∈ d.host.waiting, w.core = none) (a : Activation) :
    ∀ w ∈ (d.exchange a).host.waiting, w.core = none := by
  obtain ⟨order, target, trial, trialMf, restore, oldVersion, pauseFc⟩ := a
  cases order with
  | none => exact idle
  | some o =>
    intro w m
    obtain ⟨v, mv, rfl⟩ := List.mem_map.mp m
    split
    · rfl
    · exact idle v mv

theorem trial_fails (s : State) (cause : Nat) (live : s.live = true) (fails : s.dev.trialFails cause = true) :
    ∃ t, exec (.fwTrialFailure cause) s = .next t ∧ t.dev.pwr.running = s.dev.pwr.preload ∧
      t.dev.pwr.preload = s.dev.pwr.running ∧ t.dev.pwr.fwState = 3 ∧ t.dev.pwr.trial = none ∧
      (∃ a, t.dev.pwr.activation = some a ∧ a.restore = some cause ∧ a.pauseFc = some s.dev.fc ∧ a.trial = false) ∧
      (∀ w ∈ t.dev.host.waiting, w.core = none) ∧
      s.dev.eventOf 0x0012 0 (leBytes 1 s.dev.fwBank ++ leBytes 1 cause) ∈ t.dev.log.arising ∧ t.mem = s.mem := by
  obtain ⟨bank, order, run⟩ := exec_fwTrialFailure live fails
  obtain ⟨withdrawnPwr, withdrawnFc, withdrawnSinter⟩ := s.dev.withdrawActivation_keeps
  have idle : ∀ w ∈ s.dev.withdrawActivation.requeue.host.waiting, w.core = none := fun w m => by
    simpa using (List.mem_filter.mp m).2
  have same : s.dev.withdrawActivation.requeue.pwr = s.dev.pwr ∧ s.dev.withdrawActivation.requeue.fc = s.dev.fc ∧
      s.dev.withdrawActivation.requeue.sinter = s.dev.sinter := ⟨withdrawnPwr, withdrawnFc, withdrawnSinter⟩
  obtain ⟨pwr, fc, sinter⟩ := same
  have restores : (s.dev.withdrawActivation.restoration order cause).restore = some cause ∧
      (s.dev.withdrawActivation.restoration order cause).trial = false := ⟨rfl, rfl⟩
  obtain ⟨restore, trial⟩ := restores
  generalize s.dev.withdrawActivation.requeue = e at run idle pwr fc sinter
  generalize s.dev.withdrawActivation.restoration order cause = a at run restore trial
  obtain ⟨exSinter, -, exFc, -, exPwr⟩ := e.exchange_keeps a
  have exIdle := Dev.exchange_idle idle a
  generalize e.exchange a = u at run exSinter exFc exPwr exIdle
  obtain ⟨-, arising, -, waiting, -, oldPwr⟩ := u.restoreOld_keeps bank cause
  rw [exPwr, pwr, fc] at oldPwr
  have raised : s.dev.eventOf 0x0012 0 (leBytes 1 s.dev.fwBank ++ leBytes 1 cause) ∈
      (u.restoreOld bank cause).log.arising := by
    rw [arising, Dev.fwBank_congr (exSinter.trans sinter), Dev.eventOf, Dev.eventOf, exFc, fc]
    exact List.mem_append_right _ (List.mem_singleton_self _)
  refine ⟨_, run, congrArg Power.running oldPwr, congrArg Power.preload oldPwr, congrArg Power.fwState oldPwr,
    congrArg Power.trial oldPwr, ⟨_, congrArg Power.activation oldPwr, restore, rfl, trial⟩, ?_,
    (State.mem_settle_arising ..).mpr raised, rfl⟩
  rw [State.settle_waiting, waiting]
  exact exIdle

end Sys2Proof.Machine

namespace Sys2Proof.Machine

open Sys2Proof

/-! ### Start of firmware (R84, R365, R415, R419, R453)

`Dev.Starts d e`: from `d` to `e` the Beat and the waiting responses are the same, no event is lost, and of the power state
only the record of a rail fault differs. Each part of the start of firmware is one of these. -/

structure Dev.Starts (d e : Dev) : Prop where
  reports : d.Reports e
  pwr : ∃ k, e.pwr = { d.pwr with faultOrder := k }

namespace Dev.Starts

theorem refl (d : Dev) : d.Starts d := ⟨.refl d, _, rfl⟩

theorem trans {d e f : Dev} (h : d.Starts e) (g : e.Starts f) : d.Starts f := by
  obtain ⟨j, first⟩ := h.pwr
  obtain ⟨k, second⟩ := g.pwr
  exact ⟨h.reports.trans g.reports, k, by rw [second, first]⟩

theorem of_reports {d e : Dev} (reports : d.Reports e) (pwr : e.pwr = d.pwr) : d.Starts e := ⟨reports, d.pwr.faultOrder, pwr⟩

/-- An effect that leaves Beat, host, log and power alone. -/
theorem of_eq {d e : Dev} (fc : e.fc = d.fc) (host : e.host = d.host) (log : e.log = d.log) (pwr : e.pwr = d.pwr) :
    d.Starts e := of_reports (.of_eq fc host log) pwr

theorem setPair (d : Dev) (p : Pair) : d.Starts (d.setPair p) := of_eq rfl rfl rfl rfl

theorem raise (d : Dev) (code obj : Nat) (l : List Byte) : d.Starts (d.raise code obj l) := of_reports (.raise ..) rfl

theorem foldl {α : Type} {f : Dev → α → Dev} (step : ∀ (d : Dev) (a : α), d.Starts (f d a)) (d : Dev) (l : List α) :
    d.Starts (l.foldl f d) := by
  induction l generalizing d with
  | nil => exact refl d
  | cons a l ih => exact (step d a).trans (ih (f d a))

end Dev.Starts

theorem Dev.useSource_starts (d : Dev) (n : Nat) : d.Starts (d.useSource n) := by
  unfold Dev.useSource
  split
  · exact .refl d
  · refine Dev.Starts.trans ?_ (.raise ..)
    exact .of_eq rfl rfl rfl rfl

theorem Dev.restartAnchor_starts (d : Dev) : d.Starts d.restartAnchor := by
  unfold Dev.restartAnchor
  split
  · exact (d.useSource_starts 1).trans (.of_eq rfl rfl rfl rfl)
  · exact (d.useSource_starts d.anchor.source).trans (.of_eq rfl rfl rfl rfl)

theorem applyTimeAnchorSet_starts (d : Dev) (c : Cmd) : d.Starts (applyTimeAnchorSet d c).1 := by
  have set : d.Starts { d with anchor := anchorOf d.anchor c } := .of_eq rfl rfl rfl rfl
  unfold applyTimeAnchorSet
  dsimp only [okWith]
  split
  · exact set.trans (Dev.restartAnchor_starts _)
  · exact set

theorem applyTimePpsSet_starts (d : Dev) (c : Cmd) : d.Starts (applyTimePpsSet d c).1 := by
  unfold applyTimePpsSet
  dsimp only
  split <;> exact .of_eq rfl rfl rfl rfl

theorem Dev.profileMasks_starts (d : Dev) : d.Starts d.profileMasks := by
  refine Dev.Starts.foldl (fun d a => ?_) d (List.range 18)
  split
  · exact .of_reports ⟨rfl, rfl, fun _ m => m⟩ rfl
  · exact .refl d

theorem Dev.profileArbiter_starts (d : Dev) : d.Starts d.profileArbiter := by
  refine Dev.Starts.foldl (fun d r => ?_) d (List.range 16)
  split
  · exact .of_eq rfl rfl rfl rfl
  · exact .refl d

theorem Dev.own_starts (d : Dev) (lp cp : Nat) : d.Starts (d.own lp cp) := by
  refine .of_reports (d.own_reports lp cp) ?_
  unfold Dev.own
  split <;> rfl

theorem Dev.profilePair_starts (d : Dev) : d.Starts d.profilePair := by
  have paired : ∀ e : Dev, e.Starts (match e.word 65 with
      | some v => e.setDisc (discOf (Cmd.ofWord 0x0906 0 v)) | none => e) := fun e => by
    split
    · exact .setPair ..
    · exact .refl e
  unfold Dev.profilePair
  refine Dev.Starts.trans ?_ (paired _)
  split
  · dsimp only
    split
    · exact (Dev.Starts.setPair ..).trans (Dev.own_starts ..)
    · exact .setPair ..
  · exact .refl d

theorem Dev.profileOrigin_starts (d : Dev) : d.Starts d.profileOrigin := by
  refine Dev.Starts.foldl (fun d c => ?_) d _
  exact .of_eq rfl rfl rfl rfl

theorem Dev.profileIds_starts (d : Dev) : d.Starts d.profileIds := .of_reports ⟨rfl, rfl, fun _ m => m⟩ rfl

theorem Dev.recordRailFault_starts (d : Dev) : d.Starts d.recordRailFault := by
  unfold Dev.recordRailFault
  dsimp only
  split
  · exact .refl d
  · refine Dev.Starts.trans ?_ (.raise ..)
    exact ⟨.of_eq rfl rfl rfl, 0, rfl⟩

theorem Dev.resumeBackoff_starts (d : Dev) : d.Starts d.resumeBackoff := by
  unfold Dev.resumeBackoff
  split
  · exact .refl d
  · exact .of_eq rfl rfl rfl rfl

theorem Dev.startupImage_starts (d : Dev) (l : List Nat) : d.Starts (d.startupImage l).1 := by
  induction l generalizing d with
  | nil => exact .refl d
  | cons n l ih =>
    unfold Dev.startupImage
    split
    · exact .refl d
    · exact ((Dev.Starts.raise ..).trans (.raise ..)).trans (ih _)

theorem Dev.setRole_joining_pwr (d : Dev) : (d.setRole .joining).pwr = d.pwr := by
  unfold Dev.setRole
  dsimp only
  split
  · rfl
  · rfl

theorem Dev.clearDiverged_starts (d : Dev) : d.Starts d.clearDiverged :=
  Dev.Starts.foldl (fun _ _ => .raise ..) d _

theorem Dev.startJoin_starts (d : Dev) (full : Bool) : d.Starts (d.startJoin full) := by
  have joining : d.clearDiverged.Starts (d.clearDiverged.setRole .joining) :=
    .of_reports (Dev.setRole_reports ..) (Dev.setRole_joining_pwr _)
  exact (((d.clearDiverged_starts.trans joining).trans (Dev.own_starts ..)).trans (.setPair ..)).trans (.setPair ..)

theorem Dev.enterWaiting_starts (d : Dev) : d.Starts d.enterWaiting := by
  unfold Dev.enterWaiting Dev.autoJoin
  dsimp only
  have waits := (Dev.Starts.raise d 0x0901 0 (leBytes 1 Role.alone.code ++ leBytes 1 Role.waiting.code)).trans
    (.setPair _ { d.pair with waitStart := d.mfn, twinActiveMfn := d.mfn })
  split
  · exact waits.trans (Dev.startJoin_starts ..)
  · exact waits

/-- The startup image that the profile names, and the device after its checks (R84). -/
def Dev.chosenImage (d : Dev) : Dev × Option Image :=
  if d.startupSlot = 0 then (d, none) else d.startupImage [d.startupSlot, 3 - d.startupSlot]

theorem Dev.chosenImage_starts (d : Dev) : d.Starts d.chosenImage.1 := by
  unfold Dev.chosenImage
  split
  · exact .refl d
  · exact d.startupImage_starts _

/-- The startup image stands in the shadow bank, and its swap waits. -/
def Dev.queueStartup (d : Dev) (i : Image) : Dev :=
  { d with sched := { d.sched.setShadow (some i) with swap := some { order := none, expectGen := 0, target := d.refMfn } } }

theorem Dev.startup_starts (d : Dev) : d.Starts d.startup := by
  have chosen := d.chosenImage_starts
  have own : d.startup = match d.chosenImage.2 with
      | some i => (d.chosenImage.1.queueStartup i).raise 0x0201 0 (leBytes 4 i.gen ++ leBytes 4 i.imgCrc)
      | none => if d.chosenImage.1.pair.paired then d.chosenImage.1.enterWaiting else d.chosenImage.1 := rfl
  rw [own]
  generalize d.chosenImage = e at chosen ⊢
  split
  next i _ =>
    have queued : e.1.Starts (e.1.queueStartup i) := .of_eq rfl rfl rfl rfl
    exact (chosen.trans queued).trans (.raise ..)
  next =>
    split
    · exact chosen.trans (Dev.enterWaiting_starts _)
    · exact chosen

/-- The power state as firmware runs from an image. -/
def Dev.launched (d : Dev) (i : FwImage) (source : Nat) : Power :=
  { d.pwr with
    mode := .running, running := some i, fwSource := source, fwState := 2
    coresUp := bitsOf ((List.range 4).map fun n => d.domOn (domCore n)) }

theorem Dev.startFirmware_starts (d : Dev) (i : FwImage) (source : Nat) :
    (d.setPwr (d.launched i source)).Starts (d.startFirmware i source) := by
  have anchor : ∀ e : Dev, e.Starts (match e.word 4 with
      | some v => (applyTimeAnchorSet e (Cmd.ofWord 0x0101 0 v)).1 | none => e) := fun e => by
    split
    · exact applyTimeAnchorSet_starts ..
    · exact .refl e
  have pps : ∀ e : Dev, e.Starts (match e.word 5 with
      | some v => (applyTimePpsSet e (Cmd.ofWord 0x0103 0 v)).1 | none => e) := fun e => by
    split
    · exact applyTimePpsSet_starts ..
    · exact .refl e
  have profile : ∀ e : Dev, e.Starts e.profileMasks.profileArbiter.profilePair.profileOrigin.profileIds := fun e =>
    ((((e.profileMasks_starts).trans (Dev.profileArbiter_starts _)).trans (Dev.profilePair_starts _)).trans
      (Dev.profileOrigin_starts _)).trans (Dev.profileIds_starts _)
  exact ((((((anchor _).trans (pps _)).trans (profile _)).trans (Dev.recordRailFault_starts _)).trans
    (Dev.resumeBackoff_starts _)).trans (Dev.startup_starts _))

end Sys2Proof.Machine

namespace Sys2Proof.Machine

open Sys2Proof

/-! ### End of a stage (R419, R424) -/

/-- CHECK of a source that a stage has read. -/
def Dev.stageCheck (d : Dev) (g : Stage) (x : FwImage) : Nat :=
  fwCheck (some x) (if g.source = 0 then g.length else bankSize) d.minSvn

/-- The power state after a stage: a source that passes stands in the bank. -/
def Dev.staged (d : Dev) (g : Stage) (x : FwImage) : Power :=
  if d.stageCheck g x = 0 && g.dest = 0 then
    Power.setBank { d.pwr with stage := none } (d.stageBank g) (some { x with present := 256 + x.bodyLen })
  else { d.pwr with stage := none }

/-- The end of the stage is reported and answered. -/
def Dev.endStage (d : Dev) (g : Stage) (x : FwImage) : Dev :=
  ((d.setPwr (d.staged g x)).raise 0x0010 0
    (leBytes 1 (d.stageBank g) ++ leBytes 1 (d.stageCheck g x) ++ leBytes 4 x.version)).finishOrder g.order
      (fwStatus (d.stageCheck g x)) (leBytes 1 (d.stageCheck g x) ++ leBytes 1 (d.stageBank g) ++ leBytes 2 x.svn ++
        leBytes 4 x.version ++ leBytes 4 x.bodyLen)

theorem Dev.stageRead_eq (d : Dev) (g : Stage) (x : FwImage) : d.stageRead g (some x) =
    if d.stageCheck g x = 0 && g.dest = 1 then (d.endStage g x).startFirmware x 2 else d.endStage g x := by
  rw [Dev.endStage, Dev.staged, apply_ite d.setPwr]
  rfl

theorem Dev.endStage_keeps (d : Dev) (g : Stage) (x : FwImage) : (d.endStage g x).pwr = d.staged g x ∧
    d.eventOf 0x0010 0 (leBytes 1 (d.stageBank g) ++ leBytes 1 (d.stageCheck g x) ++ leBytes 4 x.version) ∈
      (d.endStage g x).log.arising := by
  refine ⟨by rw [Dev.endStage, Dev.finishOrder_pwr]; rfl, Dev.finishOrder_keeps_event ?_ ..⟩
  rw [Dev.raise_arising]
  exact List.mem_append_right _ (List.mem_singleton_self _)

theorem exec_fwStageComplete {s : State} {g : Stage} {image : Option FwImage} {x : FwImage} (live : s.live = true)
    (stage : s.dev.pwr.stage = some g)
    (read : (if g.source = 0 then image else s.dev.pwr.bank (g.source - 1)) = some x) :
    exec (.fwStageComplete image) s = .next (s.settle (s.dev.stageRead g (some x))) := by
  show execFwStageComplete image s = _
  rw [execFwStageComplete, State.run_eq s _ (State.powered_of_live live), stage]
  dsimp only
  rw [read]

theorem stage_ends (s : State) (g : Stage) (image : Option FwImage) (x : FwImage) (check : Nat) (live : s.live = true)
    (stage : s.dev.pwr.stage = some g)
    (read : (if g.source = 0 then image else s.dev.pwr.bank (g.source - 1)) = some x)
    (checked : check = fwCheck (some x) (if g.source = 0 then g.length else bankSize) s.dev.minSvn) :
    ∃ t, exec (.fwStageComplete image) s = .next t ∧ t.dev.pwr.stage = none ∧
      (g.dest = 0 → s.dev.eventOf 0x0010 0 (leBytes 1 s.dev.inactiveBank ++ leBytes 1 check ++ leBytes 4 x.version) ∈
          t.dev.log.arising ∧ t.dev.pwr.running = s.dev.pwr.running ∧
        t.dev.pwr.bank s.dev.fwBank = s.dev.pwr.bank s.dev.fwBank ∧
        t.dev.pwr.bank s.dev.inactiveBank =
          (if check = 0 then some { x with present := 256 + x.bodyLen } else s.dev.pwr.bank s.dev.inactiveBank)) ∧
      (g.dest = 1 → s.dev.eventOf 0x0010 0 (leBytes 1 0xFF ++ leBytes 1 check ++ leBytes 4 x.version) ∈
          t.dev.log.arising ∧ t.dev.pwr.bankA = s.dev.pwr.bankA ∧ t.dev.pwr.bankB = s.dev.pwr.bankB ∧
        (check = 0 → t.dev.pwr.running = some x ∧ t.dev.pwr.fwSource = 2 ∧ t.dev.pwr.fwState = 2) ∧
        (check ≠ 0 → t.dev.pwr.running = s.dev.pwr.running ∧ t.dev.pwr.fwState = s.dev.pwr.fwState)) := by
  obtain rfl : check = s.dev.stageCheck g x := checked
  have run := exec_fwStageComplete live stage read
  rw [Dev.stageRead_eq] at run
  obtain ⟨pwr, event⟩ := s.dev.endStage_keeps g x
  generalize s.dev.endStage g x = e at run pwr event
  by_cases banks : g.dest = 0
  · rw [if_neg (by simp [banks])] at run
    have bank : s.dev.stageBank g = s.dev.inactiveBank := if_neg (by omega)
    rw [bank] at event
    have stays : e.pwr.stage = none ∧ e.pwr.running = s.dev.pwr.running ∧
        e.pwr.bank s.dev.fwBank = s.dev.pwr.bank s.dev.fwBank ∧ e.pwr.bank s.dev.inactiveBank =
          (if s.dev.stageCheck g x = 0 then some { x with present := 256 + x.bodyLen }
            else s.dev.pwr.bank s.dev.inactiveBank) := by
      rw [pwr, Dev.staged, bank]
      by_cases sound : s.dev.stageCheck g x = 0
      · rw [if_pos (by simp [sound, banks]), if_pos sound]
        refine ⟨?_, ?_, Power.bank_setBank_inactive .., Power.bank_setBank_self ..⟩
        · unfold Power.setBank; split <;> rfl
        · unfold Power.setBank; split <;> rfl
      · rw [if_neg (by simp [sound]), if_neg sound]
        exact ⟨rfl, rfl, rfl, rfl⟩
    obtain ⟨none, running, own, inactive⟩ := stays
    exact ⟨_, run, none, fun _ => ⟨(State.mem_settle_arising ..).mpr event, running, own, inactive⟩, fun rom => by omega⟩
  · rw [Dev.staged, if_neg (by simp [banks])] at pwr
    by_cases starts : s.dev.stageCheck g x = 0 ∧ g.dest = 1
    · obtain ⟨sound, rom⟩ := starts
      have bank : s.dev.stageBank g = 0xFF := if_pos rom
      rw [if_pos (by simp [sound, rom])] at run
      obtain ⟨reports, k, launched⟩ := e.startFirmware_starts x 2
      rw [Dev.setPwr_pwr, Dev.launched, pwr] at launched
      rw [bank] at event
      have kept := reports.kept _ event
      generalize e.startFirmware x 2 = u at run launched kept
      have runs : u.pwr.stage = none ∧ u.pwr.bankA = s.dev.pwr.bankA ∧ u.pwr.bankB = s.dev.pwr.bankB ∧
          u.pwr.running = some x ∧ u.pwr.fwSource = 2 ∧ u.pwr.fwState = 2 := by
        rw [launched]
        exact ⟨rfl, rfl, rfl, rfl, rfl, rfl⟩
      obtain ⟨none, bankA, bankB, running, source, state⟩ := runs
      exact ⟨_, run, none, fun banks' => absurd banks' banks, fun _ =>
        ⟨(State.mem_settle_arising ..).mpr kept, bankA, bankB, fun _ => ⟨running, source, state⟩,
          fun unsound => absurd sound unsound⟩⟩
    · rw [if_neg (by simpa using starts)] at run
      have stays : e.pwr.stage = none ∧ e.pwr.bankA = s.dev.pwr.bankA ∧ e.pwr.bankB = s.dev.pwr.bankB ∧
          e.pwr.running = s.dev.pwr.running ∧ e.pwr.fwState = s.dev.pwr.fwState := by
        rw [pwr]
        exact ⟨rfl, rfl, rfl, rfl, rfl⟩
      obtain ⟨none, bankA, bankB, running, state⟩ := stays
      refine ⟨_, run, none, fun banks' => absurd banks' banks, fun rom => ?_⟩
      have bank : s.dev.stageBank g = 0xFF := if_pos rom
      rw [bank] at event
      exact ⟨(State.mem_settle_arising ..).mpr event, bankA, bankB, fun sound => absurd ⟨sound, rom⟩ starts,
        fun _ => ⟨running, state⟩⟩

/-! ### Boot (R419) -/

/-- A write waits in the queue, or is held until the queue has room (R367). -/
theorem Sinter.put_queues_or_holds (x : Sinter) (c : Commit) : (x.put c).cells = x.cells ∧ (x.put c).second = x.second ∧
    ((x.put c).queue = x.queue ++ [c] ∧ (x.put c).held = x.held ∨
      (x.put c).queue = x.queue ∧ (x.put c).held = x.held ++ [c]) := by
  unfold Sinter.put
  split
  · exact ⟨rfl, rfl, .inl ⟨rfl, rfl⟩⟩
  · exact ⟨rfl, rfl, .inr ⟨rfl, rfl⟩⟩

/-- A write to another word leaves what a word reads as. -/
theorem Sinter.read_put {w : Nat} {c : Commit} (other : c.word ≠ w) (x : Sinter) : (x.put c).read w = x.read w := by
  obtain ⟨cells, second, ⟨queue, held⟩ | ⟨queue, held⟩⟩ := x.put_queues_or_holds c
  all_goals
    have stored : (x.put c).stored w = x.stored w := by
      rw [Sinter.stored, Sinter.stored, Sinter.cellOf_congr cells, cells]
    simp [Sinter.read, stored, queue, second, held, other]

theorem Sinter.profile_congr {x y : Sinter} {w : Nat} (same : y.read w = x.read w) (hi lo dflt : Nat) :
    y.profile w hi lo dflt = x.profile w hi lo dflt := by
  rw [Sinter.profile, Sinter.profile, same]

theorem Dev.noteWake_keeps (d : Dev) : d.Reports d.noteWake ∧ d.noteWake.sinter = d.sinter ∧
    (∃ k, d.noteWake.pwr = { d.pwr with wakeBy := k }) ∧
    ∀ v, d.pwr.wakeBy = some v → d.eventOf 0x0E04 0 (leBytes 1 v) ∈ d.noteWake.log.arising := by
  unfold Dev.noteWake
  split
  next v wake =>
    refine ⟨Dev.Reports.trans ?_ (.raise ..), rfl, ⟨none, rfl⟩, fun u own => ?_⟩
    · exact .of_eq rfl rfl rfl
    obtain rfl : v = u := by simpa [wake] using own
    rw [Dev.raise_arising]
    exact List.mem_append_right _ (List.mem_singleton_self _)
  next wake => exact ⟨.refl d, rfl, ⟨d.pwr.wakeBy, rfl⟩, fun v own => absurd (wake.symm.trans own) (by simp)⟩

/-- What an external programmer brings leaves everything but the flash as it was. -/
theorem Dev.program_keeps (d : Dev) (f : Option FlashInput) : d.Reports (d.program f) ∧ (d.program f).sinter = d.sinter ∧
    (d.program f).pwr.wakeBy = d.pwr.wakeBy := by
  unfold Dev.program
  split <;> exact ⟨.of_eq rfl rfl rfl, rfl, rfl⟩

/-- The records that a boot starts with: the log, its black box and the epoch. -/
def Dev.openLog (d : Dev) : Dev := d.startLog.resumeBlackBox.nextEpoch

theorem Tephra.writeRing_arising (t : Tephra) (r : Record) : (t.writeRing r).arising = t.arising := by
  unfold Tephra.writeRing
  split <;> rfl

theorem Dev.startLog_keeps (d : Dev) : d.Reports d.startLog ∧ d.startLog.pwr = d.pwr ∧ d.startLog.sinter = d.sinter := by
  refine ⟨⟨rfl, rfl, fun x m => ?_⟩, rfl, rfl⟩
  rw [Dev.startLog, Tephra.writeRing_arising]
  exact m

theorem Dev.resumeBlackBox_keeps (d : Dev) : d.Reports d.resumeBlackBox ∧ d.resumeBlackBox.pwr = d.pwr ∧
    d.resumeBlackBox.sinter = d.sinter := by
  unfold Dev.resumeBlackBox
  generalize (match d.sinter.bbNewest with | some k => (k + 1) % 512 | none => 0) = next
  exact ⟨⟨rfl, rfl, fun _ m => m⟩, rfl, rfl⟩

theorem Dev.nextEpoch_keeps (d : Dev) : d.Reports d.nextEpoch ∧ d.nextEpoch.pwr = d.pwr ∧
    ∀ w, w ≠ 58 → d.nextEpoch.sinter.read w = d.sinter.read w :=
  ⟨.of_eq rfl rfl rfl, rfl, fun _ other => Sinter.read_put (by exact other.symm) _⟩

theorem Dev.openLog_keeps (d : Dev) : d.Reports d.openLog ∧ d.openLog.pwr = d.pwr ∧
    ∀ w, w ≠ 58 → d.openLog.sinter.read w = d.sinter.read w := by
  obtain ⟨starts, startsPwr, startsSinter⟩ := d.startLog_keeps
  obtain ⟨resumes, resumesPwr, resumesSinter⟩ := d.startLog.resumeBlackBox_keeps
  obtain ⟨rises, risesPwr, read⟩ := d.startLog.resumeBlackBox.nextEpoch_keeps
  rw [Dev.openLog]
  exact ⟨(starts.trans resumes).trans rises, by rw [risesPwr, resumesPwr, startsPwr],
    fun w other => by rw [read w other, resumesSinter, startsSinter]⟩

/-- The device at the start of boot: its log runs, its epoch has risen, and a wake is noted. -/
def Dev.wakeUp (d : Dev) (f : Option FlashInput) : Dev := (d.program f).openLog.noteWake

theorem Dev.wakeUp_keeps (d : Dev) (f : Option FlashInput) : d.Reports (d.wakeUp f) ∧
    (∀ w, w ≠ 58 → (d.wakeUp f).sinter.read w = d.sinter.read w) ∧
    (∃ k, (d.wakeUp f).pwr = { (d.program f).pwr with wakeBy := k }) ∧
    ∀ v, d.pwr.wakeBy = some v → d.eventOf 0x0E04 0 (leBytes 1 v) ∈ (d.wakeUp f).log.arising := by
  obtain ⟨programs, sinter, wakeBy⟩ := d.program_keeps f
  obtain ⟨logs, pwr, read⟩ := (d.program f).openLog_keeps
  obtain ⟨notes, same, ⟨k, noted⟩, event⟩ := (d.program f).openLog.noteWake_keeps
  rw [Dev.wakeUp]
  refine ⟨(programs.trans logs).trans notes, fun w other => by rw [same, read w other, sinter], ⟨k, by rw [noted, pwr]⟩,
    fun v wake => ?_⟩
  rw [← (programs.trans logs).eventOf_eq]
  exact event v (by rw [pwr, wakeBy, wake])

/-- The boot ROM runs the bank that passes, or serves on its own (R419, step 3). -/
def Dev.bootFrom (d : Dev) : Dev :=
  match d.bootBank.2 with
  | some b => match d.bootBank.1.pwr.bank b with | some i => d.bootBank.1.startFirmware i b | none => d.bootBank.1.romMode
  | none => d.bootBank.1.romMode

theorem Dev.boot_eq (d : Dev) (f : Option FlashInput) : d.boot f = (d.wakeUp f).abandonTrial.bootFrom := by
  unfold Dev.boot Dev.wakeUp Dev.openLog Dev.bootFrom
  dsimp only
  generalize Dev.bootBank _ = chosen
  obtain ⟨e, _ | b⟩ := chosen <;> rfl

theorem exec_boot {s : State} {f : Option FlashInput} (booting : s.dev.pwr.mode = .booting) (clocked : s.dev.clocked = true) :
    exec (.boot f) s = .next (s.settleInOrder (s.dev.wakeUp f).abandonTrial.bootFrom) := by
  show execBoot f s = _
  rw [execBoot, State.inOrder, if_pos (by simp [booting, clocked]), Dev.boot_eq]

@[simp] theorem State.settleInOrder_pwr (s : State) (d : Dev) : (s.settleInOrder d).dev.pwr = d.pwr := rfl
@[simp] theorem State.settleInOrder_log (s : State) (d : Dev) : (s.settleInOrder d).dev.log = d.log := rfl

/-- An erased bank passes no check. -/
theorem Dev.bank_of_sound {d : Dev} {b : Nat} (sound : d.bankCheck b = 0) : ∃ i, d.pwr.bank b = some i := by
  cases bank : d.pwr.bank b with
  | none => rw [Dev.bankCheck, bank] at sound; exact absurd sound (by simp [fwCheck])
  | some i => exact ⟨i, rfl⟩

theorem Dev.bootFrom_of_sound {d : Dev} {i : FwImage} (sound : d.bankCheck d.fwBank = 0)
    (bank : d.pwr.bank d.fwBank = some i) : d.bootFrom = d.startFirmware i d.fwBank := by
  rw [Dev.bootFrom, Dev.bootBank_of_sound sound]
  dsimp only
  rw [bank]

/-- The bank that FW_BANK names does not pass: event 0x0013. -/
def Dev.rejectBank (d : Dev) : Dev := d.raise 0x0013 0 (leBytes 1 d.fwBank ++ leBytes 1 (d.bankCheck d.fwBank))

theorem Dev.bootBank_of_unsound {d : Dev} (unsound : d.bankCheck d.fwBank ≠ 0) : d.bootBank =
    (d.rejectBank, if d.bankCheck d.inactiveBank = 0 then some d.inactiveBank else none) := by
  unfold Dev.bootBank
  dsimp only
  rw [if_neg unsound]
  rfl

theorem Dev.bootFrom_of_other {d : Dev} {i : FwImage} (unsound : d.bankCheck d.fwBank ≠ 0)
    (sound : d.bankCheck d.inactiveBank = 0) (bank : d.pwr.bank d.inactiveBank = some i) :
    d.bootFrom = d.rejectBank.startFirmware i d.inactiveBank := by
  have same : d.rejectBank.pwr.bank d.inactiveBank = some i := bank
  rw [Dev.bootFrom, Dev.bootBank_of_unsound unsound, if_pos sound]
  dsimp only
  rw [same]

theorem Dev.bootFrom_of_none {d : Dev} (unsound : d.bankCheck d.fwBank ≠ 0) (other : d.bankCheck d.inactiveBank ≠ 0) :
    d.bootFrom = d.rejectBank.romMode := by
  rw [Dev.bootFrom, Dev.bootBank_of_unsound unsound, if_neg other]

theorem Dev.rejectBank_reports (d : Dev) : d.Reports d.rejectBank ∧
    d.eventOf 0x0013 0 (leBytes 1 d.fwBank ++ leBytes 1 (d.bankCheck d.fwBank)) ∈ d.rejectBank.log.arising := by
  refine ⟨.raise .., ?_⟩
  rw [Dev.rejectBank, Dev.raise_arising]
  exact List.mem_append_right _ (List.mem_singleton_self _)

theorem Dev.startFirmware_runs (d : Dev) (i : FwImage) (source : Nat) : d.Reports (d.startFirmware i source) ∧
    (d.startFirmware i source).pwr.mode = .running ∧ (d.startFirmware i source).pwr.trial = d.pwr.trial ∧
    (d.startFirmware i source).pwr.running = some i ∧ (d.startFirmware i source).pwr.fwState = 2 ∧
    (d.startFirmware i source).pwr.fwSource = source := by
  obtain ⟨reports, k, launched⟩ := d.startFirmware_starts i source
  generalize d.startFirmware i source = e at reports launched ⊢
  have set : d.Reports (d.setPwr (d.launched i source)) := .of_eq rfl rfl rfl
  rw [launched]
  exact ⟨set.trans reports, rfl, rfl, rfl, rfl, rfl⟩

theorem Dev.romMode_reports (d : Dev) : d.Reports d.romMode := .of_eq rfl rfl rfl

/-- Whatever boots, the device runs, keeps its trial as it was, and loses no event. -/
theorem Dev.bootFrom_runs (d : Dev) : d.Reports d.bootFrom ∧ d.bootFrom.pwr.mode = .running ∧
    d.bootFrom.pwr.trial = d.pwr.trial := by
  by_cases sound : d.bankCheck d.fwBank = 0
  · obtain ⟨i, bank⟩ := Dev.bank_of_sound sound
    obtain ⟨reports, mode, trial, -⟩ := d.startFirmware_runs i d.fwBank
    rw [Dev.bootFrom_of_sound sound bank]
    exact ⟨reports, mode, trial⟩
  · obtain ⟨rejects, -⟩ := d.rejectBank_reports
    by_cases other : d.bankCheck d.inactiveBank = 0
    · obtain ⟨i, bank⟩ := Dev.bank_of_sound other
      obtain ⟨reports, mode, trial, -⟩ := d.rejectBank.startFirmware_runs i d.inactiveBank
      rw [Dev.bootFrom_of_other sound other bank]
      exact ⟨rejects.trans reports, mode, trial⟩
    · rw [Dev.bootFrom_of_none sound other]
      exact ⟨rejects.trans (Dev.romMode_reports _), rfl, rfl⟩

theorem Dev.bankCheck_congr {d e : Dev} {b : Nat} (word : e.sinter.read 2 = d.sinter.read 2)
    (bank : e.pwr.bank b = d.pwr.bank b) : e.bankCheck b = d.bankCheck b := by
  rw [Dev.bankCheck, Dev.bankCheck, bank, Dev.minSvn, Dev.minSvn, Sinter.profile_congr word]

theorem boot_runs_bank (s : State) (f : Option FlashInput) (d : Dev) (done : s.handedOver = true)
    (booting : s.dev.pwr.mode = .booting) (clocked : s.dev.clocked = true) (programmed : d = s.dev.program f)
    (tried : s.dev.fwTrial = false) :
    ∃ t, exec (.boot f) s = .next t ∧ t.dev.pwr.mode = .running ∧ t.mem = s.mem ∧ t.bar1 = s.bar1 ∧
      (∀ v, s.dev.pwr.wakeBy = some v → s.dev.eventOf 0x0E04 0 (leBytes 1 v) ∈ t.dev.log.arising) ∧
      (d.bankCheck d.fwBank = 0 → t.dev.pwr.running = d.pwr.bank d.fwBank ∧ t.dev.pwr.fwState = 2 ∧
        t.dev.pwr.fwSource = d.fwBank) ∧
      (d.bankCheck d.fwBank ≠ 0 →
        s.dev.eventOf 0x0013 0 (leBytes 1 d.fwBank ++ leBytes 1 (d.bankCheck d.fwBank)) ∈ t.dev.log.arising ∧
        (d.bankCheck d.inactiveBank = 0 → t.dev.pwr.running = d.pwr.bank d.inactiveBank ∧ t.dev.pwr.fwState = 2 ∧
          t.dev.pwr.fwSource = d.inactiveBank) ∧
        (d.bankCheck d.inactiveBank ≠ 0 → t.dev.pwr.running = none ∧ t.dev.pwr.fwState = 0 ∧ t.dev.pwr.coresUp = 1)) := by
  have run := exec_boot (f := f) booting clocked
  obtain ⟨-, sinter, -⟩ := s.dev.program_keeps f
  obtain ⟨wakes, read, ⟨k, pwr⟩, wakeEvent⟩ := s.dev.wakeUp_keeps f
  rw [← programmed] at sinter pwr
  generalize s.dev.wakeUp f = e at run wakes read pwr wakeEvent
  have word : ∀ w, w ≠ 58 → e.sinter.read w = d.sinter.read w := fun w other => by rw [read w other, sinter]
  have still : e.abandonTrial = e := by
    have same : e.fwTrial = s.dev.fwTrial := by rw [Dev.fwTrial, Dev.fwTrial, Sinter.profile_congr (read 1 (by decide))]
    rw [Dev.abandonTrial, if_neg (by rw [same, tried]; exact Bool.false_ne_true)]
  rw [still] at run
  have fwBank : e.fwBank = d.fwBank := by rw [Dev.fwBank, Dev.fwBank, Sinter.profile_congr (word 1 (by decide))]
  have inactive : e.inactiveBank = d.inactiveBank := by rw [Dev.inactiveBank, Dev.inactiveBank, fwBank]
  have bank : ∀ b, e.pwr.bank b = d.pwr.bank b := fun b => by rw [pwr]; rfl
  have check : ∀ b, e.bankCheck b = d.bankCheck b := fun b => Dev.bankCheck_congr (word 2 (by decide)) (bank b)
  obtain ⟨reports, mode, -⟩ := e.bootFrom_runs
  have out : e.bootFrom.host.out = [] := by rw [reports.out, wakes.out]; exact List.isEmpty_iff.mp done
  refine ⟨_, run, mode, rfl, ?_, fun v wake => reports.kept _ (wakeEvent v wake), fun sound => ?_, fun unsound => ⟨?_, ?_, ?_⟩⟩
  · show s.bar1.puts e.bootFrom.host.out = s.bar1
    rw [out]
    rfl
  · rw [← check, ← fwBank] at sound
    obtain ⟨i, present⟩ := Dev.bank_of_sound sound
    obtain ⟨-, -, -, running, state, source⟩ := e.startFirmware_runs i e.fwBank
    rw [State.settleInOrder_pwr, Dev.bootFrom_of_sound sound present, ← bank, ← fwBank, present]
    exact ⟨running, state, source⟩
  · obtain ⟨rejects, event⟩ := e.rejectBank_reports
    rw [← check, ← fwBank] at unsound ⊢
    rw [State.settleInOrder_log]
    rw [wakes.eventOf_eq] at event
    by_cases sound : e.bankCheck e.inactiveBank = 0
    · obtain ⟨i, present⟩ := Dev.bank_of_sound sound
      obtain ⟨starts, -⟩ := e.rejectBank.startFirmware_runs i e.inactiveBank
      rw [Dev.bootFrom_of_other unsound sound present]
      exact starts.kept _ event
    · rw [Dev.bootFrom_of_none unsound sound]
      exact (Dev.romMode_reports _).kept _ event
  · rw [← check, ← fwBank] at unsound
    intro sound
    rw [← check, ← inactive] at sound
    obtain ⟨i, present⟩ := Dev.bank_of_sound sound
    obtain ⟨-, -, -, running, state, source⟩ := e.rejectBank.startFirmware_runs i e.inactiveBank
    rw [State.settleInOrder_pwr, Dev.bootFrom_of_other unsound sound present, ← bank, ← inactive, present]
    exact ⟨running, state, source⟩
  · rw [← check, ← fwBank] at unsound
    intro other
    rw [← check, ← inactive] at other
    rw [State.settleInOrder_pwr, Dev.bootFrom_of_none unsound other]
    exact ⟨rfl, rfl, rfl⟩

theorem boot_abandons_trial (s : State) (f : Option FlashInput) (booting : s.dev.pwr.mode = .booting)
    (clocked : s.dev.clocked = true) (tried : s.dev.fwTrial = true) :
    ∃ t, exec (.boot f) s = .next t ∧ t.dev.pwr.mode = .running ∧ t.dev.pwr.trial = none ∧
      s.dev.eventOf 0x0012 0 (leBytes 1 s.dev.fwBank ++ leBytes 1 4) ∈ t.dev.log.arising := by
  have run := exec_boot (f := f) booting clocked
  obtain ⟨wakes, read, -, -⟩ := s.dev.wakeUp_keeps f
  generalize s.dev.wakeUp f = e at run wakes read
  have trial : e.fwTrial = true := by
    rw [← tried, Dev.fwTrial, Dev.fwTrial, Sinter.profile_congr (read 1 (by decide))]
  have fwBank : e.fwBank = s.dev.fwBank := by
    rw [Dev.fwBank, Dev.fwBank, Sinter.profile_congr (read 1 (by decide))]
  rw [Dev.abandonTrial, if_pos trial] at run
  obtain ⟨-, arising, -, -, -, pwr⟩ := e.restoreOld_keeps (1 - e.fwBank) 4
  generalize e.restoreOld (1 - e.fwBank) 4 = u at run arising pwr
  obtain ⟨reports, mode, keeps⟩ := u.bootFrom_runs
  refine ⟨_, run, mode, ?_, reports.kept _ ?_⟩
  · exact keeps.trans (by rw [pwr])
  · rw [arising, fwBank, wakes.eventOf_eq]
    exact List.mem_append_right _ (List.mem_singleton_self _)

/-- Settles O56: stages, then activation and rollback, the pauses, the trials, and boot. -/
theorem firmwareIsStagedActivatedAndBooted : Obligations.firmware_is_staged_activated_and_booted := by
  refine ⟨fun s core c done offered => ⟨fun st pl refused => stage_is_refused done offered refused,
      fun accepted ready => stage_is_opened
        (State.live_of_powered (Dev.fronts_of_offers offered).1.powered done) offered accepted ready,
      fun accepted source ready fresh => stage_without_transfer_ends offered accepted source ready fresh⟩,
    fun s c _ rom free front mailbox opcode passes accepted ready =>
      stage_is_opened_on_rom s c rom free front mailbox opcode passes accepted ready,
    stage_ends, activation_waits_for_effect, rollback_waits_for_effect, pause_begins, pause_ends, trial_succeeds,
    trial_fails, boot_runs_bank, fun s f _ booting clocked tried => boot_abandons_trial s f booting clocked tried⟩

end Sys2Proof.Machine

namespace Sys2Proof.Machine

open Sys2Proof

/-! ### Effects on the rails (R413) -/

/-- The state with both memories lost. -/
def State.lost (s : State) : State := { s with mem := [], bar1 := [] }

/-- Hub SRAM, HBM and the rings lose their contents in a mode in which their rails are down. -/
theorem State.supply_dark {s : State} {f : Dev → Dev} {mode : PowerMode} (ends : (f s.dev).pwr.mode = mode)
    (dark : mode.dark = true) : s.supply f = .next (s.settle (f s.dev)).lost := by
  have own : (s.settle (f s.dev)).dev.pwr.mode.dark = true := by rw [State.settle_pwr, ends, dark]
  rw [State.supply]
  exact congrArg _ (if_pos own)

theorem State.supply_lit {s : State} {f : Dev → Dev} {mode : PowerMode} (ends : (f s.dev).pwr.mode = mode)
    (lit : mode.dark = false) : s.supply f = .next (s.settle (f s.dev)) := by
  have own : ¬(s.settle (f s.dev)).dev.pwr.mode.dark = true := by rw [State.settle_pwr, ends, lit]; exact Bool.false_ne_true
  rw [State.supply]
  exact congrArg _ (if_neg own)

/-! ### Resets and wakes (R416, R435) -/

theorem exec_resetN_running {s : State} (up : s.dev.pwr.mode = .running ∨ s.dev.pwr.mode = .booting) :
    exec .resetN s = .next (s.settle (s.dev.cold .booting)) := by
  show execResetN s = _
  rw [execResetN, State.always_eq]
  obtain mode | mode := up <;> rw [mode]

theorem reset_clears_volatile (s : State) (up : s.dev.pwr.mode = .running ∨ s.dev.pwr.mode = .booting) :
    ∃ t, exec .resetN s = .next t ∧ t.dev.pwr.mode = .booting ∧ t.dev.fc = 0 ∧ t.dev.host.queue = [] ∧
      t.dev.host.waiting = [] ∧ t.dev.log.arising = [] ∧ t.dev.svc = ({} : Service) ∧
      t.dev.sinter.cells = s.dev.sinter.cells ∧ t.dev.sinter.spares = s.dev.sinter.spares ∧ t.dev.sinter.queue = [] ∧
      t.dev.pwr.bankA = s.dev.pwr.bankA ∧ t.dev.pwr.bankB = s.dev.pwr.bankB ∧
      t.dev.sched.slotA = s.dev.sched.slotA ∧ t.dev.sched.slotB = s.dev.sched.slotB ∧ t.dev.sched.active = none ∧
      t.mem = s.mem ∧ t.bar1 = s.bar1 := by
  refine ⟨_, exec_resetN_running up, rfl, rfl, rfl, rfl, ?_, rfl, rfl, rfl, rfl, rfl, rfl, rfl, rfl, rfl, rfl, rfl⟩
  rw [State.settle_arising]
  simp [Dev.cold, sortBy]

/-- A wake from Dormant: everything volatile is at its reset value, and the up-sequence starts. -/
def Dev.wakeFromDormant (d : Dev) (cause : Nat) : Dev :=
  (Dev.cold { d with pwr := { d.pwr with wakeBy := some cause } } .dormant).startUp

theorem Dev.wakeFromDormant_keeps (d : Dev) (cause : Nat) :
    (d.wakeFromDormant cause).pwr.mode = .upSeq ∧ (d.wakeFromDormant cause).pwr.order = 1 ∧
    (d.wakeFromDormant cause).pwr.enables = 1 ∧ (d.wakeFromDormant cause).pwr.wakeBy = some cause ∧
    (d.wakeFromDormant cause).sinter.cells = d.sinter.cells := ⟨rfl, rfl, rfl, rfl, rfl⟩

theorem dormant_device_wakes (s : State) (dormant : s.dev.pwr.mode = .dormant) :
    (∃ t, exec .resetN s = .next t ∧ t.dev.pwr.mode = .upSeq ∧ t.dev.pwr.order = 1 ∧ t.dev.pwr.enables = 1 ∧
      t.dev.pwr.wakeBy = some 1 ∧ t.dev.sinter.cells = s.dev.sinter.cells) ∧
    (∃ t, exec .wake s = .next t ∧ t.dev.pwr.mode = .upSeq ∧ t.dev.pwr.order = 1 ∧ t.dev.pwr.enables = 1 ∧
      t.dev.pwr.wakeBy = some 0 ∧ t.dev.sinter.cells = s.dev.sinter.cells) := by
  have reset : exec .resetN s = .next (s.settle (s.dev.wakeFromDormant 1)) := by
    show execResetN s = _
    rw [execResetN, State.always_eq, dormant]
    rfl
  have wake : exec .wake s = .next (s.settle (s.dev.wakeFromDormant 0)) := by
    show execWake s = _
    rw [execWake, State.always_eq, dormant]
    rfl
  exact ⟨⟨_, reset, s.dev.wakeFromDormant_keeps 1⟩, ⟨_, wake, s.dev.wakeFromDormant_keeps 0⟩⟩

/-- A step on the power state alone, in a state that waits for nothing. -/
theorem State.settle_setPwr {s : State} (done : s.handedOver = true) (p : Power) :
    s.settle (s.dev.setPwr p) = { s with dev := s.dev.setPwr p } :=
  State.settle_quiet rfl (List.isEmpty_iff.mp done)

theorem State.settle_done {s : State} (done : s.handedOver = true) : s.settle s.dev = s :=
  State.settle_self s (List.isEmpty_iff.mp done)

theorem wake_waits_for_entry (s : State) (done : s.handedOver = true) :
    (s.dev.pwr.mode = .downSeq → s.dev.pwr.faultOrder = 0 →
      exec .wake s = .next { s with dev := { s.dev with pwr := { s.dev.pwr with wakeWaits := true } } }) ∧
    ((s.dev.pwr.mode = .running ∨ s.dev.pwr.mode = .booting) → s.dev.pwr.dormant.isSome = true →
      exec .wake s = .next { s with dev := { s.dev with pwr := { s.dev.pwr with wakeWaits := true } } }) ∧
    ((s.dev.pwr.mode = .running ∨ s.dev.pwr.mode = .booting) → s.dev.pwr.dormant = none → exec .wake s = .next s) := by
  have noted := State.settle_setPwr done { s.dev.pwr with wakeWaits := true }
  show (_ → _ → execWake s = _) ∧ (_ → _ → execWake s = _) ∧ (_ → _ → execWake s = _)
  rw [execWake, State.always_eq]
  refine ⟨fun mode sound => ?_, fun up dormant => ?_, fun up dormant => ?_⟩
  · rw [mode]
    exact congrArg _ ((congrArg s.settle (if_pos sound)).trans noted)
  · obtain mode | mode := up <;> rw [mode] <;> exact congrArg _ ((congrArg s.settle (if_pos dormant)).trans noted)
  · obtain mode | mode := up <;> rw [mode] <;>
      exact congrArg _ ((congrArg s.settle (if_neg (by simp [dormant]))).trans (State.settle_done done))

/-! ### The up-sequence and the down-sequence (R414, R415) -/

theorem vaon_starts_up_sequence (s : State) (off : s.dev.pwr.mode = .unpowered) :
    ∃ t, exec .vaonApplied s = .next t ∧ t.dev.pwr.mode = .upSeq ∧ t.dev.pwr.order = 1 ∧ t.dev.pwr.enables = 1 ∧
      t.dev.pwr.rails = 0 ∧ t.dev.sinter.cells = s.dev.sinter.cells ∧ t.mem = [] ∧ t.bar1 = [] := by
  have run : exec .vaonApplied s = .next (s.settle (s.dev.cold .unpowered).startUp).lost := by
    have starts : (if s.dev.pwr.mode = .unpowered then (s.dev.cold .unpowered).startUp else s.dev) =
        (s.dev.cold .unpowered).startUp := if_pos off
    show execVaonApplied s = _
    rw [execVaonApplied, State.supply_dark (mode := .upSeq) (by rw [starts]; rfl) rfl, starts]
  exact ⟨_, run, rfl, rfl, rfl, rfl, rfl, rfl, rfl⟩

theorem vaon_leaves_live_device (s : State) (live : s.live = true) : exec .vaonApplied s = .next s := by
  have powered := State.powered_of_live live
  simp only [Dev.powered, Bool.or_eq_true, beq_iff_eq] at powered
  have same : (if s.dev.pwr.mode = .unpowered then (s.dev.cold .unpowered).startUp else s.dev) = s.dev := by
    obtain mode | mode := powered <;> rw [mode, if_neg (by decide)]
  show execVaonApplied s = _
  rw [execVaonApplied]
  obtain mode | mode := powered
  · rw [State.supply_lit (mode := .running) (by rw [same, mode]) rfl, same, State.settle_self s (State.out_of_live live)]
  · rw [State.supply_lit (mode := .booting) (by rw [same, mode]) rfl, same, State.settle_self s (State.out_of_live live)]

/-- A rail fault: the pair outputs drop, and the down-sequence starts (R415). -/
theorem Dev.railFault_keeps (d : Dev) (k : Nat) : (d.railFault k).pwr.mode = .downSeq ∧ (d.railFault k).pwr.order = 7 ∧
    (d.railFault k).pwr.faultOrder = k ∧ (d.railFault k).pwr.enables = d.pwr.enables % 64 ∧
    (d.railFault k).pair.selLp = 0 ∧ (d.railFault k).pair.aliveOut = false ∧ (d.railFault k).log = d.log ∧
    (d.railFault k).host = d.host := ⟨rfl, rfl, rfl, rfl, rfl, rfl, rfl, rfl⟩

theorem exec_railReached_dark {s : State} {ok : Bool} {mode : PowerMode} (ends : (s.dev.railReached ok).pwr.mode = mode)
    (dark : mode.dark = true) : exec (.railReached ok) s = .next (s.settle (s.dev.railReached ok)).lost :=
  State.supply_dark (f := fun d => d.railReached ok) ends dark

theorem exec_railReached_lit {s : State} {ok : Bool} {mode : PowerMode} (ends : (s.dev.railReached ok).pwr.mode = mode)
    (lit : mode.dark = false) : exec (.railReached ok) s = .next (s.settle (s.dev.railReached ok)) :=
  State.supply_lit (f := fun d => d.railReached ok) ends lit

/-- The power state as a rail of the up-sequence stands: the next is enabled; after the last one the device boots. -/
def Power.railUp (p : Power) (k : Nat) : Power :=
  { p with
    mode := if 7 ≤ k then .booting else p.mode, order := if 7 ≤ k then 8 else k + 1
    enables := setBit p.enables k true, rails := setBit p.rails (k - 1) true }

theorem Dev.railReached_up {d : Dev} (up : d.pwr.mode = .upSeq) :
    d.railReached true = d.setPwr (d.pwr.railUp d.pwr.order) := by
  rw [Dev.railReached, up]
  by_cases ends : 7 ≤ d.pwr.order
  · simp [Power.railUp, ends, Dev.setPwr]
  · simp [Power.railUp, ends, Dev.setPwr, up]

theorem Dev.railReached_fault {d : Dev} (up : d.pwr.mode = .upSeq) : d.railReached false = d.railFault d.pwr.order := by
  rw [Dev.railReached, up]
  rfl

theorem up_sequence_moves (s : State) (k : Nat) (up : s.dev.pwr.mode = .upSeq) (order : s.dev.pwr.order = k)
    (last : k ≤ 7) :
    (∃ t, exec (.railReached true) s = .next t ∧ t.dev.pwr.rails = setBit s.dev.pwr.rails (k - 1) true ∧
      t.dev.pwr.enables = setBit s.dev.pwr.enables k true ∧ t.dev.pwr.order = k + 1 ∧
      t.dev.pwr.mode = (if k = 7 then .booting else .upSeq) ∧ (k ≠ 7 → t.mem = [] ∧ t.bar1 = []) ∧
      t.dev.sinter = s.dev.sinter) ∧
    (∃ t, exec (.railReached false) s = .next t ∧ t.dev.pwr.mode = .downSeq ∧ t.dev.pwr.faultOrder = k ∧
      t.dev.pwr.order = 7 ∧ t.dev.pwr.enables = s.dev.pwr.enables % 64 ∧ t.dev.pair.aliveOut = false) := by
  refine ⟨?_, ?_⟩
  · have moves := Dev.railReached_up up
    rw [order] at moves
    by_cases ends : k = 7
    · have mode : (s.dev.pwr.railUp k).mode = .booting := if_pos (by omega)
      have next : (s.dev.pwr.railUp k).order = k + 1 := (if_pos (by omega)).trans (by omega)
      have run := exec_railReached_lit (s := s) (ok := true) (mode := .booting) (by rw [moves, Dev.setPwr_pwr, mode]) rfl
      rw [moves] at run
      exact ⟨_, run, rfl, rfl, next, by rw [if_pos ends]; exact mode, fun other => absurd ends other, rfl⟩
    · have mode : (s.dev.pwr.railUp k).mode = .upSeq := (if_neg (by omega)).trans up
      have next : (s.dev.pwr.railUp k).order = k + 1 := if_neg (by omega)
      have run := exec_railReached_dark (s := s) (ok := true) (mode := .upSeq) (by rw [moves, Dev.setPwr_pwr, mode]) rfl
      rw [moves] at run
      exact ⟨_, run, rfl, rfl, next, by rw [if_neg ends]; exact mode, fun _ => ⟨rfl, rfl⟩, rfl⟩
  · have moves := Dev.railReached_fault up
    rw [order] at moves
    obtain ⟨mode, order, fault, enables, -, alive, -, -⟩ := s.dev.railFault_keeps k
    have run := exec_railReached_lit (s := s) (ok := false) (mode := .downSeq) (by rw [moves, mode]) rfl
    rw [moves] at run
    exact ⟨_, run, mode, fault, order, enables, alive⟩

/-- The power state as a rail of the down-sequence has fallen, and the one before it falls. -/
def Power.railDown (p : Power) (k : Nat) : Power :=
  { p with order := k - 1, enables := setBit p.enables (k - 2) false, rails := setBit p.rails (k - 1) false }

/-- The power state as the last rail has fallen. -/
def Power.railsDown (p : Power) (mode : PowerMode) (k : Nat) : Power :=
  { p with mode := mode, order := 0, enables := 0, rails := setBit p.rails (k - 1) false }

theorem Dev.railReached_down {d : Dev} (down : d.pwr.mode = .downSeq) (more : 1 < d.pwr.order) (ok : Bool) :
    d.railReached ok = d.setPwr (d.pwr.railDown d.pwr.order) := by
  rw [Dev.railReached, down]
  exact if_neg (by omega)

/-- The down-sequence after a rail fault ends: the device waits for its restart (R415). -/
theorem Dev.railReached_faultWait {d : Dev} (down : d.pwr.mode = .downSeq) (last : d.pwr.order ≤ 1)
    (fault : d.pwr.faultOrder ≠ 0) (ok : Bool) :
    d.railReached ok = d.setPwr (d.pwr.railsDown .faultWait d.pwr.order) := by
  rw [Dev.railReached, down]
  exact (if_pos last).trans (if_pos (by simpa using fault))

/-- The down-sequence of a Dormant entry ends, and no wake has come (R433). -/
theorem Dev.railReached_dormant {d : Dev} (down : d.pwr.mode = .downSeq) (last : d.pwr.order ≤ 1)
    (sound : d.pwr.faultOrder = 0) (waits : d.pwr.wakeWaits = false) (ok : Bool) :
    d.railReached ok = (d.setPwr (d.pwr.railsDown .dormant d.pwr.order)).cold .dormant := by
  rw [Dev.railReached, down]
  exact ((if_pos last).trans (if_neg (by simp [sound]))).trans (if_neg (by simp [waits]))

/-- A wake that came during the entry starts the up-sequence at its end (R435). -/
theorem Dev.railReached_wakes {d : Dev} (down : d.pwr.mode = .downSeq) (last : d.pwr.order ≤ 1)
    (sound : d.pwr.faultOrder = 0) (waits : d.pwr.wakeWaits = true) (ok : Bool) : ∃ e : Dev,
    e.pwr.wakeBy = some 0 ∧ d.railReached ok = e.startUp := by
  rw [Dev.railReached, down]
  exact ⟨_, rfl, ((if_pos last).trans (if_neg (by simp [sound]))).trans (if_pos waits)⟩

theorem down_sequence_moves (s : State) (ok : Bool) (k : Nat) (down : s.dev.pwr.mode = .downSeq)
    (order : s.dev.pwr.order = k) (first : 1 ≤ k) :
    ∃ t, exec (.railReached ok) s = .next t ∧
      (s.dev.pwr.wakeWaits = false → t.dev.pwr.rails = setBit s.dev.pwr.rails (k - 1) false) ∧
      (1 < k → t.dev.pwr.mode = .downSeq ∧ t.dev.pwr.order = k - 1 ∧ t.dev.pwr.rails = setBit s.dev.pwr.rails (k - 1) false ∧
        t.dev.pwr.enables = setBit s.dev.pwr.enables (k - 2) false ∧ t.dev.sinter = s.dev.sinter) ∧
      (k = 1 → s.dev.pwr.faultOrder ≠ 0 → t.dev.pwr.mode = .faultWait ∧ t.dev.pwr.enables = 0 ∧
        t.dev.pwr.faultOrder = s.dev.pwr.faultOrder ∧ t.mem = [] ∧ t.bar1 = []) ∧
      (k = 1 → s.dev.pwr.faultOrder = 0 → s.dev.pwr.wakeWaits = false → t.dev.pwr.mode = .dormant ∧
        t.dev.pwr.enables = 0 ∧ t.dev.fc = 0 ∧ t.dev.sinter.cells = s.dev.sinter.cells ∧ t.mem = [] ∧ t.bar1 = []) ∧
      (k = 1 → s.dev.pwr.faultOrder = 0 → s.dev.pwr.wakeWaits = true → t.dev.pwr.mode = .upSeq ∧ t.dev.pwr.order = 1 ∧
        t.dev.pwr.enables = 1 ∧ t.dev.pwr.rails = 0 ∧ t.dev.pwr.wakeBy = some 0 ∧ t.mem = [] ∧ t.bar1 = []) := by
  subst order
  by_cases more : 1 < s.dev.pwr.order
  · have moves := Dev.railReached_down down more ok
    have run := exec_railReached_lit (s := s) (ok := ok) (mode := .downSeq) (by rw [moves]; exact down) rfl
    rw [moves] at run
    exact ⟨_, run, fun _ => rfl, fun _ => ⟨down, rfl, rfl, rfl, rfl⟩, by omega, by omega, by omega⟩
  · have last : s.dev.pwr.order ≤ 1 := by omega
    by_cases fault : s.dev.pwr.faultOrder = 0
    · cases waits : s.dev.pwr.wakeWaits with
      | false =>
        have moves := Dev.railReached_dormant down last fault waits ok
        have run := exec_railReached_dark (s := s) (ok := ok) (mode := .dormant) (by rw [moves]; rfl) rfl
        rw [moves] at run
        exact ⟨_, run, fun _ => rfl, fun many => absurd many more, fun _ broken => absurd fault broken,
          fun _ _ _ => ⟨rfl, rfl, rfl, rfl, rfl, rfl⟩, nofun⟩
      | true =>
        obtain ⟨e, cause, moves⟩ := Dev.railReached_wakes down last fault waits ok
        have run := exec_railReached_dark (s := s) (ok := ok) (mode := .upSeq) (by rw [moves]; rfl) rfl
        rw [moves] at run
        exact ⟨_, run, nofun, fun many => absurd many more, fun _ broken => absurd fault broken, nofun,
          fun _ _ _ => ⟨rfl, rfl, rfl, rfl, cause, rfl, rfl⟩⟩
    · have moves := Dev.railReached_faultWait down last fault ok
      have run := exec_railReached_dark (s := s) (ok := ok) (mode := .faultWait) (by rw [moves]; rfl) rfl
      rw [moves] at run
      exact ⟨_, run, fun _ => rfl, fun many => absurd many more, fun _ _ => ⟨rfl, rfl, rfl, rfl, rfl⟩,
        fun _ sound => absurd sound fault, fun _ sound => absurd sound fault⟩

theorem rail_fault_drops_outputs (s : State) (k : Nat) (live : s.live = true) (first : 1 ≤ k) (last : k ≤ 7) :
    ∃ t, exec (.railFault k) s = .next t ∧ t.dev.pwr.mode = .downSeq ∧ t.dev.pwr.order = 7 ∧ t.dev.pwr.faultOrder = k ∧
      t.dev.pwr.enables = s.dev.pwr.enables % 64 ∧ t.dev.pair.selLp = 0 ∧ t.dev.pair.aliveOut = false ∧
      s.raisesNone t ∧ t.mem = s.mem ∧ t.bar1 = s.bar1 ∧
      t = { s with dev := { s.dev with pwr := t.dev.pwr, pair := t.dev.pair } } := by
  have run : exec (.railFault k) s = .next { s with dev := s.dev.railFault k } := by
    show execRailFault k s = _
    rw [execRailFault]
    exact State.runIf_quiet live (by simp [first, last]) rfl rfl
  obtain ⟨mode, order, fault, enables, selLp, alive, -, -⟩ := s.dev.railFault_keeps k
  exact ⟨_, run, mode, order, fault, enables, selLp, alive, rfl, rfl, rfl, rfl⟩

theorem rail_fault_restarts (s : State) (waits : s.dev.pwr.mode = .faultWait) :
    ∃ t, exec .railFaultRestart s = .next t ∧ t.dev.pwr.mode = .upSeq ∧ t.dev.pwr.order = 1 ∧ t.dev.pwr.enables = 1 ∧
      t.dev.pwr.faultOrder = s.dev.pwr.faultOrder ∧ t.dev.fc = 0 ∧ t.dev.sinter.cells = s.dev.sinter.cells := by
  have run : exec .railFaultRestart s = .next (s.settle (s.dev.cold .faultWait).startUp) := by
    show execRailFaultRestart s = _
    rw [execRailFaultRestart, State.always_eq, if_pos waits]
  exact ⟨_, run, rfl, rfl, rfl, rfl, rfl, rfl⟩

/-! ### Loss of power (R369) -/

/-- The commits in progress on both ports end, where they were far enough. -/
def Dev.endCommits (d : Dev) (committed : Bool) : Dev :=
  if committed then
    let one := fun (d : Dev) (q : List Commit) =>
      match q with | c :: _ => (d.commit c.word c.width c.value true).1 | [] => d
    one (one d d.sinter.queue) d.sinter.second
  else d

/-- Without power: everything volatile is lost, and the pair outputs are low. -/
def Dev.unpower (d : Dev) : Dev :=
  let e := d.cold .unpowered
  { e with
    pwr := { e.pwr with order := 0, enables := 0, rails := 0, faultOrder := 0 }
    pair := { e.pair with selLp := 0, aliveOut := false } }

theorem power_is_removed (s : State) (committed : Bool) :
    ∃ t, exec (.powerRemoved committed) s = .next t ∧ t.dev.pwr.mode = .unpowered ∧ t.dev.pwr.enables = 0 ∧
      t.dev.pwr.rails = 0 ∧ t.dev.fc = 0 ∧ t.dev.host.queue = [] ∧ t.dev.sinter.queue = [] ∧ t.dev.sinter.second = [] ∧
      (committed = false → t.dev.sinter.cells = s.dev.sinter.cells) ∧ t.dev.pair.selLp = 0 ∧
      t.dev.pair.aliveOut = false ∧ t.mem = [] ∧ t.bar1 = [] := by
  have run : exec (.powerRemoved committed) s = .next (s.settle (s.dev.endCommits committed).unpower).lost :=
    State.supply_dark (f := fun d => (d.endCommits committed).unpower) (mode := .unpowered) rfl rfl
  refine ⟨_, run, rfl, rfl, rfl, rfl, rfl, rfl, rfl, fun lost => ?_, rfl, rfl, rfl, rfl⟩
  rw [lost]
  rfl

end Sys2Proof.Machine

namespace Sys2Proof.Machine

open Sys2Proof

/-! ### Reference clocks (R429, R430) -/

/-- The reference clock of a ball: A or B. -/
def Power.ref (p : Power) (b : Bool) : Bool := if b then p.refB else p.refA

/-- The power state with a reference clock good or bad. -/
def Power.setRef (p : Power) (b good : Bool) : Power := if b then { p with refB := good } else { p with refA := good }

theorem Power.setRef_ref (p : Power) (b good : Bool) : (p.setRef b good).ref b = good := by cases b <;> rfl
theorem Power.setRef_other (p : Power) (b good : Bool) : (p.setRef b good).ref (!b) = p.ref (!b) := by cases b <;> rfl
theorem Power.setRef_refBSel (p : Power) (b good : Bool) : (p.setRef b good).refBSel = p.refBSel := by cases b <;> rfl

/-- The synthesiser on another reference clock. -/
def Power.select (p : Power) (b : Bool) : Power := { p with refBSel := b }

theorem Power.select_ref (p : Power) (b c : Bool) : (p.select b).ref c = p.ref c := rfl

/-- The hub has no clock: the fault that both outputs to the pair show (R258). -/
def Dev.failHub (d : Dev) : Dev := { d with pair := { d.pair with hubFault := true } }

/-- A reference clock goes bad: the synthesiser leaves it for the other if that is good (R430). -/
def Dev.loseRef (d : Dev) (b : Bool) : Dev :=
  if d.pwr.refBSel = b then
    if d.pwr.ref (!b) then (d.setPwr ((d.pwr.setRef b false).select (!b))).raise 0x0E05 0 (leBytes 1 (b2n (!b)))
    else (d.setPwr (d.pwr.setRef b false)).failHub
  else d.setPwr (d.pwr.setRef b false)

theorem exec_refclkBad {s : State} (live : s.live = true) (b : Bool) :
    exec (.refclkBad b) s = .next (s.settle (s.dev.loseRef b)) := by
  show execRefclkBad b s = _
  rw [execRefclkBad, State.run_eq s _ (State.powered_of_live live)]
  cases b <;> rfl

/-- A step that changes the power state, with one event. -/
theorem State.shows_setPwr_raise {s : State} (live : s.live = true) (p : Power) (code obj : Nat) (l : List Byte) :
    ∃ t, s.settle ((s.dev.setPwr p).raise code obj l) = t ∧ t.dev.pwr = p ∧ t.dev.pair = s.dev.pair ∧
      s.raisesOne t code obj l ∧ t.mem = s.mem ∧ t.bar1 = s.bar1 := by
  refine ⟨_, rfl, rfl, rfl, State.raisesOne_settle_raise rfl rfl .., rfl, State.settle_bar1_of_live live ?_⟩
  rw [Dev.raise_out]
  rfl

theorem State.handedOver_of_live {s : State} (live : s.live = true) : s.handedOver = true := by
  simp only [State.live, Bool.and_eq_true] at live
  exact live.2

theorem reference_goes_bad (s : State) (b : Bool) (live : s.live = true) :
    ∃ t, exec (.refclkBad b) s = .next t ∧ (if b then t.dev.pwr.refB else t.dev.pwr.refA) = false ∧
      (if b then t.dev.pwr.refA else t.dev.pwr.refB) = (if b then s.dev.pwr.refA else s.dev.pwr.refB) ∧
      (s.dev.pwr.refBSel ≠ b → t.dev.pwr.refBSel = s.dev.pwr.refBSel ∧ t.dev.pair = s.dev.pair ∧ s.raisesNone t) ∧
      (s.dev.pwr.refBSel = b → (if b then s.dev.pwr.refA else s.dev.pwr.refB) = true →
        t.dev.pwr.refBSel = (!b) ∧ t.dev.pair = s.dev.pair ∧ s.raisesOne t 0x0E05 0 (leBytes 1 (b2n (!b)))) ∧
      (s.dev.pwr.refBSel = b → (if b then s.dev.pwr.refA else s.dev.pwr.refB) = false →
        t.dev.pair = { s.dev.pair with hubFault := true } ∧ s.raisesNone t) ∧ t.mem = s.mem ∧ t.bar1 = s.bar1 := by
  have run := exec_refclkBad live b
  have done := State.handedOver_of_live live
  have own : ∀ p : Power, (if b then p.refB else p.refA) = p.ref b := fun p => rfl
  have other : ∀ p : Power, (if b then p.refA else p.refB) = p.ref (!b) := fun p => by cases b <;> rfl
  have bad := s.dev.pwr.setRef_ref b false
  have stays := s.dev.pwr.setRef_other b false
  have selected := s.dev.pwr.setRef_refBSel b false
  simp only [own, other]
  rw [Dev.loseRef] at run
  generalize s.dev.pwr.setRef b false = p at run bad stays selected
  by_cases used : s.dev.pwr.refBSel = b
  · rw [if_pos used] at run
    cases good : s.dev.pwr.ref (!b) with
    | true =>
      rw [good, if_pos rfl] at run
      obtain ⟨t, eq, pwr, pair, one, mem, bar1⟩ :=
        State.shows_setPwr_raise live (p.select (!b)) 0x0E05 0 (leBytes 1 (b2n (!b)))
      rw [eq] at run
      refine ⟨t, run, ?_, ?_, fun unused => absurd used unused, fun _ _ => ⟨?_, pair, one⟩, nofun, mem, bar1⟩
      · rw [pwr, Power.select_ref, bad]
      · rw [pwr, Power.select_ref, stays, good]
      · rw [pwr]
        rfl
    | false =>
      rw [good, if_neg Bool.false_ne_true] at run
      rw [State.settle_quiet (d := (s.dev.setPwr p).failHub) rfl (List.isEmpty_iff.mp done)] at run
      exact ⟨_, run, bad, stays.trans good, fun unused => absurd used unused, nofun, fun _ _ => ⟨rfl, rfl⟩, rfl, rfl⟩
  · rw [if_neg used, State.settle_setPwr done] at run
    exact ⟨_, run, bad, stays, fun _ => ⟨selected, rfl, rfl⟩, fun same => absurd same used, fun same => absurd same used,
      rfl, rfl⟩

/-- A reference clock becomes good, with event 0x0E06. -/
def Dev.gainRef (d : Dev) (b : Bool) : Dev := (d.setPwr (d.pwr.setRef b true)).raise 0x0E06 0 (leBytes 1 (b2n b))

/-- The synthesiser takes a reference clock that has become good where the one in use is bad. -/
def Dev.takeRef (d : Dev) (b : Bool) : Dev := if d.pwr.ref d.pwr.refBSel then d else d.setPwr (d.pwr.select b)

/-- It returns to the preferred one. -/
def Dev.revertRef (d : Dev) (b : Bool) : Dev :=
  if d.refRevert && d.refPreferB = b && d.pwr.refBSel != b then
    (d.setPwr (d.pwr.select b)).raise 0x0E06 0 (leBytes 1 (b2n b))
  else d

theorem exec_refclkGood {s : State} {b : Bool} (live : s.live = true) (bad : s.dev.pwr.ref b = false) :
    exec (.refclkGood b) s = .next (s.settle (((s.dev.gainRef b).takeRef b).revertRef b)) := by
  have absent : ¬(if b then s.dev.pwr.refB else s.dev.pwr.refA) = true := fun good =>
    Bool.false_ne_true (bad.symm.trans good)
  show execRefclkGood b s = _
  rw [execRefclkGood, State.run_eq s _ (State.powered_of_live live), if_neg absent]
  cases b <;> rfl

theorem exec_refclkGood_idle {s : State} {b : Bool} (live : s.live = true) (good : s.dev.pwr.ref b = true) :
    exec (.refclkGood b) s = .next s := by
  have stands : (if b then s.dev.pwr.refB else s.dev.pwr.refA) = true := good
  show execRefclkGood b s = _
  rw [execRefclkGood, State.run_eq s _ (State.powered_of_live live), if_pos stands,
    State.settle_self s (State.out_of_live live)]

/-- `Dev.Selects d e`: from `d` to `e` another reference clock may come into use, and which ones are good stays. -/
structure Dev.Selects (d e : Dev) : Prop extends Dev.Reports d e where
  pair : e.pair = d.pair
  ref : e.pwr.ref = d.pwr.ref
  refRevert : e.refRevert = d.refRevert
  refPreferB : e.refPreferB = d.refPreferB

/-- The one in use is taken over where it is bad. -/
theorem Dev.takeRef_selects (d : Dev) (b : Bool) : d.Selects (d.takeRef b) ∧
    (d.takeRef b).pwr.refBSel = if d.pwr.ref d.pwr.refBSel = false then b else d.pwr.refBSel := by
  unfold Dev.takeRef
  cases d.pwr.ref d.pwr.refBSel with
  | true => exact ⟨⟨.refl d, rfl, rfl, rfl, rfl⟩, rfl⟩
  | false => exact ⟨⟨.of_eq rfl rfl rfl, rfl, rfl, rfl, rfl⟩, rfl⟩

/-- The preferred one is taken over where the device is to return to it. -/
theorem Dev.revertRef_selects (d : Dev) (b : Bool) : d.Selects (d.revertRef b) ∧
    (d.revertRef b).pwr.refBSel = if d.refRevert = true ∧ d.refPreferB = b then b else d.pwr.refBSel := by
  unfold Dev.revertRef
  by_cases returns : d.refRevert = true ∧ d.refPreferB = b
  · rw [if_pos returns]
    by_cases same : d.pwr.refBSel = b
    · rw [if_neg (by simp [same])]
      exact ⟨⟨.refl d, rfl, rfl, rfl, rfl⟩, same⟩
    · rw [if_pos (by simp [returns, same])]
      refine ⟨⟨Dev.Reports.trans ?_ (.raise ..), rfl, rfl, rfl, rfl⟩, rfl⟩
      exact .of_eq rfl rfl rfl
  · rw [if_neg returns, if_neg (by simp only [Bool.and_eq_true, decide_eq_true_eq]; exact fun all => returns all.1)]
    exact ⟨⟨.refl d, rfl, rfl, rfl, rfl⟩, rfl⟩

theorem Dev.gainRef_refRevert (d : Dev) (b : Bool) : (d.gainRef b).refRevert = d.refRevert := rfl
theorem Dev.gainRef_refPreferB (d : Dev) (b : Bool) : (d.gainRef b).refPreferB = d.refPreferB := rfl
theorem Dev.gainRef_pwr (d : Dev) (b : Bool) : (d.gainRef b).pwr = d.pwr.setRef b true := rfl

/-- The clock in use is good after the gain of another exactly where it was good, or is the one gained. -/
theorem Power.setRef_ref_of (p : Power) (b c good : Bool) : (p.setRef b good).ref c = if c = b then good else p.ref c := by
  cases b <;> cases c <;> rfl

theorem reference_goes_good (s : State) (b : Bool) (live : s.live = true)
    (bad : (if b then s.dev.pwr.refB else s.dev.pwr.refA) = false) :
    ∃ t, exec (.refclkGood b) s = .next t ∧ (if b then t.dev.pwr.refB else t.dev.pwr.refA) = true ∧
      t.dev.pwr.refBSel = (if (s.dev.refRevert = true ∧ s.dev.refPreferB = b) ∨
          (if s.dev.pwr.refBSel then s.dev.pwr.refB else s.dev.pwr.refA) = false
        then b else s.dev.pwr.refBSel) ∧
      s.dev.eventOf 0x0E06 0 (leBytes 1 (b2n b)) ∈ t.dev.log.arising ∧ t.dev.pair = s.dev.pair ∧
      t.mem = s.mem ∧ t.bar1 = s.bar1 := by
  have run := exec_refclkGood live bad
  have own : ∀ (p : Power) (c : Bool), (if c then p.refB else p.refA) = p.ref c := fun _ _ => rfl
  simp only [own] at bad ⊢
  have gained : (s.dev.setPwr (s.dev.pwr.setRef b true)).Reports (s.dev.gainRef b) := .raise ..
  obtain ⟨takes, taken⟩ := (s.dev.gainRef b).takeRef_selects b
  obtain ⟨returns, returned⟩ := ((s.dev.gainRef b).takeRef b).revertRef_selects b
  rw [takes.refRevert, takes.refPreferB, taken, Dev.gainRef_refRevert, Dev.gainRef_refPreferB, Dev.gainRef_pwr,
    Power.setRef_ref_of, Power.setRef_refBSel] at returned
  have ref := congrFun (returns.ref.trans takes.ref) b
  rw [Dev.gainRef_pwr, Power.setRef_ref] at ref
  have reports := takes.toReports.trans returns.toReports
  have set : s.dev.Reports (s.dev.setPwr (s.dev.pwr.setRef b true)) := .of_eq rfl rfl rfl
  have noted := set.event reports
  have out := (reports.out.trans gained.out).trans (State.out_of_live live)
  have pair := returns.pair.trans takes.pair
  generalize ((s.dev.gainRef b).takeRef b).revertRef b = e at run returned ref noted out pair
  refine ⟨_, run, ref, ?_, (s.mem_settle_arising ..).mpr noted, pair, rfl, State.settle_bar1_of_nil s e out⟩
  rw [State.settle_pwr, returned]
  by_cases same : s.dev.pwr.refBSel = b
  · simp [same]
  · by_cases first : s.dev.refRevert = true ∧ s.dev.refPreferB = b
    · simp [first]
    · simp [first, same]

end Sys2Proof.Machine

namespace Sys2Proof.Machine

open Sys2Proof

/-! ### Effects beside the power state

`Dev.SparesPower d e`: from `d` to `e` the power state stands as it did, in the same Beat. What the units of a domain do as
they start or stop is one of these (R431). -/

structure Dev.SparesPower (d e : Dev) : Prop where
  fc : e.fc = d.fc
  pwr : e.pwr = d.pwr

namespace Dev.SparesPower

theorem refl (d : Dev) : d.SparesPower d := ⟨rfl, rfl⟩

theorem trans {d e f : Dev} (h : d.SparesPower e) (g : e.SparesPower f) : d.SparesPower f :=
  ⟨g.fc.trans h.fc, g.pwr.trans h.pwr⟩

theorem of_issues {d e : Dev} (h : d.Issues e) : d.SparesPower e := ⟨h.fc, h.pwr⟩

theorem raise (d : Dev) (code obj : Nat) (l : List Byte) : d.SparesPower (d.raise code obj l) := ⟨rfl, rfl⟩

theorem tick (d : Dev) (c k : Nat) : d.SparesPower (d.tick c k) := ⟨by simp, by simp⟩

theorem setPort (d : Dev) (p : Nat) (x : LinePort) : d.SparesPower (d.setPort p x) := ⟨rfl, rfl⟩

theorem setGroup (d : Dev) (g : Nat) (x : Spread) : d.SparesPower (d.setGroup g x) := ⟨rfl, rfl⟩

theorem foldl {α : Type} {f : Dev → α → Dev} (h : ∀ (d : Dev) a, d.SparesPower (f d a)) (l : List α) (d : Dev) :
    d.SparesPower (l.foldl f d) :=
  List.foldlRecOn l f (motive := fun e => d.SparesPower e) (refl d) fun e r a _ => r.trans (h e a)

theorem noteInput (d : Dev) (obj l i : Nat) (v : Bool) : d.SparesPower (d.noteInput obj l i v) := of_issues (.noteInput ..)

theorem domain {d e : Dev} (h : d.SparesPower e) (k : Nat) : e.domain k = d.domain k := by
  rw [Dev.domain, h.pwr, Dev.domain]

end Dev.SparesPower

/-! #### Spread groups and line ports that lose what they receive -/

theorem Dev.noteVector_sparesPower (d : Dev) (obj l v : Nat) : d.SparesPower (d.noteVector obj l v) := by
  unfold Dev.noteVector
  split
  · exact .refl d
  · exact .foldl (fun e i => .noteInput e obj l i (bit v i)) _ d

theorem Dev.putGroup_sparesPower (d : Dev) (g : Nat) (x : Spread) : d.SparesPower (d.putGroup g x) :=
  (Dev.SparesPower.setGroup ..).trans (Dev.noteVector_sparesPower ..)

theorem Dev.noteSkew_sparesPower (d : Dev) (g k : Nat) : d.SparesPower (d.noteSkew g k) := by
  unfold Dev.noteSkew
  dsimp only
  split
  · exact .refl d
  · exact (Dev.putGroup_sparesPower ..).trans (.raise ..)

theorem Dev.leaveUp_sparesPower (d : Dev) (g : Nat) (mode : SgMode) (k reason : Nat) :
    d.SparesPower (d.leaveUp g mode k reason) := by
  unfold Dev.leaveUp
  dsimp only
  split
  · exact (Dev.putGroup_sparesPower ..).trans (.raise ..)
  · exact Dev.putGroup_sparesPower ..

theorem Dev.settleMember_sparesPower (d : Dev) (g k : Nat) (m : SgMember) : d.SparesPower (d.settleMember g k m) := by
  unfold Dev.settleMember Dev.unplace
  dsimp only
  repeat' split
  all_goals exact ⟨rfl, rfl⟩

theorem Dev.settleGroup_sparesPower (d : Dev) (g : Nat) : d.SparesPower (d.settleGroup g) := by
  unfold Dev.settleGroup
  split
  · exact .refl d
  next r _ =>
    have members : d.SparesPower (r.members.zipIdx.foldl (fun d p => d.settleMember g p.2 p.1) d) :=
      .foldl (fun e (p : SgMember × Nat) => e.settleMember_sparesPower g p.2 p.1) _ d
    have placed := members.trans (Dev.noteSkew_sparesPower _ g 0)
    dsimp only
    split
    · split
      · exact placed
      · exact placed.trans (Dev.leaveUp_sparesPower ..)
    · split
      · exact placed.trans (Dev.putGroup_sparesPower ..)
      · exact placed

theorem Dev.settlePort_sparesPower (d : Dev) (p : Nat) : d.SparesPower (d.settlePort p) := by
  unfold Dev.settlePort
  split
  · exact .refl d
  · have settled (e : Dev) (g : Nat) (touched : Bool) : e.SparesPower (if touched then e.settleGroup g else e) := by
      cases touched
      · exact .refl e
      · exact e.settleGroup_sparesPower g
    exact .foldl (fun e (g : SgRec) => settled e g.sg _) _ d

theorem Dev.loseAlignment_sparesPower (d : Dev) (p stage : Nat) : d.SparesPower (d.loseAlignment p stage) := by
  unfold Dev.loseAlignment
  dsimp only
  split
  · exact .refl d
  · refine Dev.SparesPower.trans ?_ (Dev.settlePort_sparesPower ..)
    refine Dev.SparesPower.trans ?_ (.raise ..)
    exact (Dev.SparesPower.setPort ..).trans (.tick ..)

theorem Dev.dropLane_sparesPower (d : Dev) (p k : Nat) : d.SparesPower (d.dropLane p k) := by
  unfold Dev.dropLane Dev.dropGroup
  exact ((Dev.SparesPower.setPort ..).trans (.setPort ..)).trans (Dev.loseAlignment_sparesPower ..)

theorem Dev.dropLanes_sparesPower (d : Dev) (p : Nat) (l : List Nat) : d.SparesPower (d.dropLanes p l) := by
  refine .foldl (fun e k => ?_) l d
  split
  · exact e.dropLane_sparesPower p k
  · exact .refl e

theorem Dev.dropClientLane_sparesPower (d : Dev) (lane : Nat) : d.SparesPower (d.dropClientLane lane) := by
  unfold Dev.dropClientLane
  dsimp only
  split <;> exact ⟨rfl, rfl⟩

theorem Dev.dropSlice_sparesPower (d : Dev) (s : Nat) : d.SparesPower (d.dropSlice s) :=
  ((d.dropLanes_sparesPower ..).trans (Dev.dropLanes_sparesPower ..)).trans
    (.foldl (fun e k => e.dropClientLane_sparesPower (16 * s + k)) _ _)

theorem Dev.stopLanes_sparesPower (d : Dev) (k : Nat) : d.SparesPower (d.stopLanes k) := by
  unfold Dev.stopLanes
  split
  · exact Dev.dropLanes_sparesPower ..
  · split
    · exact .foldl (fun e j => e.dropClientLane_sparesPower (4 * (k - 264) + j)) _ d
    · split
      · exact Dev.dropLanes_sparesPower ..
      · split
        · exact Dev.dropSlice_sparesPower ..
        · exact .refl d

/-! #### Units that start from reset -/

theorem Dev.noteClamp_sparesPower (d : Dev) (ch s : Nat) (c : Bool) : d.SparesPower (d.noteClamp ch s c) := by
  cases c with
  | false => exact .refl d
  | true => exact (Dev.SparesPower.tick ..).trans (.raise ..)

theorem Dev.startStage_sparesPower (d : Dev) (ch s : Nat) : d.SparesPower (d.startStage ch s) := by
  unfold Dev.startStage
  refine Dev.SparesPower.trans ?_ (Dev.noteClamp_sparesPower ..)
  refine Dev.SparesPower.trans ?_ (Dev.noteClamp_sparesPower ..)
  refine Dev.SparesPower.trans ?_ (Dev.noteClamp_sparesPower ..)
  exact ⟨rfl, rfl⟩

theorem Dev.startRx_sparesPower (d : Dev) (ch : Nat) (x : Desc) : d.SparesPower (d.startRx ch x) := by
  unfold Dev.startRx
  dsimp only
  split
  · refine Dev.SparesPower.trans (Dev.SparesPower.trans ?_ (Dev.startStage_sparesPower ..)) (.noteInput ..)
    exact ⟨rfl, rfl⟩
  · refine Dev.SparesPower.trans ?_ (Dev.startStage_sparesPower ..)
    exact ⟨rfl, rfl⟩

theorem Dev.startEngine_sparesPower (d : Dev) (ch : Nat) (x : Desc) (members : Nat) (rx : Option Desc) :
    d.SparesPower (d.startEngine ch x members rx) := by
  have stages (e : Dev) : e.SparesPower ([0, 1].foldl (fun d s => d.startStage ch s) e) :=
    .foldl (fun e s => e.startStage_sparesPower ch s) _ e
  unfold Dev.startEngine
  cases rx with
  | none =>
    refine Dev.SparesPower.trans ?_ (stages _)
    exact ⟨rfl, rfl⟩
  | some y =>
    refine Dev.SparesPower.trans (Dev.SparesPower.trans ?_ (stages _)) (Dev.startRx_sparesPower ..)
    exact ⟨rfl, rfl⟩

theorem Dev.noteSg_sparesPower (d : Dev) (p : Nat) : d.SparesPower (d.noteSg p) :=
  (((Dev.SparesPower.noteInput ..).trans (.noteInput ..)).trans (.noteInput ..)).trans (.noteInput ..)

theorem Dev.freshPort_sparesPower (d : Dev) (p : Nat) (enabled : Bool) : d.SparesPower (d.freshPort p enabled) := ⟨rfl, rfl⟩

end Sys2Proof.Machine

namespace Sys2Proof.Machine

open Sys2Proof

/-! ### Power domains (R431) -/

/-- A domain as it changes state in a Beat. -/
def Domain.move (x : Domain) (st : DomState) (fc : Nat) : Domain :=
  { x with state := st, switches := satAdd max32 x.switches 1, lastFc := fc, waitsRising := false }

theorem Dev.putDomain_domain (d : Dev) (k j : Nat) (st : DomState) :
    (d.putDomain k st).domain j = if j = k then (d.domain k).move st d.fc else d.domain j :=
  Dev.setDomain_domain ..

theorem Dev.putDomain_same (d : Dev) (k : Nat) (st : DomState) : (d.putDomain k st).domain k = (d.domain k).move st d.fc :=
  (d.putDomain_domain k k st).trans (if_pos rfl)

theorem Dev.putDomain_other (d : Dev) {k j : Nat} (other : j ≠ k) (st : DomState) :
    (d.putDomain k st).domain j = d.domain j :=
  (d.putDomain_domain k j st).trans (if_neg other)

/-- What a domain that enters RISING is. -/
theorem Dev.beginRising_same (d : Dev) (k : Nat) :
    (d.beginRising k).domain k = { (d.domain k).move .rising d.fc with risingMfn := d.mfn } := by
  have set : (d.beginRising k).domain k = { (d.putDomain k .rising).domain k with risingMfn := d.mfn } :=
    (Dev.setDomain_domain ..).trans (if_pos rfl)
  rw [set, Dev.putDomain_same]

theorem Dev.beginRising_other (d : Dev) {k j : Nat} (other : j ≠ k) : (d.beginRising k).domain j = d.domain j :=
  ((Dev.setDomain_domain ..).trans (if_neg other)).trans (d.putDomain_other other .rising)

theorem Dev.beginRising_eq (d : Dev) (k : Nat) : d.beginRising k = d.setPwr (d.beginRising k).pwr := rfl

theorem domain_enters_rising (s : State) (k : Nat) (live : s.live = true) (first : s.dev.firstWaiting = some k)
    (room : s.dev.risingRoom = true) :
    ∃ t, exec (.domainRisingStart k) s = .next t ∧ (t.dev.domain k).state = .rising ∧
      (t.dev.domain k).waitsRising = false ∧ (t.dev.domain k).switches = satAdd 0xFFFF_FFFF (s.dev.domain k).switches 1 ∧
      (t.dev.domain k).lastFc = s.dev.fc ∧ (∀ j, j ≠ k → t.dev.domain j = s.dev.domain j) ∧
      t.dev.pwr.risingMfn = s.dev.mfn ∧
      t.dev.pwr.risingCount = (if s.dev.pwr.risingMfn = s.dev.mfn then s.dev.pwr.risingCount + 1 else 1) ∧
      s.raisesNone t ∧ t = { s with dev := { s.dev with pwr := t.dev.pwr } } := by
  have run : exec (.domainRisingStart k) s = .next { s with dev := s.dev.beginRising k } := by
    show execDomainRisingStart k s = _
    rw [execDomainRisingStart]
    exact State.runIf_quiet live (by simp [first, room]) rfl rfl
  have same := s.dev.beginRising_same k
  have state := congrArg Domain.state same
  have waits := congrArg Domain.waitsRising same
  have switches := congrArg Domain.switches same
  have lastFc := congrArg Domain.lastFc same
  exact ⟨_, run, state, waits, switches, lastFc, fun j other => s.dev.beginRising_other other, rfl, rfl, rfl,
    congrArg (fun d : Dev => { s with dev := d }) (s.dev.beginRising_eq k)⟩

/-- PWR_DOMAIN_SET jobs end. -/
def Dev.endDomJobs (d : Dev) (jobs : List (Nat × Nat × Nat)) : Dev :=
  jobs.foldl (fun d j => d.finishOrder j.1 stOk (leBytes 2 j.2.2 ++ zeros 6)) d

theorem Dev.endDomJobs_keeps (jobs : List (Nat × Nat × Nat)) (d : Dev) : (d.endDomJobs jobs).pwr = d.pwr ∧
    (d.endDomJobs jobs).cald = d.cald ∧ ∀ x ∈ d.log.arising, x ∈ (d.endDomJobs jobs).log.arising := by
  induction jobs generalizing d with
  | nil => exact ⟨rfl, rfl, fun _ h => h⟩
  | cons a rest ih =>
    obtain ⟨pwr, cald, kept⟩ := ih (d.finishOrder a.1 stOk (leBytes 2 a.2.2 ++ zeros 6))
    have same : (d.finishOrder a.1 stOk (leBytes 2 a.2.2 ++ zeros 6)).cald = d.cald := by
      unfold Dev.finishOrder
      split <;> simp
    exact ⟨pwr.trans (Dev.finishOrder_pwr ..), cald.trans same, fun x h => kept x (Dev.finishOrder_keeps_event h ..)⟩

/-- The settling of PWR_DOMAIN_SET jobs leaves domains and cores alone, and loses no event. -/
theorem Dev.settleDomains_keeps (d : Dev) : (∀ j, d.settleDomains.domain j = d.domain j) ∧
    d.settleDomains.pwr.coresUp = d.pwr.coresUp ∧ d.settleDomains.cald = d.cald ∧
    ∀ x ∈ d.log.arising, x ∈ d.settleDomains.log.arising := by
  unfold Dev.settleDomains
  obtain ⟨pwr, cald, kept⟩ :=
    Dev.endDomJobs_keeps _ { d with pwr := { d.pwr with domJobs := d.pwr.domJobs.filter fun j => _ } }
  rw [Dev.endDomJobs] at pwr cald kept
  exact ⟨fun j => by rw [Dev.domain, pwr, Dev.domain], by rw [pwr], cald, kept⟩

/-- Units that start from reset leave the domains alone; a core is up, and the HBM has not failed (R431). -/
theorem Dev.unitReset_keeps (d : Dev) (k : Nat) : (d.unitReset k).fc = d.fc ∧
    (∀ j, (d.unitReset k).domain j = d.domain j) ∧
    (304 ≤ k → k < 308 → bit (d.unitReset k).pwr.coresUp (k - 304) = true) ∧
    (k = 310 → (d.unitReset k).cald.hbmFailed = false) := by
  unfold Dev.unitReset
  split
  · have plain {e : Dev} (h : d.SparesPower e) : e.fc = d.fc ∧ (∀ j, e.domain j = d.domain j) ∧
        (304 ≤ k → k < 308 → bit e.pwr.coresUp (k - 304) = true) ∧ (k = 310 → e.cald.hbmFailed = false) :=
      ⟨h.fc, h.domain, by omega, by omega⟩
    split
    · dsimp only
      split
      · exact plain (Dev.startEngine_sparesPower ..)
      · exact plain (.refl d)
    · exact plain (.refl d)
  · split
    · have fresh : d.SparesPower ((d.freshPort (k - 256) (d.port (k - 256)).enabled).noteSg (k - 256)) :=
        (Dev.freshPort_sparesPower ..).trans (Dev.noteSg_sparesPower ..)
      exact ⟨fresh.fc, fresh.domain, by omega, by omega⟩
    · split
      next core =>
        have inside : 304 ≤ k ∧ k < 308 := by simpa using core
        exact ⟨rfl, fun _ => rfl, fun _ _ => bit_setBit_true .., by omega⟩
      next core =>
        have other : 304 ≤ k → ¬k < 308 := by simpa using core
        split
        · exact ⟨rfl, fun _ => rfl, fun low high => absurd high (other low), fun _ => rfl⟩
        next hbm =>
          have none : k ≠ 310 := hbm
          split
          · exact ⟨rfl, fun _ => rfl, fun low high => absurd high (other low), fun same => absurd same none⟩
          · exact ⟨rfl, fun _ => rfl, fun low high => absurd high (other low), fun same => absurd same none⟩

/-- PD_PRT, once READY, is reported (R250). -/
def Dev.notePrt (d : Dev) (k : Nat) : Dev := if k = domPrt then d.raise 0x0805 0 (leBytes 1 1) else d

theorem Dev.notePrt_keeps (d : Dev) (k : Nat) : d.Reports (d.notePrt k) ∧ (d.notePrt k).pwr = d.pwr ∧
    (d.notePrt k).cald = d.cald ∧ (k = 322 → d.eventOf 0x0805 0 (leBytes 1 1) ∈ (d.notePrt k).log.arising) := by
  unfold Dev.notePrt
  by_cases prt : k = domPrt
  · rw [if_pos prt]
    exact ⟨.raise .., rfl, rfl, fun _ => by simp⟩
  · rw [if_neg prt]
    exact ⟨.refl d, rfl, rfl, fun same => absurd same prt⟩

/-- The units of a domain run as it becomes READY. -/
def Dev.ready (d : Dev) (k : Nat) : Dev := (d.putDomain k .ready).unitReset k

/-- A domain's change of state is reported (R431). -/
def Dev.noteDomain (d : Dev) (k st : Nat) : Dev := d.raise 0x0E01 (objDomain k) (leBytes 2 k ++ leBytes 1 st)

/-- A domain becomes READY: its units run, it is reported, and jobs that waited for it end (R431, R436). -/
def Dev.becomeReady (d : Dev) (k : Nat) : Dev := (((d.ready k).noteDomain k 2).notePrt k).settleDomains

theorem Dev.becomeReady_domain (d : Dev) (k j : Nat) :
    (d.becomeReady k).domain j = (d.putDomain k .ready).domain j := by
  obtain ⟨-, domain, -, -⟩ := (d.putDomain k .ready).unitReset_keeps k
  obtain ⟨-, pwr, -, -⟩ := ((d.ready k).noteDomain k 2).notePrt_keeps k
  obtain ⟨settled, -, -, -⟩ := (((d.ready k).noteDomain k 2).notePrt k).settleDomains_keeps
  rw [Dev.becomeReady, settled, Dev.domain, pwr]
  exact domain j

/-- Once READY, a core is up, and the HBM has not failed. -/
theorem Dev.becomeReady_units (d : Dev) (k : Nat) :
    (304 ≤ k → k < 308 → bit (d.becomeReady k).pwr.coresUp (k - 304) = true) ∧
    (k = 310 → (d.becomeReady k).cald.hbmFailed = false) := by
  obtain ⟨-, -, core, hbm⟩ := (d.putDomain k .ready).unitReset_keeps k
  obtain ⟨-, pwr, cald, -⟩ := ((d.ready k).noteDomain k 2).notePrt_keeps k
  obtain ⟨-, coresUp, failed, -⟩ := (((d.ready k).noteDomain k 2).notePrt k).settleDomains_keeps
  rw [Dev.becomeReady, coresUp, pwr, failed, cald]
  exact ⟨core, hbm⟩

theorem Dev.ready_eventOf (d : Dev) (k code obj : Nat) (l : List Byte) :
    (d.ready k).eventOf code obj l = d.eventOf code obj l := by
  obtain ⟨fc, -, -, -⟩ := (d.putDomain k .ready).unitReset_keeps k
  have beat : (d.ready k).fc = d.fc := fc
  simp [Dev.eventOf, beat]

/-- The domain is reported, and PD_PRT once more (R250). -/
theorem Dev.becomeReady_events (d : Dev) (k : Nat) :
    d.eventOf 0x0E01 (objDomain k) (leBytes 2 k ++ leBytes 1 2) ∈ (d.becomeReady k).log.arising ∧
    (k = 322 → d.eventOf 0x0805 0 (leBytes 1 1) ∈ (d.becomeReady k).log.arising) := by
  obtain ⟨reports, -, -, prt⟩ := ((d.ready k).noteDomain k 2).notePrt_keeps k
  obtain ⟨-, -, -, kept⟩ := (((d.ready k).noteDomain k 2).notePrt k).settleDomains_keeps
  have noted : (d.ready k).Reports ((d.ready k).noteDomain k 2) := .raise ..
  refine ⟨kept _ (reports.kept _ ?_), fun same => kept _ ?_⟩
  · rw [← d.ready_eventOf k, Dev.noteDomain, Dev.raise_arising]
    exact List.mem_append_right _ (List.mem_singleton_self _)
  · rw [← d.ready_eventOf k, ← noted.eventOf_eq]
    exact prt same

theorem exec_domainReady {s : State} {k : Nat} (live : s.live = true) (named : k < 324)
    (rising : (s.dev.domain k).state = .rising) : exec (.domainReady k) s = .next (s.settle (s.dev.becomeReady k)) := by
  show execDomainReady k s = _
  rw [execDomainReady, State.runIf_eq s _ _ (State.powered_of_live live) (by simp [named, rising])]
  rfl

theorem domain_becomes_ready (s : State) (k : Nat) (live : s.live = true) (named : k < 324)
    (rising : (s.dev.domain k).state = .rising) :
    ∃ t, exec (.domainReady k) s = .next t ∧ (t.dev.domain k).state = .ready ∧
      (t.dev.domain k).switches = satAdd 0xFFFF_FFFF (s.dev.domain k).switches 1 ∧
      (t.dev.domain k).lastFc = s.dev.fc ∧ (∀ j, j ≠ k → t.dev.domain j = s.dev.domain j) ∧
      s.dev.eventOf 0x0E01 (objDomain k) (leBytes 2 k ++ leBytes 1 2) ∈ t.dev.log.arising ∧
      (k = 322 → s.dev.eventOf 0x0805 0 (leBytes 1 1) ∈ t.dev.log.arising) ∧
      (304 ≤ k → k < 308 → bit t.dev.pwr.coresUp (k - 304) = true) ∧ (k = 310 → t.dev.cald.hbmFailed = false) ∧
      t.mem = s.mem := by
  have run := exec_domainReady live named rising
  have all := s.dev.becomeReady_domain k
  have own := (all k).trans (s.dev.putDomain_same k .ready)
  obtain ⟨core, hbm⟩ := s.dev.becomeReady_units k
  obtain ⟨moved, prt⟩ := s.dev.becomeReady_events k
  generalize s.dev.becomeReady k = e at run all own core hbm moved prt
  have state := congrArg Domain.state own
  have switches := congrArg Domain.switches own
  have lastFc := congrArg Domain.lastFc own
  exact ⟨_, run, state, switches, lastFc, fun j other => (all j).trans (s.dev.putDomain_other other .ready),
    (s.mem_settle_arising ..).mpr moved, fun same => (s.mem_settle_arising ..).mpr (prt same), core, hbm, rfl⟩

theorem exec_domainOff {s : State} {k : Nat} (live : s.live = true) (named : k < 324)
    (falling : (s.dev.domain k).state = .falling) :
    exec (.domainOff k) s = .next (s.settle ((s.dev.putDomain k .off).noteDomain k 0).settleDomains) := by
  show execDomainOff k s = _
  rw [execDomainOff, State.runIf_eq s _ _ (State.powered_of_live live) (by simp [named, falling])]
  rfl

theorem domain_becomes_off (s : State) (k : Nat) (live : s.live = true) (named : k < 324)
    (falling : (s.dev.domain k).state = .falling) :
    ∃ t, exec (.domainOff k) s = .next t ∧ (t.dev.domain k).state = .off ∧
      (t.dev.domain k).switches = satAdd 0xFFFF_FFFF (s.dev.domain k).switches 1 ∧
      (t.dev.domain k).lastFc = s.dev.fc ∧ (∀ j, j ≠ k → t.dev.domain j = s.dev.domain j) ∧
      s.dev.eventOf 0x0E01 (objDomain k) (leBytes 2 k ++ leBytes 1 0) ∈ t.dev.log.arising ∧
      t.dev.pwr.coresUp = s.dev.pwr.coresUp ∧ t.mem = s.mem := by
  have run := exec_domainOff live named falling
  obtain ⟨settled, coresUp, -, kept⟩ := ((s.dev.putDomain k .off).noteDomain k 0).settleDomains_keeps
  have own := (settled k).trans (s.dev.putDomain_same k .off)
  have noted : s.dev.eventOf 0x0E01 (objDomain k) (leBytes 2 k ++ leBytes 1 0) ∈
      ((s.dev.putDomain k .off).noteDomain k 0).log.arising := by
    rw [Dev.noteDomain, Dev.raise_arising]
    exact List.mem_append_right _ (List.mem_singleton_self _)
  exact ⟨_, run, (congrArg Domain.state own).trans rfl, (congrArg Domain.switches own).trans rfl,
    (congrArg Domain.lastFc own).trans rfl, fun j other => (settled j).trans (s.dev.putDomain_other other .off),
    (s.mem_settle_arising ..).mpr (kept _ noted), coresUp, rfl⟩

end Sys2Proof.Machine

namespace Sys2Proof.Machine

open Sys2Proof

/-! ### PWR_DOMAIN_SET (R432, R436) -/

/-- A domain that is switched off falls where it was on, and waits no more; no other domain changes. -/
theorem Dev.switchOff_domain (d : Dev) (k : Nat) :
    ((d.switchOff k).domain k).state = (if d.domRises k then .falling else (d.domain k).state) ∧
    ((d.switchOff k).domain k).waitsRising = false ∧ ∀ j, j ≠ k → (d.switchOff k).domain j = d.domain j := by
  unfold Dev.switchOff
  cases rises : d.domRises k with
  | false =>
    simp only [Bool.not_false, if_true]
    refine ⟨?_, ?_, fun j other => (Dev.setDomain_domain ..).trans (if_neg other)⟩ <;> simp
  | true =>
    have falls {e : Dev} (h : ∀ j, e.domain j = (d.putDomain k .falling).domain j) : (e.domain k).state = .falling ∧
        (e.domain k).waitsRising = false ∧ ∀ j, j ≠ k → e.domain j = d.domain j := by
      have own := (h k).trans (d.putDomain_same k .falling)
      exact ⟨(congrArg Domain.state own).trans rfl, (congrArg Domain.waitsRising own).trans rfl,
        fun j other => (h j).trans (d.putDomain_other other .falling)⟩
    have stops := ((d.putDomain k .falling).stopLanes_sparesPower k).domain
    simp only [Bool.not_true, Bool.false_eq_true, if_false, if_true]
    split
    · exact falls stops
    · split
      · exact falls stops
      · split
        · exact falls stops
        · exact falls stops

theorem Dev.switchOff_all_other {j : Nat} (ks : List Nat) (d : Dev) (other : j ∉ ks) :
    (ks.foldl Dev.switchOff d).domain j = d.domain j := by
  induction ks generalizing d with
  | nil => rfl
  | cons k rest ih =>
    obtain ⟨front, behind⟩ := not_or.mp (List.mem_cons.not.mp other)
    exact (ih (d.switchOff k) behind).trans ((d.switchOff_domain k).2.2 j front)

/-- Of domains that are switched off, each that was on falls, and none waits. -/
theorem Dev.switchOff_all_domain {j : Nat} (ks : List Nat) (d : Dev) (named : j ∈ ks) :
    ((ks.foldl Dev.switchOff d).domain j).state = (if d.domRises j then .falling else (d.domain j).state) ∧
    ((ks.foldl Dev.switchOff d).domain j).waitsRising = false := by
  induction ks generalizing d with
  | nil => cases named
  | cons k rest ih =>
    obtain ⟨state, waits, others⟩ := d.switchOff_domain k
    rw [List.foldl_cons]
    by_cases same : j = k
    · subst same
      have stays : (d.switchOff j).domRises j = false := by
        rw [Dev.domRises, state]
        cases rises : d.domRises j with
        | true => rfl
        | false => exact rises
      by_cases again : j ∈ rest
      · obtain ⟨state', waits'⟩ := ih (d.switchOff j) again
        rw [stays] at state'
        exact ⟨state'.trans state, waits'⟩
      · rw [Dev.switchOff_all_other rest _ again]
        exact ⟨state, waits⟩
    · have kept := others j same
      have rises : (d.switchOff k).domRises j = d.domRises j := by rw [Dev.domRises, kept, Dev.domRises]
      have rest := ih (d.switchOff k) ((List.mem_cons.mp named).resolve_left same)
      rw [rises, kept] at rest
      exact rest

/-- A domain that is switched on rises, or waits for room; no other domain changes (R431). -/
theorem Dev.switchOn_domain (d : Dev) (k : Nat) :
    ((d.switchOn k).domRises k = true ∨ ((d.switchOn k).domain k).waitsRising = true) ∧
    ∀ j, j ≠ k → (d.switchOn k).domain j = d.domain j := by
  unfold Dev.switchOn
  by_cases on : d.domRises k = true ∨ (d.domain k).waitsRising = true
  · rw [if_pos (by simpa using on)]
    exact ⟨on, fun _ _ => rfl⟩
  · rw [if_neg (by simpa using on)]
    by_cases room : d.risingRoom = true
    · rw [if_pos room]
      refine ⟨.inl ?_, fun j other => d.beginRising_other other⟩
      rw [Dev.domRises, Dev.beginRising_same]
      rfl
    · rw [if_neg room]
      refine ⟨.inr ?_, fun j other => (Dev.setDomain_domain ..).trans (if_neg other)⟩
      rw [Dev.setDomain_domain, if_pos rfl]

theorem Dev.switchOn_all_other {j : Nat} (ks : List Nat) (d : Dev) (other : j ∉ ks) :
    (ks.foldl Dev.switchOn d).domain j = d.domain j := by
  induction ks generalizing d with
  | nil => rfl
  | cons k rest ih =>
    obtain ⟨front, behind⟩ := not_or.mp (List.mem_cons.not.mp other)
    exact (ih (d.switchOn k) behind).trans ((d.switchOn_domain k).2 j front)

/-- A domain that rises or waits does so whatever is switched on after it. -/
theorem Dev.switchOn_all_keeps {j : Nat} (ks : List Nat) (d : Dev)
    (on : d.domRises j = true ∨ (d.domain j).waitsRising = true) :
    (ks.foldl Dev.switchOn d).domRises j = true ∨ ((ks.foldl Dev.switchOn d).domain j).waitsRising = true := by
  induction ks generalizing d with
  | nil => exact on
  | cons k rest ih =>
    obtain ⟨set, others⟩ := d.switchOn_domain k
    refine ih (d.switchOn k) ?_
    by_cases same : j = k
    · exact same ▸ set
    · rwa [Dev.domRises, others j same]

theorem Dev.switchOn_all_domain {j : Nat} (ks : List Nat) (d : Dev) (named : j ∈ ks) :
    (ks.foldl Dev.switchOn d).domRises j = true ∨ ((ks.foldl Dev.switchOn d).domain j).waitsRising = true := by
  induction ks generalizing d with
  | nil => cases named
  | cons k rest ih =>
    rcases List.mem_cons.mp named with rfl | behind
    · exact Dev.switchOn_all_keeps rest _ (d.switchOn_domain j).1
    · exact ih (d.switchOn k) behind

/-- The domains a PWR_DOMAIN_SET covers. -/
def coveredDomains (c : Cmd) : List Nat := (List.range (domCount c)).map fun i => c.index + i

theorem mem_coveredDomains {c : Cmd} {j : Nat} : j ∈ coveredDomains c ↔ c.index ≤ j ∧ j < c.index + domCount c := by
  simp only [coveredDomains, List.mem_map, List.mem_range]
  constructor
  · rintro ⟨i, small, rfl⟩
    omega
  · rintro ⟨low, high⟩
    exact ⟨j - c.index, by omega, by omega⟩

theorem applyPwrDomainSet_off {d : Dev} {c : Cmd} (order : Nat) (permitted : checkPwrDomainSet d c = none)
    (off : c.field 0 1 = 0) (j : Nat) :
    (applyPwrDomainSet d c order).1.domain j = ((coveredDomains c).foldl Dev.switchOff d).domain j := by
  have value : fallback 2 2 0 = 0 := rfl
  unfold applyPwrDomainSet coveredDomains
  rw [permitted, off, value]
  simp only [recheck]
  generalize List.map (fun i => c.index + i) (List.range (domCount c)) = ks
  generalize ks.foldl Dev.switchOff d = e
  split
  · rfl
  · split <;> rfl

theorem applyPwrDomainSet_on {d : Dev} {c : Cmd} (order : Nat) (permitted : checkPwrDomainSet d c = none)
    (on : c.field 0 1 = 1) (j : Nat) :
    (applyPwrDomainSet d c order).1.domain j = ((coveredDomains c).foldl Dev.switchOn d).domain j := by
  have value : fallback 2 2 1 = 1 := rfl
  unfold applyPwrDomainSet coveredDomains
  rw [permitted, on, value]
  simp only [recheck]
  generalize List.map (fun i => c.index + i) (List.range (domCount c)) = ks
  generalize ks.foldl Dev.switchOn d = e
  split <;> rfl

theorem applyPwrDomainSet_refused {d : Dev} {c : Cmd} (order : Nat) (refused : checkPwrDomainSet d c ≠ none) :
    (applyPwrDomainSet d c order).1 = d := by
  obtain ⟨⟨st, pl⟩, check⟩ := Option.ne_none_iff_exists'.mp refused
  unfold applyPwrDomainSet
  rw [check]
  rfl

theorem applyPwrDomainSet_none {d : Dev} {c : Cmd} (order : Nat) (reserved : 2 ≤ c.field 0 1) :
    (applyPwrDomainSet d c order).1 = d := by
  have value : fallback 2 2 (c.field 0 1) = 2 := by
    unfold fallback
    split <;> omega
  by_cases permitted : checkPwrDomainSet d c = none
  · unfold applyPwrDomainSet
    rw [permitted, value]
    rfl
  · exact applyPwrDomainSet_refused order permitted

/-- Power state and memory after a command of a later chapter, whether it is answered or carried on. -/
theorem State.shows_power {s : State} {op : Nat} {w : Waiting} {a : Applied} (due : s.effectDue op w = true)
    (low : applyLow s.dev w.cmd = none) (applied : applyHigh s.dev w.cmd w.order = some a) :
    ∃ t, exec .untimedCommandEffect s = .next t ∧ t.dev.pwr = a.1.pwr ∧ t.mem = s.mem := by
  obtain ⟨e, st, pl⟩ := a
  by_cases ends : st = stGoesOn
  · simp only [State.effectDue, Bool.and_eq_true, beq_iff_eq, Bool.not_eq_true'] at due
    obtain ⟨⟨⟨⟨live, next⟩, -⟩, object⟩, own⟩ := due
    have run : exec .untimedCommandEffect s = .next (s.settle (e.makeJob w.order)) := by
      show execUntimedCommandEffect s = _
      rw [execUntimedCommandEffect, State.run_eq s _ (State.powered_of_live live)]
      simp [next, Dev.effect, own, Dev.effectOf, Dev.applyCmd, object, low, applied, ends]
    exact ⟨_, run, rfl, rfl⟩
  · exact ⟨_, State.exec_highEffect due low applied ends, Dev.finish_pwr .., rfl⟩

theorem domains_are_switched (s : State) (w : Waiting) (first n : Nat) (due : s.effectDue 0x0E01 w = true)
    (index : first = w.cmd.index) (count : n = min (clamp 1 324 (w.cmd.field 2 2)) (324 - first)) :
    ∃ t, exec .untimedCommandEffect s = .next t ∧ t.mem = s.mem ∧
      (∀ j, ¬(first ≤ j ∧ j < first + n) → t.dev.domain j = s.dev.domain j) ∧
      (checkPwrDomainSet s.dev w.cmd ≠ none → t.dev.pwr = s.dev.pwr) ∧
      (w.cmd.field 0 1 ≥ 2 → t.dev.pwr = s.dev.pwr) ∧
      (checkPwrDomainSet s.dev w.cmd = none → ∀ j, first ≤ j → j < first + n →
        (w.cmd.field 0 1 = 0 →
          (t.dev.domain j).state = (if s.dev.domRises j then .falling else (s.dev.domain j).state) ∧
          (t.dev.domain j).waitsRising = false) ∧
        (w.cmd.field 0 1 = 1 → t.dev.domRises j = true ∨ (t.dev.domain j).waitsRising = true)) := by
  subst index
  have opcode := State.opcode_of_effectDue due
  obtain ⟨t, run, pwr, mem⟩ := State.shows_power (a := applyPwrDomainSet s.dev w.cmd w.order) due
    (by simp [applyLow, opcode]) (by simp [applyHigh, opcode])
  have covers (j : Nat) : j ∈ coveredDomains w.cmd ↔ w.cmd.index ≤ j ∧ j < w.cmd.index + n := by
    rw [mem_coveredDomains, count, domCount]
  have same (j : Nat) : t.dev.domain j = (applyPwrDomainSet s.dev w.cmd w.order).1.domain j := by
    rw [Dev.domain, pwr, Dev.domain]
  have idle (h : (applyPwrDomainSet s.dev w.cmd w.order).1 = s.dev) : t.dev.pwr = s.dev.pwr := by rw [pwr, h]
  refine ⟨t, run, mem, fun j outside => ?_, fun refused => idle (applyPwrDomainSet_refused _ refused),
    fun reserved => idle (applyPwrDomainSet_none _ reserved), fun permitted j low high => ⟨fun off => ?_, fun on => ?_⟩⟩
  · have other := (covers j).not.mpr outside
    rw [same]
    by_cases permitted : checkPwrDomainSet s.dev w.cmd = none
    · by_cases off : w.cmd.field 0 1 = 0
      · rw [applyPwrDomainSet_off _ permitted off, Dev.switchOff_all_other _ _ other]
      · by_cases on : w.cmd.field 0 1 = 1
        · rw [applyPwrDomainSet_on _ permitted on, Dev.switchOn_all_other _ _ other]
        · rw [applyPwrDomainSet_none _ (by omega)]
    · rw [applyPwrDomainSet_refused _ permitted]
  · rw [same, applyPwrDomainSet_off _ permitted off]
    exact Dev.switchOff_all_domain _ _ ((covers j).mpr ⟨low, high⟩)
  · rw [Dev.domRises, same, applyPwrDomainSet_on _ permitted on]
    exact Dev.switchOn_all_domain _ _ ((covers j).mpr ⟨low, high⟩)

end Sys2Proof.Machine

namespace Sys2Proof.Machine

open Sys2Proof

/-! ### The start of a Dormant entry (R433, R438) -/

/-- The power state with a Dormant entry to come. -/
def Power.armDormant (p : Power) (target trigger : Nat) (force : Bool) (order : Option Nat) : Power :=
  { p with dormant := some (target, trigger, order), dormantForce := force }

/-- The entry is armed; an ACTIVE device with a STANDBY twin hands everything over first. -/
theorem Dev.startDormant_eq (d : Dev) (trigger : Nat) (force : Bool) (order : Option Nat) : ∃ p,
    d.startDormant trigger force order = (d.setPwr (d.pwr.armDormant (d.mfn + 2) trigger force order)).setPair p ∧
    (d.pair.role = .active → d.twinRole = some .standby → p.handover.isSome = true) ∧
    (¬(d.pair.role = .active ∧ d.twinRole = some .standby) → p = d.pair) := by
  by_cases both : d.pair.role = .active ∧ d.twinRole = some .standby
  · have hands : (d.pair.role == .active && d.twinRole == some .standby) = true := by simp [both]
    exact ⟨_, if_pos hands, fun _ _ => rfl, fun other => absurd both other⟩
  · have stays : ¬(d.pair.role == .active && d.twinRole == some .standby) = true := by simpa using both
    exact ⟨d.pair, if_neg stays, fun active standby => absurd ⟨active, standby⟩ both, fun _ => rfl⟩

theorem Dev.startDormant_keeps (d : Dev) (trigger : Nat) (force : Bool) (order : Option Nat) :
    (d.startDormant trigger force order).pwr = d.pwr.armDormant (d.mfn + 2) trigger force order ∧
    (d.startDormant trigger force order).host = d.host ∧ (d.startDormant trigger force order).log = d.log ∧
    (d.pair.role = .active → d.twinRole = some .standby →
      (d.startDormant trigger force order).pair.handover.isSome = true) ∧
    (¬(d.pair.role = .active ∧ d.twinRole = some .standby) → (d.startDormant trigger force order).pair = d.pair) := by
  obtain ⟨p, starts, hands, stays⟩ := d.startDormant_eq trigger force order
  rw [starts]
  exact ⟨rfl, rfl, rfl, hands, stays⟩

theorem dormant_is_accepted (s : State) (core : Nat) (c : Cmd) (done : s.handedOver = true)
    (offered : s.dev.offers core 0x0E03 c = true) :
    (s.dev.fwBusy = false → s.dev.pwr.dormant = none → ∃ t, exec (.pwrDormant core) s = .next t ∧
      t.dev.pwr.dormant = some (s.dev.mfn + 2, 0, some s.dev.host.nextOrder) ∧
      t.dev.pwr.dormantForce = bit (c.field 0 1) 0 ∧ t.dev.host.queue = s.dev.host.queue.erase c ∧
      (s.dev.pair.role = .active → s.dev.twinRole = some .standby → t.dev.pair.handover.isSome = true) ∧
      (¬(s.dev.pair.role = .active ∧ s.dev.twinRole = some .standby) → t.dev.pair = s.dev.pair) ∧
      s.raisesNone t ∧ t.mem = s.mem ∧ t.bar1 = s.bar1) ∧
    ((s.dev.fwBusy = true ∨ s.dev.pwr.dormant.isSome = true) → ∃ t, exec (.pwrDormant core) s = .next t ∧
      t.dev.pwr = s.dev.pwr ∧ s.answers t c stBusy []) := by
  refine ⟨fun idle awake => ?_, fun busy => ?_⟩
  · have passes : checkPwrDormant (s.dev.unqueue c) c = none := by
      have calm : (s.dev.fwBusy || s.dev.pwr.dormant.isSome) = false := by simp [idle, awake]
      exact (congrArg (refuseIf · stBusy) calm).trans rfl
    have run := State.exec_accepted (i := .pwrDormant core) rfl offered passes
    have job : ((s.dev.unqueue c).acceptJob c none false).log = s.dev.log ∧
        ((s.dev.unqueue c).acceptJob c none false).pwr = s.dev.pwr ∧
        ((s.dev.unqueue c).acceptJob c none false).mfn = s.dev.mfn ∧
        ((s.dev.unqueue c).acceptJob c none false).pair = s.dev.pair ∧
        ((s.dev.unqueue c).acceptJob c none false).twinRole = s.dev.twinRole ∧
        ((s.dev.unqueue c).acceptJob c none false).host.out = s.dev.host.out ∧
        ((s.dev.unqueue c).acceptJob c none false).host.queue = s.dev.host.queue.erase c :=
      ⟨rfl, rfl, rfl, rfl, rfl, rfl, rfl⟩
    have started : exec (.pwrDormant core) s = .next (s.settle (((s.dev.unqueue c).acceptJob c none false).startDormant 0
        (bit (c.field 0 1) 0) (some s.dev.host.nextOrder))) := run
    generalize (s.dev.unqueue c).acceptJob c none false = d at started job
    obtain ⟨log, pwr, mfn, pair, twin, out, queue⟩ := job
    obtain ⟨pwr', host', log', hands, stays⟩ :=
      d.startDormant_keeps 0 (bit (c.field 0 1) 0) (some s.dev.host.nextOrder)
    rw [pwr, mfn] at pwr'
    rw [pair, twin] at hands stays
    generalize d.startDormant 0 (bit (c.field 0 1) 0) (some s.dev.host.nextOrder) = e at started pwr' host' log' hands stays
    rw [State.settle_quiet (log'.trans log) (by rw [host', out]; exact List.isEmpty_iff.mp done)] at started
    have dormant := congrArg Power.dormant pwr'
    have forced := congrArg Power.dormantForce pwr'
    have left := (congrArg HostIf.queue host').trans queue
    have silent := congrArg Tephra.arising (log'.trans log)
    exact ⟨_, started, dormant, forced, left, hands, stays, silent, rfl, rfl⟩
  · have refused : checkPwrDormant (s.dev.unqueue c) c = some (stBusy, []) :=
      refuseIf_true (b := s.dev.fwBusy || s.dev.pwr.dormant.isSome) (by simpa using busy) stBusy
    obtain ⟨t, run, answers, rest⟩ := State.shows_rejection (i := .pwrDormant core) rfl done offered refused
    exact ⟨t, run, by rw [rest], answers⟩

theorem dorm_req_starts_entry (s : State) (live : s.live = true) :
    exec (.dormReq true) s = .next s ∧
    (s.dev.pwr.mode = .running → s.dev.pwr.dormant = none → s.dev.fwBusy = false → ∃ t,
      exec (.dormReq false) s = .next t ∧ t.dev.pwr.dormant = some (s.dev.mfn + 2, 1, none) ∧
      t.dev.pwr.dormantForce = true ∧ s.raisesNone t ∧
      t = { s with dev := { s.dev with pwr := t.dev.pwr, pair := t.dev.pair } }) := by
  refine ⟨?_, fun mode awake idle => ?_⟩
  · show execDormReq true s = _
    rw [execDormReq]
    exact State.runIf_not_of_live live rfl
  · obtain ⟨pwr, host, log, -, -⟩ := s.dev.startDormant_keeps 1 true none
    have run : exec (.dormReq false) s = .next { s with dev := s.dev.startDormant 1 true none } := by
      show execDormReq false s = _
      rw [execDormReq]
      exact State.runIf_quiet live (by simp [mode, awake, idle]) log (congrArg HostIf.out host)
    obtain ⟨p, starts, -, -⟩ := s.dev.startDormant_eq 1 true none
    rw [starts] at run
    exact ⟨_, run, rfl, rfl, rfl, rfl⟩

end Sys2Proof.Machine

namespace Sys2Proof.Machine

open Sys2Proof

/-! ### Commits that drain Sinter's queue (R433, step 3)

`Dev.SparesQueue d e`: from `d` to `e` the writes that wait for their commit stand as they did, in the same Beat, and so do the
pair's outputs. One commit is one of these, but for the write that it takes from the queue. -/

structure Dev.SparesQueue (d e : Dev) : Prop where
  fc : e.fc = d.fc
  queue : e.sinter.queue = d.sinter.queue
  held : e.sinter.held = d.sinter.held
  selLp : e.pair.selLp = d.pair.selLp
  aliveOut : e.pair.aliveOut = d.pair.aliveOut

namespace Dev.SparesQueue

theorem refl (d : Dev) : d.SparesQueue d := ⟨rfl, rfl, rfl, rfl, rfl⟩

theorem trans {d e f : Dev} (h : d.SparesQueue e) (g : e.SparesQueue f) : d.SparesQueue f :=
  ⟨g.fc.trans h.fc, g.queue.trans h.queue, g.held.trans h.held, g.selLp.trans h.selLp, g.aliveOut.trans h.aliveOut⟩

theorem raise (d : Dev) (code obj : Nat) (l : List Byte) : d.SparesQueue (d.raise code obj l) := ⟨rfl, rfl, rfl, rfl, rfl⟩

theorem tick (d : Dev) (c k : Nat) : d.SparesQueue (d.tick c k) := by
  constructor <;> simp

theorem setSinter (d : Dev) {x : Sinter} (queue : x.queue = d.sinter.queue) (held : x.held = d.sinter.held) :
    d.SparesQueue (d.setSinter x) := ⟨rfl, queue, held, rfl, rfl⟩

end Dev.SparesQueue

theorem Dev.remapWord_sparesQueue (d : Dev) (w k : Nat) : d.SparesQueue (d.remapWord w k) := by
  refine Dev.SparesQueue.trans ?_ (.raise ..)
  exact .setSinter d rfl rfl

theorem Dev.burn_sparesQueue (d : Dev) (w k v : Nat) : d.SparesQueue (d.burn w k v) := by
  have counted (x : Sinter) (queue : x.queue = d.sinter.queue) (held : x.held = d.sinter.held) :
      d.SparesQueue ((d.setSinter x).tick 0x5382 1) := (Dev.SparesQueue.setSinter d queue held).trans (.tick ..)
  unfold Dev.burn
  dsimp only
  split
  · refine Dev.SparesQueue.trans ?_ (.raise ..)
    exact counted _ rfl rfl
  · exact counted _ rfl rfl

/-- A commit that is verified leaves the queue alone. -/
theorem Dev.commit_sparesQueue (d : Dev) (w width value : Nat) : d.SparesQueue (d.commit w width value true).1 := by
  have remaps (b : Bool) : d.SparesQueue (if b then d.remapWord w (d.sinter.cellOf w) else d) := by
    cases b with
    | false => exact .refl d
    | true => exact d.remapWord_sparesQueue ..
  have notes (e : Dev) (b : Bool) : e.SparesQueue (if b then e.noSpare w 0 else e) := by
    cases b with
    | false => exact .refl e
    | true => exact .raise ..
  unfold Dev.commit
  dsimp only
  split
  · exact .raise ..
  · exact ((remaps _).trans (notes _ _)).trans (Dev.burn_sparesQueue ..)

theorem Dev.twinCopy_sparesQueue (d : Dev) (w : Nat) : d.SparesQueue (d.twinCopy w) := by
  unfold Dev.twinCopy
  split <;> exact ⟨rfl, rfl, rfl, rfl, rfl⟩

theorem Dev.finishOrder_sparesQueue (d : Dev) (order st : Nat) (pl : List Byte) :
    d.SparesQueue (d.finishOrder order st pl) := by
  have pair : (d.finishOrder order st pl).pair = d.pair := by
    unfold Dev.finishOrder
    split <;> simp
  exact ⟨Dev.finishOrder_fc .., by rw [Dev.finishOrder_sinter], by rw [Dev.finishOrder_sinter], by rw [pair], by rw [pair]⟩

/-- Sinter whose first write has left the queue: one held takes the room. -/
def Sinter.advance (x : Sinter) (rest : List Commit) : Sinter :=
  match x.held with
  | h :: more => { x with queue := rest ++ [h], held := more }
  | [] => { x with queue := rest }

theorem Sinter.advance_counts (x : Sinter) (rest : List Commit) :
    (x.advance rest).queue.length + (x.advance rest).held.length = rest.length + x.held.length ∧
    ((x.advance rest).queue = [] → (x.advance rest).held = []) := by
  unfold Sinter.advance
  split
  next held => simp [held]; omega
  next held => simp [held]

theorem Dev.commitNext_of_cons {d : Dev} {c : Commit} {rest : List Commit} (queue : d.sinter.queue = c :: rest) :
    (d.setSinter (d.sinter.advance rest)).SparesQueue (d.commitNext false true) := by
  have commits := (d.setSinter (d.sinter.advance rest)).commit_sparesQueue c.word c.width c.value
  have copies := commits.trans (Dev.twinCopy_sparesQueue _ c.word)
  unfold Dev.commitNext
  simp only [Bool.false_eq_true, if_false, queue]
  split
  · exact copies.trans (Dev.finishOrder_sparesQueue ..)
  · exact copies

/-- What waits for its commit drains, one write at a time. -/
theorem Dev.drainSinter_drains (n : Nat) (d : Dev) (count : d.sinter.queue.length + d.sinter.held.length = n)
    (order : d.sinter.queue = [] → d.sinter.held = []) :
    (Dev.drainSinter n d).sinter.queue = [] ∧ (Dev.drainSinter n d).sinter.held = [] ∧
    (Dev.drainSinter n d).fc = d.fc ∧ (Dev.drainSinter n d).pair.selLp = d.pair.selLp ∧
    (Dev.drainSinter n d).pair.aliveOut = d.pair.aliveOut := by
  induction n generalizing d with
  | zero =>
    have queue : d.sinter.queue = [] := List.length_eq_zero_iff.mp (by omega)
    exact ⟨queue, order queue, rfl, rfl, rfl⟩
  | succ n ih =>
    cases queue : d.sinter.queue with
    | nil => simp [queue, order queue] at count
    | cons c rest =>
      have spares := Dev.commitNext_of_cons queue
      obtain ⟨fewer, ordered⟩ := d.sinter.advance_counts rest
      rw [queue, List.length_cons] at count
      have drained := ih (d.commitNext false true)
        (by rw [spares.queue, spares.held, Dev.setSinter_sinter, fewer]; omega)
        (by rw [spares.queue, spares.held]; exact ordered)
      rw [spares.fc, spares.selLp, spares.aliveOut] at drained
      exact drained

/-! ### The Dormant entry (R433, R434) -/

/-- The words of the last Beat and of the seconds are written. -/
def Dev.storeTime (d : Dev) : Dev := (d.sinterPut 67 d.fc).sinterPut 68 (d.pps.pmSeconds % 2 ^ 32)

/-- All that waits for its commit commits. -/
def Dev.commitAll (d : Dev) : Dev := d.drainSinter (d.sinter.queue.length + d.sinter.held.length)

/-- The entry is reported. -/
def Dev.noteEntry (d : Dev) (m trigger : Nat) : Dev := d.raise 0x0E03 0 (leBytes 8 (fcOf m) ++ leBytes 1 trigger)

/-- The PWR_DORMANT that started the entry is answered. -/
def Dev.endDormant (d : Dev) (m : Nat) (order : Option Nat) : Dev :=
  match order with | some o => d.finishOrder o stOk (leBytes 8 (fcOf m)) | none => d

/-- The alarms are withdrawn, and the down-sequence starts. -/
def Dev.sleep (d : Dev) : Dev :=
  { d with
    pwr := { d.pwr with dormant := none }
    host := { d.host with alarmFatal := false, alarmPair := false } }.startDown

theorem exec_dormantEntry {s : State} {m trigger : Nat} {order : Option Nat} (live : s.live = true)
    (armed : s.dev.pwr.dormant = some (m, trigger, order)) (due : fcOf m ≤ s.dev.fc) : exec .dormantEntry s =
    .next (s.settle (((s.dev.dropOutputs.silence.storeTime.commitAll).noteEntry m trigger).endDormant m order).sleep) := by
  show execDormantEntry s = _
  rw [execDormantEntry, State.runIf_eq s _ _ (State.powered_of_live live) (by simp [armed, due]), armed]
  unfold Dev.sleep Dev.endDormant Dev.noteEntry Dev.commitAll Dev.storeTime
  cases order <;> dsimp only

/-- A write that is put where writes wait in order waits in the queue, or behind one there. -/
theorem Sinter.put_busy {x : Sinter} (order : x.queue = [] → x.held = []) (c : Commit) : (x.put c).queue ≠ [] := by
  unfold Sinter.put
  split
  · simp
  next full =>
    intro empty
    exact full (by simp [show x.queue = [] from empty, order empty])

theorem Dev.storeTime_keeps {d : Dev} (order : d.sinter.queue = [] → d.sinter.held = []) :
    d.storeTime.sinter.queue ≠ [] ∧ d.storeTime.fc = d.fc ∧ d.storeTime.pair = d.pair := by
  refine ⟨?_, rfl, rfl⟩
  refine Sinter.put_busy (x := d.sinter.put { word := 67, width := 0, value := d.fc }) (fun empty => ?_) _
  exact absurd empty (Sinter.put_busy order _)

theorem Dev.endDormant_keeps (d : Dev) (m : Nat) (order : Option Nat) : d.SparesQueue (d.endDormant m order) ∧
    ∀ x ∈ d.log.arising, x ∈ (d.endDormant m order).log.arising := by
  cases order with
  | none => exact ⟨.refl d, fun _ h => h⟩
  | some o => exact ⟨Dev.finishOrder_sparesQueue .., fun _ h => Dev.finishOrder_keeps_event h ..⟩

theorem device_enters_dormant (s : State) (m trigger : Nat) (order : Option Nat) (live : s.live = true)
    (armed : s.dev.pwr.dormant = some (m, trigger, order)) (due : fcOf m ≤ s.dev.fc)
    (waits : s.dev.sinter.queue = [] → s.dev.sinter.held = []) :
    ∃ t, exec .dormantEntry s = .next t ∧ t.dev.pwr.mode = .downSeq ∧ t.dev.pwr.order = 7 ∧ t.dev.pwr.dormant = none ∧
      t.dev.pair.selLp = 0 ∧ t.dev.pair.aliveOut = false ∧ t.dev.sinter.queue = [] ∧ t.dev.sinter.held = [] ∧
      t.dev.host.alarmFatal = false ∧ t.dev.host.alarmPair = false ∧
      s.dev.eventOf 0x0E03 0 (leBytes 8 (fcOf m) ++ leBytes 1 trigger) ∈ t.dev.log.arising ∧ t.mem = s.mem := by
  have run := exec_dormantEntry live armed due
  obtain ⟨busy, fc, pair⟩ := Dev.storeTime_keeps (d := s.dev.dropOutputs.silence) waits
  obtain ⟨queue, held, fc', selLp, aliveOut⟩ := Dev.drainSinter_drains _ s.dev.dropOutputs.silence.storeTime rfl
    fun empty => absurd empty busy
  have low : s.dev.dropOutputs.silence.pair.selLp = 0 := rfl
  have quiet : s.dev.dropOutputs.silence.pair.aliveOut = false := rfl
  have beat : s.dev.dropOutputs.silence.fc = s.dev.fc := rfl
  rw [pair, low] at selLp
  rw [pair, quiet] at aliveOut
  rw [fc, beat] at fc'
  rw [Dev.commitAll] at run
  generalize Dev.drainSinter _ s.dev.dropOutputs.silence.storeTime = d at run queue held fc' selLp aliveOut
  have noted : s.dev.eventOf 0x0E03 0 (leBytes 8 (fcOf m) ++ leBytes 1 trigger) ∈ (d.noteEntry m trigger).log.arising := by
    rw [Dev.noteEntry, Dev.raise_arising]
    refine List.mem_append_right _ (List.mem_singleton.mpr ?_)
    simp [Dev.eventOf, fc']
  have reported : d.SparesQueue (d.noteEntry m trigger) := .raise ..
  obtain ⟨answered, kept⟩ := (d.noteEntry m trigger).endDormant_keeps m order
  have ends := reported.trans answered
  have noted' := kept _ noted
  generalize (d.noteEntry m trigger).endDormant m order = e at run ends noted'
  have event : s.dev.eventOf 0x0E03 0 (leBytes 8 (fcOf m) ++ leBytes 1 trigger) ∈ e.sleep.log.arising := noted'
  exact ⟨_, run, rfl, rfl, rfl, ends.selLp.trans selLp, ends.aliveOut.trans aliveOut, ends.queue.trans queue,
    ends.held.trans held, rfl, rfl, (s.mem_settle_arising ..).mpr event, rfl⟩

/-- Settles O55: each way of the rails, the resets, the reference clocks, the domains and Dormant by its own lemma. -/
theorem railsResetsDomainsAndDormant : Obligations.rails_resets_domains_and_dormant := by
  unfold Obligations.rails_resets_domains_and_dormant
  exact ⟨reset_clears_volatile, dormant_device_wakes, wake_waits_for_entry, vaon_starts_up_sequence,
    vaon_leaves_live_device, fun s k up order _ last => up_sequence_moves s k up order last, down_sequence_moves,
    rail_fault_drops_outputs, rail_fault_restarts, power_is_removed,
    fun s b live => ⟨reference_goes_bad s b live, reference_goes_good s b live,
      fun good => exec_refclkGood_idle (b := b) live good⟩,
    domain_enters_rising,
    fun s k live named => ⟨domain_becomes_ready s k live named, domain_becomes_off s k live named⟩,
    domains_are_switched, dormant_is_accepted, dorm_req_starts_entry, device_enters_dormant⟩

end Sys2Proof.Machine
